-- ==== Sys2Proof/Word.lean ====
section
/-! DEFINITION. Word.lean: the word types of the Daxoth and their plainest arithmetic. -/

namespace Sys2Proof

/-- A 64-bit general register, register access or fabric address (R161, R34). -/
abbrev Word := BitVec 64

/-- A 32-bit lane of a vector or tile register. -/
abbrev Lane := BitVec 32

/-- One byte of an addressed memory. -/
abbrev Byte := BitVec 8

/-- A logical cluster, 0 to 255 (R21). -/
abbrev Clu := Fin 256

/-- A port: Esyel ports 0 to 15, and 16 for the Agate port. -/
abbrev Port := Fin 17

/-- A partition, 0 to 15. -/
abbrev Part := Fin 16

end Sys2Proof
end

