-- ==== Sys2Proof/Operand.lean ====
section
/-! DEFINITION. Operand.lean: the operand types of the commands. -/

namespace Sys2Proof

/-- Who writes a register (R16, R97, R692, R694): the host physical function, the virtual function of a partition, a cluster, management
bus MB0 (false) or MB1 (true), or a fabric management packet (WRITE_REG). -/
inductive Src where
  | pf
  | vf (p : Part)
  | clu (c : Clu)
  | mb (bus : Bool)
  | mg
  deriving DecidableEq, Repr

/-- A link block's header and control symbols (R311, R313): TYPE, SEQ, ACK, ACK_V, NAK, UNITS, FIRST, the send time and echo of an ALIGN
block, and the control symbols as (KIND, ARG). -/
structure LinkBlk where
  ty : Nat
  seq : Nat
  ack : Nat
  ackV : Bool
  nak : Bool
  units : Nat
  first : Nat
  time : Nat
  echo : Nat
  cs : List (Nat × Nat)
  deriving DecidableEq, Repr

/-- A training frame as read (R319): whether its MARKER came inverted, PLANE, NLANE, STAGE, REQ, RSP, FOM_RPT, READY and SPARE_USE. -/
structure TrainFrame where
  inverted : Bool
  plane : BitVec 8
  nlane : BitVec 8
  stage : BitVec 8
  req : BitVec 16
  rsp : BitVec 16
  fom : BitVec 8
  ready : Bool
  spareUse : Bool
  deriving DecidableEq, Repr

/-- Who reaches a Slate slice (R250): a cluster, another device by a port for a partition, the host physical function, a virtual function, or
Mica or Jasper for a partition. -/
inductive Rq where
  | clu (c : Clu)
  | port (n : Port) (p : Part)
  | pf
  | vf (p : Part)
  | eng (p : Part)
  deriving DecidableEq, Repr

/-- The boundary-scan instructions of R99. -/
inductive TapIns where
  | bypass | idcode | sample | extest | clamp | highz | extestPulse | extestTrain
  deriving DecidableEq, Repr

/-- A fabric packet (R347): the four header words and the payload bytes. -/
structure Pkt where
  w0 : BitVec 64
  w1 : BitVec 64
  w2 : BitVec 64
  w3 : BitVec 64
  data : List Byte
  deriving DecidableEq, Repr

/-- Where a contribution comes from (R412, R413): a member's collective slot, or a packet on a tree port. -/
inductive ClxSrc where
  | slot (c : Clu) (n : Fin 8)
  | port (n : Port) (p : Pkt)
  deriving DecidableEq, Repr

/-- A mirror range of the lost module as the survivor adopts it (R455, R467): its local address there, its length, the offset of its copy (bank 0)
in the mirror region, and whether it is of kind EPOCH. -/
structure MirRange where
  base : Nat
  len : Nat
  moff : Nat
  epoch : Bool
  deriving DecidableEq, Repr

/-- One issue of an instruction (R164 to R168): the cluster, the guard PG and PN, whether the encoding is 64 bits long, and whether a field
that the instruction does not use is nonzero. -/
structure Iss where
  c : Clu
  pg : Fin 8
  pn : Bool
  long : Bool
  res : Bool
  deriving DecidableEq, Repr

/-- What another device answers to a read of the module (a FEED list, a Jasper model): the code, and the bytes with their poison marks. -/
structure FarRead where
  code : Nat
  data : List (Byte × Bool)
  deriving DecidableEq, Repr

/-- What comes to a FEED from outside (R529, R535): its list, if it lies on another device, and the capture stamp that each entry's access unit
carries as side data, if any. -/
structure MicaFeed where
  list : FarRead
  stamps : List (Option Nat)
  deriving DecidableEq, Repr

/-- What the decoding process of the standard gives for an access unit (R522, R531): a code (0 decoded; bitstream error; missing reference); coded
width and height, bit depth, whether it has no chroma; the samples of the planes, row-major; the colour description (MATRIX and RANGE codes of OPEN, 0
none); not for output; held for reordering, and the SEQs of held pictures that it releases; the SEQs of the pictures it refers to, and of those kept
for reference after it; the writes and reads of the reference store as (offset, bytes) and (offset, length). -/
structure MicaPic where
  code : Nat
  cw : Nat
  ch : Nat
  depth : Nat
  mono : Bool
  y : List Nat
  cb : List Nat
  cr : List Nat
  matrix : Nat
  range : Nat
  noout : Bool
  held : Bool
  bump : List Nat
  refers : List Nat
  keep : List Nat
  writes : List (Nat × List Byte)
  reads : List (Nat × Nat)
  deriving DecidableEq, Repr

end Sys2Proof
end

