-- ==== Sys2Proof/Syntax.lean ====
section
/-! DEFINITION. Syntax.lean: the commands the Daxoth takes, one constructor for each row of spec/opcode_table.json, the
instructions of the sequencers first. A row's operands are
what the event or the instruction carries; a row without operands is an event that the state alone describes. -/

namespace Sys2Proof

/-- The commands of the module: register writes, pin and rail events, management, host and fabric commands, the instructions that a
cluster's sequencer issues, and the steps of the module's own engines. Each constructor's rule is the one its row names. -/
inductive Instr where
  /-- ADD (R172). -/
  | aluAdd (x : Iss) (rd ra rb : Fin 64)
  /-- SUB (R172). -/
  | aluSub (x : Iss) (rd ra rb : Fin 64)
  /-- AND (R172). -/
  | aluAnd (x : Iss) (rd ra rb : Fin 64)
  /-- OR (R172). -/
  | aluOr (x : Iss) (rd ra rb : Fin 64)
  /-- XOR (R172). -/
  | aluXor (x : Iss) (rd ra rb : Fin 64)
  /-- ANDN (R172). -/
  | andn (x : Iss) (rd ra rb : Fin 64)
  /-- SHL (R172). -/
  | aluShl (x : Iss) (rd ra rb : Fin 64)
  /-- SHR (R172). -/
  | aluShr (x : Iss) (rd ra rb : Fin 64)
  /-- SAR (R172). -/
  | aluSar (x : Iss) (rd ra rb : Fin 64)
  /-- MIN (R172). -/
  | aluMin (x : Iss) (rd ra rb : Fin 64)
  /-- MAX (R172). -/
  | aluMax (x : Iss) (rd ra rb : Fin 64)
  /-- MINU (R172). -/
  | minu (x : Iss) (rd ra rb : Fin 64)
  /-- MAXU (R172). -/
  | maxu (x : Iss) (rd ra rb : Fin 64)
  /-- MUL (R172). -/
  | aluMul (x : Iss) (rd ra rb : Fin 64)
  /-- MULH (R172). -/
  | mulh (x : Iss) (rd ra rb : Fin 64)
  /-- MULHU (R172). -/
  | mulhu (x : Iss) (rd ra rb : Fin 64)
  /-- DIV (R172). -/
  | aluDiv (x : Iss) (rd ra rb : Fin 64)
  /-- DIVU (R172). -/
  | divu (x : Iss) (rd ra rb : Fin 64)
  /-- REM (R172). -/
  | aluRem (x : Iss) (rd ra rb : Fin 64)
  /-- REMU (R172). -/
  | remu (x : Iss) (rd ra rb : Fin 64)
  /-- CLZ (R172). -/
  | clz (x : Iss) (rd ra : Fin 64)
  /-- CTZ (R172). -/
  | ctz (x : Iss) (rd ra : Fin 64)
  /-- POPC (R172). -/
  | popc (x : Iss) (rd ra : Fin 64)
  /-- CMP_EQ (R172). -/
  | cmpEq (x : Iss) (rd : Fin 8) (ra rb : Fin 64)
  /-- CMP_NE (R172). -/
  | cmpNe (x : Iss) (rd : Fin 8) (ra rb : Fin 64)
  /-- CMP_LT (R172). -/
  | cmpLt (x : Iss) (rd : Fin 8) (ra rb : Fin 64)
  /-- CMP_LTU (R172). -/
  | cmpLtu (x : Iss) (rd : Fin 8) (ra rb : Fin 64)
  /-- CMP_GE (R172). -/
  | cmpGe (x : Iss) (rd : Fin 8) (ra rb : Fin 64)
  /-- CMP_GEU (R172). -/
  | cmpGeu (x : Iss) (rd : Fin 8) (ra rb : Fin 64)
  /-- P_AND (R172). -/
  | pAnd (x : Iss) (rd ra rb : Fin 8)
  /-- P_OR (R172). -/
  | pOr (x : Iss) (rd ra rb : Fin 8)
  /-- P_XOR (R172). -/
  | pXor (x : Iss) (rd ra rb : Fin 8)
  /-- P_ANDN (R172). -/
  | pAndn (x : Iss) (rd ra rb : Fin 8)
  /-- P_TOG (R172). -/
  | pTog (x : Iss) (rd : Fin 64) (ra : Fin 8)
  /-- P_FROMG (R172). -/
  | pFromg (x : Iss) (rd : Fin 8) (ra : Fin 64)
  /-- ADDI (R172). -/
  | addi (x : Iss) (rd ra : Fin 64) (imm : BitVec 24)
  /-- ANDI (R172). -/
  | andi (x : Iss) (rd ra : Fin 64) (imm : BitVec 24)
  /-- ORI (R172). -/
  | ori (x : Iss) (rd ra : Fin 64) (imm : BitVec 24)
  /-- XORI (R172). -/
  | xori (x : Iss) (rd ra : Fin 64) (imm : BitVec 24)
  /-- SHLI (R172). -/
  | shli (x : Iss) (rd ra : Fin 64) (sh : Fin 64)
  /-- SHRI (R172). -/
  | shri (x : Iss) (rd ra : Fin 64) (sh : Fin 64)
  /-- SARI (R172). -/
  | sari (x : Iss) (rd ra : Fin 64) (sh : Fin 64)
  /-- CMPI_EQ (R172). -/
  | cmpiEq (x : Iss) (rd : Fin 8) (ra : Fin 64) (imm : BitVec 24)
  /-- CMPI_LT (R172). -/
  | cmpiLt (x : Iss) (rd : Fin 8) (ra : Fin 64) (imm : BitVec 24)
  /-- CMPI_LTU (R172). -/
  | cmpiLtu (x : Iss) (rd : Fin 8) (ra : Fin 64) (imm : BitVec 24)
  /-- LI (R172). -/
  | aluLi (x : Iss) (rd : Fin 64) (imm : BitVec 24)
  /-- LIS (R172). -/
  | lis (x : Iss) (rd ra : Fin 64) (imm : BitVec 24)
  /-- SEL (R172). -/
  | aluSel (x : Iss) (rd ra rb : Fin 64) (p : Fin 8)
  /-- BR_JR (R173). -/
  | brJr (x : Iss) (ra : Fin 64)
  /-- BR_JALR (R173). -/
  | brJalr (x : Iss) (rd ra : Fin 64)
  /-- BR_BC (R173). -/
  | brBc (x : Iss) (p : Fin 8) (inv : Bool) (off : BitVec 14)
  /-- BR_J (R173). -/
  | brJ (x : Iss) (off : BitVec 24)
  /-- BR_JAL (R173). -/
  | brJal (x : Iss) (rd : Fin 64) (off : BitVec 24)
  /-- LD_B (R174). -/
  | ldB (x : Iss) (rd ra : Fin 64) (imm : BitVec 24)
  /-- LD_BU (R174). -/
  | ldBu (x : Iss) (rd ra : Fin 64) (imm : BitVec 24)
  /-- LD_H (R174). -/
  | ldH (x : Iss) (rd ra : Fin 64) (imm : BitVec 24)
  /-- LD_HU (R174). -/
  | ldHu (x : Iss) (rd ra : Fin 64) (imm : BitVec 24)
  /-- LD_W (R174). -/
  | ldW (x : Iss) (rd ra : Fin 64) (imm : BitVec 24)
  /-- LD_WU (R174). -/
  | ldWu (x : Iss) (rd ra : Fin 64) (imm : BitVec 24)
  /-- LD_D (R174). -/
  | ldD (x : Iss) (rd ra : Fin 64) (imm : BitVec 24)
  /-- ST_B (R174). -/
  | stB (x : Iss) (rd ra : Fin 64) (imm : BitVec 24)
  /-- ST_H (R174). -/
  | stH (x : Iss) (rd ra : Fin 64) (imm : BitVec 24)
  /-- ST_W (R174). -/
  | stW (x : Iss) (rd ra : Fin 64) (imm : BitVec 24)
  /-- ST_D (R174). -/
  | stD (x : Iss) (rd ra : Fin 64) (imm : BitVec 24)
  /-- LD_V (R174). -/
  | ldV (x : Iss) (rd : Fin 32) (ra : Fin 64) (imm : BitVec 24)
  /-- ST_V (R215). -/
  | stV (x : Iss) (rd : Fin 32) (ra : Fin 64) (imm : BitVec 24)
  /-- AMO_W (R175). -/
  | amoW (x : Iss) (rd ra rb : Fin 64) (op : BitVec 4)
  /-- AMO_D (R175). -/
  | amoD (x : Iss) (rd ra rb : Fin 64) (op : BitVec 4)
  /-- DMA_CP (R178). -/
  | dmaCp (x : Iss) (rd ra rb : Fin 64) (imm : BitVec 24)
  /-- DMA_CP2 (R178). -/
  | dmaCp2 (x : Iss) (ra : Fin 64) (imm : BitVec 24)
  /-- DMA_CPX (R189). -/
  | dmaCpx (x : Iss) (ra : Fin 64) (imm : BitVec 24)
  /-- DMA_WAIT (R179). -/
  | dmaWait (x : Iss) (n : Fin 64)
  /-- DMA_WAITALL (R200). -/
  | dmaWaitall (x : Iss)
  /-- DMA_STAT (R180). -/
  | dmaStat (x : Iss) (rd n : Fin 64)
  /-- SYN_SIGL (R181). -/
  | synSigl (x : Iss) (sem : Fin 64) (imm : BitVec 24)
  /-- SYN_SIG (R182). -/
  | synSig (x : Iss) (ra rb : Fin 64)
  /-- SYN_WAIT (R183). -/
  | synWait (x : Iss) (sem : Fin 64) (imm : BitVec 24)
  /-- SYN_TRY (R183). -/
  | synTry (x : Iss) (rd : Fin 8) (sem : Fin 64) (imm : BitVec 24)
  /-- SYN_TWAIT (R186). -/
  | synTwait (x : Iss) (ra : Fin 64)
  /-- SYN_DRAIN (R182). -/
  | synDrain (x : Iss)
  /-- SYN_POST (R185). -/
  | synPost (x : Iss) (ra : Fin 64)
  /-- SYN_RDSEM (R184). -/
  | synRdsem (x : Iss) (rd sem : Fin 64)
  /-- SYS_HALT (R187). -/
  | sysHalt (x : Iss)
  /-- SYS_FRET (R199). -/
  | sysFret (x : Iss)
  /-- SYS_CTLR (R163). -/
  | sysCtlr (x : Iss) (rd n : Fin 64)
  /-- SYS_CTLW (R163). -/
  | sysCtlw (x : Iss) (n ra : Fin 64)
  /-- SYS_NOP (R169). -/
  | sysNop (x : Iss)
  /-- VEC_ADD_I (R206). -/
  | vecAddI (x : Iss) (vd va vb : Fin 32)
  /-- VEC_SUB_I (R206). -/
  | vecSubI (x : Iss) (vd va vb : Fin 32)
  /-- VEC_MUL_I (R206). -/
  | vecMulI (x : Iss) (vd va vb : Fin 32)
  /-- VEC_MIN_I (R206). -/
  | vecMinI (x : Iss) (vd va vb : Fin 32)
  /-- VEC_MAX_I (R206). -/
  | vecMaxI (x : Iss) (vd va vb : Fin 32)
  /-- VEC_MIN_U (R206). -/
  | vecMinU (x : Iss) (vd va vb : Fin 32)
  /-- VEC_MAX_U (R206). -/
  | vecMaxU (x : Iss) (vd va vb : Fin 32)
  /-- VEC_AND (R217). -/
  | vecAnd (x : Iss) (vd va vb : Fin 32)
  /-- VEC_OR (R217). -/
  | vecOr (x : Iss) (vd va vb : Fin 32)
  /-- VEC_XOR (R217). -/
  | vecXor (x : Iss) (vd va vb : Fin 32)
  /-- VEC_SHL (R217). -/
  | vecShl (x : Iss) (vd va vb : Fin 32)
  /-- VEC_SHR (R217). -/
  | vecShr (x : Iss) (vd va vb : Fin 32)
  /-- VEC_SAR (R217). -/
  | vecSar (x : Iss) (vd va vb : Fin 32)
  /-- VEC_ADD_F (R206). -/
  | vecAddF (x : Iss) (vd va vb : Fin 32)
  /-- VEC_SUB_F (R206). -/
  | vecSubF (x : Iss) (vd va vb : Fin 32)
  /-- VEC_MUL_F (R206). -/
  | vecMulF (x : Iss) (vd va vb : Fin 32)
  /-- VEC_FMA_F (R213). -/
  | vecFmaF (x : Iss) (vd va vb : Fin 32)
  /-- VEC_MIN_F (R207). -/
  | vecMinF (x : Iss) (vd va vb : Fin 32)
  /-- VEC_MAX_F (R207). -/
  | vecMaxF (x : Iss) (vd va vb : Fin 32)
  /-- VEC_DIV_F (R206). -/
  | vecDivF (x : Iss) (vd va vb : Fin 32)
  /-- VEC_SQRT_F (R206). -/
  | vecSqrtF (x : Iss) (vd va : Fin 32)
  /-- VEC_RCP_F (R220). -/
  | vecRcpF (x : Iss) (vd va : Fin 32)
  /-- VEC_RSQ_F (R220). -/
  | vecRsqF (x : Iss) (vd va : Fin 32)
  /-- VEC_EXP2_F (R220). -/
  | vecExp2F (x : Iss) (vd va : Fin 32)
  /-- VEC_LOG2_F (R220). -/
  | vecLog2F (x : Iss) (vd va : Fin 32)
  /-- VEC_CMP (R217). -/
  | vecCmp (x : Iss) (vd va vb : Fin 32) (md : BitVec 6)
  /-- VEC_SEL (R217). -/
  | vecSel (x : Iss) (vd va vb : Fin 32) (md : BitVec 6)
  /-- VEC_BC (R217). -/
  | vecBc (x : Iss) (vd : Fin 32) (ra : Fin 64)
  /-- VEC_EXT (R221). -/
  | vecExt (x : Iss) (rd : Fin 64) (va : Fin 32) (imm : BitVec 24)
  /-- VEC_INS (R221). -/
  | vecIns (x : Iss) (vd : Fin 32) (ra : Fin 64) (imm : BitVec 24)
  /-- VEC_IDX (R217). -/
  | vecIdx (x : Iss) (vd : Fin 32)
  /-- VEC_PERM (R217). -/
  | vecPerm (x : Iss) (vd va vb : Fin 32)
  /-- VEC_CVT (R211). -/
  | vecCvt (x : Iss) (vd va : Fin 32) (imm : BitVec 24)
  /-- VEC_MXQ (R212). -/
  | vecMxq (x : Iss) (vd va : Fin 32) (rb : Fin 64) (imm : BitVec 24)
  /-- VEC_MXD (R212). -/
  | vecMxd (x : Iss) (vd va : Fin 32) (rb : Fin 64) (imm : BitVec 24)
  /-- VEC_RSUM_F (R219). -/
  | vecRsumF (x : Iss) (rd : Fin 64) (va : Fin 32)
  /-- VEC_RSUM_I (R219). -/
  | vecRsumI (x : Iss) (rd : Fin 64) (va : Fin 32)
  /-- VEC_RMAX_F (R219). -/
  | vecRmaxF (x : Iss) (rd : Fin 64) (va : Fin 32)
  /-- VEC_RMIN_F (R219). -/
  | vecRminF (x : Iss) (rd : Fin 64) (va : Fin 32)
  /-- VEC_MSK (R215). -/
  | vecMsk (x : Iss) (rd : Fin 64) (va : Fin 32)
  /-- VEC_GTH (R221). -/
  | vecGth (x : Iss) (vd va : Fin 32) (rb : Fin 64)
  /-- VEC_SCT (R221). -/
  | vecSct (x : Iss) (vd va : Fin 32) (rb : Fin 64)
  /-- VEC_FLG (R210). -/
  | vecFlg (x : Iss) (rd : Fin 64)
  /-- TMM_CFG (R224). -/
  | tmmCfg (x : Iss) (ra : Fin 64) (imm : BitVec 24)
  /-- TMM_MM (R223). -/
  | tmmMm (x : Iss) (ra rb : Fin 64) (imm : BitVec 24)
  /-- TMM_ST (R225). -/
  | tmmSt (x : Iss) (ra : Fin 64) (imm : BitVec 24)
  /-- TMM_LD (R225). -/
  | tmmLd (x : Iss) (ra : Fin 64) (imm : BitVec 24)
  /-- TMM_ZERO (R214). -/
  | tmmZero (x : Iss) (ta : Fin 8) (unit : Fin 4)
  /-- TMM_TOV (R225). -/
  | tmmTov (x : Iss) (vd : Fin 32) (imm : BitVec 24)
  /-- TMM_FRV (R225). -/
  | tmmFrv (x : Iss) (va : Fin 32) (imm : BitVec 24)
  /-- UNT_CPRO (R238). -/
  | untCpro (x : Iss) (rd ra rb : Fin 64) (imm : BitVec 24)
  /-- UNT_CP2RO (R238). -/
  | untCp2ro (x : Iss) (ra : Fin 64) (imm : BitVec 24)
  /-- UNT_RGN (R262). -/
  | untRgn (x : Iss) (ra rb : Fin 64) (imm : BitVec 24)
  /-- UNT_NCINV (R241). -/
  | untNcinv (x : Iss)
  /-- SYS_GRP_DEF (R398). -/
  | sysGrpDef (x : Iss) (ra rb : Fin 64) (imm : BitVec 24)
  /-- SYS_GRP_DEL (R400). -/
  | sysGrpDel (x : Iss) (imm : BitVec 24)
  /-- SYS_GRP_STAT (R400). -/
  | sysGrpStat (x : Iss) (rd : Fin 64) (imm : BitVec 24)
  /-- SYS_CWAIT (R405). -/
  | sysCwait (x : Iss) (n : Fin 64)
  /-- TMM_AR (R401). -/
  | tmmAr (x : Iss) (rd ra rb : Fin 64) (md : BitVec 6) (imm : BitVec 24)
  /-- TMM_RS (R401). -/
  | tmmRs (x : Iss) (rd ra rb : Fin 64) (md : BitVec 6) (imm : BitVec 24)
  /-- VEC_AR (R401). -/
  | vecAr (x : Iss) (rd ra rb : Fin 64) (md : BitVec 6) (imm : BitVec 24)
  /-- VEC_AG (R401). -/
  | vecAg (x : Iss) (rd ra rb : Fin 64) (md : BitVec 6) (imm : BitVec 24)
  /-- UNT_MCMD (R525). -/
  | untMcmd (x : Iss) (ra rb : Fin 64) (imm : BitVec 24) (f : MicaFeed)
  /-- UNT_JCMD (R564). -/
  | untJcmd (x : Iss) (ra rb : Fin 64) (imm : BitVec 24) (model : FarRead)
  /-- UNDEFINED_INSTRUCTION (R168). -/
  | undefinedInstruction (x : Iss)
  /-- FETCH_OUTSIDE_CODE_RANGE (R162). -/
  | fetchOutsideCodeRange (x : Iss)
  /-- REGISTER_WRITE (R694). -/
  | registerWrite (src : Src) (half : Bool) (a : BitVec 48) (v : BitVec 64)
  /-- CROSSING_TRANSFER (R26). -/
  | crossingTransfer (snd rcv : Fin 305) (whole room : Bool)
  /-- CROSSING_STALL (R29). -/
  | crossingStall (snd rcv : Fin 305)
  /-- CROSSING_ESCALATE (R639). -/
  | crossingEscalate (snd rcv : Fin 305)
  /-- COLD_RESET (R132). -/
  | coldReset
  /-- V3P3SB_LOSS (R117). -/
  | v3p3sbLoss
  /-- FLINT_BOOT (R102). -/
  | flintBoot
  /-- FLINT_BOOT_TIMEOUT (R118). -/
  | flintBootTimeout
  /-- V48_QUALIFIED (R46). -/
  | v48Qualified
  /-- RAIL_POWER_GOOD (R46). -/
  | railPowerGood (r : Fin 7)
  /-- RAIL_PG_TIMEOUT (R47). -/
  | railPgTimeout (r : Fin 7)
  /-- RAIL_SEQ_RETRY (R47). -/
  | railSeqRetry
  /-- V48_LOCKOUT (R48). -/
  | v48Lockout (above : Bool)
  /-- V48_RESTART (R48). -/
  | v48Restart
  /-- V48_SAMPLE (R65). -/
  | v48Sample (v : BitVec 16)
  /-- SAG_LEVEL_EXIT (R65). -/
  | sagLevelExit
  /-- CLOCK_TRIM (R50). -/
  | clockTrim (i : Fin 305) (cycles : BitVec 16)
  /-- ISLAND_SAG_DETECT (R61). -/
  | islandSagDetect (i : Fin 305) (mv : BitVec 12)
  /-- STRETCH_STEP_DOWN (R61). -/
  | stretchStepDown (i : Fin 305)
  /-- STRETCH_RECOVER (R62). -/
  | stretchRecover (i : Fin 305)
  /-- FREQ_TRANSITION_DONE (R53). -/
  | freqTransitionDone (i : Fin 305)
  /-- SENSOR_FAULT (R75). -/
  | sensorFault (i : Fin 305)
  /-- PERSISTENT_SAG (R76). -/
  | persistentSag (i : Fin 305)
  /-- PERSISTENT_SAG_LOWER (R76). -/
  | persistentSagLower (i : Fin 305)
  /-- PERSISTENT_SAG_CLEAR (R76). -/
  | persistentSagClear (r : Fin 7)
  /-- REFCLK_LOSS (R77). -/
  | refclkLoss
  /-- REFCLK_RETURN (R345). -/
  | refclkReturn
  /-- V12AUX_LOSS (R78). -/
  | v12auxLoss
  /-- V12AUX_RESTORE (R78). -/
  | v12auxRestore
  /-- TRACKING_RAIL_LOSS (R79). -/
  | trackingRailLoss (r : Fin 7)
  /-- RAIL_LOSS_DIES_FAILED (R79). -/
  | railLossDiesFailed (r : Fin 7)
  /-- ISL_PSTATE_WRITE (R55). -/
  | islPstateWrite (src : Src) (v : BitVec 64)
  /-- ISL_PWR_CAP_WRITE (R56). -/
  | islPwrCapWrite (src : Src) (v : BitVec 64)
  /-- ISL_FREQ_WRITE (R58). -/
  | islFreqWrite (i : Fin 305) (src : Src) (v : BitVec 64)
  /-- ISL_STR_CFG_WRITE (R59). -/
  | islStrCfgWrite (i : Fin 305) (src : Src) (v : BitVec 64)
  /-- V48_MIN_CLR (R67). -/
  | v48MinClr (src : Src)
  /-- DIE_HB_LOST (R81). -/
  | dieHbLost (d : Fin 5)
  /-- DIE_ERROR (R82). -/
  | dieError (d : Fin 5) (rec : List (BitVec 32))
  /-- DIE_OVERTEMP (R686). -/
  | dieOvertemp (d : Fin 5)
  /-- TWIN_HB_CLASSIFY (R83). -/
  | twinHbClassify (us : BitVec 16) (edge : Bool)
  /-- TWIN_SUSPECT (R84). -/
  | twinSuspect
  /-- TWIN_LOSS_CONFIRM (R84). -/
  | twinLossConfirm
  /-- HOST_SAMPLE (R86). -/
  | hostSample
  /-- FLT_HOST_HB_WRITE (R87). -/
  | fltHostHbWrite (src : Src) (w : BitVec 32)
  /-- HOST_WATCH_DISARM (R87). -/
  | hostWatchDisarm (src : Src)
  /-- PARTITION_QUIESCED (R91). -/
  | partitionQuiesced (p : Part)
  /-- QUIESCE_TIMEOUT (R91). -/
  | quiesceTimeout (p : Part)
  /-- FLT_ALONE_RELEASE (R92). -/
  | fltAloneRelease (src : Src)
  /-- FLT_ALERT_STAT_WRITE (R89). -/
  | fltAlertStatWrite (src : Src) (mask : BitVec 64)
  /-- FLT_ALERT_MASK_WRITE (R88). -/
  | fltAlertMaskWrite (src : Src) (mask : BitVec 64)
  /-- FLT_HB_CFG_WRITE (R110). -/
  | fltHbCfgWrite (src : Src) (v : BitVec 64)
  /-- FLT_EXPERT_EN_WRITE (R15). -/
  | fltExpertEnWrite (src : Src) (en : Bool)
  /-- FLT_LOG_ACK_WRITE (R109). -/
  | fltLogAckWrite (src : Src) (seq : BitVec 32)
  /-- FLT_SCAN_WRITE (R101). -/
  | fltScanWrite (src : Src) (en : Bool)
  /-- TAP_INSTRUCTION (R101). -/
  | tapInstruction (dev : Fin 6) (ins : TapIns)
  /-- MB_REQUEST (R95). -/
  | mbRequest (bus : Bool) (cmd len : BitVec 8) (sent : Nat) (pecOk : Bool)
  /-- GET_ID (R97). -/
  | getId (bus : Bool)
  /-- GET_STATUS (R97). -/
  | getStatus (bus : Bool)
  /-- MB_READ_REG (R97). -/
  | mbReadReg (bus : Bool) (a : BitVec 48)
  /-- MB_WRITE_REG (R97). -/
  | mbWriteReg (bus : Bool) (a : BitVec 48) (v : BitVec 64)
  /-- LOG_READ (R97). -/
  | logRead (bus : Bool) (seq : BitVec 32) (n : BitVec 8)
  /-- LOG_ACK (R109). -/
  | logAck (bus : Bool) (seq : BitVec 32)
  /-- PWR_CAP_SET (R56). -/
  | pwrCapSet (bus : Bool) (w : BitVec 16)
  /-- POWER_ON (R97). -/
  | powerOn (bus : Bool)
  /-- POWER_OFF (R97). -/
  | powerOff (bus : Bool)
  /-- MODULE_RESET (R132). -/
  | moduleReset (bus : Bool)
  /-- ALERT_CLEAR (R89). -/
  | alertClear (bus : Bool) (mask : BitVec 64)
  /-- FW_STAGE (R104). -/
  | fwStage (bus : Bool) (bank : BitVec 8) (off : BitVec 32) (data : List Byte)
  /-- FW_COMMIT (R104). -/
  | fwCommit (bus : Bool) (bank : BitVec 8) (ok : Bool) (ver : BitVec 32)
  /-- FW_SWAP (R105). -/
  | fwSwap (bus : Bool)
  /-- FW_SWAP_READY (R105). -/
  | fwSwapReady
  /-- FW_CONFIRM (R105). -/
  | fwConfirm (bus : Bool)
  /-- FW_ABORT (R104). -/
  | fwAbort (bus : Bool) (bank : BitVec 8)
  /-- FW_ROLLBACK (R106). -/
  | fwRollback
  /-- AQGEN_WATCHDOG (R116). -/
  | aqgenWatchdog
  /-- DIE_INIT_DONE (R118). -/
  | dieInitDone
  /-- DIE_INIT_TIMEOUT (R120). -/
  | dieInitTimeout (d : Fin 5)
  /-- MEM_INIT_DONE (R118). -/
  | memInitDone
  /-- MEM_INIT_TIMEOUT (R121). -/
  | memInitTimeout
  /-- HOST_READY_ENTRY (R118). -/
  | hostReadyEntry
  /-- LINK_UP_TIMEOUT (R118). -/
  | linkUpTimeout
  /-- FLT_START_WRITE (R144). -/
  | fltStartWrite (src : Src) (v : BitVec 64)
  /-- DEV_START_SOLO_WRITE (R118). -/
  | devStartSoloWrite (src : Src) (solo : Bool)
  /-- PPS_EDGE (R129). -/
  | ppsEdge
  /-- FT_SYNC_SEND (R130). -/
  | ftSyncSend
  /-- SYNC_REQ (R130). -/
  | syncReq (n : Port) (p : Pkt) (rank hops src : BitVec 16)
  /-- SYNC_RSP (R130). -/
  | syncRsp (n : Port) (p : Pkt) (rank hops src : BitVec 16) (t2 t3 : BitVec 64)
  /-- PPS_SOURCE_LOST (R131). -/
  | ppsSourceLost
  /-- ELECT_SOURCE_LOST (R131). -/
  | electSourceLost
  /-- HOLDOVER_EXPIRY (R131). -/
  | holdoverExpiry
  /-- FT_CFG_WRITE (R127). -/
  | ftCfgWrite (src : Src) (v : BitVec 64)
  /-- FT_NEXT_ARM (R129). -/
  | ftNextArm (src : Src)
  /-- MOD_RST_N_ASSERT (R134). -/
  | modRstNAssert
  /-- MODULE_RESET_ENTRY (R134). -/
  | moduleResetEntry
  /-- MODULE_RESET_END (R134). -/
  | moduleResetEnd
  /-- MOD_RST_HELD_LONG (R160). -/
  | modRstHeldLong
  /-- DEV_RST_MODULE (R141). -/
  | devRstModule (src : Src)
  /-- PART_GO (R135). -/
  | partGo (p : Part) (src : Src)
  /-- FLR_PF (R142). -/
  | flrPf
  /-- FLR_VF (R142). -/
  | flrVf (p : Part)
  /-- PARTITION_RESET_DONE (R135). -/
  | partitionResetDone (p : Part)
  /-- ORPHAN_CONTEXT_EXPIRY (R135). -/
  | orphanContextExpiry (i : Fin 131072)
  /-- ISLAND_RESET (R136). -/
  | islandReset (i : Fin 305) (src : Src)
  /-- ISLAND_RESET_DRAIN_END (R136). -/
  | islandResetDrainEnd (i : Fin 305)
  /-- ISLAND_RESET_RELEASE (R136). -/
  | islandResetRelease (i : Fin 305)
  /-- ISLAND_RESET_TIMEOUT (R631). -/
  | islandResetTimeout (i : Fin 305)
  /-- LINK_RESET (R138). -/
  | linkReset (n : Port) (src : Src)
  /-- AGATE_LINK_RESET (R138). -/
  | agateLinkReset (src : Src)
  /-- PERST_N_ASSERT (R132). -/
  | perstNAssert
  /-- PERST_N_RELEASE (R122). -/
  | perstNRelease
  /-- DMA_ISSUE_RESUME (R179). -/
  | dmaIssueResume (c : Clu)
  /-- DMA_BLOCK_SEND (R180). -/
  | dmaBlockSend (c : Clu) (n : Fin 64)
  /-- DMA_SLOT_COMPLETE (R179). -/
  | dmaSlotComplete (c : Clu) (n : Fin 64)
  /-- DMA_WAIT_DONE (R200). -/
  | dmaWaitDone (c : Clu)
  /-- SIGNAL_ARRIVE (R181). -/
  | signalArrive (c : Clu) (sem : Fin 64)
  /-- SYN_WAIT_SATISFIED (R184). -/
  | synWaitSatisfied (c : Clu)
  /-- SYN_WAIT_TIMEOUT (R183). -/
  | synWaitTimeout (c : Clu)
  /-- SYN_TWAIT_EXPIRE (R186). -/
  | synTwaitExpire (c : Clu)
  /-- SYN_DRAIN_DONE (R182). -/
  | synDrainDone (c : Clu)
  /-- SYN_POST_RESUME (R185). -/
  | synPostResume (c : Clu)
  /-- SYS_HALT_COMPLETE (R187). -/
  | sysHaltComplete (c : Clu)
  /-- TNS_QUEUE_ROOM (R227). -/
  | tnsQueueRoom (c : Clu)
  /-- TENSOR_UNIT_START (R227). -/
  | tensorUnitStart (c : Clu) (u : Fin 4)
  /-- TENSOR_OP_COMPLETE (R223). -/
  | tensorOpComplete (c : Clu) (u : Fin 4)
  /-- NC_FILL (R238). -/
  | ncFill (c : Clu) (line : BitVec 64) (code : BitVec 16) (data : List Byte) (psn : BitVec 16)
  /-- SLATE_READ (R244). -/
  | slateRead (r : Rq) (ro na : Bool) (a : BitVec 64) (n : Fin 129)
  /-- SLATE_WRITE (R243). -/
  | slateWrite (r : Rq) (na : Bool) (a : BitVec 64) (data : List (Byte × Bool))
  /-- SLATE_ATOMIC (R253). -/
  | slateAtomic (r : Rq) (a : BitVec 64) (op : BitVec 4) (wide : Bool) (v cmp : BitVec 64)
  /-- SLATE_FILL (R247). -/
  | slateFill (sl : Fin 16) (line : BitVec 64) (code : BitVec 16) (data : List Byte) (psn : BitVec 16)
  /-- SLATE_FILL_ENTRY_FREE (R248). -/
  | slateFillEntryFree (sl : Fin 16)
  /-- REGION_OP_START (R260). -/
  | regionOpStart (p : Part) (r : Fin 8)
  /-- REGION_WB (R261). -/
  | regionWb (p : Part) (r : Fin 8)
  /-- REGION_FLUSH (R261). -/
  | regionFlush (p : Part) (r : Fin 8)
  /-- REGION_INV (R261). -/
  | regionInv (p : Part) (r : Fin 8)
  /-- REGION_PREFETCH (R261). -/
  | regionPrefetch (p : Part) (r : Fin 8)
  /-- REGION_ZERO (R261). -/
  | regionZero (p : Part) (r : Fin 8)
  /-- REGION_NCINV (R261). -/
  | regionNcinv (p : Part) (r : Fin 8)
  /-- REGION_RINV (R261). -/
  | regionRinv (p : Part) (r : Fin 8)
  /-- REGION_OP_DONE (R263). -/
  | regionOpDone (p : Part) (r : Fin 8)
  /-- SLT_ASSIGN_GO (R256). -/
  | sltAssignGo (src : Src) (v : BitVec 64)
  /-- SLT_ASSIGN_START (R259). -/
  | sltAssignStart (p : Part)
  /-- SLT_ASSIGN_DONE (R259). -/
  | sltAssignDone (p : Part)
  /-- SLT_SLICE_GO (R268). -/
  | sltSliceGo (sl : Fin 16) (src : Src) (v : BitVec 64)
  /-- HBM_READ (R288). -/
  | hbmRead (a : BitVec 48) (parity : Fin 6) (lane : BitVec 11) (sev : Fin 4)
  /-- HBM_WRITE (R289). -/
  | hbmWrite (a : BitVec 48) (data : List (Byte × Bool)) (parity : Fin 6) (lane : BitVec 11)
  /-- HBM_MODE_REQ (R285). -/
  | hbmModeReq (src : Src) (v : BitVec 64)
  /-- HBM_MODE_STACK_DONE (R284). -/
  | hbmModeStackDone
  /-- PATROL_READ (R292). -/
  | patrolRead (n : Fin 8) (parity : Fin 6) (lane : BitVec 11) (sev : Fin 4)
  /-- ROW_REPAIR_START (R294). -/
  | rowRepairStart (n : Fin 8)
  /-- ROW_REPAIR_DONE (R294). -/
  | rowRepairDone (n : Fin 8) (unc : BitVec 32)
  /-- REPAIR_RECORD_FLASHED (R294). -/
  | repairRecordFlashed
  /-- HBM_MIRROR_WRITE (R297). -/
  | hbmMirrorWrite (src : Src) (v : BitVec 64)
  /-- HBM_SCRUB_WRITE (R298). -/
  | hbmScrubWrite (src : Src) (v : BitVec 64)
  /-- HBM_RPR_REQ_GO (R298). -/
  | hbmRprReqGo (src : Src) (v : BitVec 64)
  /-- HBM_STACK_FAIL (R304). -/
  | hbmStackFail (n : Fin 8)
  /-- LINK_BLOCK_TX (R311). -/
  | linkBlockTx (n : Port)
  /-- LINK_BLOCK_RX (R316). -/
  | linkBlockRx (n : Port) (b : LinkBlk) (bad crc : Bool)
  /-- ALIGN_BLOCK (R318). -/
  | alignBlock (n : Port) (time echo : BitVec 32) (hasEcho : Bool) (proc skew : BitVec 12)
  /-- FC_STATE (R360). -/
  | fcState (n : Port) (arg : BitVec 9)
  /-- TRAINING_FRAME_RX (R319). -/
  | trainingFrameRx (n : Port) (lane : Fin 9) (f : TrainFrame)
  /-- BRINGUP_STAGE_DONE (R320). -/
  | bringupStageDone (n : Port)
  /-- BRINGUP_STAGE_TIMEOUT (R324). -/
  | bringupStageTimeout (n : Port) (cause : Fin 7)
  /-- BRINGUP_RESTART (R324). -/
  | bringupRestart (n : Port)
  /-- DOWN_HOLD_END (R324). -/
  | downHoldEnd (n : Port)
  /-- FOM_WINDOW_END (R325). -/
  | fomWindowEnd (n : Port) (lane : Fin 9) (errors : BitVec 28) (short : Bool)
  /-- SPARE_CHECK (R327). -/
  | spareCheck (n : Port)
  /-- SWAP_REQ (R328). -/
  | swapReq (n : Port) (k : Fin 8)
  /-- SWAP_RDY (R328). -/
  | swapRdy (n : Port) (k : Fin 8)
  /-- SWAP_DONE (R328). -/
  | swapDone (n : Port) (k : Fin 8)
  /-- SWAP_FAIL (R328). -/
  | swapFail (n : Port) (k : Fin 8)
  /-- DOZE_ENTER (R331). -/
  | dozeEnter (n : Port)
  /-- DOZE (R331). -/
  | linkDoze (n : Port)
  /-- DOZE_WAKE (R332). -/
  | dozeWake (n : Port)
  /-- REST_ENTER (R333). -/
  | restEnter (n : Port)
  /-- REST_REQ (R333). -/
  | restReq (n : Port)
  /-- REST_ACK (R333). -/
  | restAck (n : Port)
  /-- WAKE_BEACON (R333). -/
  | wakeBeacon (n : Port)
  /-- LOS_DECLARE (R310). -/
  | losDeclare (n : Port) (lane : Fin 9)
  /-- QREQ_QUIESCE (R334). -/
  | qreqQuiesce (n : Port) (src : Src)
  /-- QUIESCE (R334). -/
  | linkQuiesce (n : Port)
  /-- QUIESCE_ACK (R334). -/
  | quiesceAck (n : Port)
  /-- QUIESCE_DRAIN_END (R334). -/
  | quiesceDrainEnd (n : Port)
  /-- QREQ_RESUME (R335). -/
  | qreqResume (n : Port) (src : Src)
  /-- FORCE_SWAP (R336). -/
  | forceSwap (n : Port) (src : Src) (k : Fin 8)
  /-- PORT_TEST_MODE (R337). -/
  | portTestMode (n : Port) (src : Src) (test loop : Bool)
  /-- QTZ_PORT_PWR_WRITE (R336). -/
  | qtzPortPwrWrite (n : Port) (src : Src) (v : BitVec 64)
  /-- FOM_MIN_CLR (R325). -/
  | fomMinClr (n : Port) (lane : Fin 9) (src : Src)
  /-- PACKET_FORWARD (R368). -/
  | packetForward (n : Port) (p : Pkt)
  /-- BULK_ROUTE_RETRY (R370). -/
  | bulkRouteRetry
  /-- PACKET_TRANSMIT (R380). -/
  | packetTransmit (n : Port)
  /-- LOCAL_REPAIR_REROUTE (R374). -/
  | localRepairReroute (n : Port)
  /-- WR (R348). -/
  | pktWr (n : Port) (p : Pkt)
  /-- RD (R373). -/
  | pktRd (n : Port) (p : Pkt)
  /-- READ_AGENT_PUSH (R373). -/
  | readAgentPush
  /-- PUSH (R348). -/
  | pktPush (n : Port) (p : Pkt)
  /-- AMO (R348). -/
  | pktAmo (n : Port) (p : Pkt)
  /-- SIG (R348). -/
  | pktSig (n : Port) (p : Pkt)
  /-- RSP (R384). -/
  | pktRsp (n : Port) (p : Pkt)
  /-- CTX_TIMEOUT (R384). -/
  | ctxTimeout (i : Fin 131072)
  /-- QUOTA_CONTEXT_GRANTED (R383). -/
  | quotaContextGranted (part : Fin 18)
  /-- QUOTA_WAIT_TIMEOUT (R383). -/
  | quotaWaitTimeout (part : Fin 18)
  /-- BUSY_RESEND (R376). -/
  | busyResend (i : Fin 131072)
  /-- HELLO_SEND (R362). -/
  | helloSend (n : Port)
  /-- HELLO (R362). -/
  | linkHello (n : Port) (p : Pkt)
  /-- HELLO_TIMEOUT (R362). -/
  | helloTimeout (n : Port)
  /-- MG_REQ (R364). -/
  | mgReq (n : Port) (p : Pkt)
  /-- MG_PREQ (R363). -/
  | mgPreq (n : Port) (p : Pkt)
  /-- MG_RSP (R364). -/
  | mgRsp (n : Port) (p : Pkt)
  /-- MG_PRSP (R363). -/
  | mgPrsp (n : Port) (p : Pkt)
  /-- MG_EXECUTE (R364). -/
  | mgExecute
  /-- READ_REG (R364). -/
  | readReg
  /-- WRITE_REG (R364). -/
  | writeReg
  /-- GET_NBR (R364). -/
  | getNbr
  /-- SET_ID (R365). -/
  | setId
  /-- RT_WRITE (R364). -/
  | rtWrite
  /-- RT_COMMIT (R369). -/
  | rtCommit
  /-- SET_MOVED (R364). -/
  | setMoved
  /-- TRAP (R367). -/
  | mgTrap (n : Port) (p : Pkt)
  /-- ID_MOVED (R378). -/
  | idMoved (n : Port) (p : Pkt)
  /-- ID_RETURN (R378). -/
  | idReturn (n : Port) (p : Pkt)
  /-- QTZ_PART_CFG_WRITE (R382). -/
  | qtzPartCfgWrite (p : Part) (src : Src) (v : BitVec 64)
  /-- PART_SNAP (R385). -/
  | partSnap (p : Part) (src : Src)
  /-- GRP_ACTIVATION_MARK (R399). -/
  | grpActivationMark (n : Port) (p : Pkt)
  /-- GRP_MARK_RESEND (R399). -/
  | grpMarkResend (r : Fin 1024)
  /-- GRP_ACTIVATE_TIMEOUT (R399). -/
  | grpActivateTimeout (r : Fin 1024)
  /-- CLX_CONTRIB (R406). -/
  | clxContrib (o : ClxSrc)
  /-- CLX_RESULT (R414). -/
  | clxResult (n : Port) (p : Pkt)
  /-- CLX_ABORT (R415). -/
  | clxAbort (n : Port) (p : Pkt)
  /-- CLX_STEP_TIMEOUT (R422). -/
  | clxStepTimeout (r : Fin 1024)
  /-- CLX_SLOT_TIMEOUT (R422). -/
  | clxSlotTimeout (c : Clu) (slot : Fin 8)
  /-- TW_BEAT_SEND (R452). -/
  | twBeatSend
  /-- TW_BEAT (R452). -/
  | twBeat (p : Pkt)
  /-- TW_BIND_SEND (R447). -/
  | twBindSend
  /-- TW_BIND (R448). -/
  | twBind (p : Pkt)
  /-- BIND_TIMEOUT (R448). -/
  | bindTimeout
  /-- BIND (R448). -/
  | agtBind (src : Src)
  /-- UNBIND (R450). -/
  | agtUnbind (src : Src)
  /-- TW_UNBIND (R450). -/
  | twUnbind (p : Pkt)
  /-- RELEASE_PEER (R479). -/
  | releasePeer (src : Src)
  /-- TW_RELEASE (R92). -/
  | twRelease (p : Pkt)
  /-- AGT_MR_WRITE (R453). -/
  | agtMrWrite (r : Fin 64) (reg : Fin 3) (src : Src) (v : BitVec 64)
  /-- AGT_EPOCH_GO (R457). -/
  | agtEpochGo (part : Part) (src : Src) (full : Bool)
  /-- EPOCH (R457). -/
  | hostEpoch (id : Nat)
  /-- EPOCH_START (R458). -/
  | epochStart (part : Part)
  /-- TW_EPOCH (R458). -/
  | twEpoch (p : Pkt)
  /-- MIR_WR (R458). -/
  | mirWr (p : Pkt)
  /-- TABLE_IMAGE_WRITE (R456). -/
  | tableImageWrite
  /-- TAKEOVER_START (R463). -/
  | takeoverStart
  /-- TAKEOVER_PROBE (R464). -/
  | takeoverProbe
  /-- TAKEOVER_ASSUME (R465). -/
  | takeoverAssume (img0 img1 : Bool)
  /-- AGT_ADOPT (R467). -/
  | agtAdopt (src : Src) (part : Part) (rs : List MirRange)
  /-- TW_RESTORE (R471). -/
  | twRestore (p : Pkt)
  /-- RESILVER_PASS_END (R471). -/
  | resilverPassEnd
  /-- HANDBACK (R472). -/
  | agtHandback (src : Src)
  /-- HANDBACK_DRAIN_DONE (R472). -/
  | handbackDrainDone
  /-- TW_HANDBACK (R472). -/
  | twHandback (p : Pkt)
  /-- YIELD (R473). -/
  | agtYield (src : Src)
  /-- SQ_DOORBELL (R501). -/
  | sqDoorbell (src : Src) (r : Fin 256) (v : BitVec 32)
  /-- CQ_DOORBELL (R501). -/
  | cqDoorbell (src : Src) (r : Fin 256) (v : BitVec 32)
  /-- SQ_FETCH (R502). -/
  | sqFetch (e : List Byte) (err : Bool)
  /-- MSIX_TIMER (R504). -/
  | msixTimer (r : Fin 256)
  /-- HST_RING_CFG_WRITE (R500). -/
  | hstRingCfgWrite (r : Fin 256) (src : Src) (v : BitVec 64)
  /-- HST_PART_CTL_WRITE (R13). -/
  | hstPartCtlWrite (p : Part) (src : Src) (v : BitVec 64)
  /-- APERTURE_READ (R488). -/
  | apertureRead (src : Src) (off n : Nat)
  /-- APERTURE_WRITE (R488). -/
  | apertureWrite (src : Src) (off : Nat) (d : List (Byte × Bool))
  /-- HOST_LINK_DOWN (R510). -/
  | hostLinkDown
  /-- HOST_LINK_UP (R511). -/
  | hostLinkUp (rate : Fin 4) (width : Fin 32) (flit : Bool)
  /-- NOP (R502). -/
  | hostNop (id : Nat)
  /-- LAUNCH (R505). -/
  | hostLaunch (id : Nat) (mask : BitVec 256)
  /-- LAUNCH_CLUSTER_START (R506). -/
  | launchClusterStart (c : Clu) (img : List (Byte × Bool))
  /-- COPY (R508). -/
  | hostCopy (id : Nat) (d : List (Byte × Bool))
  /-- COPY_DONE (R508). -/
  | copyDone (id : Nat)
  /-- PART_CREATE (R491). -/
  | partCreate (id : Nat) (d : List Byte)
  /-- PART_DESTROY (R493). -/
  | partDestroy (id : Nat)
  /-- GRANT (R496). -/
  | grant (id : Nat)
  /-- GRANT_FILL_DONE (R496). -/
  | grantFillDone (g : Fin 4096)
  /-- GRANT_MOD (R497). -/
  | grantMod (id : Nat)
  /-- REVOKE (R498). -/
  | revoke (id : Nat)
  /-- MG_SEND (R367). -/
  | mgSend (id : Nat) (p : Pkt)
  /-- MG_RECV (R367). -/
  | mgRecv (id : Nat)
  /-- OPEN (R527). -/
  | micaOpen (id : Nat) (d : List Byte)
  /-- CLOSE (R546). -/
  | micaClose (id : Nat) (d : List Byte)
  /-- FEED (R529). -/
  | micaFeed (id : Nat) (d : List Byte) (f : MicaFeed)
  /-- CREDIT (R534). -/
  | micaCredit (id : Nat) (d : List Byte)
  /-- CACHE_CFG (R539). -/
  | cacheCfg (id : Nat) (d : List Byte)
  /-- PIN (R543). -/
  | micaPin (id : Nat) (d : List Byte)
  /-- PIN_SCAN_DONE (R543). -/
  | pinScanDone (p : Part) (slot : Fin 8)
  /-- MICA_DECODE_START (R538). -/
  | micaDecodeStart (isRef : Bool)
  /-- MICA_DECODE_DONE (R531). -/
  | micaDecodeDone (st : Fin 1024) (pic : MicaPic)
  /-- MICA_LAG_BEGIN (R538). -/
  | micaLagBegin (st : Fin 1024)
  /-- MICA_SNAP (R544). -/
  | micaSnap (st : Fin 1024) (src : Src)
  /-- RUN (R566). -/
  | jasperRun (id : Nat) (d : List Byte) (model : FarRead)
  /-- JASPER_BATCH_START (R567). -/
  | jasperBatchStart
  /-- JASPER_BLOCK_DONE (R570). -/
  | jasperBlockDone (b : Fin 128)
  /-- JASPER_BATCH_DONE (R568). -/
  | jasperBatchDone
  /-- LOOP_TICK (R581). -/
  | loopTick (c : Fin 16) (fb chk : BitVec 32)
  /-- ADC_CONVERSION_DONE (R589). -/
  | adcConversionDone (k : Fin 8) (code : BitVec 12)
  /-- PULSE_PERIOD (R579). -/
  | pulsePeriod (k : Fin 2) (high per : BitVec 32)
  /-- PULSE_INPUT_LOST (R579). -/
  | pulseInputLost (k : Fin 2)
  /-- TACH_TIMEOUT (R579). -/
  | tachTimeout (k : Fin 6)
  /-- LP_CTL_WRITE (R587). -/
  | lpCtlWrite (c : Fin 16) (src : Src) (v : BitVec 64)
  /-- LP_SRC_WRITE (R587). -/
  | lpSrcWrite (c : Fin 16) (src : Src) (v : BitVec 64)
  /-- LP_PAR_WRITE (R594). -/
  | lpParWrite (c : Fin 16) (j : Fin 10) (src : Src) (v : BitVec 64)
  /-- LP_COEF_WRITE (R594). -/
  | lpCoefWrite (c : Fin 16) (j : Fin 13) (src : Src) (v : BitVec 64)
  /-- PL_FAULT_CLEAR (R592). -/
  | plFaultClear (c : Fin 16) (src : Src)
  /-- SM_GO (R605). -/
  | smGo (k : Fin 4)
  /-- STOP (R610). -/
  | smStop (k : Fin 4)
  /-- RESUME (R610). -/
  | smResume (k : Fin 4)
  /-- FLUSH (R611). -/
  | smFlush (k : Fin 4)
  /-- HOME (R612). -/
  | smHome (k : Fin 4)
  /-- CLEAR (R628). -/
  | smClear (k : Fin 4) (trips low : Bool)
  /-- SETPOS (R620). -/
  | smSetpos (k : Fin 4)
  /-- SM_CTL_WRITE (R603). -/
  | smCtlWrite (k : Fin 4) (src : Src) (v : BitVec 64)
  /-- PROFILE_UPDATE (R607). -/
  | profileUpdate (k : Fin 4)
  /-- HOLD_DELAY_EXPIRE (R602). -/
  | holdDelayExpire (k : Fin 4)
  /-- LOW_HEADROOM (R615). -/
  | lowHeadroom (k : Fin 4)
  /-- VDER_RECOVER (R615). -/
  | vderRecover (k : Fin 4)
  /-- FAULT_SHORT (R625). -/
  | faultShort (k : Fin 4) (leg : Fin 8)
  /-- FAULT_STALL (R626). -/
  | faultStall (k : Fin 4)
  /-- FAULT_SUPPLY (R627). -/
  | faultSupply
  /-- CLUSTER_FAIL (R642). -/
  | clusterFail (c : Clu)
  /-- SPARE_MAP_START (R643). -/
  | spareMapStart (ch : Fin 4)
  /-- SPARE_MAP_DONE (R643). -/
  | spareMapDone (ch : Fin 4) (bad : Bool)
  /-- SPARE_FLASH_DONE (R643). -/
  | spareFlashDone (ch : Fin 4)
  /-- SPARE_REQ_GO (R650). -/
  | spareReqGo (src : Src) (logical : Fin 256) (phys : Fin 128)
  /-- SRAM_ROW_REPAIR_START (R647). -/
  | sramRowRepairStart (isl : Fin 288) (bank : Fin 16) (row : BitVec 16) (unc : Bool)
  /-- SRAM_ROW_REPAIR_DONE (R647). -/
  | sramRowRepairDone (isl : Fin 288) (bank : Fin 16)
  /-- DIE_HEARTBEAT_TOGGLE (R81). -/
  | dieHeartbeatToggle (d : Fin 5)
  /-- BUILT_IN_TEST_FAULT (R631). -/
  | builtInTestFault (isl : Fin 305)
  /-- CLX_LOADING_WAIT_TIMEOUT (R402). -/
  | clxLoadingWaitTimeout (c : Clu)
  /-- REVOKE_DONE (R498). -/
  | revokeDone (g : Fin 4096)
  /-- MB_RESPONSE_READY (R96). -/
  | mbResponseReady (bus : Bool)
  deriving DecidableEq, Repr

end Sys2Proof
end

