-- ==== Sys2Proof/Decode.lean ====
section
/-! DEFINITION. Decode.lean: the opcode table of this block gives its commands no bits, so no word of the table spells a command. The instructions that a
cluster's sequencer issues have encodings all the same (R164 to R168): here is the decoder of an instruction's words, total, and the encoder beside it. -/

namespace Sys2Proof

/-- The command that a word spells by the table's bits: none, since the table gives no row any bits. -/
def decodeTableWord (_nbits _w : Nat) : Option Instr := none

/-- The defined form of an operation (R164, R165): R; I with a signed or an unsigned immediate; L-only; BR.BC, form I alone; UNT.MCMD and UNT.JCMD, L-only,
whose 32-bit encodings name an absent unit all the same (R168). -/
inductive Form where
  | r | i | u | l | b | m
  deriving DecidableEq, Repr

/-- The fields of an instruction: RD, RA, RB, MOD (M2 in form R), and the immediate as 24 bits (R164, R165, R167). -/
structure Fields where
  rd : Nat
  ra : Nat
  rb : Nat
  md : Nat
  imm : Nat
  deriving DecidableEq, Repr

/-- A row of a class table: the operation, its form, and the limit below which each field's values lie; 1 for a field that it does not use (R165, R167). -/
structure OpRow where
  op : Nat
  form : Form
  rd : Nat
  ra : Nat
  rb : Nat
  md : Nat
  imm : Nat
  deriving DecidableEq, Repr

/-- The operations of class 0x0, SCL. -/
def sclOps : List OpRow := [
  ⟨0x00, .r, 64, 64, 64, 1, 1⟩,
  ⟨0x01, .r, 64, 64, 64, 1, 1⟩,
  ⟨0x02, .r, 64, 64, 64, 1, 1⟩,
  ⟨0x03, .r, 64, 64, 64, 1, 1⟩,
  ⟨0x04, .r, 64, 64, 64, 1, 1⟩,
  ⟨0x05, .r, 64, 64, 64, 1, 1⟩,
  ⟨0x06, .r, 64, 64, 64, 1, 1⟩,
  ⟨0x07, .r, 64, 64, 64, 1, 1⟩,
  ⟨0x08, .r, 64, 64, 64, 1, 1⟩,
  ⟨0x09, .r, 64, 64, 64, 1, 1⟩,
  ⟨0x0A, .r, 64, 64, 64, 1, 1⟩,
  ⟨0x0B, .r, 64, 64, 64, 1, 1⟩,
  ⟨0x0C, .r, 64, 64, 64, 1, 1⟩,
  ⟨0x0D, .r, 64, 64, 64, 1, 1⟩,
  ⟨0x0E, .r, 64, 64, 64, 1, 1⟩,
  ⟨0x0F, .r, 64, 64, 64, 1, 1⟩,
  ⟨0x10, .r, 64, 64, 64, 1, 1⟩,
  ⟨0x11, .r, 64, 64, 64, 1, 1⟩,
  ⟨0x12, .r, 64, 64, 64, 1, 1⟩,
  ⟨0x13, .r, 64, 64, 64, 1, 1⟩,
  ⟨0x14, .r, 64, 64, 1, 1, 1⟩,
  ⟨0x15, .r, 64, 64, 1, 1, 1⟩,
  ⟨0x16, .r, 64, 64, 1, 1, 1⟩,
  ⟨0x18, .r, 8, 64, 64, 1, 1⟩] ++ [
  ⟨0x19, .r, 8, 64, 64, 1, 1⟩,
  ⟨0x1A, .r, 8, 64, 64, 1, 1⟩,
  ⟨0x1B, .r, 8, 64, 64, 1, 1⟩,
  ⟨0x1C, .r, 8, 64, 64, 1, 1⟩,
  ⟨0x1D, .r, 8, 64, 64, 1, 1⟩,
  ⟨0x20, .r, 8, 8, 8, 1, 1⟩,
  ⟨0x21, .r, 8, 8, 8, 1, 1⟩,
  ⟨0x22, .r, 8, 8, 8, 1, 1⟩,
  ⟨0x23, .r, 8, 8, 8, 1, 1⟩,
  ⟨0x24, .r, 64, 8, 1, 1, 1⟩,
  ⟨0x25, .r, 8, 64, 1, 1, 1⟩,
  ⟨0x28, .i, 64, 64, 1, 1, 16777216⟩,
  ⟨0x29, .i, 64, 64, 1, 1, 16777216⟩,
  ⟨0x2A, .i, 64, 64, 1, 1, 16777216⟩,
  ⟨0x2B, .i, 64, 64, 1, 1, 16777216⟩,
  ⟨0x2C, .i, 64, 64, 1, 1, 64⟩,
  ⟨0x2D, .i, 64, 64, 1, 1, 64⟩,
  ⟨0x2E, .i, 64, 64, 1, 1, 64⟩,
  ⟨0x2F, .i, 8, 64, 1, 1, 16777216⟩,
  ⟨0x30, .i, 8, 64, 1, 1, 16777216⟩,
  ⟨0x31, .i, 8, 64, 1, 1, 16777216⟩,
  ⟨0x38, .l, 64, 1, 1, 1, 16777216⟩,
  ⟨0x39, .l, 64, 64, 1, 1, 16777216⟩,
  ⟨0x3A, .l, 64, 64, 64, 8, 1⟩]

/-- The operations of class 0x1, BR. -/
def brOps : List OpRow := [
  ⟨0x00, .r, 1, 64, 1, 1, 1⟩,
  ⟨0x01, .r, 64, 64, 1, 1, 1⟩,
  ⟨0x08, .b, 16, 64, 1, 1, 16777216⟩,
  ⟨0x10, .l, 1, 1, 1, 1, 16777216⟩,
  ⟨0x11, .l, 64, 1, 1, 1, 16777216⟩]

/-- The operations of class 0x2, MEM. -/
def memOps : List OpRow := [
  ⟨0x00, .i, 64, 64, 1, 1, 16777216⟩,
  ⟨0x01, .i, 64, 64, 1, 1, 16777216⟩,
  ⟨0x02, .i, 64, 64, 1, 1, 16777216⟩,
  ⟨0x03, .i, 64, 64, 1, 1, 16777216⟩,
  ⟨0x04, .i, 64, 64, 1, 1, 16777216⟩,
  ⟨0x05, .i, 64, 64, 1, 1, 16777216⟩,
  ⟨0x06, .i, 64, 64, 1, 1, 16777216⟩,
  ⟨0x08, .i, 64, 64, 1, 1, 16777216⟩,
  ⟨0x09, .i, 64, 64, 1, 1, 16777216⟩,
  ⟨0x0A, .i, 64, 64, 1, 1, 16777216⟩,
  ⟨0x0B, .i, 64, 64, 1, 1, 16777216⟩,
  ⟨0x10, .i, 32, 64, 1, 1, 16777216⟩,
  ⟨0x11, .i, 32, 64, 1, 1, 16777216⟩,
  ⟨0x18, .l, 64, 64, 64, 16, 1⟩,
  ⟨0x19, .l, 64, 64, 64, 16, 1⟩]

/-- The operations of class 0x3, DMA. -/
def dmaOps : List OpRow := [
  ⟨0x00, .l, 64, 64, 64, 1, 16777216⟩,
  ⟨0x01, .l, 1, 64, 1, 1, 16777216⟩,
  ⟨0x02, .l, 1, 64, 1, 1, 16777216⟩,
  ⟨0x08, .r, 1, 64, 1, 1, 1⟩,
  ⟨0x09, .r, 1, 1, 1, 1, 1⟩,
  ⟨0x0A, .r, 64, 64, 1, 1, 1⟩]

/-- The operations of class 0x4, SYN. -/
def synOps : List OpRow := [
  ⟨0x00, .u, 64, 1, 1, 1, 16777216⟩,
  ⟨0x01, .r, 1, 64, 64, 1, 1⟩,
  ⟨0x02, .u, 64, 1, 1, 1, 16777216⟩,
  ⟨0x03, .u, 8, 64, 1, 1, 16777216⟩,
  ⟨0x04, .r, 1, 64, 1, 1, 1⟩,
  ⟨0x05, .r, 1, 1, 1, 1, 1⟩,
  ⟨0x06, .r, 1, 64, 1, 1, 1⟩,
  ⟨0x08, .r, 64, 64, 1, 1, 1⟩]

/-- The operations of class 0x5, VEC. -/
def vecOps : List OpRow := [
  ⟨0x00, .r, 32, 32, 32, 1, 1⟩,
  ⟨0x01, .r, 32, 32, 32, 1, 1⟩,
  ⟨0x02, .r, 32, 32, 32, 1, 1⟩,
  ⟨0x03, .r, 32, 32, 32, 1, 1⟩,
  ⟨0x04, .r, 32, 32, 32, 1, 1⟩,
  ⟨0x05, .r, 32, 32, 32, 1, 1⟩,
  ⟨0x06, .r, 32, 32, 32, 1, 1⟩,
  ⟨0x07, .r, 32, 32, 32, 1, 1⟩,
  ⟨0x08, .r, 32, 32, 32, 1, 1⟩,
  ⟨0x09, .r, 32, 32, 32, 1, 1⟩,
  ⟨0x0A, .r, 32, 32, 32, 1, 1⟩,
  ⟨0x0B, .r, 32, 32, 32, 1, 1⟩,
  ⟨0x0C, .r, 32, 32, 32, 1, 1⟩,
  ⟨0x10, .r, 32, 32, 32, 1, 1⟩,
  ⟨0x11, .r, 32, 32, 32, 1, 1⟩,
  ⟨0x12, .r, 32, 32, 32, 1, 1⟩,
  ⟨0x13, .r, 32, 32, 32, 1, 1⟩,
  ⟨0x14, .r, 32, 32, 32, 1, 1⟩,
  ⟨0x15, .r, 32, 32, 32, 1, 1⟩,
  ⟨0x16, .r, 32, 32, 32, 1, 1⟩,
  ⟨0x17, .r, 32, 32, 1, 1, 1⟩,
  ⟨0x18, .r, 32, 32, 1, 1, 1⟩,
  ⟨0x19, .r, 32, 32, 1, 1, 1⟩,
  ⟨0x1A, .r, 32, 32, 1, 1, 1⟩] ++ [
  ⟨0x1B, .r, 32, 32, 1, 1, 1⟩,
  ⟨0x20, .l, 32, 32, 32, 64, 1⟩,
  ⟨0x21, .l, 32, 32, 32, 64, 1⟩,
  ⟨0x22, .r, 32, 64, 1, 1, 1⟩,
  ⟨0x23, .u, 64, 32, 1, 1, 16777216⟩,
  ⟨0x24, .u, 32, 64, 1, 1, 16777216⟩,
  ⟨0x25, .r, 32, 1, 1, 1, 1⟩,
  ⟨0x26, .r, 32, 32, 32, 1, 1⟩,
  ⟨0x28, .l, 32, 32, 1, 1, 16777216⟩,
  ⟨0x29, .l, 32, 32, 64, 1, 16777216⟩,
  ⟨0x2A, .l, 32, 32, 64, 1, 16777216⟩,
  ⟨0x30, .r, 64, 32, 1, 1, 1⟩,
  ⟨0x31, .r, 64, 32, 1, 1, 1⟩,
  ⟨0x32, .r, 64, 32, 1, 1, 1⟩,
  ⟨0x33, .r, 64, 32, 1, 1, 1⟩,
  ⟨0x34, .r, 64, 32, 1, 1, 1⟩,
  ⟨0x38, .l, 32, 32, 64, 1, 1⟩,
  ⟨0x39, .l, 32, 32, 64, 1, 1⟩,
  ⟨0x3E, .r, 64, 1, 1, 1, 1⟩]

/-- The operations of class 0x6, TNS. -/
def tnsOps : List OpRow := [
  ⟨0x00, .l, 1, 64, 1, 1, 16777216⟩,
  ⟨0x01, .l, 1, 64, 64, 1, 16777216⟩,
  ⟨0x02, .l, 1, 64, 1, 1, 16777216⟩,
  ⟨0x03, .l, 1, 64, 1, 1, 16777216⟩,
  ⟨0x04, .r, 32, 1, 1, 1, 1⟩,
  ⟨0x05, .l, 32, 1, 1, 1, 16777216⟩,
  ⟨0x06, .l, 1, 32, 1, 1, 16777216⟩]

/-- The operations of class 0x7, CLX. -/
def clxOps : List OpRow := [
  ⟨0x00, .l, 64, 64, 64, 64, 16777216⟩,
  ⟨0x01, .l, 64, 64, 64, 64, 16777216⟩,
  ⟨0x02, .l, 64, 64, 64, 64, 16777216⟩,
  ⟨0x03, .l, 64, 64, 64, 64, 16777216⟩]

/-- The operations of class 0x8, UNT. -/
def untOps : List OpRow := [
  ⟨0x00, .l, 64, 64, 64, 1, 16777216⟩,
  ⟨0x01, .l, 1, 64, 1, 1, 16777216⟩,
  ⟨0x04, .l, 1, 64, 64, 1, 16777216⟩,
  ⟨0x05, .r, 1, 1, 1, 1, 1⟩,
  ⟨0x10, .m, 1, 64, 64, 1, 16777216⟩,
  ⟨0x18, .m, 1, 64, 64, 1, 16777216⟩]

/-- The operations of class 0x9, SYS. -/
def sysOps : List OpRow := [
  ⟨0x00, .r, 1, 1, 1, 1, 1⟩,
  ⟨0x01, .r, 1, 1, 1, 1, 1⟩,
  ⟨0x02, .r, 64, 64, 1, 1, 1⟩,
  ⟨0x03, .r, 64, 64, 1, 1, 1⟩,
  ⟨0x04, .r, 1, 1, 1, 1, 1⟩,
  ⟨0x10, .l, 1, 64, 64, 1, 16777216⟩,
  ⟨0x11, .l, 1, 1, 1, 1, 16777216⟩,
  ⟨0x12, .l, 64, 1, 1, 1, 16777216⟩,
  ⟨0x13, .r, 1, 64, 1, 1, 1⟩]

/-- The operations of a class (R168); classes 0xA to 0xF are reserved. -/
def classOps (cls : Nat) : List OpRow :=
  match cls with
  | 0 => sclOps
  | 1 => brOps
  | 2 => memOps
  | 3 => dmaOps
  | 4 => synOps
  | 5 => vecOps
  | 6 => tnsOps
  | 7 => clxOps
  | 8 => untOps
  | 9 => sysOps
  | _ => []

/-- The row of a class and operation. -/
def opRow (cls op : Nat) : Option OpRow := (classOps cls).find? (fun r => r.op = op)

/-- A nonzero bit in a field, or in a part of a field, that the instruction does not use (R165). -/
def OpRow.reserved (r : OpRow) (f : Fields) : Bool :=
  decide (r.rd ≤ f.rd) || decide (r.ra ≤ f.ra) || decide (r.rb ≤ f.rb) || decide (r.md ≤ f.md) || decide (r.imm ≤ f.imm)

/-- IMM8 sign-extended to 24 bits (R167). -/
def sext8 (v : Nat) : Nat := if v < 128 then v else v + 0xFFFF00

/-- The fields of a word by its length and, when it is short, by the form of its operation (R164, R165). -/
def fieldsOf (form : Form) (w : Nat) : Fields :=
  if w % 4 = 3 then ⟨w / 2 ^ 16 % 64, w / 2 ^ 22 % 64, w / 2 ^ 28 % 64, w / 2 ^ 34 % 64, w / 2 ^ 40 % 2 ^ 24⟩
  else match form with
    | .i | .b => ⟨w / 2 ^ 12 % 64, w / 2 ^ 18 % 64, 0, 0, sext8 (w / 2 ^ 24 % 256)⟩
    | .u => ⟨w / 2 ^ 12 % 64, w / 2 ^ 18 % 64, 0, 0, w / 2 ^ 24 % 256⟩
    | _ => ⟨w / 2 ^ 12 % 64, w / 2 ^ 18 % 64, w / 2 ^ 24 % 64, w / 2 ^ 30 % 4, 0⟩

/-- Whether an operation may be encoded with a length (R165). -/
def Form.allows (form : Form) (long : Bool) : Bool :=
  match form with
  | .l => long
  | .b => !long
  | _ => true

/-- The instruction of class SCL with an operation and its fields. -/
def sclInsn (op : Nat) (x : Iss) (f : Fields) : Instr :=
  match op with
  | 0x00 => .aluAdd x (.ofNat 64 f.rd) (.ofNat 64 f.ra) (.ofNat 64 f.rb)
  | 0x01 => .aluSub x (.ofNat 64 f.rd) (.ofNat 64 f.ra) (.ofNat 64 f.rb)
  | 0x02 => .aluAnd x (.ofNat 64 f.rd) (.ofNat 64 f.ra) (.ofNat 64 f.rb)
  | 0x03 => .aluOr x (.ofNat 64 f.rd) (.ofNat 64 f.ra) (.ofNat 64 f.rb)
  | 0x04 => .aluXor x (.ofNat 64 f.rd) (.ofNat 64 f.ra) (.ofNat 64 f.rb)
  | 0x05 => .andn x (.ofNat 64 f.rd) (.ofNat 64 f.ra) (.ofNat 64 f.rb)
  | 0x06 => .aluShl x (.ofNat 64 f.rd) (.ofNat 64 f.ra) (.ofNat 64 f.rb)
  | 0x07 => .aluShr x (.ofNat 64 f.rd) (.ofNat 64 f.ra) (.ofNat 64 f.rb)
  | 0x08 => .aluSar x (.ofNat 64 f.rd) (.ofNat 64 f.ra) (.ofNat 64 f.rb)
  | 0x09 => .aluMin x (.ofNat 64 f.rd) (.ofNat 64 f.ra) (.ofNat 64 f.rb)
  | 0x0A => .aluMax x (.ofNat 64 f.rd) (.ofNat 64 f.ra) (.ofNat 64 f.rb)
  | 0x0B => .minu x (.ofNat 64 f.rd) (.ofNat 64 f.ra) (.ofNat 64 f.rb)
  | 0x0C => .maxu x (.ofNat 64 f.rd) (.ofNat 64 f.ra) (.ofNat 64 f.rb)
  | 0x0D => .aluMul x (.ofNat 64 f.rd) (.ofNat 64 f.ra) (.ofNat 64 f.rb)
  | 0x0E => .mulh x (.ofNat 64 f.rd) (.ofNat 64 f.ra) (.ofNat 64 f.rb)
  | 0x0F => .mulhu x (.ofNat 64 f.rd) (.ofNat 64 f.ra) (.ofNat 64 f.rb)
  | 0x10 => .aluDiv x (.ofNat 64 f.rd) (.ofNat 64 f.ra) (.ofNat 64 f.rb)
  | 0x11 => .divu x (.ofNat 64 f.rd) (.ofNat 64 f.ra) (.ofNat 64 f.rb)
  | 0x12 => .aluRem x (.ofNat 64 f.rd) (.ofNat 64 f.ra) (.ofNat 64 f.rb)
  | 0x13 => .remu x (.ofNat 64 f.rd) (.ofNat 64 f.ra) (.ofNat 64 f.rb)
  | 0x14 => .clz x (.ofNat 64 f.rd) (.ofNat 64 f.ra)
  | 0x15 => .ctz x (.ofNat 64 f.rd) (.ofNat 64 f.ra)
  | 0x16 => .popc x (.ofNat 64 f.rd) (.ofNat 64 f.ra)
  | 0x18 => .cmpEq x (.ofNat 8 f.rd) (.ofNat 64 f.ra) (.ofNat 64 f.rb)
  | 0x19 => .cmpNe x (.ofNat 8 f.rd) (.ofNat 64 f.ra) (.ofNat 64 f.rb)
  | 0x1A => .cmpLt x (.ofNat 8 f.rd) (.ofNat 64 f.ra) (.ofNat 64 f.rb)
  | 0x1B => .cmpLtu x (.ofNat 8 f.rd) (.ofNat 64 f.ra) (.ofNat 64 f.rb)
  | 0x1C => .cmpGe x (.ofNat 8 f.rd) (.ofNat 64 f.ra) (.ofNat 64 f.rb)
  | 0x1D => .cmpGeu x (.ofNat 8 f.rd) (.ofNat 64 f.ra) (.ofNat 64 f.rb)
  | 0x20 => .pAnd x (.ofNat 8 f.rd) (.ofNat 8 f.ra) (.ofNat 8 f.rb)
  | 0x21 => .pOr x (.ofNat 8 f.rd) (.ofNat 8 f.ra) (.ofNat 8 f.rb)
  | 0x22 => .pXor x (.ofNat 8 f.rd) (.ofNat 8 f.ra) (.ofNat 8 f.rb)
  | 0x23 => .pAndn x (.ofNat 8 f.rd) (.ofNat 8 f.ra) (.ofNat 8 f.rb)
  | 0x24 => .pTog x (.ofNat 64 f.rd) (.ofNat 8 f.ra)
  | 0x25 => .pFromg x (.ofNat 8 f.rd) (.ofNat 64 f.ra)
  | 0x28 => .addi x (.ofNat 64 f.rd) (.ofNat 64 f.ra) (.ofNat 24 f.imm)
  | 0x29 => .andi x (.ofNat 64 f.rd) (.ofNat 64 f.ra) (.ofNat 24 f.imm)
  | 0x2A => .ori x (.ofNat 64 f.rd) (.ofNat 64 f.ra) (.ofNat 24 f.imm)
  | 0x2B => .xori x (.ofNat 64 f.rd) (.ofNat 64 f.ra) (.ofNat 24 f.imm)
  | 0x2C => .shli x (.ofNat 64 f.rd) (.ofNat 64 f.ra) (.ofNat 64 f.imm)
  | 0x2D => .shri x (.ofNat 64 f.rd) (.ofNat 64 f.ra) (.ofNat 64 f.imm)
  | 0x2E => .sari x (.ofNat 64 f.rd) (.ofNat 64 f.ra) (.ofNat 64 f.imm)
  | 0x2F => .cmpiEq x (.ofNat 8 f.rd) (.ofNat 64 f.ra) (.ofNat 24 f.imm)
  | 0x30 => .cmpiLt x (.ofNat 8 f.rd) (.ofNat 64 f.ra) (.ofNat 24 f.imm)
  | 0x31 => .cmpiLtu x (.ofNat 8 f.rd) (.ofNat 64 f.ra) (.ofNat 24 f.imm)
  | 0x38 => .aluLi x (.ofNat 64 f.rd) (.ofNat 24 f.imm)
  | 0x39 => .lis x (.ofNat 64 f.rd) (.ofNat 64 f.ra) (.ofNat 24 f.imm)
  | 0x3A => .aluSel x (.ofNat 64 f.rd) (.ofNat 64 f.ra) (.ofNat 64 f.rb) (.ofNat 8 f.md)
  | _ => .undefinedInstruction x

/-- The instruction of class BR with an operation and its fields. -/
def brInsn (op : Nat) (x : Iss) (f : Fields) : Instr :=
  match op with
  | 0x00 => .brJr x (.ofNat 64 f.ra)
  | 0x01 => .brJalr x (.ofNat 64 f.rd) (.ofNat 64 f.ra)
  | 0x08 => .brBc x (.ofNat 8 f.rd) (decide (f.rd / 8 % 2 = 1)) (.ofNat 14 (f.ra * 256 + f.imm % 256))
  | 0x10 => .brJ x (.ofNat 24 f.imm)
  | 0x11 => .brJal x (.ofNat 64 f.rd) (.ofNat 24 f.imm)
  | _ => .undefinedInstruction x

/-- The instruction of class MEM with an operation and its fields. -/
def memInsn (op : Nat) (x : Iss) (f : Fields) : Instr :=
  match op with
  | 0x00 => .ldB x (.ofNat 64 f.rd) (.ofNat 64 f.ra) (.ofNat 24 f.imm)
  | 0x01 => .ldBu x (.ofNat 64 f.rd) (.ofNat 64 f.ra) (.ofNat 24 f.imm)
  | 0x02 => .ldH x (.ofNat 64 f.rd) (.ofNat 64 f.ra) (.ofNat 24 f.imm)
  | 0x03 => .ldHu x (.ofNat 64 f.rd) (.ofNat 64 f.ra) (.ofNat 24 f.imm)
  | 0x04 => .ldW x (.ofNat 64 f.rd) (.ofNat 64 f.ra) (.ofNat 24 f.imm)
  | 0x05 => .ldWu x (.ofNat 64 f.rd) (.ofNat 64 f.ra) (.ofNat 24 f.imm)
  | 0x06 => .ldD x (.ofNat 64 f.rd) (.ofNat 64 f.ra) (.ofNat 24 f.imm)
  | 0x08 => .stB x (.ofNat 64 f.rd) (.ofNat 64 f.ra) (.ofNat 24 f.imm)
  | 0x09 => .stH x (.ofNat 64 f.rd) (.ofNat 64 f.ra) (.ofNat 24 f.imm)
  | 0x0A => .stW x (.ofNat 64 f.rd) (.ofNat 64 f.ra) (.ofNat 24 f.imm)
  | 0x0B => .stD x (.ofNat 64 f.rd) (.ofNat 64 f.ra) (.ofNat 24 f.imm)
  | 0x10 => .ldV x (.ofNat 32 f.rd) (.ofNat 64 f.ra) (.ofNat 24 f.imm)
  | 0x11 => .stV x (.ofNat 32 f.rd) (.ofNat 64 f.ra) (.ofNat 24 f.imm)
  | 0x18 => .amoW x (.ofNat 64 f.rd) (.ofNat 64 f.ra) (.ofNat 64 f.rb) (.ofNat 4 f.md)
  | 0x19 => .amoD x (.ofNat 64 f.rd) (.ofNat 64 f.ra) (.ofNat 64 f.rb) (.ofNat 4 f.md)
  | _ => .undefinedInstruction x

/-- The instruction of class DMA with an operation and its fields. -/
def dmaInsn (op : Nat) (x : Iss) (f : Fields) : Instr :=
  match op with
  | 0x00 => .dmaCp x (.ofNat 64 f.rd) (.ofNat 64 f.ra) (.ofNat 64 f.rb) (.ofNat 24 f.imm)
  | 0x01 => .dmaCp2 x (.ofNat 64 f.ra) (.ofNat 24 f.imm)
  | 0x02 => .dmaCpx x (.ofNat 64 f.ra) (.ofNat 24 f.imm)
  | 0x08 => .dmaWait x (.ofNat 64 f.ra)
  | 0x09 => .dmaWaitall x
  | 0x0A => .dmaStat x (.ofNat 64 f.rd) (.ofNat 64 f.ra)
  | _ => .undefinedInstruction x

/-- The instruction of class SYN with an operation and its fields. -/
def synInsn (op : Nat) (x : Iss) (f : Fields) : Instr :=
  match op with
  | 0x00 => .synSigl x (.ofNat 64 f.rd) (.ofNat 24 f.imm)
  | 0x01 => .synSig x (.ofNat 64 f.ra) (.ofNat 64 f.rb)
  | 0x02 => .synWait x (.ofNat 64 f.rd) (.ofNat 24 f.imm)
  | 0x03 => .synTry x (.ofNat 8 f.rd) (.ofNat 64 f.ra) (.ofNat 24 f.imm)
  | 0x04 => .synTwait x (.ofNat 64 f.ra)
  | 0x05 => .synDrain x
  | 0x06 => .synPost x (.ofNat 64 f.ra)
  | 0x08 => .synRdsem x (.ofNat 64 f.rd) (.ofNat 64 f.ra)
  | _ => .undefinedInstruction x

/-- The instruction of class VEC with an operation and its fields. -/
def vecInsn (op : Nat) (x : Iss) (f : Fields) : Instr :=
  match op with
  | 0x00 => .vecAddI x (.ofNat 32 f.rd) (.ofNat 32 f.ra) (.ofNat 32 f.rb)
  | 0x01 => .vecSubI x (.ofNat 32 f.rd) (.ofNat 32 f.ra) (.ofNat 32 f.rb)
  | 0x02 => .vecMulI x (.ofNat 32 f.rd) (.ofNat 32 f.ra) (.ofNat 32 f.rb)
  | 0x03 => .vecMinI x (.ofNat 32 f.rd) (.ofNat 32 f.ra) (.ofNat 32 f.rb)
  | 0x04 => .vecMaxI x (.ofNat 32 f.rd) (.ofNat 32 f.ra) (.ofNat 32 f.rb)
  | 0x05 => .vecMinU x (.ofNat 32 f.rd) (.ofNat 32 f.ra) (.ofNat 32 f.rb)
  | 0x06 => .vecMaxU x (.ofNat 32 f.rd) (.ofNat 32 f.ra) (.ofNat 32 f.rb)
  | 0x07 => .vecAnd x (.ofNat 32 f.rd) (.ofNat 32 f.ra) (.ofNat 32 f.rb)
  | 0x08 => .vecOr x (.ofNat 32 f.rd) (.ofNat 32 f.ra) (.ofNat 32 f.rb)
  | 0x09 => .vecXor x (.ofNat 32 f.rd) (.ofNat 32 f.ra) (.ofNat 32 f.rb)
  | 0x0A => .vecShl x (.ofNat 32 f.rd) (.ofNat 32 f.ra) (.ofNat 32 f.rb)
  | 0x0B => .vecShr x (.ofNat 32 f.rd) (.ofNat 32 f.ra) (.ofNat 32 f.rb)
  | 0x0C => .vecSar x (.ofNat 32 f.rd) (.ofNat 32 f.ra) (.ofNat 32 f.rb)
  | 0x10 => .vecAddF x (.ofNat 32 f.rd) (.ofNat 32 f.ra) (.ofNat 32 f.rb)
  | 0x11 => .vecSubF x (.ofNat 32 f.rd) (.ofNat 32 f.ra) (.ofNat 32 f.rb)
  | 0x12 => .vecMulF x (.ofNat 32 f.rd) (.ofNat 32 f.ra) (.ofNat 32 f.rb)
  | 0x13 => .vecFmaF x (.ofNat 32 f.rd) (.ofNat 32 f.ra) (.ofNat 32 f.rb)
  | 0x14 => .vecMinF x (.ofNat 32 f.rd) (.ofNat 32 f.ra) (.ofNat 32 f.rb)
  | 0x15 => .vecMaxF x (.ofNat 32 f.rd) (.ofNat 32 f.ra) (.ofNat 32 f.rb)
  | 0x16 => .vecDivF x (.ofNat 32 f.rd) (.ofNat 32 f.ra) (.ofNat 32 f.rb)
  | 0x17 => .vecSqrtF x (.ofNat 32 f.rd) (.ofNat 32 f.ra)
  | 0x18 => .vecRcpF x (.ofNat 32 f.rd) (.ofNat 32 f.ra)
  | 0x19 => .vecRsqF x (.ofNat 32 f.rd) (.ofNat 32 f.ra)
  | 0x1A => .vecExp2F x (.ofNat 32 f.rd) (.ofNat 32 f.ra)
  | 0x1B => .vecLog2F x (.ofNat 32 f.rd) (.ofNat 32 f.ra)
  | 0x20 => .vecCmp x (.ofNat 32 f.rd) (.ofNat 32 f.ra) (.ofNat 32 f.rb) (.ofNat 6 f.md)
  | 0x21 => .vecSel x (.ofNat 32 f.rd) (.ofNat 32 f.ra) (.ofNat 32 f.rb) (.ofNat 6 f.md)
  | 0x22 => .vecBc x (.ofNat 32 f.rd) (.ofNat 64 f.ra)
  | 0x23 => .vecExt x (.ofNat 64 f.rd) (.ofNat 32 f.ra) (.ofNat 24 f.imm)
  | 0x24 => .vecIns x (.ofNat 32 f.rd) (.ofNat 64 f.ra) (.ofNat 24 f.imm)
  | 0x25 => .vecIdx x (.ofNat 32 f.rd)
  | 0x26 => .vecPerm x (.ofNat 32 f.rd) (.ofNat 32 f.ra) (.ofNat 32 f.rb)
  | 0x28 => .vecCvt x (.ofNat 32 f.rd) (.ofNat 32 f.ra) (.ofNat 24 f.imm)
  | 0x29 => .vecMxq x (.ofNat 32 f.rd) (.ofNat 32 f.ra) (.ofNat 64 f.rb) (.ofNat 24 f.imm)
  | 0x2A => .vecMxd x (.ofNat 32 f.rd) (.ofNat 32 f.ra) (.ofNat 64 f.rb) (.ofNat 24 f.imm)
  | 0x30 => .vecRsumF x (.ofNat 64 f.rd) (.ofNat 32 f.ra)
  | 0x31 => .vecRsumI x (.ofNat 64 f.rd) (.ofNat 32 f.ra)
  | 0x32 => .vecRmaxF x (.ofNat 64 f.rd) (.ofNat 32 f.ra)
  | 0x33 => .vecRminF x (.ofNat 64 f.rd) (.ofNat 32 f.ra)
  | 0x34 => .vecMsk x (.ofNat 64 f.rd) (.ofNat 32 f.ra)
  | 0x38 => .vecGth x (.ofNat 32 f.rd) (.ofNat 32 f.ra) (.ofNat 64 f.rb)
  | 0x39 => .vecSct x (.ofNat 32 f.rd) (.ofNat 32 f.ra) (.ofNat 64 f.rb)
  | 0x3E => .vecFlg x (.ofNat 64 f.rd)
  | _ => .undefinedInstruction x

/-- The instruction of class TNS with an operation and its fields. -/
def tnsInsn (op : Nat) (x : Iss) (f : Fields) : Instr :=
  match op with
  | 0x00 => .tmmCfg x (.ofNat 64 f.ra) (.ofNat 24 f.imm)
  | 0x01 => .tmmMm x (.ofNat 64 f.ra) (.ofNat 64 f.rb) (.ofNat 24 f.imm)
  | 0x02 => .tmmSt x (.ofNat 64 f.ra) (.ofNat 24 f.imm)
  | 0x03 => .tmmLd x (.ofNat 64 f.ra) (.ofNat 24 f.imm)
  | 0x04 => .tmmZero x (.ofNat 8 f.rd) (.ofNat 4 (f.rd / 8))
  | 0x05 => .tmmTov x (.ofNat 32 f.rd) (.ofNat 24 f.imm)
  | 0x06 => .tmmFrv x (.ofNat 32 f.ra) (.ofNat 24 f.imm)
  | _ => .undefinedInstruction x

/-- The instruction of class CLX with an operation and its fields. -/
def clxInsn (op : Nat) (x : Iss) (f : Fields) : Instr :=
  match op with
  | 0x00 => .tmmAr x (.ofNat 64 f.rd) (.ofNat 64 f.ra) (.ofNat 64 f.rb) (.ofNat 6 f.md) (.ofNat 24 f.imm)
  | 0x01 => .tmmRs x (.ofNat 64 f.rd) (.ofNat 64 f.ra) (.ofNat 64 f.rb) (.ofNat 6 f.md) (.ofNat 24 f.imm)
  | 0x02 => .vecAr x (.ofNat 64 f.rd) (.ofNat 64 f.ra) (.ofNat 64 f.rb) (.ofNat 6 f.md) (.ofNat 24 f.imm)
  | 0x03 => .vecAg x (.ofNat 64 f.rd) (.ofNat 64 f.ra) (.ofNat 64 f.rb) (.ofNat 6 f.md) (.ofNat 24 f.imm)
  | _ => .undefinedInstruction x

/-- The instruction of class UNT with an operation and its fields. -/
def untInsn (op : Nat) (x : Iss) (f : Fields) (mf : MicaFeed) (jm : FarRead) : Instr :=
  match op with
  | 0x00 => .untCpro x (.ofNat 64 f.rd) (.ofNat 64 f.ra) (.ofNat 64 f.rb) (.ofNat 24 f.imm)
  | 0x01 => .untCp2ro x (.ofNat 64 f.ra) (.ofNat 24 f.imm)
  | 0x04 => .untRgn x (.ofNat 64 f.ra) (.ofNat 64 f.rb) (.ofNat 24 f.imm)
  | 0x05 => .untNcinv x
  | 0x10 => .untMcmd x (.ofNat 64 f.ra) (.ofNat 64 f.rb) (.ofNat 24 f.imm) mf
  | 0x18 => .untJcmd x (.ofNat 64 f.ra) (.ofNat 64 f.rb) (.ofNat 24 f.imm) jm
  | _ => .undefinedInstruction x

/-- The instruction of class SYS with an operation and its fields. -/
def sysInsn (op : Nat) (x : Iss) (f : Fields) : Instr :=
  match op with
  | 0x00 => .sysHalt x
  | 0x01 => .sysFret x
  | 0x02 => .sysCtlr x (.ofNat 64 f.rd) (.ofNat 64 f.ra)
  | 0x03 => .sysCtlw x (.ofNat 64 f.rd) (.ofNat 64 f.ra)
  | 0x04 => .sysNop x
  | 0x10 => .sysGrpDef x (.ofNat 64 f.ra) (.ofNat 64 f.rb) (.ofNat 24 f.imm)
  | 0x11 => .sysGrpDel x (.ofNat 24 f.imm)
  | 0x12 => .sysGrpStat x (.ofNat 64 f.rd) (.ofNat 24 f.imm)
  | 0x13 => .sysCwait x (.ofNat 64 f.ra)
  | _ => .undefinedInstruction x

/-- The instruction of a class with an operation and its fields. -/
def insnOf (cls op : Nat) (x : Iss) (f : Fields) (mf : MicaFeed) (jm : FarRead) : Instr :=
  match cls with
  | 0 => sclInsn op x f
  | 1 => brInsn op x f
  | 2 => memInsn op x f
  | 3 => dmaInsn op x f
  | 4 => synInsn op x f
  | 5 => vecInsn op x f
  | 6 => tnsInsn op x f
  | 7 => clxInsn op x f
  | 8 => untInsn op x f mf jm
  | 9 => sysInsn op x f
  | _ => .undefinedInstruction x

/-- The instruction that a cluster's word spells (R164 to R168): total; what no class table defines is an undefined instruction. A command for Mica or Jasper
brings what the unit reads elsewhere. -/
def decodeInsn (c : Clu) (w : Nat) (mf : MicaFeed) (jm : FarRead) : Instr :=
  let long := decide (w % 4 = 3)
  let cls := w / 4 % 16
  let op := w / 64 % 64
  let x : Iss := ⟨c, if long then .ofNat 8 (w / 2 ^ 12) else 0, long && decide (w / 2 ^ 15 % 2 = 1), long, false⟩
  if w % 2 = 0 then .undefinedInstruction x
  else match opRow cls op with
    | none => .undefinedInstruction x
    | some r =>
      if r.form.allows long then
        let f := fieldsOf r.form w
        insnOf cls op { x with res := r.reserved f } f mf jm
      else .undefinedInstruction x

/-- What an instruction's encoding is made of: the issue, the class, the operation and the fields. -/
structure Parts where
  x : Iss
  cls : Nat
  op : Nat
  f : Fields
  deriving DecidableEq, Repr

/-- The parts of an instruction's encoding; a command that is no instruction has none. -/
def Instr.parts (i : Instr) : Option Parts :=
  match i with
  | .aluAdd x a b c => some ⟨x, 0x0, 0x00, ⟨a.val, b.val, c.val, 0, 0⟩⟩
  | .aluSub x a b c => some ⟨x, 0x0, 0x01, ⟨a.val, b.val, c.val, 0, 0⟩⟩
  | .aluAnd x a b c => some ⟨x, 0x0, 0x02, ⟨a.val, b.val, c.val, 0, 0⟩⟩
  | .aluOr x a b c => some ⟨x, 0x0, 0x03, ⟨a.val, b.val, c.val, 0, 0⟩⟩
  | .aluXor x a b c => some ⟨x, 0x0, 0x04, ⟨a.val, b.val, c.val, 0, 0⟩⟩
  | .andn x a b c => some ⟨x, 0x0, 0x05, ⟨a.val, b.val, c.val, 0, 0⟩⟩
  | .aluShl x a b c => some ⟨x, 0x0, 0x06, ⟨a.val, b.val, c.val, 0, 0⟩⟩
  | .aluShr x a b c => some ⟨x, 0x0, 0x07, ⟨a.val, b.val, c.val, 0, 0⟩⟩
  | .aluSar x a b c => some ⟨x, 0x0, 0x08, ⟨a.val, b.val, c.val, 0, 0⟩⟩
  | .aluMin x a b c => some ⟨x, 0x0, 0x09, ⟨a.val, b.val, c.val, 0, 0⟩⟩
  | .aluMax x a b c => some ⟨x, 0x0, 0x0A, ⟨a.val, b.val, c.val, 0, 0⟩⟩
  | .minu x a b c => some ⟨x, 0x0, 0x0B, ⟨a.val, b.val, c.val, 0, 0⟩⟩
  | .maxu x a b c => some ⟨x, 0x0, 0x0C, ⟨a.val, b.val, c.val, 0, 0⟩⟩
  | .aluMul x a b c => some ⟨x, 0x0, 0x0D, ⟨a.val, b.val, c.val, 0, 0⟩⟩
  | .mulh x a b c => some ⟨x, 0x0, 0x0E, ⟨a.val, b.val, c.val, 0, 0⟩⟩
  | .mulhu x a b c => some ⟨x, 0x0, 0x0F, ⟨a.val, b.val, c.val, 0, 0⟩⟩
  | .aluDiv x a b c => some ⟨x, 0x0, 0x10, ⟨a.val, b.val, c.val, 0, 0⟩⟩
  | .divu x a b c => some ⟨x, 0x0, 0x11, ⟨a.val, b.val, c.val, 0, 0⟩⟩
  | .aluRem x a b c => some ⟨x, 0x0, 0x12, ⟨a.val, b.val, c.val, 0, 0⟩⟩
  | .remu x a b c => some ⟨x, 0x0, 0x13, ⟨a.val, b.val, c.val, 0, 0⟩⟩
  | .clz x a b => some ⟨x, 0x0, 0x14, ⟨a.val, b.val, 0, 0, 0⟩⟩
  | .ctz x a b => some ⟨x, 0x0, 0x15, ⟨a.val, b.val, 0, 0, 0⟩⟩
  | .popc x a b => some ⟨x, 0x0, 0x16, ⟨a.val, b.val, 0, 0, 0⟩⟩
  | .cmpEq x a b c => some ⟨x, 0x0, 0x18, ⟨a.val, b.val, c.val, 0, 0⟩⟩
  | .cmpNe x a b c => some ⟨x, 0x0, 0x19, ⟨a.val, b.val, c.val, 0, 0⟩⟩
  | .cmpLt x a b c => some ⟨x, 0x0, 0x1A, ⟨a.val, b.val, c.val, 0, 0⟩⟩
  | .cmpLtu x a b c => some ⟨x, 0x0, 0x1B, ⟨a.val, b.val, c.val, 0, 0⟩⟩
  | .cmpGe x a b c => some ⟨x, 0x0, 0x1C, ⟨a.val, b.val, c.val, 0, 0⟩⟩
  | .cmpGeu x a b c => some ⟨x, 0x0, 0x1D, ⟨a.val, b.val, c.val, 0, 0⟩⟩
  | .pAnd x a b c => some ⟨x, 0x0, 0x20, ⟨a.val, b.val, c.val, 0, 0⟩⟩
  | .pOr x a b c => some ⟨x, 0x0, 0x21, ⟨a.val, b.val, c.val, 0, 0⟩⟩
  | .pXor x a b c => some ⟨x, 0x0, 0x22, ⟨a.val, b.val, c.val, 0, 0⟩⟩
  | .pAndn x a b c => some ⟨x, 0x0, 0x23, ⟨a.val, b.val, c.val, 0, 0⟩⟩
  | .pTog x a b => some ⟨x, 0x0, 0x24, ⟨a.val, b.val, 0, 0, 0⟩⟩
  | .pFromg x a b => some ⟨x, 0x0, 0x25, ⟨a.val, b.val, 0, 0, 0⟩⟩
  | .addi x a b c => some ⟨x, 0x0, 0x28, ⟨a.val, b.val, 0, 0, c.toNat⟩⟩
  | .andi x a b c => some ⟨x, 0x0, 0x29, ⟨a.val, b.val, 0, 0, c.toNat⟩⟩
  | .ori x a b c => some ⟨x, 0x0, 0x2A, ⟨a.val, b.val, 0, 0, c.toNat⟩⟩
  | .xori x a b c => some ⟨x, 0x0, 0x2B, ⟨a.val, b.val, 0, 0, c.toNat⟩⟩
  | .shli x a b c => some ⟨x, 0x0, 0x2C, ⟨a.val, b.val, 0, 0, c.val⟩⟩
  | .shri x a b c => some ⟨x, 0x0, 0x2D, ⟨a.val, b.val, 0, 0, c.val⟩⟩
  | .sari x a b c => some ⟨x, 0x0, 0x2E, ⟨a.val, b.val, 0, 0, c.val⟩⟩
  | .cmpiEq x a b c => some ⟨x, 0x0, 0x2F, ⟨a.val, b.val, 0, 0, c.toNat⟩⟩
  | .cmpiLt x a b c => some ⟨x, 0x0, 0x30, ⟨a.val, b.val, 0, 0, c.toNat⟩⟩
  | .cmpiLtu x a b c => some ⟨x, 0x0, 0x31, ⟨a.val, b.val, 0, 0, c.toNat⟩⟩
  | .aluLi x a b => some ⟨x, 0x0, 0x38, ⟨a.val, 0, 0, 0, b.toNat⟩⟩
  | .lis x a b c => some ⟨x, 0x0, 0x39, ⟨a.val, b.val, 0, 0, c.toNat⟩⟩
  | .aluSel x a b c d => some ⟨x, 0x0, 0x3A, ⟨a.val, b.val, c.val, d.val, 0⟩⟩
  | .brJr x a => some ⟨x, 0x1, 0x00, ⟨0, a.val, 0, 0, 0⟩⟩
  | .brJalr x a b => some ⟨x, 0x1, 0x01, ⟨a.val, b.val, 0, 0, 0⟩⟩
  | .brBc x p q o => some ⟨x, 0x1, 0x08, ⟨p.val + 8 * q.toNat, o.toNat / 256, 0, 0, o.toNat % 256⟩⟩
  | .brJ x a => some ⟨x, 0x1, 0x10, ⟨0, 0, 0, 0, a.toNat⟩⟩
  | .brJal x a b => some ⟨x, 0x1, 0x11, ⟨a.val, 0, 0, 0, b.toNat⟩⟩
  | .ldB x a b c => some ⟨x, 0x2, 0x00, ⟨a.val, b.val, 0, 0, c.toNat⟩⟩
  | .ldBu x a b c => some ⟨x, 0x2, 0x01, ⟨a.val, b.val, 0, 0, c.toNat⟩⟩
  | .ldH x a b c => some ⟨x, 0x2, 0x02, ⟨a.val, b.val, 0, 0, c.toNat⟩⟩
  | .ldHu x a b c => some ⟨x, 0x2, 0x03, ⟨a.val, b.val, 0, 0, c.toNat⟩⟩
  | .ldW x a b c => some ⟨x, 0x2, 0x04, ⟨a.val, b.val, 0, 0, c.toNat⟩⟩
  | .ldWu x a b c => some ⟨x, 0x2, 0x05, ⟨a.val, b.val, 0, 0, c.toNat⟩⟩
  | .ldD x a b c => some ⟨x, 0x2, 0x06, ⟨a.val, b.val, 0, 0, c.toNat⟩⟩
  | .stB x a b c => some ⟨x, 0x2, 0x08, ⟨a.val, b.val, 0, 0, c.toNat⟩⟩
  | .stH x a b c => some ⟨x, 0x2, 0x09, ⟨a.val, b.val, 0, 0, c.toNat⟩⟩
  | .stW x a b c => some ⟨x, 0x2, 0x0A, ⟨a.val, b.val, 0, 0, c.toNat⟩⟩
  | .stD x a b c => some ⟨x, 0x2, 0x0B, ⟨a.val, b.val, 0, 0, c.toNat⟩⟩
  | .ldV x a b c => some ⟨x, 0x2, 0x10, ⟨a.val, b.val, 0, 0, c.toNat⟩⟩
  | .stV x a b c => some ⟨x, 0x2, 0x11, ⟨a.val, b.val, 0, 0, c.toNat⟩⟩
  | .amoW x a b c d => some ⟨x, 0x2, 0x18, ⟨a.val, b.val, c.val, d.toNat, 0⟩⟩
  | .amoD x a b c d => some ⟨x, 0x2, 0x19, ⟨a.val, b.val, c.val, d.toNat, 0⟩⟩
  | .dmaCp x a b c d => some ⟨x, 0x3, 0x00, ⟨a.val, b.val, c.val, 0, d.toNat⟩⟩
  | .dmaCp2 x a b => some ⟨x, 0x3, 0x01, ⟨0, a.val, 0, 0, b.toNat⟩⟩
  | .dmaCpx x a b => some ⟨x, 0x3, 0x02, ⟨0, a.val, 0, 0, b.toNat⟩⟩
  | .dmaWait x a => some ⟨x, 0x3, 0x08, ⟨0, a.val, 0, 0, 0⟩⟩
  | .dmaWaitall x => some ⟨x, 0x3, 0x09, ⟨0, 0, 0, 0, 0⟩⟩
  | .dmaStat x a b => some ⟨x, 0x3, 0x0A, ⟨a.val, b.val, 0, 0, 0⟩⟩
  | .synSigl x a b => some ⟨x, 0x4, 0x00, ⟨a.val, 0, 0, 0, b.toNat⟩⟩
  | .synSig x a b => some ⟨x, 0x4, 0x01, ⟨0, a.val, b.val, 0, 0⟩⟩
  | .synWait x a b => some ⟨x, 0x4, 0x02, ⟨a.val, 0, 0, 0, b.toNat⟩⟩
  | .synTry x a b c => some ⟨x, 0x4, 0x03, ⟨a.val, b.val, 0, 0, c.toNat⟩⟩
  | .synTwait x a => some ⟨x, 0x4, 0x04, ⟨0, a.val, 0, 0, 0⟩⟩
  | .synDrain x => some ⟨x, 0x4, 0x05, ⟨0, 0, 0, 0, 0⟩⟩
  | .synPost x a => some ⟨x, 0x4, 0x06, ⟨0, a.val, 0, 0, 0⟩⟩
  | .synRdsem x a b => some ⟨x, 0x4, 0x08, ⟨a.val, b.val, 0, 0, 0⟩⟩
  | .vecAddI x a b c => some ⟨x, 0x5, 0x00, ⟨a.val, b.val, c.val, 0, 0⟩⟩
  | .vecSubI x a b c => some ⟨x, 0x5, 0x01, ⟨a.val, b.val, c.val, 0, 0⟩⟩
  | .vecMulI x a b c => some ⟨x, 0x5, 0x02, ⟨a.val, b.val, c.val, 0, 0⟩⟩
  | .vecMinI x a b c => some ⟨x, 0x5, 0x03, ⟨a.val, b.val, c.val, 0, 0⟩⟩
  | .vecMaxI x a b c => some ⟨x, 0x5, 0x04, ⟨a.val, b.val, c.val, 0, 0⟩⟩
  | .vecMinU x a b c => some ⟨x, 0x5, 0x05, ⟨a.val, b.val, c.val, 0, 0⟩⟩
  | .vecMaxU x a b c => some ⟨x, 0x5, 0x06, ⟨a.val, b.val, c.val, 0, 0⟩⟩
  | .vecAnd x a b c => some ⟨x, 0x5, 0x07, ⟨a.val, b.val, c.val, 0, 0⟩⟩
  | .vecOr x a b c => some ⟨x, 0x5, 0x08, ⟨a.val, b.val, c.val, 0, 0⟩⟩
  | .vecXor x a b c => some ⟨x, 0x5, 0x09, ⟨a.val, b.val, c.val, 0, 0⟩⟩
  | .vecShl x a b c => some ⟨x, 0x5, 0x0A, ⟨a.val, b.val, c.val, 0, 0⟩⟩
  | .vecShr x a b c => some ⟨x, 0x5, 0x0B, ⟨a.val, b.val, c.val, 0, 0⟩⟩
  | .vecSar x a b c => some ⟨x, 0x5, 0x0C, ⟨a.val, b.val, c.val, 0, 0⟩⟩
  | .vecAddF x a b c => some ⟨x, 0x5, 0x10, ⟨a.val, b.val, c.val, 0, 0⟩⟩
  | .vecSubF x a b c => some ⟨x, 0x5, 0x11, ⟨a.val, b.val, c.val, 0, 0⟩⟩
  | .vecMulF x a b c => some ⟨x, 0x5, 0x12, ⟨a.val, b.val, c.val, 0, 0⟩⟩
  | .vecFmaF x a b c => some ⟨x, 0x5, 0x13, ⟨a.val, b.val, c.val, 0, 0⟩⟩
  | .vecMinF x a b c => some ⟨x, 0x5, 0x14, ⟨a.val, b.val, c.val, 0, 0⟩⟩
  | .vecMaxF x a b c => some ⟨x, 0x5, 0x15, ⟨a.val, b.val, c.val, 0, 0⟩⟩
  | .vecDivF x a b c => some ⟨x, 0x5, 0x16, ⟨a.val, b.val, c.val, 0, 0⟩⟩
  | .vecSqrtF x a b => some ⟨x, 0x5, 0x17, ⟨a.val, b.val, 0, 0, 0⟩⟩
  | .vecRcpF x a b => some ⟨x, 0x5, 0x18, ⟨a.val, b.val, 0, 0, 0⟩⟩
  | .vecRsqF x a b => some ⟨x, 0x5, 0x19, ⟨a.val, b.val, 0, 0, 0⟩⟩
  | .vecExp2F x a b => some ⟨x, 0x5, 0x1A, ⟨a.val, b.val, 0, 0, 0⟩⟩
  | .vecLog2F x a b => some ⟨x, 0x5, 0x1B, ⟨a.val, b.val, 0, 0, 0⟩⟩
  | .vecCmp x a b c d => some ⟨x, 0x5, 0x20, ⟨a.val, b.val, c.val, d.toNat, 0⟩⟩
  | .vecSel x a b c d => some ⟨x, 0x5, 0x21, ⟨a.val, b.val, c.val, d.toNat, 0⟩⟩
  | .vecBc x a b => some ⟨x, 0x5, 0x22, ⟨a.val, b.val, 0, 0, 0⟩⟩
  | .vecExt x a b c => some ⟨x, 0x5, 0x23, ⟨a.val, b.val, 0, 0, c.toNat⟩⟩
  | .vecIns x a b c => some ⟨x, 0x5, 0x24, ⟨a.val, b.val, 0, 0, c.toNat⟩⟩
  | .vecIdx x a => some ⟨x, 0x5, 0x25, ⟨a.val, 0, 0, 0, 0⟩⟩
  | .vecPerm x a b c => some ⟨x, 0x5, 0x26, ⟨a.val, b.val, c.val, 0, 0⟩⟩
  | .vecCvt x a b c => some ⟨x, 0x5, 0x28, ⟨a.val, b.val, 0, 0, c.toNat⟩⟩
  | .vecMxq x a b c d => some ⟨x, 0x5, 0x29, ⟨a.val, b.val, c.val, 0, d.toNat⟩⟩
  | .vecMxd x a b c d => some ⟨x, 0x5, 0x2A, ⟨a.val, b.val, c.val, 0, d.toNat⟩⟩
  | .vecRsumF x a b => some ⟨x, 0x5, 0x30, ⟨a.val, b.val, 0, 0, 0⟩⟩
  | .vecRsumI x a b => some ⟨x, 0x5, 0x31, ⟨a.val, b.val, 0, 0, 0⟩⟩
  | .vecRmaxF x a b => some ⟨x, 0x5, 0x32, ⟨a.val, b.val, 0, 0, 0⟩⟩
  | .vecRminF x a b => some ⟨x, 0x5, 0x33, ⟨a.val, b.val, 0, 0, 0⟩⟩
  | .vecMsk x a b => some ⟨x, 0x5, 0x34, ⟨a.val, b.val, 0, 0, 0⟩⟩
  | .vecGth x a b c => some ⟨x, 0x5, 0x38, ⟨a.val, b.val, c.val, 0, 0⟩⟩
  | .vecSct x a b c => some ⟨x, 0x5, 0x39, ⟨a.val, b.val, c.val, 0, 0⟩⟩
  | .vecFlg x a => some ⟨x, 0x5, 0x3E, ⟨a.val, 0, 0, 0, 0⟩⟩
  | .tmmCfg x a b => some ⟨x, 0x6, 0x00, ⟨0, a.val, 0, 0, b.toNat⟩⟩
  | .tmmMm x a b c => some ⟨x, 0x6, 0x01, ⟨0, a.val, b.val, 0, c.toNat⟩⟩
  | .tmmSt x a b => some ⟨x, 0x6, 0x02, ⟨0, a.val, 0, 0, b.toNat⟩⟩
  | .tmmLd x a b => some ⟨x, 0x6, 0x03, ⟨0, a.val, 0, 0, b.toNat⟩⟩
  | .tmmZero x t u => some ⟨x, 0x6, 0x04, ⟨t.val + 8 * u.val, 0, 0, 0, 0⟩⟩
  | .tmmTov x a b => some ⟨x, 0x6, 0x05, ⟨a.val, 0, 0, 0, b.toNat⟩⟩
  | .tmmFrv x a b => some ⟨x, 0x6, 0x06, ⟨0, a.val, 0, 0, b.toNat⟩⟩
  | .tmmAr x a b c d e => some ⟨x, 0x7, 0x00, ⟨a.val, b.val, c.val, d.toNat, e.toNat⟩⟩
  | .tmmRs x a b c d e => some ⟨x, 0x7, 0x01, ⟨a.val, b.val, c.val, d.toNat, e.toNat⟩⟩
  | .vecAr x a b c d e => some ⟨x, 0x7, 0x02, ⟨a.val, b.val, c.val, d.toNat, e.toNat⟩⟩
  | .vecAg x a b c d e => some ⟨x, 0x7, 0x03, ⟨a.val, b.val, c.val, d.toNat, e.toNat⟩⟩
  | .untCpro x a b c d => some ⟨x, 0x8, 0x00, ⟨a.val, b.val, c.val, 0, d.toNat⟩⟩
  | .untCp2ro x a b => some ⟨x, 0x8, 0x01, ⟨0, a.val, 0, 0, b.toNat⟩⟩
  | .untRgn x a b c => some ⟨x, 0x8, 0x04, ⟨0, a.val, b.val, 0, c.toNat⟩⟩
  | .untNcinv x => some ⟨x, 0x8, 0x05, ⟨0, 0, 0, 0, 0⟩⟩
  | .untMcmd x a b c _ => some ⟨x, 0x8, 0x10, ⟨0, a.val, b.val, 0, c.toNat⟩⟩
  | .untJcmd x a b c _ => some ⟨x, 0x8, 0x18, ⟨0, a.val, b.val, 0, c.toNat⟩⟩
  | .sysHalt x => some ⟨x, 0x9, 0x00, ⟨0, 0, 0, 0, 0⟩⟩
  | .sysFret x => some ⟨x, 0x9, 0x01, ⟨0, 0, 0, 0, 0⟩⟩
  | .sysCtlr x a b => some ⟨x, 0x9, 0x02, ⟨a.val, b.val, 0, 0, 0⟩⟩
  | .sysCtlw x a b => some ⟨x, 0x9, 0x03, ⟨a.val, b.val, 0, 0, 0⟩⟩
  | .sysNop x => some ⟨x, 0x9, 0x04, ⟨0, 0, 0, 0, 0⟩⟩
  | .sysGrpDef x a b c => some ⟨x, 0x9, 0x10, ⟨0, a.val, b.val, 0, c.toNat⟩⟩
  | .sysGrpDel x a => some ⟨x, 0x9, 0x11, ⟨0, 0, 0, 0, a.toNat⟩⟩
  | .sysGrpStat x a b => some ⟨x, 0x9, 0x12, ⟨a.val, 0, 0, 0, b.toNat⟩⟩
  | .sysCwait x a => some ⟨x, 0x9, 0x13, ⟨0, a.val, 0, 0, 0⟩⟩
  | .registerWrite .. | .crossingTransfer .. | .crossingStall .. | .crossingEscalate .. | .coldReset .. | .v3p3sbLoss .. | .flintBoot ..
  | .flintBootTimeout .. | .v48Qualified .. | .railPowerGood .. | .railPgTimeout .. | .railSeqRetry .. | .v48Lockout .. | .v48Restart ..
  | .v48Sample .. | .sagLevelExit .. | .clockTrim .. | .islandSagDetect .. | .stretchStepDown .. | .stretchRecover .. | .freqTransitionDone ..
  | .sensorFault .. | .persistentSag .. | .persistentSagLower .. | .persistentSagClear .. | .refclkLoss .. | .refclkReturn .. | .v12auxLoss ..
  | .v12auxRestore .. | .trackingRailLoss .. | .railLossDiesFailed .. | .islPstateWrite .. | .islPwrCapWrite .. | .islFreqWrite ..
  | .islStrCfgWrite .. | .v48MinClr .. | .dieHbLost .. | .dieError .. | .dieOvertemp .. | .twinHbClassify .. | .twinSuspect .. | .twinLossConfirm ..
  | .hostSample .. | .fltHostHbWrite .. | .hostWatchDisarm .. | .partitionQuiesced .. | .quiesceTimeout .. | .fltAloneRelease ..
  | .fltAlertStatWrite .. | .fltAlertMaskWrite .. | .fltHbCfgWrite .. | .fltExpertEnWrite .. | .fltLogAckWrite .. | .fltScanWrite ..
  | .tapInstruction .. | .mbRequest .. | .getId .. | .getStatus .. | .mbReadReg .. | .mbWriteReg .. | .logRead .. | .logAck .. | .pwrCapSet ..
  | .powerOn .. | .powerOff .. | .moduleReset .. | .alertClear .. | .fwStage .. | .fwCommit .. | .fwSwap .. | .fwSwapReady .. | .fwConfirm ..
  | .fwAbort .. | .fwRollback .. | .aqgenWatchdog .. | .dieInitDone .. | .dieInitTimeout .. | .memInitDone .. | .memInitTimeout ..
  | .hostReadyEntry .. | .linkUpTimeout .. | .fltStartWrite .. | .devStartSoloWrite .. | .ppsEdge .. | .ftSyncSend .. | .syncReq .. | .syncRsp ..
  | .ppsSourceLost .. | .electSourceLost .. | .holdoverExpiry .. | .ftCfgWrite .. | .ftNextArm .. | .modRstNAssert .. | .moduleResetEntry ..
  | .moduleResetEnd .. | .modRstHeldLong .. | .devRstModule .. | .partGo .. | .flrPf .. | .flrVf .. | .partitionResetDone ..
  | .orphanContextExpiry .. | .islandReset .. | .islandResetDrainEnd .. | .islandResetRelease .. | .islandResetTimeout .. | .linkReset ..
  | .agateLinkReset .. | .perstNAssert .. | .perstNRelease .. | .dmaIssueResume .. | .dmaBlockSend .. | .dmaSlotComplete .. | .dmaWaitDone ..
  | .signalArrive .. | .synWaitSatisfied .. | .synWaitTimeout .. | .synTwaitExpire .. | .synDrainDone .. | .synPostResume .. | .sysHaltComplete ..
  | .tnsQueueRoom .. | .tensorUnitStart .. | .tensorOpComplete .. | .ncFill .. | .slateRead .. | .slateWrite .. | .slateAtomic .. | .slateFill ..
  | .slateFillEntryFree .. | .regionOpStart .. | .regionWb .. | .regionFlush .. | .regionInv .. | .regionPrefetch .. | .regionZero ..
  | .regionNcinv .. | .regionRinv .. | .regionOpDone .. | .sltAssignGo .. | .sltAssignStart .. | .sltAssignDone .. | .sltSliceGo .. | .hbmRead ..
  | .hbmWrite .. | .hbmModeReq .. | .hbmModeStackDone .. | .patrolRead .. | .rowRepairStart .. | .rowRepairDone .. | .repairRecordFlashed ..
  | .hbmMirrorWrite .. | .hbmScrubWrite .. | .hbmRprReqGo .. | .hbmStackFail .. | .linkBlockTx .. | .linkBlockRx .. | .alignBlock .. | .fcState ..
  | .trainingFrameRx .. | .bringupStageDone .. | .bringupStageTimeout .. | .bringupRestart .. | .downHoldEnd .. | .fomWindowEnd .. | .spareCheck ..
  | .swapReq .. | .swapRdy .. | .swapDone .. | .swapFail .. | .dozeEnter .. | .linkDoze .. | .dozeWake .. | .restEnter .. | .restReq .. | .restAck ..
  | .wakeBeacon .. | .losDeclare .. | .qreqQuiesce .. | .linkQuiesce .. | .quiesceAck .. | .quiesceDrainEnd .. | .qreqResume .. | .forceSwap ..
  | .portTestMode .. | .qtzPortPwrWrite .. | .fomMinClr .. | .packetForward .. | .bulkRouteRetry .. | .packetTransmit .. | .localRepairReroute ..
  | .pktWr .. | .pktRd .. | .readAgentPush .. | .pktPush .. | .pktAmo .. | .pktSig .. | .pktRsp .. | .ctxTimeout .. | .quotaContextGranted ..
  | .quotaWaitTimeout .. | .busyResend .. | .helloSend .. | .linkHello .. | .helloTimeout .. | .mgReq .. | .mgPreq .. | .mgRsp .. | .mgPrsp ..
  | .mgExecute .. | .readReg .. | .writeReg .. | .getNbr .. | .setId .. | .rtWrite .. | .rtCommit .. | .setMoved .. | .mgTrap .. | .idMoved ..
  | .idReturn .. | .qtzPartCfgWrite .. | .partSnap .. | .grpActivationMark .. | .grpMarkResend .. | .grpActivateTimeout .. | .clxContrib ..
  | .clxResult .. | .clxAbort .. | .clxStepTimeout .. | .clxSlotTimeout .. | .twBeatSend .. | .twBeat .. | .twBindSend .. | .twBind ..
  | .bindTimeout .. | .agtBind .. | .agtUnbind .. | .twUnbind .. | .releasePeer .. | .twRelease .. | .agtMrWrite .. | .agtEpochGo .. | .hostEpoch ..
  | .epochStart .. | .twEpoch .. | .mirWr .. | .tableImageWrite .. | .takeoverStart .. | .takeoverProbe .. | .takeoverAssume .. | .agtAdopt ..
  | .twRestore .. | .resilverPassEnd .. | .agtHandback .. | .handbackDrainDone .. | .twHandback .. | .agtYield .. | .sqDoorbell .. | .cqDoorbell ..
  | .sqFetch .. | .msixTimer .. | .hstRingCfgWrite .. | .hstPartCtlWrite .. | .apertureRead .. | .apertureWrite .. | .hostLinkDown ..
  | .hostLinkUp .. | .hostNop .. | .hostLaunch .. | .launchClusterStart .. | .hostCopy .. | .copyDone .. | .partCreate .. | .partDestroy ..
  | .grant .. | .grantFillDone .. | .grantMod .. | .revoke .. | .mgSend .. | .mgRecv .. | .micaOpen .. | .micaClose .. | .micaFeed ..
  | .micaCredit .. | .cacheCfg .. | .micaPin .. | .pinScanDone .. | .micaDecodeStart .. | .micaDecodeDone .. | .micaLagBegin .. | .micaSnap ..
  | .jasperRun .. | .jasperBatchStart .. | .jasperBlockDone .. | .jasperBatchDone .. | .loopTick .. | .adcConversionDone .. | .pulsePeriod ..
  | .pulseInputLost .. | .tachTimeout .. | .lpCtlWrite .. | .lpSrcWrite .. | .lpParWrite .. | .lpCoefWrite .. | .plFaultClear .. | .smGo ..
  | .smStop .. | .smResume .. | .smFlush .. | .smHome .. | .smClear .. | .smSetpos .. | .smCtlWrite .. | .profileUpdate .. | .holdDelayExpire ..
  | .lowHeadroom .. | .vderRecover .. | .faultShort .. | .faultStall .. | .faultSupply .. | .clusterFail .. | .spareMapStart .. | .spareMapDone ..
  | .spareFlashDone .. | .spareReqGo .. | .sramRowRepairStart .. | .sramRowRepairDone .. | .dieHeartbeatToggle .. | .builtInTestFault ..
  | .undefinedInstruction .. | .fetchOutsideCodeRange .. | .clxLoadingWaitTimeout .. | .revokeDone .. | .mbResponseReady .. => none

/-- The word of an encoding in the form of its row (R164, R165). -/
def Parts.word (p : Parts) (form : Form) : Nat :=
  let h := p.cls * 4 + p.op * 64
  if p.x.long then 3 + h + p.x.pg.val * 2 ^ 12 + p.x.pn.toNat * 2 ^ 15 + p.f.rd * 2 ^ 16 + p.f.ra * 2 ^ 22 + p.f.rb * 2 ^ 28 + p.f.md * 2 ^ 34 + p.f.imm * 2 ^ 40
  else match form with
    | .i | .b | .u => 1 + h + p.f.rd * 2 ^ 12 + p.f.ra * 2 ^ 18 + p.f.imm % 256 * 2 ^ 24
    | _ => 1 + h + p.f.rd * 2 ^ 12 + p.f.ra * 2 ^ 18 + p.f.rb * 2 ^ 24 + p.f.md * 2 ^ 30

/-- Encode an instruction: its word, 32 bits or 64. -/
def encodeInsn (i : Instr) : Option Nat := i.parts.bind (fun p => (opRow p.cls p.op).map (fun r => p.word r.form))

/-- Whether parts can be encoded (R164 to R167): the row exists and allows the length; a short one has no guard and an immediate of eight bits; no reserved bit
is set. -/
def Parts.fits (p : Parts) : Bool :=
  match opRow p.cls p.op with
  | none => false
  | some r => r.form.allows p.x.long && !p.x.res && !r.reserved p.f && (p.x.long || (decide (p.x.pg = 0) && !p.x.pn && (match r.form with
    | .i => decide (p.f.imm = sext8 (p.f.imm % 256))
    | .b | .u => decide (p.f.imm < 256)
    | .m => false
    | _ => decide (p.f.imm = 0 ∧ p.f.md < 4))))

end Sys2Proof
end

