-- ==== Sys2Proof/Config.lean ====
section
/-! DEFINITION. Config.lean: the free values: what the spec leaves open, as constants without a body, so that no proof can rest on a value. -/

namespace Sys2Proof.Config

/-- A value the spec does not state, drawn at count n of State.free (log 2). -/
opaque freeNat : Nat → Nat
/-- A signed value the spec does not state. -/
opaque freeInt : Nat → Int
/-- A truth value the spec does not state. -/
opaque freeBool : Nat → Bool
/-- A byte the spec does not state. -/
opaque freeByte : Nat → Byte
/-- VEC.RCP.F of a finite nonzero binary32 value: within 1 ulp, one fixed function (R220). -/
opaque rcp : Lane → Lane
/-- VEC.RSQ.F of a positive finite binary32 value: within 1 ulp, one fixed function (R220). -/
opaque rsq : Lane → Lane
/-- VEC.EXP2.F of a finite binary32 value: within 2 ulp, one fixed function (R220). -/
opaque exp2 : Lane → Lane
/-- VEC.LOG2.F of a positive finite binary32 value: within 2 ulp, one fixed function (R220). -/
opaque log2 : Lane → Lane
/-- Jasper's sine of a finite binary32 value: within 1 ulp, one fixed function (R565). -/
opaque sine : Lane → Lane
/-- Jasper's cosine of a finite binary32 value: within 1 ulp, one fixed function (R565). -/
opaque cosine : Lane → Lane
/-- Byte k of the DATA of a log entry or error record, by its code or kind and its values: the spec names the values, not their places. -/
opaque dataByte : Nat → List Nat → Nat → Nat
/-- CRC-32 of a list of bytes: the spec names no polynomial. -/
opaque crc32 : List Nat → Nat
/-- The slot of the log window that SEQ 0 would take: the spec does not say where in the ring a SEQ lies. -/
opaque logBase : Nat
/-- The slot of the error-record ring that SEQ 0 would take. -/
opaque errBase : Nat
/-- The set, of 32,768, that a line of a Slate slice goes to, by the line's address: the choice is not specified (R246). -/
opaque slateSet : Nat → Nat
/-- The set, of 256, that a line of a near cache goes to, by the line's address: the spec does not state it. -/
opaque nearSet : Nat → Nat
/-- The ranges of the lost module's partition that a survivor adopts, as it knows them at a count of State.free (log 39). -/
opaque lostRanges : Nat → Nat → List MirRange

end Sys2Proof.Config
end

