-- ==== Sys2Proof/Machine/Float.lean ====
section
/-! DEFINITION. Machine/Float.lean: the number formats, rounding, and arithmetic of R202 to R213, computed exactly and rounded once. -/

namespace Sys2Proof.Machine

/-- An exact value of a floating-point format: NaN, an infinity, or ±m × 2^e. -/
inductive FV where
  | nan
  | inf (neg : Bool)
  | fin (neg : Bool) (m : Nat) (e : Int)
  deriving DecidableEq, Repr

/-- The three sticky flags of R210 as a mask: INVALID 1, OVERFLOW 2, INTSAT 4. -/
abbrev NumFlags := Nat

/-- A floating-point format of R202: exponent and fraction bits, bias, the code of the largest finite value, the code of +∞ and of the
canonical NaN where the format has them (R203). -/
structure FFmt where
  eb : Nat
  fb : Nat
  bias : Nat
  maxCode : Nat
  inf : Option Nat
  nan : Option Nat
  deriving DecidableEq, Repr

/-- binary32. -/
def fF32 : FFmt := ⟨8, 23, 127, 0x7F7FFFFF, some 0x7F800000, some 0x7FC00000⟩
/-- bfloat16. -/
def fBF16 : FFmt := ⟨8, 7, 127, 0x7F7F, some 0x7F80, some 0x7FC0⟩
/-- binary16. -/
def fF16 : FFmt := ⟨5, 10, 15, 0x7BFF, some 0x7C00, some 0x7E00⟩
/-- E4M3: no infinity, one NaN. -/
def fE4M3 : FFmt := ⟨4, 3, 7, 0x7E, none, some 0x7F⟩
/-- E5M2. -/
def fE5M2 : FFmt := ⟨5, 2, 15, 0x7B, some 0x7C, some 0x7E⟩
/-- E2M1: neither infinity nor NaN. -/
def fE2M1 : FFmt := ⟨2, 1, 1, 7, none, none⟩

/-- The sign bit's place in a format. -/
def FFmt.sign (f : FFmt) : Nat := f.eb + f.fb

/-- The value of a code of a format. -/
def FFmt.decode (f : FFmt) (x : Nat) : FV :=
  let neg := x / 2 ^ f.sign % 2 = 1
  let mag := x % 2 ^ f.sign
  let ex := mag / 2 ^ f.fb
  let fr := mag % 2 ^ f.fb
  if f.maxCode < mag then (if f.inf = some mag then .inf neg else .nan)
  else if ex = 0 then .fin neg fr (1 - f.bias - f.fb)
  else .fin neg (2 ^ f.fb + fr) ((ex : Int) - f.bias - f.fb)

/-- m × 2^k as an integer, rounded to nearest even or toward zero (R206). -/
def roundInt (rtz : Bool) (m : Nat) (k : Int) : Nat :=
  if 0 ≤ k then m * 2 ^ k.toNat
  else
    let d := (-k).toNat
    let q := m / 2 ^ d
    let r := m % 2 ^ d
    if rtz then q
    else if 2 * r < 2 ^ d then q
    else if 2 ^ d < 2 * r then q + 1
    else q + q % 2

/-- The magnitude code of m × 2^e (m > 0) rounded to a format, before the test for overflow: it may exceed the largest finite code. -/
def FFmt.roundMag (f : FFmt) (rtz : Bool) (m : Nat) (e : Int) : Nat :=
  let emin : Int := 1 - f.bias
  let top : Int := (Nat.log2 m : Int) + e
  let u : Int := max top emin - f.fb
  let q := roundInt rtz m (e - u)
  (u - (emin - f.fb)).toNat * 2 ^ f.fb + q

/-- A value rounded once to a format, with the flags it raises (R206 to R210). `nosat` concerns E4M3 and E5M2 only. -/
def FFmt.encode (f : FFmt) (rtz nosat : Bool) (x : FV) : Nat × NumFlags :=
  let s (neg : Bool) : Nat := if neg then 2 ^ f.sign else 0
  match x with
  | .nan => match f.nan with
    | some c => (c, 0)
    | none => (0, 1)
  | .inf neg => match f.inf, f.nan with
    | some c, _ => (s neg + c, 0)
    | none, some c => if nosat then (c, 1) else (s neg + f.maxCode, 2)
    | none, none => (s neg + f.maxCode, 2)
  | .fin neg m e =>
    if m = 0 then (s neg, 0)
    else
      let c := f.roundMag rtz m e
      if c ≤ f.maxCode then (s neg + c, 0)
      else if f = fE4M3 then (if nosat then (0x7F, 2) else (s neg + f.maxCode, 2))
      else if f = fE5M2 then (if nosat then (s neg + 0x7C, 2) else (s neg + f.maxCode, 2))
      else match f.inf with
        | some ic => (s neg + (if rtz then f.maxCode else ic), 2)
        | none => (s neg + f.maxCode, 2)

/-- A value rounded to a two's-complement integer of w bits: saturating with INTSAT, NaN gives 0 with INVALID (R209, R211). -/
def intEncode (w : Nat) (rtz : Bool) (x : FV) : Nat × NumFlags :=
  match x with
  | .nan => (0, 1)
  | .inf neg => (if neg then 2 ^ (w - 1) else 2 ^ (w - 1) - 1, 4)
  | .fin neg m e =>
    let n := roundInt rtz m e
    if neg then (if n ≤ 2 ^ (w - 1) then ((2 ^ w - n) % 2 ^ w, 0) else (2 ^ (w - 1), 4))
    else (if n < 2 ^ (w - 1) then (n, 0) else (2 ^ (w - 1) - 1, 4))

/-- The value of a w-bit two's-complement integer. -/
def intDecode (w x : Nat) : FV :=
  let x := x % 2 ^ w
  if x < 2 ^ (w - 1) then .fin false x 0 else .fin true (2 ^ w - x) 0

/-- ±m × 2^e as a signed multiple of 2^u, for u ≤ e. -/
def FV.scaled (neg : Bool) (m : Nat) (e u : Int) : Int :=
  let v : Int := (m * 2 ^ (e - u).toNat : Nat)
  if neg then -v else v

/-- The exact sum: ∞ − ∞ is invalid; an exact zero sum is +0 unless both addends are −0 (R206, R207). -/
def FV.add (a b : FV) : FV × NumFlags :=
  match a, b with
  | .nan, _ => (.nan, 0)
  | _, .nan => (.nan, 0)
  | .inf x, .inf y => if x = y then (.inf x, 0) else (.nan, 1)
  | .inf x, .fin _ _ _ => (.inf x, 0)
  | .fin _ _ _, .inf y => (.inf y, 0)
  | .fin n1 m1 e1, .fin n2 m2 e2 =>
    if m1 = 0 ∧ m2 = 0 then (.fin (n1 && n2) 0 0, 0)
    else
      let u := min e1 e2
      let v := FV.scaled n1 m1 e1 u + FV.scaled n2 m2 e2 u
      (.fin (decide (v < 0)) v.natAbs u, 0)

/-- The exact negation. -/
def FV.neg : FV → FV
  | .nan => .nan
  | .inf n => .inf (!n)
  | .fin n m e => .fin (!n) m e

/-- The exact product: 0 × ∞ is invalid (R207). -/
def FV.mul (a b : FV) : FV × NumFlags :=
  match a, b with
  | .nan, _ => (.nan, 0)
  | _, .nan => (.nan, 0)
  | .inf x, .inf y => (.inf (xor x y), 0)
  | .inf x, .fin y m _ => if m = 0 then (.nan, 1) else (.inf (xor x y), 0)
  | .fin x m _, .inf y => if m = 0 then (.nan, 1) else (.inf (xor x y), 0)
  | .fin x m1 e1, .fin y m2 e2 => (.fin (xor x y) (m1 * m2) (e1 + e2), 0)

/-- A quotient exact to 64 bits and a sticky bit below them, enough for one correct rounding; 0 ÷ 0 and ∞ ÷ ∞ are invalid (R207). -/
def FV.div (a b : FV) : FV × NumFlags :=
  match a, b with
  | .nan, _ => (.nan, 0)
  | _, .nan => (.nan, 0)
  | .inf _, .inf _ => (.nan, 1)
  | .inf x, .fin y _ _ => (.inf (xor x y), 0)
  | .fin x _ _, .inf y => (.fin (xor x y) 0 0, 0)
  | .fin x m1 e1, .fin y m2 e2 =>
    if m2 = 0 then (if m1 = 0 then (.nan, 1) else (.inf (xor x y), 0))
    else if m1 = 0 then (.fin (xor x y) 0 0, 0)
    else
      let n := m1 * 2 ^ 64
      (.fin (xor x y) (2 * (n / m2) + (if n % m2 = 0 then 0 else 1)) (e1 - e2 - 65), 0)

/-- The integer square root by bits: the largest r with r² ≤ m, for m below 2^(2k). -/
def isqrt : Nat → Nat → Nat → Nat
  | 0, _, r => r
  | k + 1, m, r => if (r + 2 ^ k) * (r + 2 ^ k) ≤ m then isqrt k m (r + 2 ^ k) else isqrt k m r

/-- A square root exact to its integer part at 2⁻³² of a unit and a sticky bit; of a number below −0 it is invalid (R207). -/
def FV.sqrt (a : FV) : FV × NumFlags :=
  match a with
  | .nan => (.nan, 0)
  | .inf n => if n then (.nan, 1) else (.inf false, 0)
  | .fin n m e =>
    if m = 0 then (.fin n 0 0, 0)
    else if n then (.nan, 1)
    else
      let odd := e % 2 = 1
      let m' := (if odd then 2 * m else m) * 2 ^ 64
      let e' := (if odd then e - 1 else e) - 64
      let r := isqrt 48 m' 0
      (.fin false (2 * r + (if r * r = m' then 0 else 1)) (e' / 2 - 1), 0)

/-- a < b of values that are no NaN, with −0 below +0 when `ordZero` (R207). -/
def FV.lt (ordZero : Bool) (a b : FV) : Bool :=
  match a, b with
  | .nan, _ => false
  | _, .nan => false
  | .inf x, .inf y => x && !y
  | .inf x, .fin _ _ _ => x
  | .fin _ _ _, .inf y => !y
  | .fin n1 m1 e1, .fin n2 m2 e2 =>
    if m1 = 0 ∧ m2 = 0 then ordZero && n1 && !n2
    else
      let u := min e1 e2
      decide (FV.scaled n1 m1 e1 u < FV.scaled n2 m2 e2 u)

/-- The value of a binary32 lane. -/
def f32 (x : Lane) : FV := fF32.decode x.toNat

/-- A value rounded to a binary32 lane. -/
def toF32 (r : FV × NumFlags) : Lane × NumFlags :=
  let c := fF32.encode false false r.1
  (BitVec.ofNat 32 c.1, r.2 ||| c.2)

/-- binary32 addition (R206). -/
def addF (a b : Lane) : Lane × NumFlags := toF32 ((f32 a).add (f32 b))
/-- binary32 subtraction. -/
def subF (a b : Lane) : Lane × NumFlags := toF32 ((f32 a).add (f32 b).neg)
/-- binary32 multiplication. -/
def mulF (a b : Lane) : Lane × NumFlags := toF32 ((f32 a).mul (f32 b))
/-- binary32 division, correctly rounded. -/
def divF (a b : Lane) : Lane × NumFlags := toF32 ((f32 a).div (f32 b))
/-- binary32 square root, correctly rounded. -/
def sqrtF (a : Lane) : Lane × NumFlags := toF32 (f32 a).sqrt

/-- a × b + d with one rounding (R213): an invalid product gives NaN whatever d; INVALID is not set where d is itself a NaN (R210). -/
def fmaF (a b d : Lane) : Lane × NumFlags :=
  let p := (f32 a).mul (f32 b)
  let r := p.1.add (f32 d)
  toF32 (r.1, if f32 d = .nan then 0 else p.2 ||| r.2)

/-- The canonical NaN of binary32 (R203). -/
def nanF : Lane := 0x7FC00000

/-- The smaller operand: a single NaN gives the other operand, −0 lies below +0 (R207). -/
def minF (a b : Lane) : Lane :=
  if f32 a = .nan then (if f32 b = .nan then nanF else b)
  else if f32 b = .nan then a
  else if FV.lt true (f32 b) (f32 a) then b else a

/-- The larger operand, under the same rules. -/
def maxF (a b : Lane) : Lane :=
  if f32 a = .nan then (if f32 b = .nan then nanF else b)
  else if f32 b = .nan then a
  else if FV.lt true (f32 a) (f32 b) then b else a

/-- binary32 equality: NaN equals nothing, −0 equals +0. -/
def eqF (a b : Lane) : Bool :=
  f32 a != .nan && f32 b != .nan && !FV.lt false (f32 a) (f32 b) && !FV.lt false (f32 b) (f32 a)

/-- binary32 less than. -/
def ltF (a b : Lane) : Bool := FV.lt false (f32 a) (f32 b)

/-- A result of a fixed function with the OVERFLOW that an infinite result of a finite input brings (R210). -/
def ovF (r : Lane) : Lane × NumFlags := (r, if r.toNat % 0x80000000 = 0x7F800000 then 2 else 0)

/-- 1/x (R220): the special inputs by IEEE 754, the rest one fixed function whose value the spec does not state. -/
def rcpF (a : Lane) : Lane × NumFlags :=
  match f32 a with
  | .nan => (nanF, 0)
  | .inf n => (if n then 0x80000000 else 0, 0)
  | .fin n m _ => 
    if m = 0 then (if n then 0xFF800000 else 0x7F800000, 0)
    else
      let d := divF 0x3F800000 a
      if d.2 = 2 then d else ovF (Config.rcp a)

/-- 1/√x (R220): 1/√(−0) is −∞; of a negative number it is NaN, an invalid operation as the square root is (R207). -/
def rsqF (a : Lane) : Lane × NumFlags :=
  match f32 a with
  | .nan => (nanF, 0)
  | .inf n => if n then (nanF, 1) else (0, 0)
  | .fin n m _ =>
    if m = 0 then (if n then 0xFF800000 else 0x7F800000, 0) else if n then (nanF, 1) else (Config.rsq a, 0)

/-- 2^x (R220). -/
def exp2F (a : Lane) : Lane × NumFlags :=
  match f32 a with
  | .nan => (nanF, 0)
  | .inf n => (if n then 0 else 0x7F800000, 0)
  | .fin n m _ =>
    if m = 0 then (0x3F800000, 0)
    else if !n && !ltF a 0x43000000 then (0x7F800000, 2)
    else ovF (Config.exp2 a)

/-- log₂ x (R220, R207). -/
def log2F (a : Lane) : Lane × NumFlags :=
  match f32 a with
  | .nan => (nanF, 0)
  | .inf n => if n then (nanF, 1) else (0x7F800000, 0)
  | .fin n m _ => if m = 0 then (0xFF800000, 0) else if n then (nanF, 1) else (Config.log2 a, 0)

/-- The element formats of R205 but for the MXINT8 element. -/
def fmtOf : Nat → Option FFmt
  | 0 => some fF32
  | 1 => some fBF16
  | 2 => some fF16
  | 3 => some fE4M3
  | 4 => some fE5M2
  | 5 => some fE2M1
  | _ => none

/-- The width in bits of an element format code, if the code is defined (R205). -/
def codeWidth : Nat → Option Nat
  | 0 => some 32
  | 1 => some 16
  | 2 => some 16
  | 3 => some 8
  | 4 => some 8
  | 5 => some 4
  | 8 => some 32
  | 9 => some 8
  | 10 => some 4
  | 11 => some 8
  | _ => none

/-- Whether a code names a floating-point format. -/
def codeFloat (c : Nat) : Bool := decide (c ≤ 5)

/-- The exact value of an element of a code; MXINT8 is n × 2⁻⁶ (R202). -/
def elemDecode (c x : Nat) : FV :=
  match fmtOf c with
  | some f => f.decode x
  | none =>
    if c = 11 then (match intDecode 8 x with
      | .fin n m _ => .fin n m (-6)
      | v => v)
    else intDecode ((codeWidth c).getD 32) x

/-- A value converted to an element of a code (R209, R211): MXINT8 saturates at ±127 × 2⁻⁶ and NaN gives +0 with INVALID. -/
def elemEncode (c : Nat) (rtz nosat : Bool) (x : FV) : Nat × NumFlags :=
  match fmtOf c with
  | some f => f.encode rtz nosat x
  | none =>
    if c = 11 then (match x with
      | .nan => (0, 1)
      | .inf n => (if n then 0x81 else 0x7F, 2)
      | .fin n m e =>
        let r := intEncode 8 rtz (.fin n m (e + 6))
        if r.2 = 4 ∨ r.1 = 0x80 then (if n then 0x81 else 0x7F, 2) else r)
    else intEncode ((codeWidth c).getD 32) rtz x

/-- A natural number as binary32. -/
def natF (n : Nat) : Lane := (toF32 (.fin false n 0, 0)).1

/-- An integer as binary32. -/
def intF (n : Int) : Lane := (toF32 (.fin (decide (n < 0)) n.natAbs 0, 0)).1

/-- A quotient of naturals rounded to binary32. -/
def ratF (a b : Nat) : Lane := (toF32 ((FV.fin false a 0).div (.fin false b 0))).1

/-- The floor of a binary32 value; 0 for one that is not finite. -/
def floorF (x : Lane) : Int := match f32 x with
  | .fin neg m e =>
    if 0 ≤ e then (if neg then -((m * 2 ^ e.toNat : Nat) : Int) else ((m * 2 ^ e.toNat : Nat) : Int))
    else
      let d : Int := ((2 ^ (-e).toNat : Nat) : Int)
      (if neg then -(m : Int) else (m : Int)) / d
  | _ => 0

/-- The binary32 sum, difference, product and quotient without their flags. -/
def fAdd (a b : Lane) : Lane := (addF a b).1
/-- The difference. -/
def fSub (a b : Lane) : Lane := (subF a b).1
/-- The product. -/
def fMul (a b : Lane) : Lane := (mulF a b).1
/-- The quotient. -/
def fDiv (a b : Lane) : Lane := (divF a b).1

end Sys2Proof.Machine
end

