-- ==== Sys2Proof/Machine/Codes.lean ====
section
/-! DEFINITION. Machine/Codes.lean: fault codes (R18, R196): the name in bits [7:0], the qualifier in bits [15:8]. -/

namespace Sys2Proof.Machine.Code

/-- Success (R196). -/
def ok : Nat := 0
/-- UNIT_ABSENT (R196). -/
def unitAbsent : Nat := 1
/-- SIZE_MISMATCH with a qualifier. -/
def size (q : Nat) : Nat := 256 * q + 2
/-- FORMAT with a qualifier. -/
def format (q : Nat) : Nat := 256 * q + 3
/-- ADDR with a qualifier. -/
def addr (q : Nat) : Nat := 256 * q + 4
/-- PERM with a qualifier. -/
def perm (q : Nat) : Nat := 256 * q + 5
/-- QUOTA. -/
def quota (q : Nat) : Nat := 256 * q + 6
/-- TIMEOUT with a qualifier. -/
def timeout (q : Nat) : Nat := 256 * q + 7
/-- BUSY with a qualifier. -/
def busy (q : Nat) : Nat := 256 * q + 8
/-- SUPERSEDED. -/
def superseded (q : Nat) : Nat := 256 * q + 9
/-- STALE. -/
def stale (q : Nat) : Nat := 256 * q + 10
/-- TAKEOVER with a qualifier. -/
def takeover (q : Nat) : Nat := 256 * q + 11
/-- POISON with a qualifier. -/
def poison (q : Nat) : Nat := 256 * q + 12

end Sys2Proof.Machine.Code
end

