-- ==== Sys2Proof/Machine/Map.lean ====
section
/-! DEFINITION. Machine/Map.lean: a sparse map from numbers to data, as plain data: a list of (key, value) pairs with strictly rising keys. -/

namespace Sys2Proof.Machine

/-- A sparse map: its canonical form lists each key once, keys strictly rising. -/
abbrev SMap (α : Type) := List (Nat × α)

/-- The value listed at a key. -/
def SMap.find {α : Type} : SMap α → Nat → Option α
  | [], _ => none
  | (k, v) :: t, x => if k = x then some v else SMap.find t x

/-- The value at a key, with the value an unlisted key reads as. -/
def SMap.get {α : Type} (m : SMap α) (d : α) (x : Nat) : α := (SMap.find m x).getD d

/-- List a value at a key, in its place. -/
def SMap.put {α : Type} : SMap α → Nat → α → SMap α
  | [], x, v => [(x, v)]
  | (k, w) :: t, x, v =>
    if x < k then (x, v) :: (k, w) :: t
    else if x = k then (x, v) :: t
    else (k, w) :: SMap.put t x v

/-- Remove a key. -/
def SMap.del {α : Type} : SMap α → Nat → SMap α
  | [], _ => []
  | (k, w) :: t, x => if k = x then SMap.del t x else (k, w) :: SMap.del t x

/-- Set a key in a map whose unlisted keys read as d: setting d removes the key, so that equal maps are equal lists. -/
def SMap.set {α : Type} [DecidableEq α] (m : SMap α) (d : α) (x : Nat) (v : α) : SMap α :=
  if v = d then SMap.del m x else SMap.put m x v

/-- Keys strictly rise from a lower bound on. -/
def SMap.sortedFrom {α : Type} : Nat → SMap α → Bool
  | _, [] => true
  | b, (k, _) :: t => decide (b ≤ k) && SMap.sortedFrom (k + 1) t

/-- The keys strictly rise. -/
def SMap.sorted {α : Type} (m : SMap α) : Bool := SMap.sortedFrom 0 m

end Sys2Proof.Machine
end

