-- ==== Sys2Proof/Machine/Field.lean ====
section
/-! DEFINITION. Machine/Field.lean: what a register field is: where it lies, how it is accessed, and what each reset leaves in it (R16, R17, R33). -/

namespace Sys2Proof.Machine

/-- The access types of R16. -/
inductive Acc where
  | ro | rw | wo | w1c | w1s | rwl
  deriving DecidableEq, Repr

/-- What the first index of a register array names. -/
inductive Ix where
  | dev | isl | clu | sli | stk | port | bank | part | crec | mr | ring | gra | str | lp | sm | die
  deriving DecidableEq, Repr

/-- A reset value that depends on the index: the same for all, another value on index 15 (loop channel 15, R587), the index itself
(PHASE, R587), the class minimum of an island (R46), the shipped spare map (R641), KP and KI of channel 15 (R587). -/
inductive DSpec where
  | none | idx | effCode | errMap
  | coef15 (v : Nat)
  | ch15 (v : Nat)
  deriving DecidableEq, Repr

/-- One field of a register table. `kinds` says which reset types besides cold restore the reset value: bit 0 module, bit 1 partition,
bit 2 island, bit 3 link. Instance (i, j) of a register array lies at addr + i × s1 + j × s2. -/
structure Fld where
  addr : Nat
  lo : Nat
  w : Nat
  acc : Acc
  d : Nat
  kinds : Nat
  ix : Ix
  s1 : Nat
  n1 : Nat
  s2 : Nat
  n2 : Nat
  mb : Bool
  ex : Nat
  sp : DSpec
  deriving DecidableEq, Repr

/-- The register address of instance (i, j). -/
def Fld.regAddr (f : Fld) (i j : Nat) : Nat := f.addr + i * f.s1 + j * f.s2

/-- The key of a field in the register map: 64 keys for each register address, the field's lowest bit among them. -/
def Fld.key (f : Fld) (i j : Nat) : Nat := 64 * f.regAddr i j + f.lo

/-- The class-minimum frequency code of an island after reset: 64 for the port groups and the HBM controllers, 80 for the PCI Express
controller, 16 for the rest (R46 step 6, the ISL_FREQ table). -/
def effCodeReset (i : Nat) : Nat :=
  if (288 ≤ i ∧ i ≤ 292) ∨ (295 ≤ i ∧ i ≤ 302) then 64 else if i = 303 then 80 else 16

/-- Byte b of register j of the shipped spare map: position 8j + b. DESIGN CHOICE (log 4): R641 lets the fuses name any positions. -/
def errMapReset (j : Nat) : Nat :=
  (List.range 8).foldl (fun acc b => acc + (8 * j + b) * 2 ^ (8 * b)) 0

/-- The reset value of instance (i, j) of a field. -/
def Fld.dflt (f : Fld) (i j : Nat) : Nat :=
  match f.sp with
  | .none => f.d
  | .idx => i
  | .effCode => effCodeReset i
  | .errMap => errMapReset j
  | .coef15 v => if i = 15 ∧ j = 0 then v else 0
  | .ch15 v => if i = 15 then v else f.d

/-- The instance of a field that a key names, if the key names one. -/
def Fld.inst (f : Fld) (k : Nat) : Option (Nat × Nat) :=
  if k % 64 = f.lo ∧ f.addr ≤ k / 64 then
    let o := k / 64 - f.addr
    let i := if f.s1 = 0 then 0 else o / f.s1
    let r := if f.s1 = 0 then o else o % f.s1
    let j := if f.s2 = 0 then 0 else r / f.s2
    if f.regAddr i j = k / 64 ∧ i < f.n1 ∧ j < f.n2 then some (i, j) else none
  else none

end Sys2Proof.Machine
end

