-- ==== Sys2Proof/Machine/RegsA.lean ====
section
/-! DEFINITION. Machine/RegsA.lean: the fields of the DEV, ISL, FLT and CLU register blocks, one constant per field of a register table of spec/
(the manual's own name: register, underscore, field). The columns are those of `Fld`: address of instance 0, lowest bit, width, access,
reset value, reset types that restore it, what the first index names, strides and counts, MB, expert, index-dependent reset. -/

namespace Sys2Proof.Machine.F

def DEV_CAP0_VARIANT : Fld := ⟨0xFF0000000000, 0, 4, .ro, 0, 0, .dev, 0x0, 1, 0x0, 1, false, 0, .none⟩
def DEV_CAP0_MICA_PRES : Fld := ⟨0xFF0000000000, 4, 1, .ro, 0, 0, .dev, 0x0, 1, 0x0, 1, false, 0, .none⟩
def DEV_CAP0_JASPER_PRES : Fld := ⟨0xFF0000000000, 5, 1, .ro, 0, 0, .dev, 0x0, 1, 0x0, 1, false, 0, .none⟩
def DEV_CAP0_SLATE_PRES : Fld := ⟨0xFF0000000000, 6, 1, .ro, 0, 0, .dev, 0x0, 1, 0x0, 1, false, 0, .none⟩
def DEV_CAP0_AGATE_PRES : Fld := ⟨0xFF0000000000, 7, 1, .ro, 0, 0, .dev, 0x0, 1, 0x0, 1, false, 0, .none⟩
def DEV_CAP0_HBM_STACK_MASK : Fld := ⟨0xFF0000000000, 8, 8, .ro, 0, 0, .dev, 0x0, 1, 0x0, 1, false, 0, .none⟩
def DEV_CAP0_ESYEL_PORT_MASK : Fld := ⟨0xFF0000000000, 16, 16, .ro, 0, 0, .dev, 0x0, 1, 0x0, 1, false, 0, .none⟩
def DEV_CAP0_ACTIVE_CLUSTERS : Fld := ⟨0xFF0000000000, 32, 9, .ro, 0, 0, .dev, 0x0, 1, 0x0, 1, false, 0, .none⟩
def DEV_CAP0_SPARE_PHYS : Fld := ⟨0xFF0000000000, 41, 7, .ro, 0, 0, .dev, 0x0, 1, 0x0, 1, false, 0, .none⟩
def DEV_CAP0_PART_MAX_M1 : Fld := ⟨0xFF0000000000, 48, 4, .ro, 0, 0, .dev, 0x0, 1, 0x0, 1, false, 0, .none⟩
def ISL_SUMMARY_STRETCH : Fld := ⟨0xFF0000100000, 0, 1, .w1c, 0, 1, .dev, 0x0, 1, 0x0, 1, false, 0, .none⟩
def ISL_SUMMARY_SAG : Fld := ⟨0xFF0000100000, 1, 1, .w1c, 0, 1, .dev, 0x0, 1, 0x0, 1, false, 0, .none⟩
def ISL_SUMMARY_ENV : Fld := ⟨0xFF0000100000, 2, 1, .w1c, 0, 1, .dev, 0x0, 1, 0x0, 1, false, 0, .none⟩
def ISL_SUMMARY_FLT : Fld := ⟨0xFF0000100000, 3, 1, .w1c, 0, 1, .dev, 0x0, 1, 0x0, 1, false, 0, .none⟩
def ISL_CEIL_CEIL_EFF : Fld := ⟨0xFF0000100008, 0, 8, .ro, 128, 15, .dev, 0x0, 1, 0x0, 1, false, 0, .none⟩
def ISL_CEIL_CEIL_SAG : Fld := ⟨0xFF0000100008, 8, 8, .ro, 128, 15, .dev, 0x0, 1, 0x0, 1, false, 0, .none⟩
def ISL_CEIL_CEIL_ENV : Fld := ⟨0xFF0000100008, 16, 8, .ro, 128, 15, .dev, 0x0, 1, 0x0, 1, false, 0, .none⟩
def ISL_CEIL_CEIL_FLT : Fld := ⟨0xFF0000100008, 24, 8, .ro, 128, 15, .dev, 0x0, 1, 0x0, 1, false, 0, .none⟩
def ISL_CEIL_V48_LVL : Fld := ⟨0xFF0000100008, 32, 2, .ro, 0, 15, .dev, 0x0, 1, 0x0, 1, false, 0, .none⟩
def ISL_CEIL_LAST_CAUSE : Fld := ⟨0xFF0000100008, 34, 2, .ro, 0, 1, .dev, 0x0, 1, 0x0, 1, false, 0, .none⟩
def ISL_CEIL_LAST : Fld := ⟨0xFF0000100010, 0, 64, .ro, 0, 1, .dev, 0x0, 1, 0x0, 1, false, 0, .none⟩
def ISL_CEIL_T_SAG : Fld := ⟨0xFF0000100018, 0, 64, .ro, 0, 1, .dev, 0x0, 1, 0x0, 1, false, 0, .none⟩
def ISL_CEIL_T_ENV : Fld := ⟨0xFF0000100020, 0, 64, .ro, 0, 1, .dev, 0x0, 1, 0x0, 1, false, 0, .none⟩
def ISL_CEIL_T_FLT : Fld := ⟨0xFF0000100028, 0, 64, .ro, 0, 1, .dev, 0x0, 1, 0x0, 1, false, 0, .none⟩
def ISL_V48_V48_NOW : Fld := ⟨0xFF0000100030, 0, 16, .ro, 0, 15, .dev, 0x0, 1, 0x0, 1, false, 0, .none⟩
def ISL_V48_V48_MIN : Fld := ⟨0xFF0000100030, 16, 16, .ro, 0xffff, 1, .dev, 0x0, 1, 0x0, 1, false, 0, .none⟩
def ISL_V48_MIN_CLR : Fld := ⟨0xFF0000100030, 32, 1, .wo, 0, 15, .dev, 0x0, 1, 0x0, 1, false, 0, .none⟩
def ISL_PWR_CAP_CAP_W : Fld := ⟨0xFF0000100038, 0, 10, .rw, 0x258, 0, .dev, 0x0, 1, 0x0, 1, false, 0, .none⟩
def ISL_PWR_CAP_CAP_REJ : Fld := ⟨0xFF0000100038, 10, 1, .w1c, 0, 0, .dev, 0x0, 1, 0x0, 1, false, 0, .none⟩
def ISL_PSTATE_DEV : Fld := ⟨0xFF0000100040, 0, 2, .rw, 1, 1, .dev, 0x0, 1, 0x0, 1, false, 0, .none⟩
def ISL_PSTATE_PART : Fld := ⟨0xFF0000100040, 2, 32, .rw, 0x55555555, 3, .dev, 0x0, 1, 0x0, 1, false, 0, .none⟩
def ISL_WR_REJ_COUNT : Fld := ⟨0xFF0000100048, 0, 32, .ro, 0, 1, .dev, 0x0, 1, 0x0, 1, false, 0, .none⟩
def ISL_FREQ_REQ_CODE : Fld := ⟨0xFF0000110000, 0, 8, .rw, 0, 3, .isl, 0x400, 305, 0x0, 1, false, 0, .none⟩
def ISL_FREQ_EFF_CODE : Fld := ⟨0xFF0000110000, 8, 8, .ro, 16, 0, .isl, 0x400, 305, 0x0, 1, false, 0, .effCode⟩
def ISL_FREQ_STR_LVL : Fld := ⟨0xFF0000110000, 16, 2, .ro, 0, 15, .isl, 0x400, 305, 0x0, 1, false, 0, .none⟩
def ISL_FREQ_LAST_LVL : Fld := ⟨0xFF0000110000, 18, 2, .ro, 0, 1, .isl, 0x400, 305, 0x0, 1, false, 0, .none⟩
def ISL_FREQ_FMT_REJ : Fld := ⟨0xFF0000110000, 20, 1, .w1c, 0, 3, .isl, 0x400, 305, 0x0, 1, false, 0, .none⟩
def ISL_FREQ_PERM_REJ : Fld := ⟨0xFF0000110000, 21, 1, .w1c, 0, 3, .isl, 0x400, 305, 0x0, 1, false, 0, .none⟩
def ISL_STR_CFG_RECOV_HOLD : Fld := ⟨0xFF0000110008, 0, 6, .rw, 2, 3, .isl, 0x400, 305, 0x0, 1, false, 0, .none⟩
def ISL_STR_CNT_N875 : Fld := ⟨0xFF0000110010, 0, 20, .ro, 0, 1, .isl, 0x400, 305, 0x0, 1, false, 0, .none⟩
def ISL_STR_CNT_N75 : Fld := ⟨0xFF0000110010, 20, 20, .ro, 0, 1, .isl, 0x400, 305, 0x0, 1, false, 0, .none⟩
def ISL_STR_CNT_N50 : Fld := ⟨0xFF0000110010, 40, 20, .ro, 0, 1, .isl, 0x400, 305, 0x0, 1, false, 0, .none⟩
def ISL_STR_T875 : Fld := ⟨0xFF0000110018, 0, 64, .ro, 0, 1, .isl, 0x400, 305, 0x0, 1, false, 0, .none⟩
def ISL_STR_T75 : Fld := ⟨0xFF0000110020, 0, 64, .ro, 0, 1, .isl, 0x400, 305, 0x0, 1, false, 0, .none⟩
def ISL_STR_T50 : Fld := ⟨0xFF0000110028, 0, 64, .ro, 0, 1, .isl, 0x400, 305, 0x0, 1, false, 0, .none⟩
def ISL_STR_LAST : Fld := ⟨0xFF0000110030, 0, 64, .ro, 0, 1, .isl, 0x400, 305, 0x0, 1, false, 0, .none⟩
def ISL_SENSE_RAIL_MV : Fld := ⟨0xFF0000110038, 0, 12, .ro, 0, 15, .isl, 0x400, 305, 0x0, 1, false, 0, .none⟩
def ISL_SENSE_SET_MV : Fld := ⟨0xFF0000110038, 12, 12, .ro, 0, 15, .isl, 0x400, 305, 0x0, 1, false, 0, .none⟩
def ISL_SENSE_SENSOR_FLT : Fld := ⟨0xFF0000110038, 24, 1, .ro, 0, 5, .isl, 0x400, 305, 0x0, 1, false, 0, .none⟩
def FLT_STAT_DIE_OK : Fld := ⟨0xFF0009000000, 0, 5, .ro, 0, 1, .dev, 0x0, 1, 0x0, 1, false, 0, .none⟩
def FLT_STAT_DIE_ERR : Fld := ⟨0xFF0009000000, 5, 5, .ro, 0, 0, .dev, 0x0, 1, 0x0, 1, false, 0, .none⟩
def FLT_STAT_TWIN_RX : Fld := ⟨0xFF0009000000, 10, 2, .ro, 2, 0, .dev, 0x0, 1, 0x0, 1, false, 0, .none⟩
def FLT_STAT_TWIN_ST : Fld := ⟨0xFF0009000000, 12, 2, .ro, 0, 0, .dev, 0x0, 1, 0x0, 1, false, 0, .none⟩
def FLT_STAT_HOST_SIL : Fld := ⟨0xFF0009000000, 14, 1, .ro, 0, 1, .dev, 0x0, 1, 0x0, 1, false, 0, .none⟩
def FLT_STAT_PKG_FAIL : Fld := ⟨0xFF0009000000, 15, 1, .ro, 0, 0, .dev, 0x0, 1, 0x0, 1, false, 0, .none⟩
def FLT_HB_CFG_DIE_HB_T : Fld := ⟨0xFF0009000008, 0, 7, .rw, 10, 0, .dev, 0x0, 1, 0x0, 1, true, 0, .none⟩
def FLT_HB_CFG_HOST_T : Fld := ⟨0xFF0009000008, 7, 10, .rw, 30, 0, .dev, 0x0, 1, 0x0, 1, true, 0, .none⟩
def FLT_HB_CFG_SILENCE_T : Fld := ⟨0xFF0009000008, 17, 13, .rw, 200, 0, .dev, 0x0, 1, 0x0, 1, true, 0, .none⟩
def FLT_HB_CFG_QUIESCE_T : Fld := ⟨0xFF0009000008, 30, 10, .rw, 10, 0, .dev, 0x0, 1, 0x0, 1, true, 0, .none⟩
def FLT_HB_CFG_FMT_REJ : Fld := ⟨0xFF0009000008, 40, 1, .w1c, 0, 0, .dev, 0x0, 1, 0x0, 1, true, 0, .none⟩
def FLT_HOST_HB_WORD : Fld := ⟨0xFF0009000010, 0, 32, .rw, 0, 1, .dev, 0x0, 1, 0x0, 1, false, 0, .none⟩
def FLT_HOST_HB_ARMED : Fld := ⟨0xFF0009000010, 32, 1, .ro, 0, 1, .dev, 0x0, 1, 0x0, 1, false, 0, .none⟩
def FLT_HOST_HB_DISARM : Fld := ⟨0xFF0009000010, 33, 1, .wo, 0, 15, .dev, 0x0, 1, 0x0, 1, false, 0, .none⟩
def FLT_ALERT_STAT_CAUSE : Fld := ⟨0xFF0009000018, 0, 11, .w1c, 0, 0, .dev, 0x0, 1, 0x0, 1, true, 0, .none⟩
def FLT_ALERT_MASK_CAUSE : Fld := ⟨0xFF0009000020, 0, 11, .rw, 0x7ff, 0, .dev, 0x0, 1, 0x0, 1, true, 0, .none⟩
def FLT_ALONE_ACTIVE : Fld := ⟨0xFF0009000028, 0, 1, .ro, 0, 0, .dev, 0x0, 1, 0x0, 1, false, 0, .none⟩
def FLT_ALONE_QUIESCED : Fld := ⟨0xFF0009000028, 1, 16, .ro, 0, 3, .dev, 0x0, 1, 0x0, 1, false, 0, .none⟩
def FLT_ALONE_RELEASE : Fld := ⟨0xFF0009000028, 17, 1, .wo, 0, 15, .dev, 0x0, 1, 0x0, 1, false, 0, .none⟩
def FLT_ALONE_LAST_BY : Fld := ⟨0xFF0009000028, 18, 2, .ro, 0, 0, .dev, 0x0, 1, 0x0, 1, false, 0, .none⟩
def FLT_EXPERT_EN_EN : Fld := ⟨0xFF0009000030, 0, 1, .rw, 0, 0, .dev, 0x0, 1, 0x0, 1, true, 0, .none⟩
def FLT_FW_STAT_RUN_BANK : Fld := ⟨0xFF0009000038, 0, 1, .ro, 0, 0, .dev, 0x0, 1, 0x0, 1, false, 0, .none⟩
def FLT_FW_STAT_ACT_BANK : Fld := ⟨0xFF0009000038, 1, 1, .ro, 0, 0, .dev, 0x0, 1, 0x0, 1, false, 0, .none⟩
def FLT_FW_STAT_TRIAL : Fld := ⟨0xFF0009000038, 2, 1, .ro, 0, 0, .dev, 0x0, 1, 0x0, 1, false, 0, .none⟩
def FLT_FW_STAT_RECOVERY : Fld := ⟨0xFF0009000038, 3, 1, .ro, 0, 0, .dev, 0x0, 1, 0x0, 1, false, 0, .none⟩
def FLT_FW_STAT_VALID : Fld := ⟨0xFF0009000038, 4, 2, .ro, 0, 0, .dev, 0x0, 1, 0x0, 1, false, 0, .none⟩
def FLT_LOG_HEAD_SEQ : Fld := ⟨0xFF0009000040, 0, 32, .ro, 0, 0, .dev, 0x0, 1, 0x0, 1, false, 0, .none⟩
def FLT_LOG_HEAD_LOG_LOST : Fld := ⟨0xFF0009000040, 32, 16, .ro, 0, 0, .dev, 0x0, 1, 0x0, 1, false, 0, .none⟩
def FLT_LOG_ACK_SEQ : Fld := ⟨0xFF0009000048, 0, 32, .rw, 0, 0, .dev, 0x0, 1, 0x0, 1, true, 0, .none⟩
def FLT_SCAN_SCAN_EN : Fld := ⟨0xFF0009000050, 0, 1, .rw, 0, 0, .dev, 0x0, 1, 0x0, 1, true, 0, .none⟩
def FLT_WR_REJ_COUNT : Fld := ⟨0xFF0009000058, 0, 32, .ro, 0, 0, .dev, 0x0, 1, 0x0, 1, false, 0, .none⟩
def FLT_MB_ERR_COUNT : Fld := ⟨0xFF0009000060, 0, 32, .ro, 0, 0, .dev, 0x0, 1, 0x0, 1, false, 0, .none⟩
def DEV_START_STAGE : Fld := ⟨0xFF0000000100, 0, 4, .ro, 6, 1, .dev, 0x0, 1, 0x0, 1, false, 0, .none⟩
def DEV_START_ID_OK : Fld := ⟨0xFF0000000100, 4, 1, .ro, 0, 1, .dev, 0x0, 1, 0x0, 1, false, 0, .none⟩
def DEV_START_RT_OK : Fld := ⟨0xFF0000000100, 5, 1, .ro, 0, 1, .dev, 0x0, 1, 0x0, 1, false, 0, .none⟩
def DEV_START_FT_OK : Fld := ⟨0xFF0000000100, 6, 1, .ro, 0, 1, .dev, 0x0, 1, 0x0, 1, false, 0, .none⟩
def DEV_START_TWIN_OK : Fld := ⟨0xFF0000000100, 7, 1, .ro, 0, 1, .dev, 0x0, 1, 0x0, 1, false, 0, .none⟩
def DEV_START_SOLO : Fld := ⟨0xFF0000000100, 8, 1, .rw, 0, 1, .dev, 0x0, 1, 0x0, 1, false, 0, .none⟩
def DEV_START_HBM_FAIL : Fld := ⟨0xFF0000000100, 9, 8, .ro, 0, 1, .dev, 0x0, 1, 0x0, 1, false, 0, .none⟩
def DEV_START_CC_FAIL : Fld := ⟨0xFF0000000100, 17, 4, .ro, 0, 1, .dev, 0x0, 1, 0x0, 1, false, 0, .none⟩
def DEV_START_TO_STAGE : Fld := ⟨0xFF0000000100, 21, 4, .ro, 0, 1, .dev, 0x0, 1, 0x0, 1, false, 0, .none⟩
def DEV_RST_PART : Fld := ⟨0xFF0000000108, 0, 4, .rw, 0, 1, .dev, 0x0, 1, 0x0, 1, false, 0, .none⟩
def DEV_RST_PART_GO : Fld := ⟨0xFF0000000108, 4, 1, .wo, 0, 15, .dev, 0x0, 1, 0x0, 1, false, 0, .none⟩
def DEV_RST_MODULE : Fld := ⟨0xFF0000000108, 5, 1, .wo, 0, 15, .dev, 0x0, 1, 0x0, 1, false, 0, .none⟩
def DEV_RST_PART_BUSY : Fld := ⟨0xFF0000000108, 6, 16, .ro, 0, 15, .dev, 0x0, 1, 0x0, 1, false, 0, .none⟩
def DEV_RST_REJ : Fld := ⟨0xFF0000000108, 22, 1, .w1c, 0, 1, .dev, 0x0, 1, 0x0, 1, false, 0, .none⟩
def DEV_RST_CAUSE_CAUSE : Fld := ⟨0xFF0000000110, 0, 4, .ro, 0, 0, .dev, 0x0, 1, 0x0, 1, false, 0, .none⟩
def DEV_RST_CAUSE_COUNT : Fld := ⟨0xFF0000000110, 4, 32, .ro, 0, 0, .dev, 0x0, 1, 0x0, 1, false, 0, .none⟩
def DEV_LINK_RST_GO : Fld := ⟨0xFF0000000118, 0, 16, .w1s, 0, 1, .dev, 0x0, 1, 0x0, 1, false, 0, .none⟩
def DEV_LINK_RST_AGATE_GO : Fld := ⟨0xFF0000000118, 16, 1, .w1s, 0, 1, .dev, 0x0, 1, 0x0, 1, false, 0, .none⟩
def FT_NOW_TIME : Fld := ⟨0xFF0000000200, 0, 64, .ro, 0, 1, .dev, 0x0, 1, 0x0, 1, false, 0, .none⟩
def FT_CFG_MODE : Fld := ⟨0xFF0000000208, 0, 2, .rw, 0, 1, .dev, 0x0, 1, 0x0, 1, false, 0, .none⟩
def FT_CFG_GM_ELIG : Fld := ⟨0xFF0000000208, 2, 1, .rw, 1, 1, .dev, 0x0, 1, 0x0, 1, false, 0, .none⟩
def FT_CFG_NEXT_ARM : Fld := ⟨0xFF0000000208, 3, 1, .w1s, 0, 1, .dev, 0x0, 1, 0x0, 1, false, 0, .none⟩
def FT_NEXT_TIME : Fld := ⟨0xFF0000000210, 0, 64, .rw, 0, 1, .dev, 0x0, 1, 0x0, 1, false, 0, .none⟩
def FT_STAT_LOCK : Fld := ⟨0xFF0000000218, 0, 1, .ro, 0, 1, .dev, 0x0, 1, 0x0, 1, false, 0, .none⟩
def FT_STAT_HOLDOVER : Fld := ⟨0xFF0000000218, 1, 1, .ro, 0, 1, .dev, 0x0, 1, 0x0, 1, false, 0, .none⟩
def FT_STAT_SRC : Fld := ⟨0xFF0000000218, 2, 1, .ro, 0, 1, .dev, 0x0, 1, 0x0, 1, false, 0, .none⟩
def FT_STAT_IS_GM : Fld := ⟨0xFF0000000218, 3, 1, .ro, 0, 1, .dev, 0x0, 1, 0x0, 1, false, 0, .none⟩
def FT_STAT_GM_ID : Fld := ⟨0xFF0000000218, 4, 16, .ro, 0xffff, 1, .dev, 0x0, 1, 0x0, 1, false, 0, .none⟩
def FT_STAT_HOPS : Fld := ⟨0xFF0000000218, 20, 8, .ro, 0, 1, .dev, 0x0, 1, 0x0, 1, false, 0, .none⟩
def FT_STAT_OFFSET : Fld := ⟨0xFF0000000218, 28, 16, .ro, 0, 1, .dev, 0x0, 1, 0x0, 1, false, 0, .none⟩
def FT_STAT_PPS_BAD : Fld := ⟨0xFF0000000218, 44, 16, .ro, 0, 1, .dev, 0x0, 1, 0x0, 1, false, 0, .none⟩
def ISL_RST_GO : Fld := ⟨0xFF0000110040, 0, 1, .w1s, 0, 15, .isl, 0x400, 305, 0x0, 1, false, 0, .none⟩
def ISL_RST_PERM_REJ : Fld := ⟨0xFF0000110040, 1, 1, .w1c, 0, 3, .isl, 0x400, 305, 0x0, 1, false, 0, .none⟩
def ISL_RST_FMT_REJ : Fld := ⟨0xFF0000110040, 2, 1, .w1c, 0, 3, .isl, 0x400, 305, 0x0, 1, false, 0, .none⟩
def ISL_RST_COUNT : Fld := ⟨0xFF0000110040, 8, 8, .ro, 0, 1, .isl, 0x400, 305, 0x0, 1, false, 0, .none⟩
def FLT_START_STAGE : Fld := ⟨0xFF0009000068, 0, 4, .ro, 1, 0, .dev, 0x0, 1, 0x0, 1, false, 0, .none⟩
def FLT_START_HOLD_AT : Fld := ⟨0xFF0009000068, 4, 4, .rw, 0, 0, .dev, 0x0, 1, 0x0, 1, true, 0, .none⟩
def FLT_START_HELD : Fld := ⟨0xFF0009000068, 8, 1, .ro, 0, 0, .dev, 0x0, 1, 0x0, 1, false, 0, .none⟩
def CLU_STAT_RUN : Fld := ⟨0xFF0001000000, 0, 1, .ro, 0, 7, .clu, 0x10000, 256, 0x0, 1, false, 0, .none⟩
def CLU_STAT_HALTED : Fld := ⟨0xFF0001000000, 1, 1, .ro, 0, 7, .clu, 0x10000, 256, 0x0, 1, false, 0, .none⟩
def CLU_STAT_FAULTED : Fld := ⟨0xFF0001000000, 2, 1, .ro, 0, 7, .clu, 0x10000, 256, 0x0, 1, false, 0, .none⟩
def CLU_STAT_INH : Fld := ⟨0xFF0001000000, 3, 1, .ro, 0, 7, .clu, 0x10000, 256, 0x0, 1, false, 0, .none⟩
def CLU_STAT_PC : Fld := ⟨0xFF0001000000, 4, 22, .ro, 0, 7, .clu, 0x10000, 256, 0x0, 1, false, 0, .none⟩
def CLU_FAULT_FCODE : Fld := ⟨0xFF0001000008, 0, 16, .ro, 0, 7, .clu, 0x10000, 256, 0x0, 1, false, 0, .none⟩
def CLU_FAULT_FPC : Fld := ⟨0xFF0001000008, 16, 22, .ro, 0, 7, .clu, 0x10000, 256, 0x0, 1, false, 0, .none⟩
def CLU_FADDR : Fld := ⟨0xFF0001000010, 0, 64, .ro, 0, 7, .clu, 0x10000, 256, 0x0, 1, false, 0, .none⟩
def CLU_FINFO : Fld := ⟨0xFF0001000018, 0, 64, .ro, 0, 7, .clu, 0x10000, 256, 0x0, 1, false, 0, .none⟩
def CLU_DMA_BUSY : Fld := ⟨0xFF0001000020, 0, 64, .ro, 0, 7, .clu, 0x10000, 256, 0x0, 1, false, 0, .none⟩
def CLU_DMAERR_UNREP : Fld := ⟨0xFF0001000028, 0, 64, .ro, 0, 7, .clu, 0x10000, 256, 0x0, 1, false, 0, .none⟩
def CLU_SLOT_STATUS : Fld := ⟨0xFF0001000400, 0, 18, .ro, 0, 7, .clu, 0x10000, 256, 0x8, 64, false, 0, .none⟩
def CLU_SEM_COUNT : Fld := ⟨0xFF0001000100, 0, 32, .ro, 0, 7, .clu, 0x10000, 256, 0x8, 64, false, 0, .none⟩
def CLU_SEM_POISON : Fld := ⟨0xFF0001000100, 32, 1, .ro, 0, 7, .clu, 0x10000, 256, 0x8, 64, false, 0, .none⟩
def CLU_SEM_OVF : Fld := ⟨0xFF0001000100, 33, 1, .ro, 0, 7, .clu, 0x10000, 256, 0x8, 64, false, 0, .none⟩
def CLU_NUMFLG_INVALID : Fld := ⟨0xFF0001000030, 0, 1, .ro, 0, 7, .clu, 0x10000, 256, 0x0, 1, false, 0, .none⟩
def CLU_NUMFLG_OVERFLOW : Fld := ⟨0xFF0001000030, 1, 1, .ro, 0, 7, .clu, 0x10000, 256, 0x0, 1, false, 0, .none⟩
def CLU_NUMFLG_INTSAT : Fld := ⟨0xFF0001000030, 2, 1, .ro, 0, 7, .clu, 0x10000, 256, 0x0, 1, false, 0, .none⟩
def CLU_TNS_QDEPTH : Fld := ⟨0xFF0001000038, 0, 12, .ro, 0, 7, .clu, 0x10000, 256, 0x0, 1, false, 0, .none⟩
def CLU_TNS_CFG_OK : Fld := ⟨0xFF0001000038, 12, 4, .ro, 0, 7, .clu, 0x10000, 256, 0x0, 1, false, 0, .none⟩
def CLU_PSN_V : Fld := ⟨0xFF0001000040, 0, 32, .ro, 0, 7, .clu, 0x10000, 256, 0x0, 1, false, 0, .none⟩
def CLU_PSN_TA : Fld := ⟨0xFF0001000040, 32, 32, .ro, 0, 7, .clu, 0x10000, 256, 0x0, 1, false, 0, .none⟩
def CLU_NC_HIT : Fld := ⟨0xFF0001000048, 0, 32, .ro, 0, 7, .clu, 0x10000, 256, 0x0, 1, false, 0, .none⟩
def CLU_NC_MISS : Fld := ⟨0xFF0001000048, 32, 32, .ro, 0, 7, .clu, 0x10000, 256, 0x0, 1, false, 0, .none⟩
def CLU_BANK_STALL : Fld := ⟨0xFF0001000050, 0, 48, .ro, 0, 7, .clu, 0x10000, 256, 0x0, 1, false, 0, .none⟩
def CLU_CLX_CODE : Fld := ⟨0xFF0001000600, 0, 16, .ro, 0, 7, .clu, 0x10000, 256, 0x8, 8, false, 0, .none⟩
def CLU_CLX_BUSY : Fld := ⟨0xFF0001000600, 16, 1, .ro, 0, 7, .clu, 0x10000, 256, 0x8, 8, false, 0, .none⟩
def CLU_CLX_UNREP : Fld := ⟨0xFF0001000600, 17, 1, .ro, 0, 7, .clu, 0x10000, 256, 0x8, 8, false, 0, .none⟩
def CLU_CLX_GRP : Fld := ⟨0xFF0001000600, 18, 12, .ro, 0, 7, .clu, 0x10000, 256, 0x8, 8, false, 0, .none⟩
def CLU_CLX_STEP : Fld := ⟨0xFF0001000600, 30, 20, .ro, 0, 7, .clu, 0x10000, 256, 0x8, 8, false, 0, .none⟩
def CLU_ROWS_LEFT : Fld := ⟨0xFF0001000058, 0, 48, .ro, 0x924924924924, 1, .clu, 0x10000, 256, 0x0, 1, false, 0, .none⟩
def CLU_ROWS_NC_OFF : Fld := ⟨0xFF0001000058, 48, 7, .ro, 0, 1, .clu, 0x10000, 256, 0x0, 1, false, 0, .none⟩

/-- Part 0 of the field list of these blocks. -/
def listA0 : List Fld :=
  [DEV_CAP0_VARIANT, DEV_CAP0_MICA_PRES, DEV_CAP0_JASPER_PRES, DEV_CAP0_SLATE_PRES, DEV_CAP0_AGATE_PRES,
   DEV_CAP0_HBM_STACK_MASK, DEV_CAP0_ESYEL_PORT_MASK, DEV_CAP0_ACTIVE_CLUSTERS, DEV_CAP0_SPARE_PHYS,
   DEV_CAP0_PART_MAX_M1, ISL_SUMMARY_STRETCH, ISL_SUMMARY_SAG, ISL_SUMMARY_ENV, ISL_SUMMARY_FLT, ISL_CEIL_CEIL_EFF,
   ISL_CEIL_CEIL_SAG, ISL_CEIL_CEIL_ENV, ISL_CEIL_CEIL_FLT, ISL_CEIL_V48_LVL, ISL_CEIL_LAST_CAUSE, ISL_CEIL_LAST,
   ISL_CEIL_T_SAG, ISL_CEIL_T_ENV, ISL_CEIL_T_FLT, ISL_V48_V48_NOW, ISL_V48_V48_MIN, ISL_V48_MIN_CLR,
   ISL_PWR_CAP_CAP_W, ISL_PWR_CAP_CAP_REJ, ISL_PSTATE_DEV]
/-- Part 1 of the field list of these blocks. -/
def listA1 : List Fld :=
  [ISL_PSTATE_PART, ISL_WR_REJ_COUNT, ISL_FREQ_REQ_CODE, ISL_FREQ_EFF_CODE, ISL_FREQ_STR_LVL, ISL_FREQ_LAST_LVL,
   ISL_FREQ_FMT_REJ, ISL_FREQ_PERM_REJ, ISL_STR_CFG_RECOV_HOLD, ISL_STR_CNT_N875, ISL_STR_CNT_N75, ISL_STR_CNT_N50,
   ISL_STR_T875, ISL_STR_T75, ISL_STR_T50, ISL_STR_LAST, ISL_SENSE_RAIL_MV, ISL_SENSE_SET_MV, ISL_SENSE_SENSOR_FLT,
   FLT_STAT_DIE_OK, FLT_STAT_DIE_ERR, FLT_STAT_TWIN_RX, FLT_STAT_TWIN_ST, FLT_STAT_HOST_SIL, FLT_STAT_PKG_FAIL,
   FLT_HB_CFG_DIE_HB_T, FLT_HB_CFG_HOST_T, FLT_HB_CFG_SILENCE_T, FLT_HB_CFG_QUIESCE_T, FLT_HB_CFG_FMT_REJ]
/-- Part 2 of the field list of these blocks. -/
def listA2 : List Fld :=
  [FLT_HOST_HB_WORD, FLT_HOST_HB_ARMED, FLT_HOST_HB_DISARM, FLT_ALERT_STAT_CAUSE, FLT_ALERT_MASK_CAUSE,
   FLT_ALONE_ACTIVE, FLT_ALONE_QUIESCED, FLT_ALONE_RELEASE, FLT_ALONE_LAST_BY, FLT_EXPERT_EN_EN, FLT_FW_STAT_RUN_BANK,
   FLT_FW_STAT_ACT_BANK, FLT_FW_STAT_TRIAL, FLT_FW_STAT_RECOVERY, FLT_FW_STAT_VALID, FLT_LOG_HEAD_SEQ,
   FLT_LOG_HEAD_LOG_LOST, FLT_LOG_ACK_SEQ, FLT_SCAN_SCAN_EN, FLT_WR_REJ_COUNT, FLT_MB_ERR_COUNT, DEV_START_STAGE,
   DEV_START_ID_OK, DEV_START_RT_OK, DEV_START_FT_OK, DEV_START_TWIN_OK, DEV_START_SOLO, DEV_START_HBM_FAIL,
   DEV_START_CC_FAIL, DEV_START_TO_STAGE]
/-- Part 3 of the field list of these blocks. -/
def listA3 : List Fld :=
  [DEV_RST_PART, DEV_RST_PART_GO, DEV_RST_MODULE, DEV_RST_PART_BUSY, DEV_RST_REJ, DEV_RST_CAUSE_CAUSE,
   DEV_RST_CAUSE_COUNT, DEV_LINK_RST_GO, DEV_LINK_RST_AGATE_GO, FT_NOW_TIME, FT_CFG_MODE, FT_CFG_GM_ELIG,
   FT_CFG_NEXT_ARM, FT_NEXT_TIME, FT_STAT_LOCK, FT_STAT_HOLDOVER, FT_STAT_SRC, FT_STAT_IS_GM, FT_STAT_GM_ID,
   FT_STAT_HOPS, FT_STAT_OFFSET, FT_STAT_PPS_BAD, ISL_RST_GO, ISL_RST_PERM_REJ, ISL_RST_FMT_REJ, ISL_RST_COUNT,
   FLT_START_STAGE, FLT_START_HOLD_AT, FLT_START_HELD, CLU_STAT_RUN]
/-- Part 4 of the field list of these blocks. -/
def listA4 : List Fld :=
  [CLU_STAT_HALTED, CLU_STAT_FAULTED, CLU_STAT_INH, CLU_STAT_PC, CLU_FAULT_FCODE, CLU_FAULT_FPC, CLU_FADDR, CLU_FINFO,
   CLU_DMA_BUSY, CLU_DMAERR_UNREP, CLU_SLOT_STATUS, CLU_SEM_COUNT, CLU_SEM_POISON, CLU_SEM_OVF, CLU_NUMFLG_INVALID,
   CLU_NUMFLG_OVERFLOW, CLU_NUMFLG_INTSAT, CLU_TNS_QDEPTH, CLU_TNS_CFG_OK, CLU_PSN_V, CLU_PSN_TA, CLU_NC_HIT,
   CLU_NC_MISS, CLU_BANK_STALL, CLU_CLX_CODE, CLU_CLX_BUSY, CLU_CLX_UNREP, CLU_CLX_GRP, CLU_CLX_STEP, CLU_ROWS_LEFT]
/-- Part 5 of the field list of these blocks. -/
def listA5 : List Fld :=
  [CLU_ROWS_NC_OFF]

/-- Every field of these blocks. -/
def listA : List Fld :=
  listA0 ++ listA1 ++ listA2 ++ listA3 ++ listA4 ++ listA5

end Sys2Proof.Machine.F
end

