-- ==== Sys2Proof/Machine/RegsB.lean ====
section
/-! DEFINITION. Machine/RegsB.lean: the fields of the SLT, HBM, QTZ and AGT register blocks, one constant per field of a register table of spec/
(the manual's own name: register, underscore, field). The columns are those of `Fld`: address of instance 0, lowest bit, width, access,
reset value, reset types that restore it, what the first index names, strides and counts, MB, expert, index-dependent reset. -/

namespace Sys2Proof.Machine.F

def SLT_ASSIGN_PART : Fld := ⟨0xFF0002000000, 0, 4, .rw, 0, 1, .dev, 0x0, 1, 0x0, 1, false, 0, .none⟩
def SLT_ASSIGN_N_LOCAL : Fld := ⟨0xFF0002000000, 4, 5, .rw, 0, 1, .dev, 0x0, 1, 0x0, 1, false, 0, .none⟩
def SLT_ASSIGN_N_REMOTE : Fld := ⟨0xFF0002000000, 9, 5, .rw, 0, 1, .dev, 0x0, 1, 0x0, 1, false, 0, .none⟩
def SLT_ASSIGN_N_SCRATCH : Fld := ⟨0xFF0002000000, 14, 5, .rw, 0, 1, .dev, 0x0, 1, 0x0, 1, false, 0, .none⟩
def SLT_ASSIGN_GO : Fld := ⟨0xFF0002000000, 19, 1, .wo, 0, 15, .dev, 0x0, 1, 0x0, 1, false, 0, .none⟩
def SLT_ASSIGN_STAT_CODE : Fld := ⟨0xFF0002000008, 0, 16, .ro, 0, 1, .dev, 0x0, 1, 0x0, 1, false, 0, .none⟩
def SLT_ASSIGN_STAT_PART : Fld := ⟨0xFF0002000008, 16, 4, .ro, 0, 1, .dev, 0x0, 1, 0x0, 1, false, 0, .none⟩
def SLT_ASSIGN_STAT_RUN : Fld := ⟨0xFF0002000008, 20, 16, .ro, 0, 3, .dev, 0x0, 1, 0x0, 1, false, 0, .none⟩
def SLT_ASSIGN_STAT_PEND : Fld := ⟨0xFF0002000008, 36, 16, .ro, 0, 3, .dev, 0x0, 1, 0x0, 1, false, 0, .none⟩
def SLT_SLICE_OWNER : Fld := ⟨0xFF0002000100, 0, 4, .rw, 0, 1, .sli, 0x8, 16, 0x0, 1, true, 1, .none⟩
def SLT_SLICE_MODE : Fld := ⟨0xFF0002000100, 4, 2, .rw, 0, 1, .sli, 0x8, 16, 0x0, 1, true, 1, .none⟩
def SLT_SLICE_GO : Fld := ⟨0xFF0002000100, 6, 1, .wo, 0, 15, .sli, 0x8, 16, 0x0, 1, true, 1, .none⟩
def SLT_SLICE_BUSY : Fld := ⟨0xFF0002000100, 7, 1, .ro, 0, 1, .sli, 0x8, 16, 0x0, 1, false, 0, .none⟩
def SLT_SLICE_FAILED : Fld := ⟨0xFF0002000100, 8, 1, .ro, 0, 0, .sli, 0x8, 16, 0x0, 1, false, 0, .none⟩
def SLT_RGN_BASE : Fld := ⟨0xFF0002010000, 0, 64, .rw, 0, 3, .part, 0x200, 16, 0x40, 8, false, 0, .none⟩
def SLT_RGN_LEN : Fld := ⟨0xFF0002010008, 0, 64, .rw, 0, 3, .part, 0x200, 16, 0x40, 8, false, 0, .none⟩
def SLT_RGN_CTRL_OP : Fld := ⟨0xFF0002010010, 0, 4, .rw, 0, 3, .part, 0x200, 16, 0x40, 8, false, 0, .none⟩
def SLT_RGN_CTRL_GO : Fld := ⟨0xFF0002010010, 4, 1, .wo, 0, 15, .part, 0x200, 16, 0x40, 8, false, 0, .none⟩
def SLT_RGN_STAT_LAST_CODE : Fld := ⟨0xFF0002010018, 0, 16, .ro, 0, 3, .part, 0x200, 16, 0x40, 8, false, 0, .none⟩
def SLT_RGN_STAT_LAST_TKT : Fld := ⟨0xFF0002010018, 16, 16, .ro, 0, 3, .part, 0x200, 16, 0x40, 8, false, 0, .none⟩
def SLT_RGN_STAT_SUP_TKT : Fld := ⟨0xFF0002010018, 32, 16, .ro, 0, 3, .part, 0x200, 16, 0x40, 8, false, 0, .none⟩
def SLT_RGN_STAT_RUN : Fld := ⟨0xFF0002010018, 48, 1, .ro, 0, 3, .part, 0x200, 16, 0x40, 8, false, 0, .none⟩
def SLT_RGN_STAT_PEND : Fld := ⟨0xFF0002010018, 49, 1, .ro, 0, 3, .part, 0x200, 16, 0x40, 8, false, 0, .none⟩
def SLT_RGN_TKT_HOST_TKT : Fld := ⟨0xFF0002010020, 0, 16, .ro, 0, 3, .part, 0x200, 16, 0x40, 8, false, 0, .none⟩
def SLT_HIT : Fld := ⟨0xFF0002020000, 0, 64, .ro, 0, 1, .sli, 0x40, 16, 0x0, 1, false, 0, .none⟩
def SLT_MISS : Fld := ⟨0xFF0002020008, 0, 64, .ro, 0, 1, .sli, 0x40, 16, 0x0, 1, false, 0, .none⟩
def SLT_MERGE : Fld := ⟨0xFF0002020010, 0, 64, .ro, 0, 1, .sli, 0x40, 16, 0x0, 1, false, 0, .none⟩
def SLT_MCAST : Fld := ⟨0xFF0002020018, 0, 64, .ro, 0, 1, .sli, 0x40, 16, 0x0, 1, false, 0, .none⟩
def SLT_WB : Fld := ⟨0xFF0002020020, 0, 64, .ro, 0, 1, .sli, 0x40, 16, 0x0, 1, false, 0, .none⟩
def SLT_PWB : Fld := ⟨0xFF0002020028, 0, 64, .ro, 0, 1, .sli, 0x40, 16, 0x0, 1, false, 0, .none⟩
def HBM_STAT_B : Fld := ⟨0xFF0003000000, 0, 2, .ro, 0, 1, .dev, 0x0, 1, 0x0, 1, false, 0, .none⟩
def HBM_STAT_G0 : Fld := ⟨0xFF0003000000, 2, 3, .ro, 0, 1, .dev, 0x0, 1, 0x0, 1, false, 0, .none⟩
def HBM_STAT_INSVC_FAIL : Fld := ⟨0xFF0003000000, 8, 8, .ro, 0, 1, .dev, 0x0, 1, 0x0, 1, false, 0, .none⟩
def HBM_STAT_MODE : Fld := ⟨0xFF0003000000, 16, 1, .ro, 0, 1, .dev, 0x0, 1, 0x0, 1, false, 0, .none⟩
def HBM_MODE_REQ : Fld := ⟨0xFF0003000008, 0, 1, .rw, 0, 1, .dev, 0x0, 1, 0x0, 1, false, 0, .none⟩
def HBM_MODE_RUN : Fld := ⟨0xFF0003000008, 1, 1, .ro, 0, 1, .dev, 0x0, 1, 0x0, 1, false, 0, .none⟩
def HBM_MODE_PEND : Fld := ⟨0xFF0003000008, 2, 1, .ro, 0, 1, .dev, 0x0, 1, 0x0, 1, false, 0, .none⟩
def HBM_MODE_CODE : Fld := ⟨0xFF0003000008, 16, 16, .ro, 0, 1, .dev, 0x0, 1, 0x0, 1, false, 0, .none⟩
def HBM_MIRROR_SIZE_GIB : Fld := ⟨0xFF0003000010, 0, 6, .rw, 0, 0, .dev, 0x0, 1, 0x0, 1, false, 0, .none⟩
def HBM_MIRROR_REJ : Fld := ⟨0xFF0003000010, 6, 1, .w1c, 0, 0, .dev, 0x0, 1, 0x0, 1, false, 0, .none⟩
def HBM_SCRUB_PERIOD_H : Fld := ⟨0xFF0003000018, 0, 8, .rw, 24, 0, .dev, 0x0, 1, 0x0, 1, true, 1, .none⟩
def HBM_SCRUB_MIRROR_SCRUB : Fld := ⟨0xFF0003000018, 8, 1, .rw, 1, 0, .dev, 0x0, 1, 0x0, 1, true, 1, .none⟩
def HBM_SCRUB_RPR_THRESH : Fld := ⟨0xFF0003000018, 9, 7, .rw, 4, 0, .dev, 0x0, 1, 0x0, 1, true, 1, .none⟩
def HBM_SCRUB_HARD_AT_INIT : Fld := ⟨0xFF0003000018, 16, 1, .rw, 0, 0, .dev, 0x0, 1, 0x0, 1, true, 1, .none⟩
def HBM_SCRUB_FMT_REJ : Fld := ⟨0xFF0003000018, 17, 1, .w1c, 0, 0, .dev, 0x0, 1, 0x0, 1, false, 0, .none⟩
def HBM_SCRUB_PASS : Fld := ⟨0xFF0003000018, 18, 30, .ro, 0, 1, .dev, 0x0, 1, 0x0, 1, false, 0, .none⟩
def HBM_RPR_REQ_STACK : Fld := ⟨0xFF0003000020, 0, 3, .rw, 0, 0, .dev, 0x0, 1, 0x0, 1, true, 1, .none⟩
def HBM_RPR_REQ_PC : Fld := ⟨0xFF0003000020, 3, 5, .rw, 0, 0, .dev, 0x0, 1, 0x0, 1, true, 1, .none⟩
def HBM_RPR_REQ_SID : Fld := ⟨0xFF0003000020, 8, 2, .rw, 0, 0, .dev, 0x0, 1, 0x0, 1, true, 1, .none⟩
def HBM_RPR_REQ_BANK : Fld := ⟨0xFF0003000020, 10, 4, .rw, 0, 0, .dev, 0x0, 1, 0x0, 1, true, 1, .none⟩
def HBM_RPR_REQ_ROW : Fld := ⟨0xFF0003000020, 14, 14, .rw, 0, 0, .dev, 0x0, 1, 0x0, 1, true, 1, .none⟩
def HBM_RPR_REQ_GO : Fld := ⟨0xFF0003000020, 28, 1, .wo, 0, 15, .dev, 0x0, 1, 0x0, 1, true, 1, .none⟩
def HBM_ERR_LINK_RPL : Fld := ⟨0xFF0003001000, 0, 16, .ro, 0, 1, .stk, 0x100, 8, 0x0, 1, false, 0, .none⟩
def HBM_ERR_CE1 : Fld := ⟨0xFF0003001000, 16, 16, .ro, 0, 1, .stk, 0x100, 8, 0x0, 1, false, 0, .none⟩
def HBM_ERR_CEM : Fld := ⟨0xFF0003001000, 32, 16, .ro, 0, 1, .stk, 0x100, 8, 0x0, 1, false, 0, .none⟩
def HBM_ERR_UE : Fld := ⟨0xFF0003001000, 48, 16, .ro, 0, 1, .stk, 0x100, 8, 0x0, 1, false, 0, .none⟩
def HBM_ERR_RPR_DONE : Fld := ⟨0xFF0003001008, 0, 12, .ro, 0, 0, .stk, 0x100, 8, 0x0, 1, false, 0, .none⟩
def HBM_ERR_RPR_LEFT : Fld := ⟨0xFF0003001008, 12, 12, .ro, 0, 1, .stk, 0x100, 8, 0x0, 1, false, 0, .none⟩
def HBM_ERR_RPR_FAIL : Fld := ⟨0xFF0003001008, 24, 12, .ro, 0, 1, .stk, 0x100, 8, 0x0, 1, false, 0, .none⟩
def HBM_ERR_RPR_DROP : Fld := ⟨0xFF0003001008, 36, 12, .ro, 0, 1, .stk, 0x100, 8, 0x0, 1, false, 0, .none⟩
def HBM_ERR_QUEUE : Fld := ⟨0xFF0003001008, 48, 5, .ro, 0, 1, .stk, 0x100, 8, 0x0, 1, false, 0, .none⟩
def HBM_ERR_LANE_RPR : Fld := ⟨0xFF0003001008, 53, 4, .ro, 0, 1, .stk, 0x100, 8, 0x0, 1, false, 0, .none⟩
def HBM_PSN_USED : Fld := ⟨0xFF0003001010, 0, 13, .ro, 0, 1, .stk, 0x100, 8, 0x0, 1, false, 0, .none⟩
def QTZ_PORT_STAT_STATE : Fld := ⟨0xFF0004100000, 0, 4, .ro, 1, 13, .port, 0x1000, 17, 0x0, 1, false, 0, .none⟩
def QTZ_PORT_STAT_REVERSED : Fld := ⟨0xFF0004100000, 4, 1, .ro, 0, 13, .port, 0x1000, 17, 0x0, 1, false, 0, .none⟩
def QTZ_PORT_STAT_FAIL_CAUSE : Fld := ⟨0xFF0004100000, 5, 3, .ro, 0, 1, .port, 0x1000, 17, 0x0, 1, false, 0, .none⟩
def QTZ_PORT_STAT_FAIL_STAGE : Fld := ⟨0xFF0004100000, 8, 4, .ro, 0, 1, .port, 0x1000, 17, 0x0, 1, false, 0, .none⟩
def QTZ_PORT_STAT_SPARE_RX : Fld := ⟨0xFF0004100000, 12, 4, .ro, 15, 1, .port, 0x1000, 17, 0x0, 1, false, 0, .none⟩
def QTZ_PORT_STAT_SPARE_TX : Fld := ⟨0xFF0004100000, 16, 4, .ro, 15, 1, .port, 0x1000, 17, 0x0, 1, false, 0, .none⟩
def QTZ_PORT_STAT_TX_PWR : Fld := ⟨0xFF0004100000, 20, 2, .ro, 0, 13, .port, 0x1000, 17, 0x0, 1, false, 0, .none⟩
def QTZ_PORT_STAT_RX_PWR : Fld := ⟨0xFF0004100000, 22, 2, .ro, 0, 13, .port, 0x1000, 17, 0x0, 1, false, 0, .none⟩
def QTZ_PORT_STAT_QSTATE : Fld := ⟨0xFF0004100000, 24, 2, .ro, 0, 1, .port, 0x1000, 17, 0x0, 1, false, 0, .none⟩
def QTZ_PORT_STAT_SPARE_BAD : Fld := ⟨0xFF0004100000, 26, 1, .ro, 0, 1, .port, 0x1000, 17, 0x0, 1, false, 0, .none⟩
def QTZ_PORT_STAT_SERVICE : Fld := ⟨0xFF0004100000, 27, 1, .ro, 0, 1, .port, 0x1000, 17, 0x0, 1, false, 0, .none⟩
def QTZ_PORT_STAT_RTT_NS : Fld := ⟨0xFF0004100000, 28, 12, .ro, 0, 1, .port, 0x1000, 17, 0x0, 1, false, 0, .none⟩
def QTZ_PORT_CTRL_QREQ : Fld := ⟨0xFF0004100008, 0, 1, .rw, 0, 1, .port, 0x1000, 17, 0x0, 1, false, 0, .none⟩
def QTZ_PORT_CTRL_FORCE_SWAP : Fld := ⟨0xFF0004100008, 1, 1, .wo, 0, 15, .port, 0x1000, 17, 0x0, 1, false, 1, .none⟩
def QTZ_PORT_CTRL_SWAP_LANE : Fld := ⟨0xFF0004100008, 2, 3, .rw, 0, 1, .port, 0x1000, 17, 0x0, 1, false, 1, .none⟩
def QTZ_PORT_CTRL_TEST_EN : Fld := ⟨0xFF0004100008, 5, 1, .rw, 0, 1, .port, 0x1000, 17, 0x0, 1, false, 1, .none⟩
def QTZ_PORT_CTRL_LOOPBACK : Fld := ⟨0xFF0004100008, 6, 1, .rw, 0, 1, .port, 0x1000, 17, 0x0, 1, false, 1, .none⟩
def QTZ_PORT_CTRL_REJ : Fld := ⟨0xFF0004100008, 7, 1, .w1c, 0, 1, .port, 0x1000, 17, 0x0, 1, false, 0, .none⟩
def QTZ_PORT_PWR_DOZE_EN : Fld := ⟨0xFF0004100010, 0, 1, .rw, 1, 1, .port, 0x1000, 17, 0x0, 1, false, 1, .none⟩
def QTZ_PORT_PWR_DOZE_IDLE : Fld := ⟨0xFF0004100010, 1, 10, .rw, 20, 1, .port, 0x1000, 17, 0x0, 1, false, 1, .none⟩
def QTZ_PORT_PWR_REST_EN : Fld := ⟨0xFF0004100010, 11, 1, .rw, 1, 1, .port, 0x1000, 17, 0x0, 1, false, 1, .none⟩
def QTZ_PORT_PWR_REST_IDLE : Fld := ⟨0xFF0004100010, 12, 14, .rw, 100, 1, .port, 0x1000, 17, 0x0, 1, false, 1, .none⟩
def QTZ_PORT_PWR_SPARE_CHK : Fld := ⟨0xFF0004100010, 26, 10, .rw, 10, 1, .port, 0x1000, 17, 0x0, 1, false, 1, .none⟩
def QTZ_PORT_PWR_FMT_REJ : Fld := ⟨0xFF0004100010, 36, 1, .w1c, 0, 1, .port, 0x1000, 17, 0x0, 1, false, 0, .none⟩
def QTZ_PORT_FEC_UNCORR_BLK : Fld := ⟨0xFF0004100018, 0, 32, .ro, 0, 1, .port, 0x1000, 17, 0x0, 1, false, 0, .none⟩
def QTZ_PORT_FEC_CRC_FAIL : Fld := ⟨0xFF0004100018, 32, 32, .ro, 0, 1, .port, 0x1000, 17, 0x0, 1, false, 0, .none⟩
def QTZ_PORT_RPL_REPLAYS : Fld := ⟨0xFF0004100020, 0, 32, .ro, 0, 1, .port, 0x1000, 17, 0x0, 1, false, 0, .none⟩
def QTZ_PORT_RPL_LINK_RST : Fld := ⟨0xFF0004100020, 32, 16, .ro, 0, 1, .port, 0x1000, 17, 0x0, 1, false, 0, .none⟩
def QTZ_PORT_RPL_LOS_EVT : Fld := ⟨0xFF0004100020, 48, 16, .ro, 0, 1, .port, 0x1000, 17, 0x0, 1, false, 0, .none⟩
def QTZ_LANE_RX_FOM : Fld := ⟨0xFF0004100100, 0, 8, .ro, 0, 13, .port, 0x1000, 17, 0x10, 9, false, 0, .none⟩
def QTZ_LANE_RX_FOM_MIN : Fld := ⟨0xFF0004100100, 8, 8, .ro, 255, 1, .port, 0x1000, 17, 0x10, 9, false, 0, .none⟩
def QTZ_LANE_RX_CLASS : Fld := ⟨0xFF0004100100, 16, 2, .ro, 3, 13, .port, 0x1000, 17, 0x10, 9, false, 0, .none⟩
def QTZ_LANE_RX_POL_INV : Fld := ⟨0xFF0004100100, 18, 1, .ro, 0, 13, .port, 0x1000, 17, 0x10, 9, false, 0, .none⟩
def QTZ_LANE_RX_LOGICAL : Fld := ⟨0xFF0004100100, 19, 4, .ro, 15, 13, .port, 0x1000, 17, 0x10, 9, false, 0, .none⟩
def QTZ_LANE_RX_LOS : Fld := ⟨0xFF0004100100, 23, 1, .ro, 0, 13, .port, 0x1000, 17, 0x10, 9, false, 0, .none⟩
def QTZ_LANE_RX_MIN_CLR : Fld := ⟨0xFF0004100100, 24, 1, .wo, 0, 15, .port, 0x1000, 17, 0x10, 9, false, 0, .none⟩
def QTZ_LANE_RX_FREEZE : Fld := ⟨0xFF0004100100, 25, 1, .rw, 0, 1, .port, 0x1000, 17, 0x10, 9, false, 1, .none⟩
def QTZ_LANE_RX_ERR_SYM : Fld := ⟨0xFF0004100100, 32, 28, .ro, 0, 13, .port, 0x1000, 17, 0x10, 9, false, 0, .none⟩
def QTZ_LANE_TX_PRESET : Fld := ⟨0xFF0004100108, 0, 4, .ro, 5, 13, .port, 0x1000, 17, 0x10, 9, false, 0, .none⟩
def QTZ_LANE_TX_OVR_EN : Fld := ⟨0xFF0004100108, 4, 1, .rw, 0, 1, .port, 0x1000, 17, 0x10, 9, false, 1, .none⟩
def QTZ_LANE_TX_OVR_PRESET : Fld := ⟨0xFF0004100108, 5, 4, .rw, 0, 1, .port, 0x1000, 17, 0x10, 9, false, 1, .none⟩
def QTZ_ID_DEVID : Fld := ⟨0xFF0004000000, 0, 16, .ro, 0xffff, 1, .dev, 0x0, 1, 0x0, 1, false, 0, .none⟩
def QTZ_ID_ID_OK : Fld := ⟨0xFF0004000000, 16, 1, .ro, 0, 1, .dev, 0x0, 1, 0x0, 1, false, 0, .none⟩
def QTZ_ID_ASSUMED : Fld := ⟨0xFF0004000000, 32, 16, .ro, 0xffff, 1, .dev, 0x0, 1, 0x0, 1, false, 0, .none⟩
def QTZ_MGMT_MKEY : Fld := ⟨0xFF0004000008, 0, 32, .rw, 0, 0, .dev, 0x0, 1, 0x0, 1, false, 0, .none⟩
def QTZ_MGMT_MGR_ID : Fld := ⟨0xFF0004000008, 32, 16, .rw, 0xffff, 1, .dev, 0x0, 1, 0x0, 1, false, 0, .none⟩
def QTZ_MGMT_TTL_INIT : Fld := ⟨0xFF0004000008, 48, 8, .rw, 64, 1, .dev, 0x0, 1, 0x0, 1, false, 0, .none⟩
def QTZ_RT_CTRL_ACTIVE : Fld := ⟨0xFF0004000010, 0, 1, .ro, 0, 1, .dev, 0x0, 1, 0x0, 1, false, 0, .none⟩
def QTZ_RT_CTRL_COMMIT : Fld := ⟨0xFF0004000010, 1, 1, .wo, 0, 15, .dev, 0x0, 1, 0x0, 1, false, 0, .none⟩
def QTZ_RT_CTRL_LOAD_REJ : Fld := ⟨0xFF0004000010, 2, 1, .w1c, 0, 1, .dev, 0x0, 1, 0x0, 1, false, 0, .none⟩
def QTZ_RT_CTRL_REJ_CODE : Fld := ⟨0xFF0004000010, 16, 16, .ro, 0, 1, .dev, 0x0, 1, 0x0, 1, false, 0, .none⟩
def QTZ_MOVED_MOVED : Fld := ⟨0xFF0004000018, 0, 64, .rw, 0, 1, .dev, 0x8, 4, 0x0, 1, false, 0, .none⟩
def QTZ_DROP_BAD_HDR : Fld := ⟨0xFF0004000040, 0, 16, .ro, 0, 1, .dev, 0x0, 1, 0x0, 1, false, 0, .none⟩
def QTZ_DROP_TTL_EXP : Fld := ⟨0xFF0004000040, 16, 16, .ro, 0, 1, .dev, 0x0, 1, 0x0, 1, false, 0, .none⟩
def QTZ_DROP_RT_ERR : Fld := ⟨0xFF0004000040, 32, 16, .ro, 0, 1, .dev, 0x0, 1, 0x0, 1, false, 0, .none⟩
def QTZ_DROP_NO_ROUTE : Fld := ⟨0xFF0004000040, 48, 16, .ro, 0, 1, .dev, 0x0, 1, 0x0, 1, false, 0, .none⟩
def QTZ_AGENT_RD_OCC : Fld := ⟨0xFF0004000048, 0, 9, .ro, 0, 15, .dev, 0x0, 1, 0x0, 1, false, 0, .none⟩
def QTZ_AGENT_RD_REFUSED : Fld := ⟨0xFF0004000048, 32, 16, .ro, 0, 1, .dev, 0x0, 1, 0x0, 1, false, 0, .none⟩
def QTZ_AGENT_MG_DROP : Fld := ⟨0xFF0004000048, 48, 16, .ro, 0, 1, .dev, 0x0, 1, 0x0, 1, false, 0, .none⟩
def RT_REGION_ENTRY : Fld := ⟨0xFF0004010000, 0, 64, .rw, 0, 1, .bank, 0x1000, 2, 0x8, 256, false, 0, .none⟩
def RT_MEMBER_ENTRY : Fld := ⟨0xFF0004010800, 0, 64, .rw, 0, 1, .bank, 0x1000, 2, 0x8, 256, false, 0, .none⟩
def QTZ_PART_QUOTA : Fld := ⟨0xFF0004020000, 0, 18, .rw, 0, 1, .part, 0x40, 16, 0x0, 1, false, 0, .none⟩
def QTZ_PART_WEIGHT : Fld := ⟨0xFF0004020000, 18, 8, .rw, 16, 1, .part, 0x40, 16, 0x0, 1, false, 0, .none⟩
def QTZ_PART_FIX_ALL : Fld := ⟨0xFF0004020000, 26, 1, .rw, 0, 3, .part, 0x40, 16, 0x0, 1, false, 2, .none⟩
def QTZ_PART_QUOTA_WAIT : Fld := ⟨0xFF0004020000, 27, 10, .rw, 10, 3, .part, 0x40, 16, 0x0, 1, false, 2, .none⟩
def QTZ_PART_CTX_T : Fld := ⟨0xFF0004020000, 37, 14, .rw, 100, 3, .part, 0x40, 16, 0x0, 1, false, 2, .none⟩
def QTZ_PART_REJ : Fld := ⟨0xFF0004020000, 51, 1, .w1c, 0, 1, .part, 0x40, 16, 0x0, 1, false, 0, .none⟩
def QTZ_PART_FMT_REJ : Fld := ⟨0xFF0004020000, 52, 1, .w1c, 0, 3, .part, 0x40, 16, 0x0, 1, false, 0, .none⟩
def QTZ_PART_PERM_REJ : Fld := ⟨0xFF0004020000, 53, 1, .w1c, 0, 3, .part, 0x40, 16, 0x0, 1, false, 0, .none⟩
def QTZ_PART_SNAP : Fld := ⟨0xFF0004020000, 54, 1, .wo, 0, 15, .part, 0x40, 16, 0x0, 1, false, 0, .none⟩
def QTZ_PART_OUT : Fld := ⟨0xFF0004020008, 0, 18, .ro, 0, 3, .part, 0x40, 16, 0x0, 1, false, 0, .none⟩
def QTZ_PART_PEAK : Fld := ⟨0xFF0004020008, 18, 18, .ro, 0, 3, .part, 0x40, 16, 0x0, 1, false, 0, .none⟩
def QTZ_PART_SWEEP : Fld := ⟨0xFF0004020008, 36, 1, .ro, 0, 15, .part, 0x40, 16, 0x0, 1, false, 0, .none⟩
def QTZ_PART_ALLOC : Fld := ⟨0xFF0004020010, 0, 64, .ro, 0, 3, .part, 0x40, 16, 0x0, 1, false, 0, .none⟩
def QTZ_PART_DONE : Fld := ⟨0xFF0004020018, 0, 64, .ro, 0, 3, .part, 0x40, 16, 0x0, 1, false, 0, .none⟩
def QTZ_PART_QSTALL_NS : Fld := ⟨0xFF0004020020, 0, 64, .ro, 0, 3, .part, 0x40, 16, 0x0, 1, false, 0, .none⟩
def QTZ_PART_QUOTA_N : Fld := ⟨0xFF0004020028, 0, 16, .ro, 0, 3, .part, 0x40, 16, 0x0, 1, false, 0, .none⟩
def QTZ_PART_TIMEOUT_N : Fld := ⟨0xFF0004020028, 16, 16, .ro, 0, 3, .part, 0x40, 16, 0x0, 1, false, 0, .none⟩
def QTZ_PART_RETRY : Fld := ⟨0xFF0004020028, 32, 16, .ro, 0, 3, .part, 0x40, 16, 0x0, 1, false, 0, .none⟩
def QTZ_PART_LATE : Fld := ⟨0xFF0004020028, 48, 16, .ro, 0, 3, .part, 0x40, 16, 0x0, 1, false, 0, .none⟩
def QTZ_PART_BULK_WAIT_NS : Fld := ⟨0xFF0004020030, 0, 64, .ro, 0, 3, .part, 0x40, 16, 0x0, 1, false, 0, .none⟩
def QTZ_NBR_SERIAL : Fld := ⟨0xFF0004100200, 0, 64, .ro, 0, 9, .port, 0x1000, 17, 0x0, 1, false, 0, .none⟩
def QTZ_NBR_NID : Fld := ⟨0xFF0004100208, 0, 16, .ro, 0xffff, 9, .port, 0x1000, 17, 0x0, 1, false, 0, .none⟩
def QTZ_NBR_NPORT : Fld := ⟨0xFF0004100208, 16, 5, .ro, 31, 9, .port, 0x1000, 17, 0x0, 1, false, 0, .none⟩
def QTZ_NBR_HELLO_OK : Fld := ⟨0xFF0004100208, 21, 1, .ro, 0, 9, .port, 0x1000, 17, 0x0, 1, false, 0, .none⟩
def QTZ_NBR_DOWN : Fld := ⟨0xFF0004100208, 22, 1, .ro, 1, 1, .port, 0x1000, 17, 0x0, 1, false, 0, .none⟩
def QTZ_Q_OCC : Fld := ⟨0xFF0004100300, 0, 23, .ro, 0, 13, .port, 0x1000, 17, 0x20, 9, false, 0, .none⟩
def QTZ_Q_OFF_TX : Fld := ⟨0xFF0004100300, 23, 1, .ro, 0, 13, .port, 0x1000, 17, 0x20, 9, false, 0, .none⟩
def QTZ_Q_OFF_RX : Fld := ⟨0xFF0004100300, 24, 1, .ro, 0, 13, .port, 0x1000, 17, 0x20, 9, false, 0, .none⟩
def QTZ_Q_ACC : Fld := ⟨0xFF0004100308, 0, 64, .ro, 0, 1, .port, 0x1000, 17, 0x20, 9, false, 0, .none⟩
def QTZ_Q_FWD : Fld := ⟨0xFF0004100310, 0, 64, .ro, 0, 1, .port, 0x1000, 17, 0x20, 9, false, 0, .none⟩
def QTZ_Q_OFF_NS : Fld := ⟨0xFF0004100318, 0, 64, .ro, 0, 1, .port, 0x1000, 17, 0x20, 9, false, 0, .none⟩
def QTZ_CLX_STAT_REC : Fld := ⟨0xFF0004030000, 0, 11, .ro, 0, 1, .dev, 0x0, 1, 0x0, 1, false, 0, .none⟩
def QTZ_CLX_STAT_STORE_KIB : Fld := ⟨0xFF0004030000, 12, 15, .ro, 0, 1, .dev, 0x0, 1, 0x0, 1, false, 0, .none⟩
def QTZ_CLX_STEPS_DONE : Fld := ⟨0xFF0004030008, 0, 64, .ro, 0, 1, .dev, 0x0, 1, 0x0, 1, false, 0, .none⟩
def QTZ_CLX_STEPS_ABORT : Fld := ⟨0xFF0004030010, 0, 64, .ro, 0, 1, .dev, 0x0, 1, 0x0, 1, false, 0, .none⟩
def QTZ_CLX_BAD : Fld := ⟨0xFF0004030018, 0, 32, .ro, 0, 1, .dev, 0x0, 1, 0x0, 1, false, 0, .none⟩
def QTZ_CLX_MARK_ERR : Fld := ⟨0xFF0004030018, 32, 32, .ro, 0, 1, .dev, 0x0, 1, 0x0, 1, false, 0, .none⟩
def CLX_REC_HANDLE : Fld := ⟨0xFF0004031000, 0, 12, .ro, 0, 3, .crec, 0x20, 1024, 0x0, 1, false, 0, .none⟩
def CLX_REC_PART : Fld := ⟨0xFF0004031000, 12, 4, .ro, 0, 3, .crec, 0x20, 1024, 0x0, 1, false, 0, .none⟩
def CLX_REC_STATE : Fld := ⟨0xFF0004031000, 16, 2, .ro, 0, 3, .crec, 0x20, 1024, 0x0, 1, false, 0, .none⟩
def CLX_REC_NODE : Fld := ⟨0xFF0004031000, 18, 12, .ro, 0, 3, .crec, 0x20, 1024, 0x0, 1, false, 0, .none⟩
def CLX_REC_NIN : Fld := ⟨0xFF0004031000, 30, 9, .ro, 0, 3, .crec, 0x20, 1024, 0x0, 1, false, 0, .none⟩
def CLX_REC_OPEN_STEP : Fld := ⟨0xFF0004031008, 0, 20, .ro, 0, 3, .crec, 0x20, 1024, 0x0, 1, false, 0, .none⟩
def CLX_REC_GOT : Fld := ⟨0xFF0004031008, 20, 9, .ro, 0, 3, .crec, 0x20, 1024, 0x0, 1, false, 0, .none⟩
def CLX_REC_OPEN : Fld := ⟨0xFF0004031008, 29, 1, .ro, 0, 3, .crec, 0x20, 1024, 0x0, 1, false, 0, .none⟩
def CLX_REC_LAST_CODE : Fld := ⟨0xFF0004031010, 0, 16, .ro, 0, 3, .crec, 0x20, 1024, 0x0, 1, false, 0, .none⟩
def CLX_REC_LAST_STEP : Fld := ⟨0xFF0004031010, 16, 20, .ro, 0, 3, .crec, 0x20, 1024, 0x0, 1, false, 0, .none⟩
def AGT_STAT_STATE : Fld := ⟨0xFF0005000000, 0, 4, .ro, 0, 1, .dev, 0x0, 1, 0x0, 1, false, 0, .none⟩
def AGT_STAT_LINK_FAULT : Fld := ⟨0xFF0005000000, 4, 1, .ro, 0, 1, .dev, 0x0, 1, 0x0, 1, false, 0, .none⟩
def AGT_STAT_HELD : Fld := ⟨0xFF0005000000, 5, 1, .ro, 0, 1, .dev, 0x0, 1, 0x0, 1, false, 0, .none⟩
def AGT_STAT_SPLIT : Fld := ⟨0xFF0005000000, 6, 1, .ro, 0, 1, .dev, 0x0, 1, 0x0, 1, false, 0, .none⟩
def AGT_STAT_IMG_OK : Fld := ⟨0xFF0005000000, 7, 1, .ro, 0, 1, .dev, 0x0, 1, 0x0, 1, false, 0, .none⟩
def AGT_STAT_PEER_ID : Fld := ⟨0xFF0005000000, 8, 16, .ro, 0xffff, 1, .dev, 0x0, 1, 0x0, 1, false, 0, .none⟩
def AGT_STAT_PEER_INC : Fld := ⟨0xFF0005000000, 24, 16, .ro, 0, 1, .dev, 0x0, 1, 0x0, 1, false, 0, .none⟩
def AGT_STAT_OWN_INC : Fld := ⟨0xFF0005000000, 40, 16, .ro, 0, 0, .dev, 0x0, 1, 0x0, 1, false, 0, .none⟩
def AGT_PEER_SERIAL_SERIAL : Fld := ⟨0xFF0005000008, 0, 64, .ro, 0, 1, .dev, 0x0, 1, 0x0, 1, false, 0, .none⟩
def AGT_CFG_AUTO_BIND : Fld := ⟨0xFF0005000010, 0, 1, .rw, 1, 0, .dev, 0x0, 1, 0x0, 1, true, 0, .none⟩
def AGT_CFG_BIND : Fld := ⟨0xFF0005000010, 1, 1, .wo, 0, 15, .dev, 0x0, 1, 0x0, 1, false, 0, .none⟩
def AGT_CFG_UNBIND : Fld := ⟨0xFF0005000010, 2, 1, .wo, 0, 15, .dev, 0x0, 1, 0x0, 1, false, 0, .none⟩
def AGT_CFG_YIELD : Fld := ⟨0xFF0005000010, 3, 1, .wo, 0, 15, .dev, 0x0, 1, 0x0, 1, false, 0, .none⟩
def AGT_CFG_RELEASE_PEER : Fld := ⟨0xFF0005000010, 4, 1, .wo, 0, 15, .dev, 0x0, 1, 0x0, 1, false, 0, .none⟩
def AGT_CFG_REJ : Fld := ⟨0xFF0005000010, 5, 1, .w1c, 0, 1, .dev, 0x0, 1, 0x0, 1, false, 0, .none⟩
def AGT_CFG_DIRTY_LIM : Fld := ⟨0xFF0005000010, 6, 16, .rw, 0x100, 0, .dev, 0x0, 1, 0x0, 1, true, 1, .none⟩
def AGT_CFG_PASS_MAX : Fld := ⟨0xFF0005000010, 22, 4, .rw, 8, 0, .dev, 0x0, 1, 0x0, 1, true, 1, .none⟩
def AGT_CFG_FMT_REJ : Fld := ⟨0xFF0005000010, 26, 1, .w1c, 0, 0, .dev, 0x0, 1, 0x0, 1, false, 0, .none⟩
def AGT_FOOT_FOOT_MIB : Fld := ⟨0xFF0005000018, 0, 24, .ro, 2, 1, .dev, 0x0, 1, 0x0, 1, false, 0, .none⟩
def AGT_FOOT_PEER_SIZE : Fld := ⟨0xFF0005000018, 24, 6, .ro, 0, 1, .dev, 0x0, 1, 0x0, 1, false, 0, .none⟩
def AGT_FOOT_MR_CODE : Fld := ⟨0xFF0005000018, 30, 16, .ro, 0, 1, .dev, 0x0, 1, 0x0, 1, false, 0, .none⟩
def AGT_FOOT_MR_REJ : Fld := ⟨0xFF0005000018, 46, 1, .w1c, 0, 1, .dev, 0x0, 1, 0x0, 1, false, 0, .none⟩
def AGT_ADOPT_PART : Fld := ⟨0xFF0005000020, 0, 4, .rw, 0, 1, .dev, 0x0, 1, 0x0, 1, false, 0, .none⟩
def AGT_ADOPT_GO : Fld := ⟨0xFF0005000020, 4, 1, .wo, 0, 15, .dev, 0x0, 1, 0x0, 1, false, 0, .none⟩
def AGT_ADOPT_CODE : Fld := ⟨0xFF0005000020, 16, 16, .ro, 0, 1, .dev, 0x0, 1, 0x0, 1, false, 0, .none⟩
def AGT_ADOPT_EPOCH : Fld := ⟨0xFF0005000020, 32, 32, .ro, 0, 1, .dev, 0x0, 1, 0x0, 1, false, 0, .none⟩
def AGT_RSV_HANDBACK : Fld := ⟨0xFF0005000028, 0, 1, .wo, 0, 15, .dev, 0x0, 1, 0x0, 1, false, 0, .none⟩
def AGT_RSV_CONVERGED : Fld := ⟨0xFF0005000028, 1, 1, .ro, 0, 1, .dev, 0x0, 1, 0x0, 1, false, 0, .none⟩
def AGT_RSV_PASS : Fld := ⟨0xFF0005000028, 2, 4, .ro, 0, 1, .dev, 0x0, 1, 0x0, 1, false, 0, .none⟩
def AGT_RSV_DIRTY : Fld := ⟨0xFF0005000028, 6, 16, .ro, 0, 1, .dev, 0x0, 1, 0x0, 1, false, 0, .none⟩
def AGT_RSV_CODE : Fld := ⟨0xFF0005000028, 22, 16, .ro, 0, 1, .dev, 0x0, 1, 0x0, 1, false, 0, .none⟩
def AGT_MR_LBASE : Fld := ⟨0xFF0005001000, 0, 48, .rw, 0, 0, .mr, 0x20, 64, 0x0, 1, false, 0, .none⟩
def AGT_MR_LEN : Fld := ⟨0xFF0005001008, 0, 41, .rw, 0, 0, .mr, 0x20, 64, 0x0, 1, false, 0, .none⟩
def AGT_MR_PART : Fld := ⟨0xFF0005001010, 0, 4, .rw, 0, 0, .mr, 0x20, 64, 0x0, 1, false, 0, .none⟩
def AGT_MR_KIND : Fld := ⟨0xFF0005001010, 4, 1, .rw, 0, 0, .mr, 0x20, 64, 0x0, 1, false, 0, .none⟩
def AGT_MR_VALID : Fld := ⟨0xFF0005001010, 5, 1, .rw, 0, 0, .mr, 0x20, 64, 0x0, 1, false, 0, .none⟩
def AGT_MR_MOFF : Fld := ⟨0xFF0005001010, 6, 42, .ro, 0, 0, .mr, 0x20, 64, 0x0, 1, false, 0, .none⟩
def AGT_EPOCH_GO : Fld := ⟨0xFF0005002000, 0, 1, .wo, 0, 15, .part, 0x20, 16, 0x0, 1, false, 0, .none⟩
def AGT_EPOCH_FULL : Fld := ⟨0xFF0005002000, 1, 1, .rw, 0, 1, .part, 0x20, 16, 0x0, 1, false, 0, .none⟩
def AGT_EPOCH_CODE : Fld := ⟨0xFF0005002008, 0, 16, .ro, 0, 1, .part, 0x20, 16, 0x0, 1, false, 0, .none⟩
def AGT_EPOCH_RUN : Fld := ⟨0xFF0005002008, 16, 1, .ro, 0, 1, .part, 0x20, 16, 0x0, 1, false, 0, .none⟩
def AGT_EPOCH_PEND : Fld := ⟨0xFF0005002008, 17, 1, .ro, 0, 3, .part, 0x20, 16, 0x0, 1, false, 0, .none⟩
def AGT_EPOCH_LAST_DONE : Fld := ⟨0xFF0005002008, 32, 32, .ro, 0, 1, .part, 0x20, 16, 0x0, 1, false, 0, .none⟩
def AGT_EPOCH_LEFT_BYTES : Fld := ⟨0xFF0005002010, 0, 64, .ro, 0, 1, .part, 0x20, 16, 0x0, 1, false, 0, .none⟩
def AGT_EPOCH_ACK_BYTES : Fld := ⟨0xFF0005002018, 0, 40, .ro, 0, 1, .part, 0x20, 16, 0x0, 1, false, 0, .none⟩
def AGT_EPOCH_OUT_BYTES : Fld := ⟨0xFF0005002018, 40, 24, .ro, 0, 1, .part, 0x20, 16, 0x0, 1, false, 0, .none⟩
def AGT_DIR_LAST : Fld := ⟨0xFF0005003000, 0, 32, .ro, 0, 1, .part, 0x10, 16, 0x0, 1, false, 0, .none⟩
def AGT_DIR_BANK : Fld := ⟨0xFF0005003000, 32, 1, .ro, 0, 1, .part, 0x10, 16, 0x0, 1, false, 0, .none⟩
def AGT_DIR_TORN : Fld := ⟨0xFF0005003000, 33, 1, .ro, 0, 1, .part, 0x10, 16, 0x0, 1, false, 0, .none⟩
def AGT_DIR_ADOPTED : Fld := ⟨0xFF0005003000, 34, 1, .ro, 0, 1, .part, 0x10, 16, 0x0, 1, false, 0, .none⟩
def AGT_DIR_RX_BYTES : Fld := ⟨0xFF0005003008, 0, 64, .ro, 0, 1, .part, 0x10, 16, 0x0, 1, false, 0, .none⟩
def SLT_ROWS_LEFT : Fld := ⟨0xFF0002020030, 0, 7, .ro, 64, 1, .sli, 0x40, 16, 0x0, 1, false, 0, .none⟩

/-- Part 0 of the field list of these blocks. -/
def listB0 : List Fld :=
  [SLT_ASSIGN_PART, SLT_ASSIGN_N_LOCAL, SLT_ASSIGN_N_REMOTE, SLT_ASSIGN_N_SCRATCH, SLT_ASSIGN_GO,
   SLT_ASSIGN_STAT_CODE, SLT_ASSIGN_STAT_PART, SLT_ASSIGN_STAT_RUN, SLT_ASSIGN_STAT_PEND, SLT_SLICE_OWNER,
   SLT_SLICE_MODE, SLT_SLICE_GO, SLT_SLICE_BUSY, SLT_SLICE_FAILED, SLT_RGN_BASE, SLT_RGN_LEN, SLT_RGN_CTRL_OP,
   SLT_RGN_CTRL_GO, SLT_RGN_STAT_LAST_CODE, SLT_RGN_STAT_LAST_TKT, SLT_RGN_STAT_SUP_TKT, SLT_RGN_STAT_RUN,
   SLT_RGN_STAT_PEND, SLT_RGN_TKT_HOST_TKT, SLT_HIT, SLT_MISS, SLT_MERGE, SLT_MCAST, SLT_WB, SLT_PWB]
/-- Part 1 of the field list of these blocks. -/
def listB1 : List Fld :=
  [HBM_STAT_B, HBM_STAT_G0, HBM_STAT_INSVC_FAIL, HBM_STAT_MODE, HBM_MODE_REQ, HBM_MODE_RUN, HBM_MODE_PEND,
   HBM_MODE_CODE, HBM_MIRROR_SIZE_GIB, HBM_MIRROR_REJ, HBM_SCRUB_PERIOD_H, HBM_SCRUB_MIRROR_SCRUB,
   HBM_SCRUB_RPR_THRESH, HBM_SCRUB_HARD_AT_INIT, HBM_SCRUB_FMT_REJ, HBM_SCRUB_PASS, HBM_RPR_REQ_STACK, HBM_RPR_REQ_PC,
   HBM_RPR_REQ_SID, HBM_RPR_REQ_BANK, HBM_RPR_REQ_ROW, HBM_RPR_REQ_GO, HBM_ERR_LINK_RPL, HBM_ERR_CE1, HBM_ERR_CEM,
   HBM_ERR_UE, HBM_ERR_RPR_DONE, HBM_ERR_RPR_LEFT, HBM_ERR_RPR_FAIL, HBM_ERR_RPR_DROP]
/-- Part 2 of the field list of these blocks. -/
def listB2 : List Fld :=
  [HBM_ERR_QUEUE, HBM_ERR_LANE_RPR, HBM_PSN_USED, QTZ_PORT_STAT_STATE, QTZ_PORT_STAT_REVERSED,
   QTZ_PORT_STAT_FAIL_CAUSE, QTZ_PORT_STAT_FAIL_STAGE, QTZ_PORT_STAT_SPARE_RX, QTZ_PORT_STAT_SPARE_TX,
   QTZ_PORT_STAT_TX_PWR, QTZ_PORT_STAT_RX_PWR, QTZ_PORT_STAT_QSTATE, QTZ_PORT_STAT_SPARE_BAD, QTZ_PORT_STAT_SERVICE,
   QTZ_PORT_STAT_RTT_NS, QTZ_PORT_CTRL_QREQ, QTZ_PORT_CTRL_FORCE_SWAP, QTZ_PORT_CTRL_SWAP_LANE, QTZ_PORT_CTRL_TEST_EN,
   QTZ_PORT_CTRL_LOOPBACK, QTZ_PORT_CTRL_REJ, QTZ_PORT_PWR_DOZE_EN, QTZ_PORT_PWR_DOZE_IDLE, QTZ_PORT_PWR_REST_EN,
   QTZ_PORT_PWR_REST_IDLE, QTZ_PORT_PWR_SPARE_CHK, QTZ_PORT_PWR_FMT_REJ, QTZ_PORT_FEC_UNCORR_BLK,
   QTZ_PORT_FEC_CRC_FAIL, QTZ_PORT_RPL_REPLAYS]
/-- Part 3 of the field list of these blocks. -/
def listB3 : List Fld :=
  [QTZ_PORT_RPL_LINK_RST, QTZ_PORT_RPL_LOS_EVT, QTZ_LANE_RX_FOM, QTZ_LANE_RX_FOM_MIN, QTZ_LANE_RX_CLASS,
   QTZ_LANE_RX_POL_INV, QTZ_LANE_RX_LOGICAL, QTZ_LANE_RX_LOS, QTZ_LANE_RX_MIN_CLR, QTZ_LANE_RX_FREEZE,
   QTZ_LANE_RX_ERR_SYM, QTZ_LANE_TX_PRESET, QTZ_LANE_TX_OVR_EN, QTZ_LANE_TX_OVR_PRESET, QTZ_ID_DEVID, QTZ_ID_ID_OK,
   QTZ_ID_ASSUMED, QTZ_MGMT_MKEY, QTZ_MGMT_MGR_ID, QTZ_MGMT_TTL_INIT, QTZ_RT_CTRL_ACTIVE, QTZ_RT_CTRL_COMMIT,
   QTZ_RT_CTRL_LOAD_REJ, QTZ_RT_CTRL_REJ_CODE, QTZ_MOVED_MOVED, QTZ_DROP_BAD_HDR, QTZ_DROP_TTL_EXP, QTZ_DROP_RT_ERR,
   QTZ_DROP_NO_ROUTE, QTZ_AGENT_RD_OCC]
/-- Part 4 of the field list of these blocks. -/
def listB4 : List Fld :=
  [QTZ_AGENT_RD_REFUSED, QTZ_AGENT_MG_DROP, RT_REGION_ENTRY, RT_MEMBER_ENTRY, QTZ_PART_QUOTA, QTZ_PART_WEIGHT,
   QTZ_PART_FIX_ALL, QTZ_PART_QUOTA_WAIT, QTZ_PART_CTX_T, QTZ_PART_REJ, QTZ_PART_FMT_REJ, QTZ_PART_PERM_REJ,
   QTZ_PART_SNAP, QTZ_PART_OUT, QTZ_PART_PEAK, QTZ_PART_SWEEP, QTZ_PART_ALLOC, QTZ_PART_DONE, QTZ_PART_QSTALL_NS,
   QTZ_PART_QUOTA_N, QTZ_PART_TIMEOUT_N, QTZ_PART_RETRY, QTZ_PART_LATE, QTZ_PART_BULK_WAIT_NS, QTZ_NBR_SERIAL,
   QTZ_NBR_NID, QTZ_NBR_NPORT, QTZ_NBR_HELLO_OK, QTZ_NBR_DOWN, QTZ_Q_OCC]
/-- Part 5 of the field list of these blocks. -/
def listB5 : List Fld :=
  [QTZ_Q_OFF_TX, QTZ_Q_OFF_RX, QTZ_Q_ACC, QTZ_Q_FWD, QTZ_Q_OFF_NS, QTZ_CLX_STAT_REC, QTZ_CLX_STAT_STORE_KIB,
   QTZ_CLX_STEPS_DONE, QTZ_CLX_STEPS_ABORT, QTZ_CLX_BAD, QTZ_CLX_MARK_ERR, CLX_REC_HANDLE, CLX_REC_PART,
   CLX_REC_STATE, CLX_REC_NODE, CLX_REC_NIN, CLX_REC_OPEN_STEP, CLX_REC_GOT, CLX_REC_OPEN, CLX_REC_LAST_CODE,
   CLX_REC_LAST_STEP, AGT_STAT_STATE, AGT_STAT_LINK_FAULT, AGT_STAT_HELD, AGT_STAT_SPLIT, AGT_STAT_IMG_OK,
   AGT_STAT_PEER_ID, AGT_STAT_PEER_INC, AGT_STAT_OWN_INC, AGT_PEER_SERIAL_SERIAL]
/-- Part 6 of the field list of these blocks. -/
def listB6 : List Fld :=
  [AGT_CFG_AUTO_BIND, AGT_CFG_BIND, AGT_CFG_UNBIND, AGT_CFG_YIELD, AGT_CFG_RELEASE_PEER, AGT_CFG_REJ,
   AGT_CFG_DIRTY_LIM, AGT_CFG_PASS_MAX, AGT_CFG_FMT_REJ, AGT_FOOT_FOOT_MIB, AGT_FOOT_PEER_SIZE, AGT_FOOT_MR_CODE,
   AGT_FOOT_MR_REJ, AGT_ADOPT_PART, AGT_ADOPT_GO, AGT_ADOPT_CODE, AGT_ADOPT_EPOCH, AGT_RSV_HANDBACK,
   AGT_RSV_CONVERGED, AGT_RSV_PASS, AGT_RSV_DIRTY, AGT_RSV_CODE, AGT_MR_LBASE, AGT_MR_LEN, AGT_MR_PART, AGT_MR_KIND,
   AGT_MR_VALID, AGT_MR_MOFF, AGT_EPOCH_GO, AGT_EPOCH_FULL]
/-- Part 7 of the field list of these blocks. -/
def listB7 : List Fld :=
  [AGT_EPOCH_CODE, AGT_EPOCH_RUN, AGT_EPOCH_PEND, AGT_EPOCH_LAST_DONE, AGT_EPOCH_LEFT_BYTES, AGT_EPOCH_ACK_BYTES,
   AGT_EPOCH_OUT_BYTES, AGT_DIR_LAST, AGT_DIR_BANK, AGT_DIR_TORN, AGT_DIR_ADOPTED, AGT_DIR_RX_BYTES, SLT_ROWS_LEFT]

/-- Every field of these blocks. -/
def listB : List Fld :=
  listB0 ++ listB1 ++ listB2 ++ listB3 ++ listB4 ++ listB5 ++ listB6 ++ listB7

end Sys2Proof.Machine.F
end

