-- ==== Sys2Proof/Machine/RegsC.lean ====
section
/-! DEFINITION. Machine/RegsC.lean: the fields of the HST, MCA, JSP, ERR, loop and stepper register blocks, one constant per field of a register table of spec/
(the manual's own name: register, underscore, field). The columns are those of `Fld`: address of instance 0, lowest bit, width, access,
reset value, reset types that restore it, what the first index names, strides and counts, MB, expert, index-dependent reset. -/

namespace Sys2Proof.Machine.F

def HST_STAT_LINK_UP : Fld := ⟨0xFF0008000000, 0, 1, .ro, 0, 5, .dev, 0x0, 1, 0x0, 1, false, 0, .none⟩
def HST_STAT_RATE : Fld := ⟨0xFF0008000000, 1, 3, .ro, 0, 5, .dev, 0x0, 1, 0x0, 1, false, 0, .none⟩
def HST_STAT_WIDTH : Fld := ⟨0xFF0008000000, 4, 5, .ro, 0, 5, .dev, 0x0, 1, 0x0, 1, false, 0, .none⟩
def HST_STAT_FLIT : Fld := ⟨0xFF0008000000, 9, 1, .ro, 0, 5, .dev, 0x0, 1, 0x0, 1, false, 0, .none⟩
def HST_STAT_DEGRADED : Fld := ⟨0xFF0008000000, 10, 1, .ro, 0, 5, .dev, 0x0, 1, 0x0, 1, false, 0, .none⟩
def HST_STAT_SDOWN : Fld := ⟨0xFF0008000000, 11, 1, .w1c, 0, 1, .dev, 0x0, 1, 0x0, 1, false, 0, .none⟩
def HST_STAT_CQ_LOST : Fld := ⟨0xFF0008000000, 12, 20, .ro, 0, 1, .dev, 0x0, 1, 0x0, 1, false, 0, .none⟩
def HST_STAT_APER_REJ : Fld := ⟨0xFF0008000000, 32, 16, .ro, 0, 1, .dev, 0x0, 1, 0x0, 1, false, 0, .none⟩
def HST_STAT_MG_DROP : Fld := ⟨0xFF0008000000, 48, 16, .ro, 0, 1, .dev, 0x0, 1, 0x0, 1, false, 0, .none⟩
def HST_PART_CTL_EXPERT_EN : Fld := ⟨0xFF0008000100, 0, 1, .rw, 0, 3, .part, 0x40, 16, 0x0, 1, false, 0, .none⟩
def HST_PART_CTL_EXISTS : Fld := ⟨0xFF0008000100, 1, 1, .ro, 0, 1, .part, 0x40, 16, 0x0, 1, false, 0, .none⟩
def HST_PART_CTL_APER_BASE : Fld := ⟨0xFF0008000100, 8, 8, .rw, 0, 1, .part, 0x40, 16, 0x0, 1, false, 0, .none⟩
def HST_PART_CTL_CLU : Fld := ⟨0xFF0008000108, 0, 64, .ro, 0, 1, .part, 0x40, 16, 0x8, 4, false, 0, .none⟩
def HST_RING_SQ_BASE : Fld := ⟨0xFF0008010000, 0, 64, .rw, 0, 1, .ring, 0x40, 256, 0x0, 1, false, 0, .none⟩
def HST_RING_CQ_BASE : Fld := ⟨0xFF0008010008, 0, 64, .rw, 0, 1, .ring, 0x40, 256, 0x0, 1, false, 0, .none⟩
def HST_RING_ENABLE : Fld := ⟨0xFF0008010010, 0, 1, .rw, 0, 7, .ring, 0x40, 256, 0x0, 1, false, 0, .none⟩
def HST_RING_MGMT : Fld := ⟨0xFF0008010010, 1, 1, .rw, 0, 1, .ring, 0x40, 256, 0x0, 1, false, 0, .none⟩
def HST_RING_SIZE_LOG2 : Fld := ⟨0xFF0008010010, 2, 5, .rw, 4, 1, .ring, 0x40, 256, 0x0, 1, false, 0, .none⟩
def HST_RING_OWNER : Fld := ⟨0xFF0008010010, 7, 5, .rw, 31, 1, .ring, 0x40, 256, 0x0, 1, false, 0, .none⟩
def HST_RING_VEC : Fld := ⟨0xFF0008010010, 12, 9, .rw, 0, 1, .ring, 0x40, 256, 0x0, 1, false, 0, .none⟩
def HST_RING_CNT_TH : Fld := ⟨0xFF0008010010, 21, 8, .rw, 1, 1, .ring, 0x40, 256, 0x0, 1, false, 0, .none⟩
def HST_RING_TIME_US : Fld := ⟨0xFF0008010010, 29, 10, .rw, 0, 1, .ring, 0x40, 256, 0x0, 1, false, 0, .none⟩
def HST_RING_WEIGHT : Fld := ⟨0xFF0008010010, 39, 4, .rw, 1, 1, .ring, 0x40, 256, 0x0, 1, false, 2, .none⟩
def HST_RING_SQ_HEAD : Fld := ⟨0xFF0008010018, 0, 16, .ro, 0, 1, .ring, 0x40, 256, 0x0, 1, false, 0, .none⟩
def HST_RING_SQ_TAIL : Fld := ⟨0xFF0008010018, 16, 16, .ro, 0, 1, .ring, 0x40, 256, 0x0, 1, false, 0, .none⟩
def HST_RING_CQ_TAIL : Fld := ⟨0xFF0008010018, 32, 16, .ro, 0, 1, .ring, 0x40, 256, 0x0, 1, false, 0, .none⟩
def HST_RING_PHASE : Fld := ⟨0xFF0008010018, 48, 1, .ro, 1, 1, .ring, 0x40, 256, 0x0, 1, false, 0, .none⟩
def HST_RING_ERR : Fld := ⟨0xFF0008010018, 49, 1, .w1c, 0, 1, .ring, 0x40, 256, 0x0, 1, false, 0, .none⟩
def HST_GRANT_BASE : Fld := ⟨0xFF0008040000, 0, 48, .ro, 0, 1, .gra, 0x20, 4096, 0x0, 1, false, 0, .none⟩
def HST_GRANT_PAGES : Fld := ⟨0xFF0008040008, 0, 26, .ro, 0, 1, .gra, 0x20, 4096, 0x0, 1, false, 0, .none⟩
def HST_GRANT_VALID : Fld := ⟨0xFF0008040010, 0, 1, .ro, 0, 1, .gra, 0x20, 4096, 0x0, 1, false, 0, .none⟩
def HST_GRANT_MODE : Fld := ⟨0xFF0008040010, 1, 1, .ro, 0, 1, .gra, 0x20, 4096, 0x0, 1, false, 0, .none⟩
def HST_GRANT_PARTS : Fld := ⟨0xFF0008040010, 2, 16, .ro, 0, 1, .gra, 0x20, 4096, 0x0, 1, false, 0, .none⟩
def HST_GRANT_HOME : Fld := ⟨0xFF0008040010, 18, 4, .ro, 0, 1, .gra, 0x20, 4096, 0x0, 1, false, 0, .none⟩
def MCA_STAT_CAP_KS : Fld := ⟨0xFF0006000000, 0, 26, .ro, 0x23dc000, 15, .dev, 0x0, 1, 0x0, 1, false, 0, .none⟩
def MCA_STAT_RES_KS : Fld := ⟨0xFF0006000000, 26, 26, .ro, 0, 3, .dev, 0x0, 1, 0x0, 1, false, 0, .none⟩
def MCA_STAT_CTX_USED : Fld := ⟨0xFF0006000000, 52, 11, .ro, 0, 3, .dev, 0x0, 1, 0x0, 1, false, 0, .none⟩
def MCA_STAT_LAG : Fld := ⟨0xFF0006000000, 63, 1, .ro, 0, 5, .dev, 0x0, 1, 0x0, 1, false, 0, .none⟩
def MCA_CTRL_LAG_FRAC : Fld := ⟨0xFF0006000008, 0, 3, .rw, 4, 0, .dev, 0x0, 1, 0x0, 1, false, 2, .none⟩
def MCA_CTRL_FMT_REJ : Fld := ⟨0xFF0006000008, 3, 1, .w1c, 0, 0, .dev, 0x0, 1, 0x0, 1, false, 0, .none⟩
def MCA_CACHE_BASE : Fld := ⟨0xFF0006000100, 0, 48, .ro, 0, 1, .part, 0x40, 16, 0x0, 1, false, 0, .none⟩
def MCA_CACHE_LEN : Fld := ⟨0xFF0006000108, 0, 37, .ro, 0, 1, .part, 0x40, 16, 0x0, 1, false, 0, .none⟩
def MCA_CACHE_MAX_ENT : Fld := ⟨0xFF0006000110, 0, 25, .ro, 0, 1, .part, 0x40, 16, 0x0, 1, false, 0, .none⟩
def MCA_CACHE_USED : Fld := ⟨0xFF0006000110, 25, 25, .ro, 0, 3, .part, 0x40, 16, 0x0, 1, false, 0, .none⟩
def MCA_CACHE_HITS : Fld := ⟨0xFF0006000118, 0, 64, .ro, 0, 3, .part, 0x40, 16, 0x0, 1, false, 0, .none⟩
def MCA_CACHE_MISSES : Fld := ⟨0xFF0006000120, 0, 64, .ro, 0, 3, .part, 0x40, 16, 0x0, 1, false, 0, .none⟩
def MCA_CACHE_EVICT : Fld := ⟨0xFF0006000128, 0, 32, .ro, 0, 3, .part, 0x40, 16, 0x0, 1, false, 0, .none⟩
def MCA_CACHE_INS_FAIL : Fld := ⟨0xFF0006000128, 32, 32, .ro, 0, 3, .part, 0x40, 16, 0x0, 1, false, 0, .none⟩
def MCA_CACHE_PIN_RUN : Fld := ⟨0xFF0006000130, 0, 8, .ro, 0, 3, .part, 0x40, 16, 0x0, 1, false, 0, .none⟩
def MCA_CACHE_PIN_PEND : Fld := ⟨0xFF0006000130, 8, 8, .ro, 0, 3, .part, 0x40, 16, 0x0, 1, false, 0, .none⟩
def MCA_STREAM_STATE : Fld := ⟨0xFF0006010000, 0, 2, .ro, 0, 3, .str, 0x80, 1024, 0x0, 1, false, 0, .none⟩
def MCA_STREAM_PART : Fld := ⟨0xFF0006010000, 2, 4, .ro, 0, 3, .str, 0x80, 1024, 0x0, 1, false, 0, .none⟩
def MCA_STREAM_LIVE : Fld := ⟨0xFF0006010000, 6, 1, .ro, 0, 3, .str, 0x80, 1024, 0x0, 1, false, 0, .none⟩
def MCA_STREAM_SNAP : Fld := ⟨0xFF0006010000, 7, 1, .wo, 0, 15, .str, 0x80, 1024, 0x0, 1, false, 0, .none⟩
def MCA_STREAM_CREDITS : Fld := ⟨0xFF0006010000, 8, 7, .ro, 0, 3, .str, 0x80, 1024, 0x0, 1, false, 0, .none⟩
def MCA_STREAM_QUEUED : Fld := ⟨0xFF0006010000, 15, 9, .ro, 0, 3, .str, 0x80, 1024, 0x0, 1, false, 0, .none⟩
def MCA_STREAM_LAST_ERR : Fld := ⟨0xFF0006010000, 24, 16, .ro, 0, 3, .str, 0x80, 1024, 0x0, 1, false, 0, .none⟩
def MCA_STREAM_NUMFLG : Fld := ⟨0xFF0006010000, 40, 3, .ro, 0, 3, .str, 0x80, 1024, 0x0, 1, false, 0, .none⟩
def MCA_STREAM_IN : Fld := ⟨0xFF0006010008, 0, 64, .ro, 0, 3, .str, 0x80, 1024, 0x0, 1, false, 0, .none⟩
def MCA_STREAM_DEC : Fld := ⟨0xFF0006010010, 0, 64, .ro, 0, 3, .str, 0x80, 1024, 0x0, 1, false, 0, .none⟩
def MCA_STREAM_STALE_START : Fld := ⟨0xFF0006010018, 0, 32, .ro, 0, 3, .str, 0x80, 1024, 0x0, 1, false, 0, .none⟩
def MCA_STREAM_STALE_DELIV : Fld := ⟨0xFF0006010018, 32, 32, .ro, 0, 3, .str, 0x80, 1024, 0x0, 1, false, 0, .none⟩
def MCA_STREAM_ERR : Fld := ⟨0xFF0006010020, 0, 32, .ro, 0, 3, .str, 0x80, 1024, 0x0, 1, false, 0, .none⟩
def MCA_STREAM_FLIGHT : Fld := ⟨0xFF0006010020, 32, 32, .ro, 0, 3, .str, 0x80, 1024, 0x0, 1, false, 0, .none⟩
def MCA_STREAM_HIT : Fld := ⟨0xFF0006010028, 0, 32, .ro, 0, 3, .str, 0x80, 1024, 0x0, 1, false, 0, .none⟩
def MCA_STREAM_NOOUT : Fld := ⟨0xFF0006010028, 32, 32, .ro, 0, 3, .str, 0x80, 1024, 0x0, 1, false, 0, .none⟩
def MCA_STREAM_SKIP : Fld := ⟨0xFF0006010030, 0, 32, .ro, 0, 3, .str, 0x80, 1024, 0x0, 1, false, 0, .none⟩
def MCA_STREAM_SEQ : Fld := ⟨0xFF0006010030, 32, 32, .ro, 0, 3, .str, 0x80, 1024, 0x0, 1, false, 0, .none⟩
def MCA_STREAM_FUTURE : Fld := ⟨0xFF0006010038, 0, 16, .ro, 0, 3, .str, 0x80, 1024, 0x0, 1, false, 0, .none⟩
def MCA_STREAM_NOSTAMP : Fld := ⟨0xFF0006010038, 16, 16, .ro, 0, 3, .str, 0x80, 1024, 0x0, 1, false, 0, .none⟩
def MCA_STREAM_LAG_N : Fld := ⟨0xFF0006010038, 32, 16, .ro, 0, 3, .str, 0x80, 1024, 0x0, 1, false, 0, .none⟩
def MCA_STREAM_PREEMPT_NS : Fld := ⟨0xFF0006010040, 0, 64, .ro, 0, 3, .str, 0x80, 1024, 0x0, 1, false, 0, .none⟩
def JSP_STAT_WAITING : Fld := ⟨0xFF0007000000, 0, 3, .ro, 0, 3, .dev, 0x0, 1, 0x0, 1, false, 0, .none⟩
def JSP_STAT_RUN : Fld := ⟨0xFF0007000000, 3, 1, .ro, 0, 5, .dev, 0x0, 1, 0x0, 1, false, 0, .none⟩
def JSP_STAT_RUN_PART : Fld := ⟨0xFF0007000000, 4, 4, .ro, 0, 5, .dev, 0x0, 1, 0x0, 1, false, 0, .none⟩
def JSP_STAT_PIPE_BUSY : Fld := ⟨0xFF0007000000, 8, 8, .ro, 0, 15, .dev, 0x0, 1, 0x0, 1, false, 0, .none⟩
def JSP_STAT_RUN_DONE : Fld := ⟨0xFF0007000000, 16, 13, .ro, 0, 5, .dev, 0x0, 1, 0x0, 1, false, 0, .none⟩
def JSP_PART_ACCEPTED : Fld := ⟨0xFF0007000100, 0, 64, .ro, 0, 3, .part, 0x40, 16, 0x0, 1, false, 0, .none⟩
def JSP_PART_DONE : Fld := ⟨0xFF0007000108, 0, 64, .ro, 0, 3, .part, 0x40, 16, 0x0, 1, false, 0, .none⟩
def JSP_PART_REFUSED : Fld := ⟨0xFF0007000110, 0, 32, .ro, 0, 3, .part, 0x40, 16, 0x0, 1, false, 0, .none⟩
def JSP_PART_ILL_TREES : Fld := ⟨0xFF0007000110, 32, 32, .ro, 0, 3, .part, 0x40, 16, 0x0, 1, false, 0, .none⟩
def JSP_PART_QWAIT_NS : Fld := ⟨0xFF0007000118, 0, 64, .ro, 0, 3, .part, 0x40, 16, 0x0, 1, false, 0, .none⟩
def JSP_PART_TREES : Fld := ⟨0xFF0007000120, 0, 64, .ro, 0, 3, .part, 0x40, 16, 0x0, 1, false, 0, .none⟩
def FLT_LP_GLB_FALLBACK : Fld := ⟨0xFF0009040000, 0, 16, .ro, 0, 0, .dev, 0x0, 1, 0x0, 1, false, 0, .none⟩
def FLT_LP_GLB_OVERRUN : Fld := ⟨0xFF0009040000, 16, 8, .w1c, 0, 0, .dev, 0x0, 1, 0x0, 1, true, 0, .none⟩
def FLT_LP_GLB_PLS_LOST : Fld := ⟨0xFF0009040000, 24, 2, .ro, 3, 0, .dev, 0x0, 1, 0x0, 1, false, 0, .none⟩
def FLT_AIN_CODE : Fld := ⟨0xFF0009040100, 0, 12, .ro, 0, 0, .dev, 0x8, 8, 0x0, 1, false, 0, .none⟩
def FLT_AIN_ADC_CNT : Fld := ⟨0xFF0009040100, 32, 32, .ro, 0, 0, .dev, 0x8, 8, 0x0, 1, false, 0, .none⟩
def FLT_PLS_DUTY : Fld := ⟨0xFF0009040180, 0, 32, .ro, 0, 0, .dev, 0x8, 2, 0x0, 1, false, 0, .none⟩
def FLT_PLS_PER_NS : Fld := ⟨0xFF0009040180, 32, 32, .ro, 0, 0, .dev, 0x8, 2, 0x0, 1, false, 0, .none⟩
def FLT_TACH_RPM : Fld := ⟨0xFF0009040200, 0, 32, .ro, 0, 0, .dev, 0x8, 6, 0x0, 1, false, 0, .none⟩
def LP_CTL_MODE : Fld := ⟨0xFF0009041000, 0, 3, .rw, 0, 0, .lp, 0x200, 16, 0x0, 1, true, 0, .none⟩
def LP_CTL_LAW : Fld := ⟨0xFF0009041000, 3, 2, .rw, 0, 0, .lp, 0x200, 16, 0x0, 1, true, 0, .none⟩
def LP_CTL_DIR : Fld := ⟨0xFF0009041000, 5, 1, .rw, 0, 0, .lp, 0x200, 16, 0x0, 1, true, 0, .none⟩
def LP_CTL_CLASS : Fld := ⟨0xFF0009041000, 6, 1, .ro, 0, 0, .lp, 0x200, 16, 0x0, 1, false, 0, .ch15 1⟩
def LP_CTL_OUT : Fld := ⟨0xFF0009041000, 7, 5, .rw, 0, 0, .lp, 0x200, 16, 0x0, 1, true, 0, .ch15 15⟩
def LP_CTL_PERIOD : Fld := ⟨0xFF0009041000, 12, 10, .rw, 0x3e8, 0, .lp, 0x200, 16, 0x0, 1, true, 0, .ch15 100⟩
def LP_CTL_PHASE : Fld := ⟨0xFF0009041000, 22, 10, .rw, 0, 0, .lp, 0x200, 16, 0x0, 1, true, 1, .idx⟩
def LP_SRC_SP_SRC : Fld := ⟨0xFF0009041008, 0, 5, .rw, 0, 0, .lp, 0x200, 16, 0x0, 1, true, 0, .none⟩
def LP_SRC_FB_SRC : Fld := ⟨0xFF0009041008, 5, 5, .rw, 1, 0, .lp, 0x200, 16, 0x0, 1, true, 0, .ch15 22⟩
def LP_SRC_CHK_SRC : Fld := ⟨0xFF0009041008, 10, 5, .rw, 0, 0, .lp, 0x200, 16, 0x0, 1, true, 0, .none⟩
def LP_SRC_PL_EN : Fld := ⟨0xFF0009041008, 15, 1, .rw, 0, 0, .lp, 0x200, 16, 0x0, 1, true, 0, .none⟩
def LP_SRC_PL_N : Fld := ⟨0xFF0009041008, 16, 8, .rw, 8, 0, .lp, 0x200, 16, 0x0, 1, true, 1, .none⟩
def LP_COEF_LO : Fld := ⟨0xFF0009041080, 0, 32, .rw, 0, 0, .lp, 0x200, 16, 0x8, 13, true, 0, .coef15 0x3D4CCCCD⟩
def LP_COEF_HI : Fld := ⟨0xFF0009041080, 32, 32, .rw, 0, 0, .lp, 0x200, 16, 0x8, 13, true, 0, .coef15 0x42A00000⟩
def LP_VAL_SP : Fld := ⟨0xFF0009041100, 0, 32, .ro, 0, 0, .lp, 0x200, 16, 0x0, 1, false, 0, .none⟩
def LP_VAL_FB : Fld := ⟨0xFF0009041100, 32, 32, .ro, 0, 0, .lp, 0x200, 16, 0x0, 1, false, 0, .none⟩
def LP_OUT_U : Fld := ⟨0xFF0009041108, 0, 32, .ro, 0, 0, .lp, 0x200, 16, 0x0, 1, false, 0, .none⟩
def LP_OUT_M : Fld := ⟨0xFF0009041108, 32, 32, .ro, 0, 0, .lp, 0x200, 16, 0x0, 1, false, 0, .none⟩
def LP_STAT_PL_FAULT : Fld := ⟨0xFF0009041110, 0, 1, .w1c, 0, 0, .lp, 0x200, 16, 0x0, 1, true, 0, .none⟩
def LP_STAT_CAUSE : Fld := ⟨0xFF0009041110, 1, 2, .ro, 0, 0, .lp, 0x200, 16, 0x0, 1, false, 0, .none⟩
def LP_STAT_STALE_RUN : Fld := ⟨0xFF0009041110, 3, 2, .ro, 0, 0, .lp, 0x200, 16, 0x0, 1, false, 0, .none⟩
def LP_STAT_BUSY_REJ : Fld := ⟨0xFF0009041110, 5, 1, .w1c, 0, 0, .lp, 0x200, 16, 0x0, 1, true, 0, .none⟩
def LP_STAT_FMT_REJ : Fld := ⟨0xFF0009041110, 6, 1, .w1c, 0, 0, .lp, 0x200, 16, 0x0, 1, true, 0, .none⟩
def LP_TICKS_TICKS : Fld := ⟨0xFF0009041118, 0, 64, .ro, 0, 0, .lp, 0x200, 16, 0x0, 1, false, 0, .none⟩
def FLT_SM_GLB_FAULT : Fld := ⟨0xFF0009050000, 0, 4, .ro, 0, 0, .dev, 0x0, 1, 0x0, 1, false, 0, .none⟩
def FLT_SM_GLB_LOWHR : Fld := ⟨0xFF0009050000, 4, 4, .ro, 0, 0, .dev, 0x0, 1, 0x0, 1, false, 0, .none⟩
def SM_CTL_EN : Fld := ⟨0xFF0009051000, 0, 1, .rw, 0, 0, .sm, 0x200, 4, 0x0, 1, true, 0, .none⟩
def SM_CTL_PROFILE : Fld := ⟨0xFF0009051000, 1, 1, .rw, 0, 0, .sm, 0x200, 4, 0x0, 1, true, 0, .none⟩
def SM_CTL_DIR_INV : Fld := ⟨0xFF0009051000, 2, 1, .rw, 0, 0, .sm, 0x200, 4, 0x0, 1, true, 0, .none⟩
def SM_CTL_STALL_EN : Fld := ⟨0xFF0009051000, 3, 1, .rw, 1, 0, .sm, 0x200, 4, 0x0, 1, true, 1, .none⟩
def SM_CTL_DERATE_EN : Fld := ⟨0xFF0009051000, 4, 1, .rw, 1, 0, .sm, 0x200, 4, 0x0, 1, true, 1, .none⟩
def SM_CTL_DECAY : Fld := ⟨0xFF0009051000, 5, 2, .rw, 0, 0, .sm, 0x200, 4, 0x0, 1, true, 1, .none⟩
def SM_CTL_HOME_SRC : Fld := ⟨0xFF0009051000, 7, 4, .rw, 0, 0, .sm, 0x200, 4, 0x0, 1, true, 0, .none⟩
def SM_CTL_HOME_DIR : Fld := ⟨0xFF0009051000, 11, 1, .rw, 0, 0, .sm, 0x200, 4, 0x0, 1, true, 0, .none⟩
def SM_CTL_RELEASE_DIR : Fld := ⟨0xFF0009051000, 12, 1, .rw, 0, 0, .sm, 0x200, 4, 0x0, 1, true, 0, .none⟩
def SM_CTL_LATCH_MASK : Fld := ⟨0xFF0009051000, 13, 16, .rw, 0, 0, .sm, 0x200, 4, 0x0, 1, true, 0, .none⟩
def SM_CUR_I_RUN : Fld := ⟨0xFF0009051008, 0, 7, .rw, 50, 0, .sm, 0x200, 4, 0x0, 1, true, 0, .none⟩
def SM_CUR_I_HOLD : Fld := ⟨0xFF0009051008, 7, 7, .rw, 25, 0, .sm, 0x200, 4, 0x0, 1, true, 0, .none⟩
def SM_CUR_HOLD_DLY : Fld := ⟨0xFF0009051008, 14, 10, .rw, 100, 0, .sm, 0x200, 4, 0x0, 1, true, 0, .none⟩
def SM_CUR_HOME_TH : Fld := ⟨0xFF0009051008, 24, 12, .rw, 0x800, 0, .sm, 0x200, 4, 0x0, 1, true, 0, .none⟩
def SM_VEL_VMAX : Fld := ⟨0xFF0009051010, 0, 18, .rw, 0x1f40, 0, .sm, 0x200, 4, 0x0, 1, true, 0, .none⟩
def SM_VEL_VMIN : Fld := ⟨0xFF0009051010, 18, 11, .rw, 200, 0, .sm, 0x200, 4, 0x0, 1, true, 0, .none⟩
def SM_VEL_HOME_V : Fld := ⟨0xFF0009051010, 29, 18, .rw, 0x7d0, 0, .sm, 0x200, 4, 0x0, 1, true, 0, .none⟩
def SM_ACC_AMAX : Fld := ⟨0xFF0009051018, 0, 24, .rw, 0x9c40, 0, .sm, 0x200, 4, 0x0, 1, true, 0, .none⟩
def SM_ACC_DMAX : Fld := ⟨0xFF0009051018, 24, 24, .rw, 0x9c40, 0, .sm, 0x200, 4, 0x0, 1, true, 0, .none⟩
def SM_JERK_JMAX : Fld := ⟨0xFF0009051020, 0, 32, .rw, 0x3d0900, 0, .sm, 0x200, 4, 0x0, 1, true, 0, .none⟩
def SM_POSLIM_OPEN : Fld := ⟨0xFF0009051028, 0, 32, .rw, 0, 0, .sm, 0x200, 4, 0x0, 1, true, 0, .none⟩
def SM_POSLIM_CLOSED : Fld := ⟨0xFF0009051028, 32, 32, .rw, 0, 0, .sm, 0x200, 4, 0x0, 1, true, 0, .none⟩
def SM_HOME_HOME_POS : Fld := ⟨0xFF0009051030, 0, 32, .rw, 0, 0, .sm, 0x200, 4, 0x0, 1, true, 0, .none⟩
def SM_HOME_HOME_MAX : Fld := ⟨0xFF0009051030, 32, 32, .rw, 0xfa00, 0, .sm, 0x200, 4, 0x0, 1, true, 0, .none⟩
def SM_STALL_STALL_VMIN : Fld := ⟨0xFF0009051038, 0, 18, .rw, 0x640, 0, .sm, 0x200, 4, 0x0, 1, true, 1, .none⟩
def SM_STALL_STALL_TH : Fld := ⟨0xFF0009051038, 18, 8, .rw, 32, 0, .sm, 0x200, 4, 0x0, 1, true, 1, .none⟩
def MV_TGT_TGT : Fld := ⟨0xFF0009051040, 0, 32, .rw, 0, 0, .sm, 0x200, 4, 0x0, 1, true, 0, .none⟩
def MV_TGT_REL : Fld := ⟨0xFF0009051040, 32, 1, .rw, 0, 0, .sm, 0x200, 4, 0x0, 1, true, 0, .none⟩
def MV_TGT_NOBLEND : Fld := ⟨0xFF0009051040, 33, 1, .rw, 0, 0, .sm, 0x200, 4, 0x0, 1, true, 0, .none⟩
def MV_TGT_TAG : Fld := ⟨0xFF0009051040, 34, 16, .rw, 0, 0, .sm, 0x200, 4, 0x0, 1, true, 0, .none⟩
def MV_PAR_VMAX : Fld := ⟨0xFF0009051048, 0, 18, .rw, 0, 0, .sm, 0x200, 4, 0x0, 1, true, 0, .none⟩
def MV_PAR_DWELL : Fld := ⟨0xFF0009051048, 18, 24, .rw, 0, 0, .sm, 0x200, 4, 0x0, 1, true, 0, .none⟩
def MV_ACC_A : Fld := ⟨0xFF0009051050, 0, 24, .rw, 0, 0, .sm, 0x200, 4, 0x0, 1, true, 1, .none⟩
def MV_ACC_D : Fld := ⟨0xFF0009051050, 24, 24, .rw, 0, 0, .sm, 0x200, 4, 0x0, 1, true, 1, .none⟩
def MV_JERK_J : Fld := ⟨0xFF0009051058, 0, 32, .rw, 0, 0, .sm, 0x200, 4, 0x0, 1, true, 1, .none⟩
def SM_CMD_GO : Fld := ⟨0xFF0009051060, 0, 1, .wo, 0, 0, .sm, 0x200, 4, 0x0, 1, true, 0, .none⟩
def SM_CMD_STOP : Fld := ⟨0xFF0009051060, 1, 1, .wo, 0, 0, .sm, 0x200, 4, 0x0, 1, true, 0, .none⟩
def SM_CMD_RESUME : Fld := ⟨0xFF0009051060, 2, 1, .wo, 0, 0, .sm, 0x200, 4, 0x0, 1, true, 0, .none⟩
def SM_CMD_FLUSH : Fld := ⟨0xFF0009051060, 3, 1, .wo, 0, 0, .sm, 0x200, 4, 0x0, 1, true, 0, .none⟩
def SM_CMD_HOME : Fld := ⟨0xFF0009051060, 4, 1, .wo, 0, 0, .sm, 0x200, 4, 0x0, 1, true, 0, .none⟩
def SM_CMD_CLEAR : Fld := ⟨0xFF0009051060, 5, 1, .wo, 0, 0, .sm, 0x200, 4, 0x0, 1, true, 0, .none⟩
def SM_CMD_SETPOS : Fld := ⟨0xFF0009051060, 6, 1, .wo, 0, 0, .sm, 0x200, 4, 0x0, 1, true, 1, .none⟩
def SM_STAT_STATE : Fld := ⟨0xFF0009051068, 0, 4, .ro, 0, 0, .sm, 0x200, 4, 0x0, 1, false, 0, .none⟩
def SM_STAT_QLEN : Fld := ⟨0xFF0009051068, 4, 4, .ro, 0, 0, .sm, 0x200, 4, 0x0, 1, false, 0, .none⟩
def SM_STAT_POS_UNCERTAIN : Fld := ⟨0xFF0009051068, 8, 1, .ro, 1, 0, .sm, 0x200, 4, 0x0, 1, false, 0, .none⟩
def SM_STAT_HOMED : Fld := ⟨0xFF0009051068, 9, 1, .ro, 0, 0, .sm, 0x200, 4, 0x0, 1, false, 0, .none⟩
def SM_STAT_FAULT_SHORT : Fld := ⟨0xFF0009051068, 10, 1, .ro, 0, 0, .sm, 0x200, 4, 0x0, 1, false, 0, .none⟩
def SM_STAT_FAULT_STALL : Fld := ⟨0xFF0009051068, 11, 1, .ro, 0, 0, .sm, 0x200, 4, 0x0, 1, false, 0, .none⟩
def SM_STAT_FAULT_SUPPLY : Fld := ⟨0xFF0009051068, 12, 1, .ro, 0, 0, .sm, 0x200, 4, 0x0, 1, false, 0, .none⟩
def SM_STAT_LOW_HEADROOM : Fld := ⟨0xFF0009051068, 13, 1, .w1c, 0, 0, .sm, 0x200, 4, 0x0, 1, true, 0, .none⟩
def SM_STAT_DERATED : Fld := ⟨0xFF0009051068, 14, 1, .ro, 0, 0, .sm, 0x200, 4, 0x0, 1, false, 0, .none⟩
def SM_STAT_LOOP_OWNED : Fld := ⟨0xFF0009051068, 15, 1, .ro, 0, 0, .sm, 0x200, 4, 0x0, 1, false, 0, .none⟩
def SM_STAT_REJ : Fld := ⟨0xFF0009051068, 16, 1, .w1c, 0, 0, .sm, 0x200, 4, 0x0, 1, true, 0, .none⟩
def SM_STAT_FMT_REJ : Fld := ⟨0xFF0009051068, 17, 1, .w1c, 0, 0, .sm, 0x200, 4, 0x0, 1, true, 0, .none⟩
def SM_STAT_LAST_CODE : Fld := ⟨0xFF0009051068, 18, 16, .ro, 0, 0, .sm, 0x200, 4, 0x0, 1, false, 0, .none⟩
def SM_STAT_DONE_TAG : Fld := ⟨0xFF0009051068, 34, 16, .ro, 0, 0, .sm, 0x200, 4, 0x0, 1, false, 0, .none⟩
def SM_POS_POS : Fld := ⟨0xFF0009051070, 0, 32, .ro, 0, 0, .sm, 0x200, 4, 0x0, 1, false, 0, .none⟩
def SM_POS_TGT : Fld := ⟨0xFF0009051070, 32, 32, .ro, 0, 0, .sm, 0x200, 4, 0x0, 1, false, 0, .none⟩
def SM_MOT_VEL : Fld := ⟨0xFF0009051078, 0, 32, .ro, 0, 0, .sm, 0x200, 4, 0x0, 1, false, 0, .none⟩
def SM_MOT_DWELL_LEFT : Fld := ⟨0xFF0009051078, 32, 24, .ro, 0, 0, .sm, 0x200, 4, 0x0, 1, false, 0, .none⟩
def SM_CNT_MOVES_DONE : Fld := ⟨0xFF0009051080, 0, 32, .ro, 0, 0, .sm, 0x200, 4, 0x0, 1, false, 0, .none⟩
def SM_CNT_LOWHR_CNT : Fld := ⟨0xFF0009051080, 32, 16, .ro, 0, 0, .sm, 0x200, 4, 0x0, 1, false, 0, .none⟩
def SM_CNT_FAULT_CNT : Fld := ⟨0xFF0009051080, 48, 16, .ro, 0, 0, .sm, 0x200, 4, 0x0, 1, false, 0, .none⟩
def SM_STEPS_STEPS : Fld := ⟨0xFF0009051088, 0, 64, .ro, 0, 0, .sm, 0x200, 4, 0x0, 1, false, 0, .none⟩
def ERR_SUMMARY_SEEN : Fld := ⟨0xFF000A000000, 0, 5, .w1c, 0, 0, .dev, 0x0, 1, 0x0, 1, false, 0, .none⟩
def ERR_SUMMARY_SERVICE_DUE : Fld := ⟨0xFF000A000000, 5, 1, .ro, 0, 0, .dev, 0x0, 1, 0x0, 1, false, 0, .none⟩
def ERR_SUMMARY_CC_FAILED : Fld := ⟨0xFF000A000000, 6, 4, .ro, 0, 0, .dev, 0x0, 1, 0x0, 1, false, 0, .none⟩
def ERR_HEAD_SEQ : Fld := ⟨0xFF000A000008, 0, 32, .ro, 0, 0, .dev, 0x0, 1, 0x0, 1, false, 0, .none⟩
def ERR_HEAD_LOST : Fld := ⟨0xFF000A000008, 32, 16, .ro, 0, 0, .dev, 0x0, 1, 0x0, 1, false, 0, .none⟩
def ERR_ACK_SEQ : Fld := ⟨0xFF000A000010, 0, 32, .rw, 0, 0, .dev, 0x0, 1, 0x0, 1, false, 0, .none⟩
def ERR_CNT_CLASS : Fld := ⟨0xFF000A000018, 0, 60, .ro, 0, 0, .dev, 0x0, 1, 0x0, 1, false, 0, .none⟩
def ERR_CFG_SPARE_AUTO : Fld := ⟨0xFF000A000020, 0, 1, .rw, 1, 0, .dev, 0x0, 1, 0x0, 1, true, 1, .none⟩
def ERR_CFG_CROSS_ESC : Fld := ⟨0xFF000A000020, 1, 14, .rw, 100, 0, .dev, 0x0, 1, 0x0, 1, true, 1, .none⟩
def ERR_CFG_ROW_TH : Fld := ⟨0xFF000A000020, 15, 7, .rw, 4, 0, .dev, 0x0, 1, 0x0, 1, true, 1, .none⟩
def ERR_CFG_FMT_REJ : Fld := ⟨0xFF000A000020, 22, 1, .w1c, 0, 0, .dev, 0x0, 1, 0x0, 1, false, 0, .none⟩
def ERR_SPARE_REQ_LOGICAL : Fld := ⟨0xFF000A000028, 0, 8, .rw, 0, 0, .dev, 0x0, 1, 0x0, 1, true, 1, .none⟩
def ERR_SPARE_REQ_PHYS : Fld := ⟨0xFF000A000028, 8, 7, .rw, 0, 0, .dev, 0x0, 1, 0x0, 1, true, 1, .none⟩
def ERR_SPARE_REQ_GO : Fld := ⟨0xFF000A000028, 15, 1, .wo, 0, 15, .dev, 0x0, 1, 0x0, 1, true, 1, .none⟩
def ERR_SPARE_REQ_CODE : Fld := ⟨0xFF000A000028, 16, 16, .ro, 0, 0, .dev, 0x0, 1, 0x0, 1, false, 0, .none⟩
def ERR_SPARE_FREE : Fld := ⟨0xFF000A000100, 0, 3, .ro, 4, 1, .die, 0x8, 4, 0x0, 1, false, 0, .none⟩
def ERR_SPARE_UNMAPPED : Fld := ⟨0xFF000A000100, 3, 7, .ro, 0, 1, .die, 0x8, 4, 0x0, 1, false, 0, .none⟩
def ERR_SPARE_BUSY : Fld := ⟨0xFF000A000100, 10, 1, .ro, 0, 1, .die, 0x8, 4, 0x0, 1, false, 0, .none⟩
def ERR_CLU_FAIL_FAIL : Fld := ⟨0xFF000A000200, 0, 64, .ro, 0, 1, .dev, 0x8, 4, 0x0, 1, false, 0, .none⟩
def ERR_MAP_POS : Fld := ⟨0xFF000A000400, 0, 64, .ro, 0, 1, .die, 0x40, 4, 0x8, 8, false, 0, .errMap⟩
def LP_PAR_SP_CONST : Fld := ⟨0xFF0009041010, 0, 32, .rw, 0, 0, .lp, 0x200, 16, 0x0, 1, true, 0, .none⟩
def LP_PAR_SP_GAIN : Fld := ⟨0xFF0009041010, 32, 32, .rw, 0x3f800000, 0, .lp, 0x200, 16, 0x0, 1, true, 0, .none⟩
def LP_PAR_SP_OFFS : Fld := ⟨0xFF0009041018, 0, 32, .rw, 0, 0, .lp, 0x200, 16, 0x0, 1, true, 0, .none⟩
def LP_PAR_SP_ALPHA : Fld := ⟨0xFF0009041018, 32, 32, .rw, 0x3f800000, 0, .lp, 0x200, 16, 0x0, 1, true, 0, .ch15 0x3E800000⟩
def LP_PAR_SP_MIN : Fld := ⟨0xFF0009041020, 0, 32, .rw, 0xc9742400, 0, .lp, 0x200, 16, 0x0, 1, true, 0, .ch15 0x437A0000⟩
def LP_PAR_SP_MAX : Fld := ⟨0xFF0009041020, 32, 32, .rw, 0x49742400, 0, .lp, 0x200, 16, 0x0, 1, true, 0, .ch15 0x44160000⟩
def LP_PAR_SP_FAIL : Fld := ⟨0xFF0009041028, 0, 32, .rw, 0, 0, .lp, 0x200, 16, 0x0, 1, true, 0, .ch15 0x437A0000⟩
def LP_PAR_FB_GAIN : Fld := ⟨0xFF0009041028, 32, 32, .rw, 0x3f800000, 0, .lp, 0x200, 16, 0x0, 1, true, 0, .none⟩
def LP_PAR_FB_OFFS : Fld := ⟨0xFF0009041030, 0, 32, .rw, 0, 0, .lp, 0x200, 16, 0x0, 1, true, 0, .none⟩
def LP_PAR_UMIN : Fld := ⟨0xFF0009041030, 32, 32, .rw, 0, 0, .lp, 0x200, 16, 0x0, 1, true, 0, .ch15 0x41800000⟩
def LP_PAR_UMAX : Fld := ⟨0xFF0009041038, 0, 32, .rw, 0x3f800000, 0, .lp, 0x200, 16, 0x0, 1, true, 0, .ch15 0x43000000⟩
def LP_PAR_SLEW : Fld := ⟨0xFF0009041038, 32, 32, .rw, 0x3c23d70a, 0, .lp, 0x200, 16, 0x0, 1, true, 1, .ch15 0x40800000⟩
def LP_PAR_FAIL_OUT : Fld := ⟨0xFF0009041040, 0, 32, .rw, 0x3f800000, 0, .lp, 0x200, 16, 0x0, 1, true, 0, .ch15 0x42A00000⟩
def LP_PAR_MAN_OUT : Fld := ⟨0xFF0009041040, 32, 32, .rw, 0, 0, .lp, 0x200, 16, 0x0, 1, true, 1, .none⟩
def LP_PAR_PL_ALPHA : Fld := ⟨0xFF0009041048, 0, 32, .rw, 0, 0, .lp, 0x200, 16, 0x0, 1, true, 0, .none⟩
def LP_PAR_PL_G : Fld := ⟨0xFF0009041048, 32, 32, .rw, 0, 0, .lp, 0x200, 16, 0x0, 1, true, 0, .none⟩
def LP_PAR_PL_B : Fld := ⟨0xFF0009041050, 0, 32, .rw, 0, 0, .lp, 0x200, 16, 0x0, 1, true, 0, .none⟩
def LP_PAR_PL_LIM : Fld := ⟨0xFF0009041050, 32, 32, .rw, 0, 0, .lp, 0x200, 16, 0x0, 1, true, 0, .none⟩
def LP_PAR_XMAX : Fld := ⟨0xFF0009041058, 0, 32, .rw, 0x447a0000, 0, .lp, 0x200, 16, 0x0, 1, true, 1, .none⟩
def HST_APER_PF_BASE : Fld := ⟨0xFF0008000008, 0, 8, .rw, 0, 1, .dev, 0x0, 1, 0x0, 1, false, 0, .none⟩

/-- Part 0 of the field list of these blocks. -/
def listC0 : List Fld :=
  [HST_STAT_LINK_UP, HST_STAT_RATE, HST_STAT_WIDTH, HST_STAT_FLIT, HST_STAT_DEGRADED, HST_STAT_SDOWN,
   HST_STAT_CQ_LOST, HST_STAT_APER_REJ, HST_STAT_MG_DROP, HST_PART_CTL_EXPERT_EN, HST_PART_CTL_EXISTS,
   HST_PART_CTL_APER_BASE, HST_PART_CTL_CLU, HST_RING_SQ_BASE, HST_RING_CQ_BASE, HST_RING_ENABLE, HST_RING_MGMT,
   HST_RING_SIZE_LOG2, HST_RING_OWNER, HST_RING_VEC, HST_RING_CNT_TH, HST_RING_TIME_US, HST_RING_WEIGHT,
   HST_RING_SQ_HEAD, HST_RING_SQ_TAIL, HST_RING_CQ_TAIL, HST_RING_PHASE, HST_RING_ERR, HST_GRANT_BASE,
   HST_GRANT_PAGES]
/-- Part 1 of the field list of these blocks. -/
def listC1 : List Fld :=
  [HST_GRANT_VALID, HST_GRANT_MODE, HST_GRANT_PARTS, HST_GRANT_HOME, MCA_STAT_CAP_KS, MCA_STAT_RES_KS,
   MCA_STAT_CTX_USED, MCA_STAT_LAG, MCA_CTRL_LAG_FRAC, MCA_CTRL_FMT_REJ, MCA_CACHE_BASE, MCA_CACHE_LEN,
   MCA_CACHE_MAX_ENT, MCA_CACHE_USED, MCA_CACHE_HITS, MCA_CACHE_MISSES, MCA_CACHE_EVICT, MCA_CACHE_INS_FAIL,
   MCA_CACHE_PIN_RUN, MCA_CACHE_PIN_PEND, MCA_STREAM_STATE, MCA_STREAM_PART, MCA_STREAM_LIVE, MCA_STREAM_SNAP,
   MCA_STREAM_CREDITS, MCA_STREAM_QUEUED, MCA_STREAM_LAST_ERR, MCA_STREAM_NUMFLG, MCA_STREAM_IN, MCA_STREAM_DEC]
/-- Part 2 of the field list of these blocks. -/
def listC2 : List Fld :=
  [MCA_STREAM_STALE_START, MCA_STREAM_STALE_DELIV, MCA_STREAM_ERR, MCA_STREAM_FLIGHT, MCA_STREAM_HIT,
   MCA_STREAM_NOOUT, MCA_STREAM_SKIP, MCA_STREAM_SEQ, MCA_STREAM_FUTURE, MCA_STREAM_NOSTAMP, MCA_STREAM_LAG_N,
   MCA_STREAM_PREEMPT_NS, JSP_STAT_WAITING, JSP_STAT_RUN, JSP_STAT_RUN_PART, JSP_STAT_PIPE_BUSY, JSP_STAT_RUN_DONE,
   JSP_PART_ACCEPTED, JSP_PART_DONE, JSP_PART_REFUSED, JSP_PART_ILL_TREES, JSP_PART_QWAIT_NS, JSP_PART_TREES,
   FLT_LP_GLB_FALLBACK, FLT_LP_GLB_OVERRUN, FLT_LP_GLB_PLS_LOST, FLT_AIN_CODE, FLT_AIN_ADC_CNT, FLT_PLS_DUTY,
   FLT_PLS_PER_NS]
/-- Part 3 of the field list of these blocks. -/
def listC3 : List Fld :=
  [FLT_TACH_RPM, LP_CTL_MODE, LP_CTL_LAW, LP_CTL_DIR, LP_CTL_CLASS, LP_CTL_OUT, LP_CTL_PERIOD, LP_CTL_PHASE,
   LP_SRC_SP_SRC, LP_SRC_FB_SRC, LP_SRC_CHK_SRC, LP_SRC_PL_EN, LP_SRC_PL_N, LP_COEF_LO, LP_COEF_HI, LP_VAL_SP,
   LP_VAL_FB, LP_OUT_U, LP_OUT_M, LP_STAT_PL_FAULT, LP_STAT_CAUSE, LP_STAT_STALE_RUN, LP_STAT_BUSY_REJ,
   LP_STAT_FMT_REJ, LP_TICKS_TICKS, FLT_SM_GLB_FAULT, FLT_SM_GLB_LOWHR, SM_CTL_EN, SM_CTL_PROFILE, SM_CTL_DIR_INV]
/-- Part 4 of the field list of these blocks. -/
def listC4 : List Fld :=
  [SM_CTL_STALL_EN, SM_CTL_DERATE_EN, SM_CTL_DECAY, SM_CTL_HOME_SRC, SM_CTL_HOME_DIR, SM_CTL_RELEASE_DIR,
   SM_CTL_LATCH_MASK, SM_CUR_I_RUN, SM_CUR_I_HOLD, SM_CUR_HOLD_DLY, SM_CUR_HOME_TH, SM_VEL_VMAX, SM_VEL_VMIN,
   SM_VEL_HOME_V, SM_ACC_AMAX, SM_ACC_DMAX, SM_JERK_JMAX, SM_POSLIM_OPEN, SM_POSLIM_CLOSED, SM_HOME_HOME_POS,
   SM_HOME_HOME_MAX, SM_STALL_STALL_VMIN, SM_STALL_STALL_TH, MV_TGT_TGT, MV_TGT_REL, MV_TGT_NOBLEND, MV_TGT_TAG,
   MV_PAR_VMAX, MV_PAR_DWELL, MV_ACC_A]
/-- Part 5 of the field list of these blocks. -/
def listC5 : List Fld :=
  [MV_ACC_D, MV_JERK_J, SM_CMD_GO, SM_CMD_STOP, SM_CMD_RESUME, SM_CMD_FLUSH, SM_CMD_HOME, SM_CMD_CLEAR, SM_CMD_SETPOS,
   SM_STAT_STATE, SM_STAT_QLEN, SM_STAT_POS_UNCERTAIN, SM_STAT_HOMED, SM_STAT_FAULT_SHORT, SM_STAT_FAULT_STALL,
   SM_STAT_FAULT_SUPPLY, SM_STAT_LOW_HEADROOM, SM_STAT_DERATED, SM_STAT_LOOP_OWNED, SM_STAT_REJ, SM_STAT_FMT_REJ,
   SM_STAT_LAST_CODE, SM_STAT_DONE_TAG, SM_POS_POS, SM_POS_TGT, SM_MOT_VEL, SM_MOT_DWELL_LEFT, SM_CNT_MOVES_DONE,
   SM_CNT_LOWHR_CNT, SM_CNT_FAULT_CNT]
/-- Part 6 of the field list of these blocks. -/
def listC6 : List Fld :=
  [SM_STEPS_STEPS, ERR_SUMMARY_SEEN, ERR_SUMMARY_SERVICE_DUE, ERR_SUMMARY_CC_FAILED, ERR_HEAD_SEQ, ERR_HEAD_LOST,
   ERR_ACK_SEQ, ERR_CNT_CLASS, ERR_CFG_SPARE_AUTO, ERR_CFG_CROSS_ESC, ERR_CFG_ROW_TH, ERR_CFG_FMT_REJ,
   ERR_SPARE_REQ_LOGICAL, ERR_SPARE_REQ_PHYS, ERR_SPARE_REQ_GO, ERR_SPARE_REQ_CODE, ERR_SPARE_FREE,
   ERR_SPARE_UNMAPPED, ERR_SPARE_BUSY, ERR_CLU_FAIL_FAIL, ERR_MAP_POS, LP_PAR_SP_CONST, LP_PAR_SP_GAIN,
   LP_PAR_SP_OFFS, LP_PAR_SP_ALPHA, LP_PAR_SP_MIN, LP_PAR_SP_MAX, LP_PAR_SP_FAIL, LP_PAR_FB_GAIN, LP_PAR_FB_OFFS]
/-- Part 7 of the field list of these blocks. -/
def listC7 : List Fld :=
  [LP_PAR_UMIN, LP_PAR_UMAX, LP_PAR_SLEW, LP_PAR_FAIL_OUT, LP_PAR_MAN_OUT, LP_PAR_PL_ALPHA, LP_PAR_PL_G, LP_PAR_PL_B,
   LP_PAR_PL_LIM, LP_PAR_XMAX, HST_APER_PF_BASE]

/-- Every field of these blocks. -/
def listC : List Fld :=
  listC0 ++ listC1 ++ listC2 ++ listC3 ++ listC4 ++ listC5 ++ listC6 ++ listC7

end Sys2Proof.Machine.F
end

