-- ==== Sys2Proof/Machine/State.lean ====
section
/-! DEFINITION. Machine/State.lean: the whole state of the module as plain data, why a step can stop, and the state after cold reset.
Every field of a register table of spec/ lives in `State.regs` (Machine/Field.lean, Machine/RegsA.lean to RegsC.lean) unless a structure
below holds it and the register is a view of it (Machine/Views.lean). -/

namespace Sys2Proof.Machine

/-- Why a step can stop with a fault. -/
inductive Fault where
  /-- Raised by no meaning: the spec gives every command an effect (NOTES.md, Stops). Safe. -/
  | none
  deriving DecidableEq, Repr

/-- Why a step can be refused. -/
inductive Refusal where
  /-- Raised by an arm of Dispatch.lean whose command has no meaning yet. Safe. -/
  | notModelled (mnemonic : String)
  deriving DecidableEq, Repr

/-- One entry of the Flint event log (R107, R108). `data` lists the event-specific values in the order the event table names them. -/
structure LogEntry where
  time : Nat
  tbase : Bool
  seq : Nat
  code : Nat
  source : Nat
  sev : Nat
  persist : Bool
  ovf : Bool
  count : Nat
  data : List Nat
  deriving DecidableEq, Repr

/-- The event log: the ring in Flint's SRAM and the persistent area in flash, newest first; the FIFO that holds entries during a firmware
exchange, oldest first (R105, R107); the Flint time of the newest entry (R108). -/
structure LogSt where
  ring : List LogEntry
  flash : List LogEntry
  fifo : List LogEntry
  lastAt : Nat
  deriving DecidableEq, Repr

/-- One error record (R636). -/
structure ErrRec where
  kind : Nat
  source : Nat
  cls : Nat
  ovf : Bool
  flashed : Bool
  code : Nat
  seq : Nat
  count : Nat
  time : Nat
  addr : Nat
  syndrome : Nat
  source2 : Nat
  part : Nat
  data : List Nat
  deriving DecidableEq, Repr

/-- A trap to the fabric manager (R367, R637): event code, source and data. -/
structure TrapMsg where
  code : Nat
  source : Nat
  data : List Nat
  deriving DecidableEq, Repr

/-- A message-signalled interrupt: function (0 the physical function, p + 1 the virtual function of partition p) and vector (R504). -/
structure MsiX where
  fn : Nat
  vec : Nat
  deriving DecidableEq, Repr

/-- One island's clock (R52 to R62, R75, R76): the requested code in force, the code of the running transition, the pending request; whether
its local rail is more than 4 % low, whether the sensor error has pinned it, and whether a persistent sag is recorded. -/
structure IslClk where
  cur : Nat
  run : Option Nat
  pend : Option Nat
  low : Bool
  pinned : Bool
  persist : Bool
  cycles : Nat
  deriving DecidableEq, Repr

/-- Supplies and clocks (R44 to R79). Rails are numbered 0 VPHY, 1 VHBM, 2 VBD, 3 to 6 VCC0 to VCC3: which are enabled, which report
power-good; the step of R46 that runs (0 none, 3 to 6), the failed attempts, whether a retry is due, POWER_OFF in force; V48 lockout (0
none, 1 under, 2 over); the last V48 sample; REFCLK and V12AUX present; the tracking rails whose islands a persistent sag has lowered. -/
structure PowerSt where
  en : Nat
  good : Nat
  step : Nat
  fails : Nat
  retry : Bool
  off : Bool
  lockout : Nat
  v48 : Option Nat
  refclk : Bool
  v12lost : Bool
  isl : SMap IslClk
  lowered : Nat
  deriving DecidableEq, Repr

/-- One firmware bank (R102, R104): whether its image is valid, its version, and the blocks staged into it as (offset, data). -/
structure FwBank where
  valid : Bool
  version : Nat
  staged : List (Nat × List Nat)
  deriving DecidableEq, Repr

/-- The firmware of Flint (R102 to R106, R116): banks A and B, the running and the active bank, trial, recovery, a live exchange in
progress, the staging session (bank, source), and the Flint times of the watchdog restarts, newest first. -/
structure FwSt where
  a : FwBank
  b : FwBank
  run : Nat
  act : Nat
  trial : Bool
  recovery : Bool
  exchanging : Bool
  session : Option (Nat × Src)
  restarts : List Nat
  deriving DecidableEq, Repr

/-- A response of a management bus: status and payload, and whether the requester can read it yet (R95, R96). -/
structure MbResp where
  status : Nat
  payload : List Nat
  ready : Bool
  deriving DecidableEq, Repr

/-- The watches of Flint (R81 to R93): which dies' heartbeat and error-line watches are armed (base die, CC0 to CC3); the class of the last
TWIN_HB_I interval is FLT_STAT.TWIN_RX; the 500 µs window: the Flint time it ends and whether a HEALTHY interval was seen; the twin watch;
the host word at the last sample, and the Flint time of its last change; since when host and twin have been silent; partitions asked to
quiesce, and since when; the management responses of MB0 and MB1, in-band interrupt pending on MB0; the instructions of the boundary-scan
devices (Flint, base die, CC0 to CC3). -/
structure FlintSt where
  on : Bool
  hbArmed : List Bool
  errArmed : List Bool
  window : Option Nat
  windowHealthy : Bool
  twinArmed : Bool
  beatSeen : Bool
  hostWord : Nat
  hostAt : Nat
  hostSince : Option Nat
  twinSince : Option Nat
  quiesceReq : Nat
  quiesceAt : Nat
  mb0 : Option MbResp
  mb1 : Option MbResp
  ibi : Bool
  tap : List Nat
  serial : Nat
  variant : Nat
  strap : Nat
  deriving DecidableEq, Repr

/-- Start-up and resets in progress (R118 to R153): DIE_INIT and MEM_INIT done, PERST_N high, the 2 s limit of LINK_UP passed; the cause of a
module reset that waits to take effect, the module reset in effect, whether it came from a V48 lockout, MOD_RST_N low and its event logged;
island resets by island (phase 1 drain, 2 reset); HBM stacks that trained; whether the mirror region must survive the next MEM_INIT. -/
structure StartSt where
  dieInit : Bool
  memInit : Bool
  perst : Bool
  linkLimit : Bool
  rstPend : Option Nat
  rstOn : Bool
  fromLockout : Bool
  modLow : Bool
  modLong : Bool
  isl : SMap Nat
  keepMirror : Bool
  deriving DecidableEq, Repr

/-- Fabric time and start-up (R118 to R131). `ft` is the counter, `run` that it counts, `locked1` that LOCK has been set since reset, `slew`
the small correction still to be slewed in (ns, signed), `lead` how far the counter is ahead after a large correction (it then runs at half
rate), `trim` the rate trim (parts per 10⁹), `frac` its accumulated fraction, `tickNo` the ticks counted; `ppsLast` the Flint time of the
last valid or reference edge, `ppsFt` the counter value there, `ppsRun` consecutive valid edges, `loaded` that FT_NEXT has been loaded;
ELECT mode: the offers of the neighbours by port as (rank, hops, source ID, Flint time), the followed port, exchanges in a row within
±10 ns, sync requests sent (port, T1); since when HOLDOVER holds. -/
structure TimeSt where
  ft : Nat
  run : Bool
  locked1 : Bool
  slew : Int
  lead : Nat
  trim : Int
  frac : Int
  tickNo : Nat
  ppsLast : Option Nat
  ppsFt : Nat
  ppsRun : Nat
  loaded : Bool
  offers : SMap (Nat × Nat × Nat × Nat)
  follow : Option Nat
  lockRun : Nat
  sent : SMap Nat
  holdSince : Option Nat
  deriving DecidableEq, Repr

/-- Fabric time not started. -/
def TimeSt.init : TimeSt :=
  { ft := 0, run := false, locked1 := false, slew := 0, lead := 0, trim := 0, frac := 0, tickNo := 0, ppsLast := none, ppsFt := 0,
    ppsRun := 0, loaded := false, offers := [], follow := none, lockRun := 0, sent := [], holdSince := none }

/-- A semaphore (R161, R181): its count, POISON and OVF. -/
structure Sem where
  count : Nat
  psn : Bool
  ovf : Bool
  deriving DecidableEq, Repr

/-- A transfer as a DMA slot or a host copy holds it (R178 to R190): destination and source of the first row, bytes a row, rows, strides;
the bytes already handed to packets or copied; whether the source is marked read-only; SEM, SIG and SIG_DEST; VC pair, priority and
SLATE_NA; the place in the order of issue. -/
structure Xfer where
  dst : Nat
  src : Nat
  rowBytes : Nat
  rows : Nat
  dstStride : Int
  srcStride : Int
  done : Nat
  ro : Bool
  sem : Nat
  sig : Bool
  sigDest : Bool
  vcPair : Nat
  prio : Nat
  slateNa : Bool
  order : Nat
  deriving DecidableEq, Repr

/-- No transfer. -/
def Xfer.init : Xfer := ⟨0, 0, 0, 0, 0, 0, 0, false, 0, false, false, 0, 0, false, 0⟩

/-- A DMA slot (R179, R180): busy, the last transfer's code, whether it is unreported, the transfer, the remote blocks outstanding, whether
the completion signal is on its way. -/
structure DmaSlot where
  busy : Bool
  code : Nat
  unrep : Bool
  x : Xfer
  out : Nat
  signalling : Bool
  deriving DecidableEq, Repr

/-- A slot idle (R161). -/
def DmaSlot.init : DmaSlot := ⟨false, 0, false, Xfer.init, 0, false⟩

/-- A tile configuration (the descriptor of R222 to R224). -/
structure TileCfg where
  tfmt : Nat
  bt : Bool
  k : Nat
  aStride : Nat
  bStride : Nat
  cStride : Nat
  aSdelta : Int
  bSdelta : Int
  asStride : Nat
  bsStride : Nat
  deriving DecidableEq, Repr

/-- What a tensor unit does (R223 to R226, R420): the multiply (with the collective slot it feeds, if it is a TMM.AR or TMM.RS), store, load,
zero, and the moves from and to a vector register. -/
inductive TnsKind where
  | mm (a b : Nat) (zero : Bool) (clx : Option Nat)
  | st (c ofmt : Nat) (rtz nosat clr : Bool)
  | ld (c : Nat)
  | zero
  | tov (vd r : Nat)
  | frv (va : List Lane) (psn : Bool) (r : Nat)
  | cfg
  deriving DecidableEq, Repr

/-- A tensor instruction in a unit's queue, with the configuration it was checked against and its place in the order of issue (R224). -/
structure TnsOp where
  unit : Nat
  ta : Nat
  kind : TnsKind
  cfg : TileCfg
  order : Nat
  deriving DecidableEq, Repr

/-- A near-cache line (R238): the fabric address of its first byte, its bytes, its poisoned words. -/
structure NearLine where
  line : Nat
  data : List Byte
  psn : Nat
  deriving DecidableEq, Repr

/-- A fill that a near-cache miss waits for (R238, R241): its line, the DMA slot, the pieces of the line that the slot's transfer takes as
(offset in the line, bytes, destination fabric address), and whether an invalidation has intervened. -/
structure NearFill where
  line : Nat
  slot : Nat
  pieces : List (Nat × Nat × Nat)
  stale : Bool
  deriving DecidableEq, Repr

/-- The kinds of collective instruction (R401). -/
inductive ClxKind where
  | tmmAr | tmmRs | vecAr | vecAg
  deriving DecidableEq, Repr

/-- A collective slot (R403): busy, the code recorded, unreported; the group handle, the step, the kind, source and destination (own SRAM
offsets or v registers), source format, SEM and SIG; the elements of the contribution once formed, as FMT words with a poison mark each;
chunks sent and result chunks written; the Flint time of issue; the configuration that places a reduced tile. -/
structure ClxSlot where
  busy : Bool
  code : Nat
  unrep : Bool
  grp : Nat
  step : Nat
  kind : ClxKind
  vreg : Bool
  src : Nat
  dst : Nat
  sem : Nat
  sig : Bool
  cStride : Nat
  ready : Bool
  data : List (Nat × Bool)
  sent : Nat
  got : List (Nat × List (Nat × Bool))
  since : Nat
  deriving DecidableEq, Repr

/-- A collective slot idle. -/
def ClxSlot.init : ClxSlot := ⟨false, 0, false, 0, 0, .tmmAr, false, 0, 0, 0, false, 0, false, [], 0, [], 0⟩

/-- The three DMA instructions that read a descriptor or none (R178, R189, R240). -/
inductive DmaKind where
  | cp | cp2 | cpx
  deriving DecidableEq, Repr

/-- A DMA instruction at issue: its kind, the read-only mark, its registers and IMM24. -/
structure DmaReq where
  kind : DmaKind
  ro : Bool
  rd : Nat
  ra : Nat
  rb : Nat
  imm : Nat
  deriving DecidableEq, Repr

/-- A collective instruction at issue (R401): its kind, registers, MOD and IMM24. -/
structure ClxReq where
  kind : ClxKind
  rd : Nat
  ra : Nat
  rb : Nat
  mod : Nat
  imm : Nat
  deriving DecidableEq, Repr

/-- What the sequencer waits for at issue, with the length of the instruction that waits. -/
inductive Wait where
  | dmaSlot (r : DmaReq) (slot : Nat)
  | dmaWait (slot : Nat)
  | dmaAll
  | sem (n need since : Nat)
  | time (target : Nat)
  | drain
  | post (v : Nat)
  | halt
  | amo (rd : Nat) (w : Nat)
  | tns (o : TnsOp)
  | cwait (n : Nat)
  | clx (r : ClxReq) (loading : Bool) (since : Nat)
  deriving DecidableEq, Repr

/-- One sequencer with its vector unit, tensor units, DMA engine and near cache (R161, R198, R214, R238, R403). `p`, `vpsn`, `tapsn`, `taInt`,
`numflg` are bit masks. `starting`: the launch's image copy has not ended (R506); `cmd`: the LAUNCH
command that it runs for. `taInt` marks a ta whose last TMM.MM used an
INT32 accumulator (R225); ta t of unit u is number 8u + t. `vBusy` marks the v registers that a collective will write (R404). -/
structure ClusterSt where
  run : Bool
  starting : Bool
  cmd : Option Nat
  halted : Bool
  faulted : Bool
  inh : Bool
  pc : Nat
  g : SMap Word
  p : Nat
  v : SMap (List Lane)
  vpsn : Nat
  ta : SMap (List Lane)
  tapsn : Nat
  taInt : Nat
  codeBase : Nat
  codeLim : Nat
  tag : Nat
  ring : Nat
  fmode : Nat
  fvec : Nat
  fcode : Nat
  fpc : Nat
  faddr : Nat
  finfo : Nat
  waitLim : Nat
  dmavc : Nat
  sigerr : Nat
  sigCodes : List Nat
  sigOut : Nat
  sems : SMap Sem
  slots : SMap DmaSlot
  clx : SMap ClxSlot
  numflg : Nat
  cfg : SMap TileCfg
  tq : SMap (List TnsOp)
  trun : SMap TnsOp
  near : List NearLine
  fills : List NearFill
  vBusy : Nat
  order : Nat
  wait : Option Wait
  waitLong : Bool
  deriving DecidableEq, Repr

/-- A sequencer with no program and nothing left over (R133, R161). -/
def ClusterSt.init : ClusterSt :=
  { run := false, starting := false, cmd := none, halted := false, faulted := false, inh := false, pc := 0, g := [], p := 1, v := [], vpsn := 0,
    ta := [], tapsn := 0, taInt := 0, codeBase := 0, codeLim := 0, tag := 0, ring := 0, fmode := 0, fvec := 0, fcode := 0, fpc := 0,
    faddr := 0, finfo := 0, waitLim := 1000000, dmavc := 0, sigerr := 0, sigCodes := [], sigOut := 0, sems := [], slots := [], clx := [],
    numflg := 0, cfg := [], tq := [], trun := [], near := [], fills := [], vBusy := 0, order := 0, wait := none, waitLong := false }

/-- A line of a LOCAL slice (R242): the slice, the VALID and DIRTY masks (bit b for byte b). Its bytes stand in `SlateSt.cmem`. -/
structure SLine where
  slice : Nat
  valid : Nat
  dirty : Nat
  deriving DecidableEq, Repr

/-- An outstanding line fill of a slice (R247): the line's fabric address, whether it goes to a REMOTE slice, the places the waiters lie
behind (chiplets 0 to 3, port groups 4 to 8, 15 any other), whether a maintenance step forbids installing it (R271). -/
structure SFill where
  slice : Nat
  line : Nat
  remote : Bool
  waiters : List Nat
  drop : Bool
  deriving DecidableEq, Repr

/-- A miss that waits at a slice input for a fill entry (R248). -/
structure SWait where
  slice : Nat
  line : Nat
  remote : Bool
  place : Nat
  deriving DecidableEq, Repr

/-- A region maintenance request (R260 to R263): operation, range, ticket; from a cluster (its status word, SEM and SIG) or a host function;
the code met so far. -/
structure RgnReq where
  op : Nat
  base : Nat
  len : Nat
  ticket : Nat
  clu : Option Nat
  stat : Nat
  sem : Nat
  sig : Bool
  code : Nat
  worked : Bool
  deriving DecidableEq, Repr

/-- A region slot: the running and the pending request and the last ticket given (R260). -/
structure RgnSlot where
  run : Option RgnReq
  pend : Option RgnReq
  last : Nat
  deriving DecidableEq, Repr

/-- A slice assignment change of a partition: the numbers wanted, or one expert slice with its new owner and mode (R256 to R259, R268). -/
inductive AsgReq where
  | whole (nl nr ns : Nat)
  | one (slice owner mode : Nat)
  deriving DecidableEq, Repr

/-- One request for a change, with the host command that waits for it. -/
structure AsgOne where
  req : AsgReq
  cmd : Option Nat
  deriving DecidableEq, Repr

/-- The assignment changes of one partition: the running one with the slices it releases and joins, and the pending one (R259). -/
structure AsgSt where
  run : Option AsgOne
  slices : List Nat
  pend : Option AsgOne
  deriving DecidableEq, Repr

/-- Slate (R242 to R278): each slice's mode and owner in force; the LOCAL lines by line number (address ÷ 128); cached bytes and poisoned
words at their own addresses; the REMOTE lines by fabric line number with their slice, their bytes and poisoned words at fabric addresses;
the outstanding fills, the misses that wait; region slots (8p + r); assignment changes by partition. -/
structure SlateSt where
  slices : SMap (Nat × Nat)
  lines : SMap SLine
  cmem : List Host.Cell
  cpsn : SMap Bool
  rlines : SMap Nat
  rmem : List Host.Cell
  rpsn : SMap Bool
  fills : List SFill
  waits : List SWait
  rgn : SMap RgnSlot
  asg : SMap AsgSt
  deriving DecidableEq, Repr

/-- Slate with nothing assigned (R133). -/
def SlateSt.init : SlateSt := ⟨[], [], [], [], [], [], [], [], [], [], []⟩

/-- A row of a stack: pseudo-channel, stack-ID, bank (group and bank), row (R282). -/
structure HbmRow where
  pc : Nat
  sid : Nat
  bank : Nat
  row : Nat
  deriving DecidableEq, Repr

/-- One HBM controller (R279 to R306): row tracker, newest first, with counts; repair candidates in order; the running repair; the banks (as
pseudo-channel, stack-ID, bank) whose soft repair is used; the burst that patrol reads next and the bursts it skipped behind a fence; the
lanes' parity errors as (lane, Flint time). -/
structure HbmSt where
  track : List (HbmRow × Nat)
  queue : List HbmRow
  run : Option HbmRow
  used : List (Nat × Nat × Nat)
  patrol : Nat
  skipped : List Nat
  lanes : List (Nat × Nat)
  deriving DecidableEq, Repr

/-- A controller after reset. -/
def HbmSt.init : HbmSt := ⟨[], [], none, [], 0, [], []⟩

/-- The HBM as a whole (R283 to R296): the controllers, the running and the pending mode change with the stacks still to change, repair
records in flash as (stack, row, hard), records not yet in flash, partitions to be reset for a full poison table (R305). -/
structure HbmAll where
  ctl : SMap HbmSt
  modeRun : Option (Nat × List Nat)
  modePend : Option Nat
  records : List (Nat × HbmRow × Bool)
  unflashed : List (Nat × HbmRow)
  rstPart : Nat
  deriving DecidableEq, Repr

/-- A spare switch of the receive direction (R328): the logical lane, its phase (0 SWAP_REQ sent, 1 the spare is measured, 2 the next ALIGN block is
awaited), whether loss of signal caused it, the FOM that caused it and the Flint time. -/
structure SwapRx where
  lane : Nat
  phase : Nat
  los : Bool
  fom : Nat
  at_ : Nat
  deriving DecidableEq, Repr

/-- A port (R307 to R346), besides its registers. Bring-up: consecutive failures, the 10 µs squelch, whether this bring-up is seeded or a rest
exit, stored results in flash, lanes whose MARKER was seen, PLANE by lane, the partner's READY. Spare switches of both directions, a spare check.
Power: since when the transmit direction is idle, since when both doze, REST_REQ sent. Quiesce: QUIESCE sent, received and answered; the
partner's announced squelch. Control symbols to be sent, and unknown ones counted. The link: the next SEQ, blocks since ALIGN, for each packet
given to the link the units still to send and whether it has begun, the replay store as (SEQ, UNITS, FIRST, packets that end in the block), the SEQs to resend, the last SEQ accepted, NAK
and ACK due, a gap reported, consecutive uncorrectable blocks, the last NAK's ACK and its repeats, the last send time received with the Flint
time; the last block sent; private bytes used by input queue. -/
structure PortSt where
  fails : Nat
  hold : Bool
  seeded : Bool
  restExit : Bool
  stored : Bool
  seen : Nat
  planes : SMap Nat
  peerReady : Bool
  swapRx : Option SwapRx
  swapTx : Option Nat
  checking : Bool
  idleSince : Nat
  dozed : Option Nat
  restSent : Bool
  qsent : Bool
  qpeer : Bool
  qack : Bool
  silent : Bool
  ctl : List (Nat × Nat)
  ctlUnknown : Nat
  txSeq : Nat
  sinceAlign : Nat
  sending : List (Nat × Bool)
  store : List (Nat × Nat × Nat × Nat)
  resend : List Nat
  rxSeq : Option Nat
  nakDue : Bool
  gap : Bool
  ackDue : Bool
  uncorr : Nat
  nakAck : Nat
  nakRun : Nat
  echo : Option (Nat × Nat)
  last : Option LinkBlk
  priv : SMap Nat
  deriving DecidableEq, Repr

/-- A port after reset. -/
def PortSt.init : PortSt :=
  { fails := 0, hold := false, seeded := true, restExit := false, stored := false, seen := 0, planes := [], peerReady := false, swapRx := none,
    swapTx := none, checking := false, idleSince := 0, dozed := none, restSent := false, qsent := false, qpeer := false, qack := false,
    silent := false, ctl := [], ctlUnknown := 0, txSeq := 0, sinceAlign := 0, sending := [], store := [], resend := [], rxSeq := none,
    nakDue := false, gap := false, ackDue := false, uncorr := 0, nakAck := 0, nakRun := 0, echo := none, last := none, priv := [] }

/-- Who holds a transaction context or waits for one (R382): a DMA block of a slot with its bytes, a DMA slot's completion signal, a SYN.SIG, an
atomic, a host copy's block, a near-cache line, a Slate fill or prefetch, a mirror block, a twin message; Mica's
access-unit reads (k 0), slot writes (1) and signals (2); Jasper's input reads, output writes and signals likewise. -/
inductive Owner where
  | dma (c slot bytes : Nat)
  | dmaSig (c slot : Nat)
  | dmaPsn (c : Nat)
  | sig (c : Nat)
  | amo (c : Nat)
  | copy (id off bytes : Nat)
  | near (c line : Nat)
  | fill (line : Nat)
  | mirror (p n off bytes : Nat)
  | epoch (p n : Nat) (close : Bool)
  | bind
  | unbind
  | release
  | handback
  | restore (off bytes : Nat)
  | mica (st seq k : Nat)
  | jasper (job blk off k : Nat)
  deriving DecidableEq, Repr

/-- A transaction context (R382 to R384): its owner, partition (16 the physical function, 17 the Agate reserve), destination device, the
request as sent, the Flint time of issue, its generation; since when it waits to resend after BUSY; orphaned by a partition reset. -/
structure Ctx where
  owner : Owner
  part : Nat
  dst : Nat
  pkt : Pkt
  since : Nat
  gen : Nat
  retry : Option Nat
  orphan : Bool
  deriving DecidableEq, Repr

/-- A request that waits for a context of its quota (R383). -/
structure QWait where
  owner : Owner
  part : Nat
  dst : Nat
  pkt : Pkt
  since : Nat
  deriving DecidableEq, Repr

/-- A packet that waits for an output port (R380): the packet, its input port (31 on-die), the Flint time of its arrival; the input queue that
counts it and whether it lies in that queue's private area (R359, R361). -/
structure TxEnt where
  pkt : Pkt
  src : Nat
  at_ : Nat
  inq : Nat := 0
  priv : Bool := false
  deriving DecidableEq, Repr

/-- A read that the read agent serves (R373): the request and the bytes already pushed. -/
structure RdEnt where
  pkt : Pkt
  done : Nat
  deriving DecidableEq, Repr

/-- A management request in the queue of R364: the packet, the port it came by for a path-routed one. -/
structure MgEnt where
  pkt : Pkt
  path : Bool
  deriving DecidableEq, Repr

/-- A signal on its way to a semaphore of this device (R181, R182): the sender, the target and the value. -/
structure SigMsg where
  src : Nat
  dst : Nat
  sem : Nat
  value : Nat
  deriving DecidableEq, Repr

/-- Quartz (R347 to R394): contexts by index and the generation last used by each; requests that wait for quota; packets queued by output
port; packets given to each port's link and not yet acknowledged; bulk packets with no open candidate; the read agent; the management queue
and whether a request is in progress; the HELLO payload last received by port with its Flint time; ports whose neighbour changed; floods seen
as (origin, sequence), newest first, and the next sequence; bulk deficit credit by (port, partition); each partition's live counts of contexts
outstanding, allocated and completed (R385); the packets sent, by port, newest first; signals
between clusters of this device on their way; QUOTA and TIMEOUT completions of this second by partition (event 0x0808). -/
structure QuartzSt where
  ctx : SMap Ctx
  gens : SMap Nat
  qwait : List QWait
  txq : SMap (List TxEnt)
  unacked : SMap (List TxEnt)
  stuck : List TxEnt
  agent : List RdEnt
  mgq : List MgEnt
  mgBusy : Bool
  hello : SMap (List Byte)
  helloAt : SMap Nat
  changed : Nat
  floods : List (Nat × Nat)
  floodSeq : Nat
  credit : SMap Nat
  cnt : SMap (Nat × Nat × Nat)
  sent : List (Nat × Pkt)
  sigs : List SigMsg
  sec : SMap (Nat × Nat)
  deriving DecidableEq, Repr

/-- Quartz after a reset: contexts freed, queues empty (R133). -/
def QuartzSt.init : QuartzSt := ⟨[], [], [], [], [], [], [], [], false, [], [], 0, [], 0, [], [], [], [], []⟩

/-- An input of a group's node (R397): a local member cluster with its rank, or the child node behind a port. -/
structure ClxIn where
  id : Nat
  child : Bool
  cnode : Nat
  rank : Nat
  deriving DecidableEq, Repr

/-- A SYS.GRP.DEF that waits for its record's activation: cluster, status word, SEM, SIG (R399, R418). -/
structure GrpWait where
  clu : Nat
  stat : Nat
  sem : Nat
  sig : Bool
  deriving DecidableEq, Repr

/-- One input's contribution to a chunk: the chunk's key (AG: 4,096 times the rank plus the chunk), the place in the input list, the elements
with their poison marks, the flags raised below. -/
structure ClxPart where
  key : Nat
  input : Nat
  data : List (Nat × Bool)
  flags : Nat
  deriving DecidableEq, Repr

/-- A step open at a node (R415, R416): its number, when its first input came, the contributions in hand, the chunks folded or passed up, the
result chunks passed down, and that an abort was sent up for it. -/
structure ClxStep where
  step : Nat
  since : Nat
  parts : List ClxPart
  folded : List Nat
  down : List Nat
  aborting : Bool
  deriving DecidableEq, Repr

/-- A group record (R397, R399, R400): the descriptor; STATE (1 LOADING, 2 ACTIVE, 3 BROKEN); the instructions that wait for activation; tree
ports with a matching mark; when it was loaded; each local member's next step; the node's oldest unresolved step; the open steps; the codes of
aborted steps; the last abort. -/
structure ClxRec where
  handle : Nat
  part : Nat
  state : Nat
  kind : Nat
  fmt : Nat
  op : Nat
  mode : Nat
  n : Nat
  m : Nat
  node : Nat
  parent : Nat
  stepT : Nat
  tsig : Nat
  inputs : List ClxIn
  waits : List GrpWait
  matched : Nat
  since : Nat
  next : SMap Nat
  base : Nat
  open_ : List ClxStep
  aborts : SMap Nat
  lastCode : Nat
  lastStep : Nat
  deriving DecidableEq, Repr

/-- A TW_BIND as received (R451). -/
structure BindReq where
  serial : Nat
  devid : Nat
  assumed : Nat
  inc : Nat
  role : Nat
  size : Nat
  cap : Nat
  deriving DecidableEq, Repr

/-- A running mirror epoch of the sender (R458, R460): its number, FULL, the 4 KiB blocks still to send as (local address, offset in the
partner's mirror region), bytes sent and not answered, bytes acknowledged, whether OPEN has been sent and answered and CLOSE sent, the code met,
the host command that waits. -/
structure EpochRun where
  n : Nat
  full : Bool
  left : List (Nat × Nat)
  outB : Nat
  ackB : Nat
  started : Bool
  opened : Bool
  closed : Bool
  code : Nat
  cmd : Option Nat
  deriving DecidableEq, Repr

/-- The epochs of one partition (R457): the last number accepted, the running one, the pending one (FULL, host command), whether the next must
be FULL (R453). -/
structure EpochSt where
  last : Nat
  run : Option EpochRun
  pend : Option (Bool × Option Nat)
  needFull : Bool
  deriving DecidableEq, Repr

/-- No epochs yet: numbers start at 1 after each binding (R458). -/
def EpochSt.init : EpochSt := ⟨0, none, none, true⟩

/-- The partner's data this module holds for one partition (R458): the epoch being received with FULL, and the epochs that banks 0
and 1 hold complete. -/
structure DirSt where
  openN : Option (Nat × Bool)
  bank0 : Option Nat
  bank1 : Option Nat
  deriving DecidableEq, Repr

/-- An adopted range (R467): partition, the lost module's local address, length, the address of the copy in the mirror region. -/
structure Adopt where
  part : Nat
  base : Nat
  len : Nat
  at_ : Nat
  deriving DecidableEq, Repr

/-- The twin (R446 to R482): the bind request received and its time; since when this module sends TW_BIND, and whether 0x0A02 is logged; the
host's held BIND; epochs by partition; the partner's data by partition; adopted ranges; the table image (own sequence, running, pending),
and the slot chosen at a takeover; when the loss was confirmed, with DOWN, and the probes sent; re-silver pass: 4 KiB blocks still to copy, 64 KiB
granules written meanwhile (both by their place in the mirror region), bytes restored by this module and received by it; ID fenced for handback or
yield, and its stage (0 none, 1 copying, 2 TW_HANDBACK sent); a yield in progress; an unbind that waits for epochs; the last beat word received and
its Flint time. -/
structure TwinSt where
  req : Option BindReq
  reqAt : Nat
  bindSince : Option Nat
  bindLogged : Bool
  hostBind : Bool
  epochs : SMap EpochSt
  dir : SMap DirSt
  adopts : List Adopt
  imgSeq : Nat
  imgRun : Bool
  imgPend : Bool
  imgSlot : Nat
  confirmed : Option Nat
  confirmDown : Bool
  probes : Nat
  todo : List Nat
  dirty : SMap Bool
  sentB : Nat
  rxB : Nat
  fence : Bool
  hb : Nat
  yielding : Bool
  unbinding : Bool
  beat : Nat
  lastBeat : Nat
  deriving DecidableEq, Repr

/-- The twin state of an unbound module. -/
def TwinSt.init : TwinSt :=
  { req := none, reqAt := 0, bindSince := none, bindLogged := false, hostBind := false, epochs := [], dir := [], adopts := [], imgSeq := 0,
    imgRun := false, imgPend := false, imgSlot := 0, confirmed := none, confirmDown := false, probes := 0, todo := [], dirty := [], sentB := 0, rxB := 0,
    fence := false, hb := 0, yielding := false, unbinding := false, beat := 0, lastBeat := 0 }

/-- A completion entry (R501): tag, code, KIND, cluster (0xFFFF none), FPC, VALUE, FINFO; whether it raises no interrupt. The device adds
PHASE and SQ_HEAD when it writes it. -/
structure CqEnt where
  tag : Nat
  code : Nat
  kind : Nat
  cluster : Nat
  fpc : Nat
  value : Nat
  finfo : Nat
  noirq : Bool
  deriving DecidableEq, Repr

/-- A completion entry as written to host memory: ring, slot, the entry, its PHASE and SQ_HEAD. -/
structure CqOut where
  ring : Nat
  slot : Nat
  e : CqEnt
  phase : Nat
  sqHead : Nat
  deriving DecidableEq, Repr

/-- A command that a ring carries and that has not completed, in fetch order: its ring, tag, opcode, partition (16 none), NOIRQ, its OPS bytes;
FENCE; whether it has started (R501, R502). -/
structure HostCmd where
  id : Nat
  ring : Nat
  tag : Nat
  opc : Nat
  part : Nat
  noirq : Bool
  ops : List Nat
  fence : Bool
  started : Bool
  deriving DecidableEq, Repr

/-- What is not in the registers of a ring pair: the completion head, entries that wait for room, entries written and not yet signalled with
the Flint time of the oldest, the bytes of the turn it has left. -/
structure RingSt where
  cqHead : Nat
  waiting : List CqEnt
  unsig : Nat
  since : Nat
  turn : Nat
  deriving DecidableEq, Repr

/-- A ring pair with nothing waiting. -/
def RingSt.init : RingSt := ⟨0, [], 0, 0, 0⟩

/-- A grant (R495): whole pages from BASE, RO or RW, the partitions that may read (or the one that may write), the home; whether it is in
effect (R496, R498); the GRANT or REVOKE command that waits for its fill or its invalidation. -/
structure Grant where
  base : Nat
  pages : Nat
  ro : Bool
  parts : Nat
  home : Nat
  live : Bool
  cmd : Option Nat
  deriving DecidableEq, Repr

/-- A copy (R508): the command, host address (or second fabric address), direction, length, bytes written, blocks
outstanding, whether it runs, the code met, the partition (16 none), the host's bytes. -/
structure CopySt where
  id : Nat
  dir : Nat
  host : Nat
  dev : Nat
  len : Nat
  done : Nat
  out : Nat
  run : Bool
  code : Nat
  part : Nat
  data : List (Byte × Bool)
  deriving DecidableEq, Repr

/-- A launch whose clusters have not all started (R506): the command, the clusters still to start, where the image is, and the
image once read. -/
structure LaunchSt where
  id : Nat
  ring : Nat
  tag : Nat
  part : Nat
  clusters : List Nat
  host : Bool
  image : Nat
  ilen : Nat
  base : Nat
  lim : Nat
  entry : Nat
  arg : Nat
  slateNa : Bool
  img : Option (List (Byte × Bool))
  deriving DecidableEq, Repr

/-- The host port (R483 to R519): rings, commands not completed, completion entries written (newest first), management buffers posted, grants
by entry, copies, launches, the ring that fetches next, writes to host memory other than completion entries, newest first, and the last completion
of an aperture read (0 none, 1 data, 2 Unsupported Request, 3 poisoned; its bytes). -/
structure HostSt where
  rings : SMap RingSt
  cmds : List HostCmd
  nextId : Nat
  out : List CqOut
  mgbuf : List (Nat × Nat)
  mgrecv : List (Nat × Pkt)
  grants : SMap Grant
  copies : List CopySt
  launches : List LaunchSt
  turn : Nat
  writes : List (Nat × List Byte)
  aper : Nat × List Byte
  deriving DecidableEq, Repr

/-- The host port with its link down and nothing in hand (R133). -/
def HostSt.init : HostSt := ⟨[], [], 0, [], [], [], [], [], [], 0, [], (0, [])⟩

/-- Who learns the end of a Mica or Jasper command: a host command, or a cluster's status word with SEM and SIG (R525, R564). -/
inductive Tell where
  | host (id : Nat)
  | clu (c stat sem : Nat) (sig : Bool)
  deriving DecidableEq, Repr

/-- What a Mica queue holds in SEQ order (R529, R541, R530): an access unit (ADDR, LEN, KEY, SEQ, the capture stamp it carries, INSERT), the start
of a LOOKUP FEED, its end, EOS. -/
inductive MItem where
  | unit (addr len key seq : Nat) (cap : Option Nat) (ins : Bool)
  | look
  | lookEnd
  | eos
  deriving DecidableEq, Repr

/-- How far a started frame has come: its access unit is read or decoded, it is held for reordering, it is converted and waits for its turn and
credit, its tensor or its record is being written. -/
inductive MPhase where
  | decode | held | ready | tensor | record
  deriving DecidableEq, Repr

/-- A started frame (R530 to R537, R541): KEY, SEQ, capture stamp, INSERT; phase; remote accesses outstanding and the code met; decoded for
reference only; started while its stream lagged; T_START, T_DELIV; CW and CH; RFLAGS; the tensor's bytes. -/
structure MFrame where
  key : Nat
  seq : Nat
  cap : Option Nat
  ins : Bool
  phase : MPhase
  out : Nat
  code : Nat
  refOnly : Bool
  lagged : Bool
  tStart : Nat
  tDeliv : Nat
  cw : Nat
  ch : Nat
  hit : Bool
  data : List Byte
  deriving DecidableEq, Repr

/-- A stream (R526 to R546): owner; the OPEN descriptor's bytes; its reservation; a CLOSE in progress; free credits; the queue; the started frames
in SEQ order; the next SEQ; frames delivered to slots; the SEQs of the pictures in its reference state; lag, and deficit of the round robin;
its counters; the stale drops of this second; the values that SNAP latched. -/
structure MStream where
  part : Nat
  d : List Byte
  res : Nat
  closing : Option Tell
  credits : Nat
  queue : List MItem
  frames : List MFrame
  seq : Nat
  slot : Nat
  refs : List Nat
  lag : Bool
  deficit : Nat
  lastErr : Nat
  numflg : Nat
  in_ : Nat
  dec : Nat
  staleS : Nat
  staleD : Nat
  err : Nat
  hit : Nat
  noout : Nat
  skip : Nat
  future : Nat
  nostamp : Nat
  lagN : Nat
  preempt : Nat
  secS : Nat
  secD : Nat
  snap : List Nat
  deriving DecidableEq, Repr

/-- A cached sample (R540): its key, the OPEN fields from byte 54 on that its hash stands for, the slot image. -/
structure MEntry where
  key : Nat
  hash : List Byte
  img : List Byte
  deriving DecidableEq, Repr

/-- A PIN operation: unpin, KEY_LO, KEY_HI, who waits for it. -/
structure MPin where
  pop : Bool
  lo : Nat
  hi : Nat
  tell : Tell
  deriving DecidableEq, Repr

/-- A pin slot (R543): the range set, the running and the pending operation. -/
structure MPinSlot where
  range : Option (Nat × Nat)
  run : Option MPin
  pend : Option MPin
  deriving DecidableEq, Repr

/-- A CACHE_CFG that waits (R548). -/
structure MCfg where
  part : Nat
  base : Nat
  len : Nat
  maxEnt : Nat
  tell : Tell
  deriving DecidableEq, Repr

/-- Mica (R520 to R551): the open streams; the cached samples of each partition, most recently used first; pin slots (8p + s); waiting
CACHE_CFG commands; the stream whose turn the round robin is. -/
structure MicaSt where
  streams : SMap MStream
  cache : SMap (List MEntry)
  pins : SMap MPinSlot
  cfgs : List MCfg
  turn : Nat
  deriving DecidableEq, Repr

/-- A block of the running batch (R567, R575): remote accesses outstanding, the input bytes read from another device, whether its outputs are
written or on their way. -/
structure JBlock where
  out : Nat
  inp : SMap (List (Byte × Bool))
  wrote : Bool
  deriving DecidableEq, Repr

/-- An accepted batch (R564 to R568): its number, partition, descriptor bytes, the model's bytes as read at acceptance, who learns its end. -/
structure JBatch where
  job : Nat
  part : Nat
  d : List Byte
  model : List Byte
  tell : Tell
  deriving DecidableEq, Repr

/-- The running batch: the blocks started and not finished, the next block to read, the blocks finished, the code that ends it. -/
structure JRun where
  b : JBatch
  blocks : SMap JBlock
  next : Nat
  fin : SMap Bool
  code : Nat
  deriving DecidableEq, Repr

/-- Jasper (R552 to R575): the running batch, the waiting ones, the number of the next batch. -/
structure JasperSt where
  run : Option JRun
  waiting : List JBatch
  nextJob : Nat
  deriving DecidableEq, Repr

/-- A loop channel besides its registers (R580 to R592): the filtered set-point input; PI's integrator; the biquad's history; the state-space state;
the output applied last; whether the law is to be initialised at the next tick, and the model; the supervisor's count; the last good samples of
set-point source, feedback and check signal; the ADC inputs a tick waits for, those of them whose sample is stale, the values latched at that tick,
and the readings of its feedback and check signal. -/
structure LpSt where
  xf : Option Lane
  i : Lane
  e1 : Lane
  e2 : Lane
  u1 : Lane
  u2 : Lane
  x : List Lane
  uPrev : Lane
  initLaw : Bool
  initM : Bool
  n : Nat
  spRaw : Lane
  fbRaw : Lane
  chkRaw : Lane
  waits : List Nat
  stale : List Nat
  lat : List Nat
  fb : BitVec 32
  chk : BitVec 32
  deriving DecidableEq, Repr

/-- A channel after cold reset: it counts as having output UMAX (R577). -/
def LpSt.init : LpSt :=
  { xf := none, i := 0, e1 := 0, e2 := 0, u1 := 0, u2 := 0, x := [0, 0, 0, 0], uPrev := 0x3F800000, initLaw := true, initM := true, n := 0,
    spRaw := 0, fbRaw := 0, chkRaw := 0, waits := [], stale := [], lat := [], fb := 0, chk := 0 }

/-- The loop engines of Flint (R576 to R601): the channels; the conversion that runs and the inputs queued (R589). -/
structure LoopSt where
  ch : SMap LpSt
  adc : Option Nat
  adcq : List Nat
  deriving DecidableEq, Repr

/-- The states of a stepper channel (SM_STAT.STATE). -/
inductive SmState where
  | disabled | idle | moving | dwell | stopping | stopped | homing | fault
  deriving DecidableEq, Repr

/-- A queued move with its target made absolute; overrides are 0 where the channel's value holds (R604). -/
structure SmMove where
  tgt : Int
  vmax : Nat
  dwell : Nat
  noblend : Bool
  tag : Nat
  a : Nat
  d : Nat
  j : Nat
  deriving DecidableEq, Repr

/-- One stepper channel: state, queue (the running move at its head while `started`), position and position accumulator (2⁻³² microstep),
velocity (2⁻¹⁶ microstep/s) and direction, acceleration of the jerk-limited profile (10⁻⁵ microstep/s²), parameters latched at the move's
start, dwell left (µs), derate limit, flags, the loop target, the state held before HOME, the reference's last sample, steps homed. -/
structure SmCh where
  st : SmState
  q : List SmMove
  started : Bool
  pos : Int
  p : Int
  v : Nat
  neg : Bool
  acc : Int
  la : Nat
  ld : Nat
  lj : Nat
  lvmin : Nat
  ljerk : Bool
  dwellLeft : Nat
  vder : Nat
  uncertain : Bool
  homed : Bool
  fShort : Bool
  fStall : Bool
  fSupply : Bool
  loopTgt : Option Int
  preHome : SmState
  homeAin : Option Nat
  homeSteps : Nat
  holding : Bool
  dirInv : Bool
  deriving DecidableEq, Repr

/-- A stepper channel after cold reset (R614). -/
def SmCh.init : SmCh :=
  { st := .disabled, q := [], started := false, pos := 0, p := 0, v := 0, neg := false, acc := 0, la := 0, ld := 0, lj := 0, lvmin := 0,
    ljerk := false, dwellLeft := 0, vder := 200000, uncertain := true, homed := false, fShort := false, fStall := false, fSupply := false,
    loopTgt := none, preHome := .disabled, homeAin := none, homeSteps := 0, holding := false, dirInv := false }

/-- A spare-cluster mapping that runs on a chiplet (R643): logical cluster and spare position. -/
structure SpareMap where
  logical : Nat
  pos : Nat
  deriving DecidableEq, Repr

/-- The row repairs of one cluster or slice (R646, R647): the candidates that wait and the rows being copied,
as (bank, row); the Flint times of the uncorrectable errors met without a spare, as (time, bank). -/
structure RowRep where
  waiting : List (Nat × Nat)
  running : List (Nat × Nat)
  uncorr : List (Nat × Nat)
  deriving DecidableEq, Repr

/-- Errors and spares (R630 to R663): the record ring, newest first, with the Flint time of the newest; the times of the class-2 errors of
each island that started a reset; the islands of failed units; per chiplet the running mapping and the failures that wait; the positions that
flash holds as failed; the spare maps and row records in flash, and the mappings that flash has not yet taken (logical
cluster, position, the position it replaces, SEQ of the failure's record); row repairs
by island; crossings that stall, with the time of the last release after an escalation. -/
structure ErrSt where
  ring : List ErrRec
  lastAt : Nat
  cls2 : SMap (List Nat)
  failed : SMap Bool
  mapping : SMap SpareMap
  waitMap : List Nat
  badPos : SMap Bool
  flashMap : SMap Nat
  unflashed : List (Nat × Nat × Nat × Nat)
  rows : SMap RowRep
  flashRows : SMap Nat
  stalls : List (Nat × Nat × Nat)
  escalated : List (Nat × Nat × Nat)
  deriving DecidableEq, Repr


/-- The whole machine. -/
structure State where
  /-- The commands that wait, first in, first out. -/
  pending : List Instr
  /-- The model's own counter of free values drawn (log 2); no rule rests on it. -/
  free : Nat
  /-- The register fields that do not hold their reset value, by Fld.key. -/
  regs : SMap Nat
  /-- The addressed memories (cluster SRAM, Slate scratch, HBM), by device-local address; canonical, an unlisted byte reads 0. -/
  mem : List Host.Cell
  /-- Poison marks: 8-byte words of SRAM and scratch, 32-byte bursts of HBM, by first address (R633). -/
  psn : SMap Bool
  /-- Flint time since cold reset, ns. -/
  now : Nat
  /-- The Flint event log. -/
  log : LogSt
  /-- Traps that wait to leave for the fabric manager (R367), newest first. -/
  traps : List TrapMsg
  /-- Message-signalled interrupts sent, newest first. -/
  msix : List MsiX
  /-- Supplies and island clocks. -/
  pwr : PowerSt
  /-- The firmware banks. -/
  fw : FwSt
  /-- Flint's watches, buses, straps and fuses. -/
  flint : FlintSt
  /-- Start-up and resets in progress. -/
  start : StartSt
  /-- Fabric time. -/
  time : TimeSt
  /-- The sequencers by logical cluster; an unlisted one is as after reset. -/
  clu : SMap ClusterSt
  /-- Slate's slices, lines, region operations and assignment changes. -/
  slate : SlateSt
  /-- The HBM controllers, mode changes, and repair records. -/
  hbm : HbmAll
  /-- The ports by code (16 the Agate port); an unlisted one is as after reset. -/
  ports : SMap PortSt
  /-- Quartz: contexts, queues, agents, neighbours, floods. -/
  quartz : QuartzSt
  /-- The collective group records by index, 0 to 1,023. -/
  grps : SMap ClxRec
  /-- The twin pairing, mirroring and takeover. -/
  twin : TwinSt
  /-- The host port: rings, commands, grants, copies, launches. -/
  host : HostSt
  /-- Mica: streams, cache, pins. -/
  mica : MicaSt
  /-- Jasper: the running batch and the waiting ones. -/
  jasper : JasperSt
  /-- The loop channels and the converter. -/
  loops : LoopSt
  /-- The stepper channels by number; an unlisted one is as after cold reset. -/
  sm : SMap SmCh
  /-- Errors, spares and repairs (R630 to R663). -/
  err : ErrSt
  deriving DecidableEq, Repr

/-- The module right after cold reset: V3P3SB has returned and Flint is about to boot (R118, R132). Registers list nothing, so each
field reads as its cold-reset value. -/
def State.reset : State :=
  { pending := [],
    free := 0,
    regs := [],
    mem := [],
    psn := [],
    now := 0,
    log := ⟨[], [], [], 0⟩,
    traps := [],
    msix := [],
    pwr := ⟨0, 0, 0, 0, false, false, 0, none, true, false, [], 0⟩,
    fw := ⟨⟨true, 1, []⟩, ⟨true, 1, []⟩, 0, 0, false, false, false, none, []⟩,
    flint := ⟨true, [false, false, false, false, false], [false, false, false, false, false], none, false, false, false, 0, 0, none, none, 0, 0, none, none, false, [255, 255, 255, 255, 255, 255], 1, 1, 0⟩,
    start := ⟨false, false, false, false, none, false, false, false, false, [], false⟩,
    time := TimeSt.init,
    clu := [],
    slate := SlateSt.init,
    hbm := ⟨[], none, none, [], [], 0⟩,
    ports := [],
    quartz := QuartzSt.init,
    grps := [],
    twin := TwinSt.init,
    host := HostSt.init,
    mica := ⟨[], [], [], [], 0⟩,
    jasper := ⟨none, [], 0⟩,
    loops := ⟨[], none, []⟩,
    sm := [],
    err := ⟨[], 0, [], [], [], [], [], [], [], [], [], [], []⟩ }

end Sys2Proof.Machine
end

