-- ==== Sys2Proof/Machine/Ops.lean ====
section
/-! DEFINITION. Machine/Ops.lean: the named operations every family shares: register fields, memory and poison marks, the event log, alerts,
error records, interrupts, free values, and which units the variant carries. -/

namespace Sys2Proof

/-- The right that a source acts with: the fabric's WRITE_REG acts as the host physical function (R364). -/
def Src.host : Src → Src
  | .mg => .pf
  | s => s

end Sys2Proof

namespace Sys2Proof.Machine

/-- An integer from the two's complement of a w-bit field. -/
def toSigned (w v : Nat) : Int := if v % 2 ^ w < 2 ^ (w - 1) then (v % 2 ^ w : Nat) else ((v % 2 ^ w : Nat) : Int) - 2 ^ w

/-- The two's complement of an integer in a w-bit field. -/
def ofSigned (w : Nat) (x : Int) : Nat := (x % (2 ^ w : Int)).toNat

/-- Bit b of a number. -/
def bitAt (v b : Nat) : Bool := v / 2 ^ b % 2 = 1

/-- The field [lo + w − 1 : lo] of a number. -/
def bitsAt (v lo w : Nat) : Nat := v / 2 ^ lo % 2 ^ w

/-- A number with the field [lo + w − 1 : lo] replaced. -/
def putBits (v lo w x : Nat) : Nat := v - bitsAt v lo w * 2 ^ lo + x % 2 ^ w * 2 ^ lo

/-- Saturation at the top of a w-bit field. -/
def satAt (w v : Nat) : Nat := if v < 2 ^ w then v else 2 ^ w - 1

/-- What a field holds. -/
def State.rd (s : State) (f : Fld) (i : Nat := 0) (j : Nat := 0) : Nat := SMap.get s.regs (f.dflt i j) (f.key i j)

/-- A field with a new value, cut to its width. -/
def State.wr (s : State) (f : Fld) (v : Nat) (i : Nat := 0) (j : Nat := 0) : State :=
  { s with regs := SMap.set s.regs (f.dflt i j) (f.key i j) (v % 2 ^ f.w) }

/-- A one-bit field as a truth value. -/
def State.bit (s : State) (f : Fld) (i : Nat := 0) (j : Nat := 0) : Bool := s.rd f i j = 1

/-- A one-bit field set to a truth value. -/
def State.wb (s : State) (f : Fld) (b : Bool) (i : Nat := 0) (j : Nat := 0) : State := s.wr f b.toNat i j

/-- A saturating count raised by n. -/
def State.bump (s : State) (f : Fld) (n : Nat := 1) (i : Nat := 0) (j : Nat := 0) : State := s.wr f (satAt f.w (s.rd f i j + n)) i j

/-- Bit b of a field of flags. -/
def State.flag (s : State) (f : Fld) (b : Nat) (i : Nat := 0) (j : Nat := 0) : Bool := bitAt (s.rd f i j) b

/-- Bit b of a field of flags set or cleared. -/
def State.wflag (s : State) (f : Fld) (b : Nat) (x : Bool) (i : Nat := 0) (j : Nat := 0) : State :=
  s.wr f (putBits (s.rd f i j) b 1 x.toNat) i j

/-- A signed field. -/
def State.rdS (s : State) (f : Fld) (i : Nat := 0) (j : Nat := 0) : Int := toSigned f.w (s.rd f i j)

/-- Draw a free value: the counter it is applied to, and the state with the counter advanced (log 2). -/
def State.drawn (s : State) : State := { s with free := s.free + 1 }

/-- DEV_CAP0 of the fused variant (R4): 1 DX-256F, 2 DX-256T, 3 DX-256E. -/
def State.variant (s : State) : Nat := s.flint.variant

/-- Mica is present on all variants but DX-256T (R2). -/
def State.micaPres (s : State) : Bool := s.variant ≠ 2

/-- Jasper is present on all variants but DX-256E (R2). -/
def State.jasperPres (s : State) : Bool := s.variant ≠ 3

/-- The number of HBM stacks: four on DX-256E, else eight (R2). -/
def State.stacks (s : State) : Nat := if s.variant = 3 then 4 else 8

/-- The number of Esyel ports: eight on DX-256E, else sixteen (R2). -/
def State.esyels (s : State) : Nat := if s.variant = 3 then 8 else 16

/-- Whether a port is present; port 16 is the Agate port (R2). -/
def State.portPres (s : State) (n : Nat) : Bool := n < s.esyels || n = 16

/-- Whether the unit of an island is present (R23, R24). -/
def State.islPres (s : State) (i : Nat) : Bool :=
  if i = 290 ∨ i = 291 ∨ (299 ≤ i ∧ i ≤ 302) then s.variant ≠ 3
  else if i = 293 then s.micaPres else if i = 294 then s.jasperPres else i ≤ 304

/-- The island of a port's group (R23). -/
def portIsland (n : Nat) : Nat := if n = 16 then 292 else 288 + n / 4

/-- The physical island of a logical cluster, by the spare map (R21, R23, R641). -/
def State.cluIsland (s : State) (c : Nat) : Nat :=
  68 * (c / 64) + bitsAt (s.rd F.ERR_MAP_POS (c / 64) (c % 64 / 8)) (8 * (c % 8)) 8

/-- The logical cluster that a physical cluster island serves, if any (R641). -/
def State.islandClu (s : State) (i : Nat) : Option Nat :=
  if i < 272 then (List.range 64).map (fun k => 64 * (i / 68) + k) |>.find? (fun c => s.cluIsland c = i) else none

/-- The partition that holds a logical cluster (R491). -/
def State.cluPart (s : State) (c : Nat) : Option Nat :=
  (List.range 16).find? (fun p => s.flag F.HST_PART_CTL_CLU (c % 64) p (c / 64))

/-- The byte at a device-local address of an addressed memory. -/
def memGet (m : List Host.Cell) (a : Nat) : Byte := SMap.get (α := Byte) m 0 a

/-- A byte written. -/
def memSet (m : List Host.Cell) (a : Nat) (b : Byte) : List Host.Cell := SMap.set (α := Byte) m 0 a b

/-- Read a byte of memory. -/
def State.mem1 (s : State) (a : Nat) : Byte := memGet s.mem a

/-- Write a byte of memory. -/
def State.setMem1 (s : State) (a : Nat) (b : Byte) : State := { s with mem := memSet s.mem a b }

/-- The n bytes from an address, little-endian, as a number. -/
def State.memN (s : State) (a : Nat) : Nat → Nat
  | 0 => 0
  | n + 1 => (s.mem1 a).toNat + 256 * State.memN s (a + 1) n

/-- Store the n low bytes of a number, little-endian. -/
def State.setMemN (s : State) (a : Nat) : Nat → Nat → State
  | 0, _ => s
  | n + 1, v => State.setMemN (s.setMem1 a (BitVec.ofNat 8 v)) (a + 1) n (v / 256)

/-- The n bytes from an address, as a list. -/
def State.memL (s : State) (a n : Nat) : List Byte := (List.range n).map (fun k => s.mem1 (a + k))

/-- Store a list of bytes. -/
def State.setMemL (s : State) (a : Nat) : List Byte → State
  | [] => s
  | b :: t => State.setMemL (s.setMem1 a b) (a + 1) t

/-- Set every byte of a range to zero (R133). -/
def State.zeroMem (s : State) (a n : Nat) : State :=
  { s with mem := s.mem.filter (fun c => !(decide (a ≤ c.1) && decide (c.1 < a + n))),
           psn := s.psn.filter (fun c => !(decide (a ≤ c.1) && decide (c.1 < a + n))) }

/-- A set or cleared poison mark of the word that starts at an address (R633). -/
def State.setPsn (s : State) (a : Nat) (b : Bool) : State := { s with psn := SMap.set s.psn false a b }

/-- Whether the word that starts at an address is marked. -/
def State.psnAt (s : State) (a : Nat) : Bool := SMap.get s.psn false a

/-- The log's time base: fabric time while its counter runs, else Flint time (the log entry layout of R108). -/
def State.stamp (s : State) : Nat := if s.time.run then s.time.ft else s.now

/-- Alert cause bits (R89). -/
inductive Alert where
  | supply | aux | die | lost | twin | host | alone | loop | motor | fw | log
  deriving DecidableEq, Repr

/-- The bit of a cause. -/
def Alert.num : Alert → Nat
  | .supply => 0 | .aux => 1 | .die => 2 | .lost => 3 | .twin => 4 | .host => 5
  | .alone => 6 | .loop => 7 | .motor => 8 | .fw => 9 | .log => 10

/-- Send a message-signalled interrupt (R504); none is sent while the host link is down (R510). -/
def State.msi (s : State) (fn vec : Nat) : State := if s.bit F.HST_STAT_LINK_UP then { s with msix := ⟨fn, vec⟩ :: s.msix } else s

/-- Raise an alert cause (R89); vector 257 signals a cause that becomes set (R504). -/
def State.alert (s : State) (a : Alert) : State :=
  if s.flag F.FLT_ALERT_STAT_CAUSE a.num then s else (s.wflag F.FLT_ALERT_STAT_CAUSE a.num true).msi 0 257

/-- The pair enters a state (R446); vector 258 signals a change (R504). -/
def State.setPair (s : State) (st : Nat) : State :=
  if s.rd F.AGT_STAT_STATE = st then s else (s.wr F.AGT_STAT_STATE st).msi 0 258

/-- Whether Flint holds ALERT_N low: an unmasked cause, or LOST or ALONE whatever the mask (R88). -/
def State.alertLow (s : State) : Bool :=
  s.flint.on && decide (s.rd F.FLT_ALERT_STAT_CAUSE &&& (s.rd F.FLT_ALERT_MASK_CAUSE ||| 0x48) ≠ 0)

/-- Whether the persistent area can take an entry: 1,024 fit, and the oldest gives way once it is acknowledged (R107). -/
def State.logRoom (s : State) : Bool :=
  decide (s.log.flash.length < 1024) || (match s.log.flash.getLast? with | some o => decide (o.seq ≤ s.rd F.FLT_LOG_ACK_SEQ) | none => false)

/-- Append an entry to the ring (R107): SEQ counts on, the 4,097th entry overwrites the oldest and carries OVF when that was not acknowledged; an entry that is
kept goes to the persistent area too. -/
def State.logRing (s : State) (e : LogEntry) (keep : Bool) : State :=
  let q := s.rd F.FLT_LOG_HEAD_SEQ + 1
  let full := decide (4096 ≤ s.log.ring.length)
  let ov := full && (match s.log.ring.getLast? with | some o => decide (s.rd F.FLT_LOG_ACK_SEQ < o.seq) | none => false)
  let e : LogEntry := { e with seq := q, persist := keep, ovf := ov }
  let fl := if keep then e :: (if s.log.flash.length < 1024 then s.log.flash else s.log.flash.dropLast) else s.log.flash
  { (s.wr F.FLT_LOG_HEAD_SEQ q) with
      log := { s.log with ring := e :: (if full then s.log.ring.dropLast else s.log.ring), flash := fl, lastAt := s.now } }

/-- An event as an entry not yet written (R108). -/
def State.newEntry (s : State) (code source sev : Nat) (data : List Nat) : LogEntry :=
  { time := s.stamp, tbase := !s.time.run, seq := 0, code := code, source := source, sev := sev, persist := false, ovf := false, count := 0, data := data }

/-- A persistent entry with no room (R107): it stays in the ring only, LOG_LOST counts it, LOG is raised, and event 0x0401 is logged when LOG becomes set; that
entry is not kept either (DEDUCED, log 60). -/
def State.logFull (s : State) (e : LogEntry) : State :=
  let t := (s.logRing e false).bump F.FLT_LOG_HEAD_LOG_LOST
  if t.flag F.FLT_ALERT_STAT_CAUSE 10 then t
  else (((t.alert .log).logRing (t.newEntry 0x0401 304 3 []) false).bump F.FLT_LOG_HEAD_LOG_LOST)

/-- Write a log entry (R107). -/
def State.logPut (s : State) (e : LogEntry) : State :=
  if e.sev < 3 then s.logRing e false else if s.logRoom then s.logRing e true else s.logFull e

/-- Log an event (R107, R108): a repeat of the newest entry's code and source within 1 ms raises its COUNT; during a live exchange the
entry goes to the FIFO (R105). -/
def State.logE (s : State) (code source sev : Nat) (data : List Nat := []) : State :=
  if !s.flint.on then s
  else if s.fw.exchanging then
    if s.log.fifo.length < 64 then { s with log := { s.log with fifo := s.log.fifo ++ [s.newEntry code source sev data] } } else s
  else match s.log.ring with
    | e :: t =>
      if e.code = code ∧ e.source = source ∧ s.now ≤ s.log.lastAt + 1000000
      then { s with log := { s.log with ring := { e with count := satAt 16 (e.count + 1) } :: t } }
      else s.logPut (s.newEntry code source sev data)
    | [] => s.logPut (s.newEntry code source sev data)

/-- A trap for the fabric manager, if a manager is set (R367); it leaves when time passes (log 63). -/
def State.trap (s : State) (code source : Nat) (data : List Nat := []) : State :=
  if s.rd F.QTZ_MGMT_MGR_ID = 0xFFFF then s else { s with traps := ⟨code, source, data⟩ :: s.traps }

/-- Write an error record and signal vector 256 (R636). -/
def State.errPut (s : State) (r : ErrRec) : State :=
  let q := s.rd F.ERR_HEAD_SEQ + 1
  let full := decide (1024 ≤ s.err.ring.length)
  let ov := full && (match s.err.ring.getLast? with | some o => decide (s.rd F.ERR_ACK_SEQ < o.seq) | none => false)
  let r := { r with seq := q, ovf := ov, time := s.time.ft }
  let s := { s with err := { s.err with ring := r :: (if full then s.err.ring.dropLast else s.err.ring), lastAt := s.now } }
  let s := if ov then s.bump F.ERR_HEAD_LOST else s
  let s := (s.wr F.ERR_HEAD_SEQ q).wflag F.ERR_SUMMARY_SEEN r.cls true
  s.msi 0 256

/-- Count an error of a class in ERR_CNT, twelve bits a class, saturating (R637). -/
def State.errCount (s : State) (cls : Nat) : State :=
  s.wr F.ERR_CNT_CLASS (putBits (s.rd F.ERR_CNT_CLASS) (12 * cls) 12 (satAt 12 (bitsAt (s.rd F.ERR_CNT_CLASS) (12 * cls) 12 + 1)))

/-- The Flint log entry, trap and interrupts that an error of a class brings (R637). -/
def State.errReport (s : State) (kind source cls addr part : Nat) : State :=
  if cls = 1 then s.logE 0x1001 source 2 [kind, addr]
  else if cls = 2 then (s.logE 0x1002 source 3 [kind, source]).trap 0x1002 source [kind]
  else if cls = 3 then ((s.logE 0x1003 (0xF100 + part) 3 [part]).trap 0x1003 (0xF100 + part) [kind]).msi (part + 1) 31
  else s

/-- Record an error (R636, R637): a class-0 or class-1 error with the KIND, SOURCE and ADDR of the newest record, within 1 ms of it, raises
that record's COUNT instead. -/
def State.errRec (s : State) (kind source cls : Nat) (code addr : Nat := 0) (part : Nat := 0xFFFF) (source2 : Nat := 0xFFFF)
    (data : List Nat := []) : State :=
  let s := s.errCount cls
  let r : ErrRec := { kind := kind, source := source, cls := cls, ovf := false, flashed := false, code := code, seq := 0, count := 0,
                      time := 0, addr := addr, syndrome := 0, source2 := source2, part := part, data := data }
  match s.err.ring with
  | e :: t =>
    if cls ≤ 1 ∧ e.kind = kind ∧ e.source = source ∧ e.addr = addr ∧ s.now ≤ s.err.lastAt + 1000000
    then { s with err := { s.err with ring := { e with count := satAt 32 (e.count + 1) } :: t } }
    else (s.errPut r).errReport kind source cls addr part
  | [] => (s.errPut r).errReport kind source cls addr part

/-- Whether the unit of an island is failed (R631). -/
def State.islFailed (s : State) (i : Nat) : Bool := SMap.get s.err.failed false i

end Sys2Proof.Machine
end

