-- ==== Sys2Proof/Machine/Operands.lean ====
section
/-! DEFINITION. Machine/Operands.lean: the operand forms of the instructions: scalar, predicate, vector and tile registers, immediates, the guard, and the
length of an encoding (R161, R164 to R167, R214). -/

namespace Sys2Proof.Machine

/-- g[r]: g0 reads zero (R161). -/
def ClusterSt.gr (k : ClusterSt) (r : Nat) : Word := if r = 0 then 0 else SMap.get k.g 0 r

/-- g[r] written: writes to g0 are discarded (R161). -/
def ClusterSt.setG (k : ClusterSt) (r : Nat) (v : Word) : ClusterSt := if r = 0 then k else { k with g := SMap.set k.g 0 r v }

/-- p[r]: p0 reads 1 (R161). -/
def ClusterSt.pr (k : ClusterSt) (r : Nat) : Bool := decide (r = 0) || bitAt k.p r

/-- p[r] written: writes to p0 are discarded (R161). -/
def ClusterSt.setP (k : ClusterSt) (r : Nat) (b : Bool) : ClusterSt := if r = 0 then k else { k with p := putBits k.p r 1 b.toNat }

/-- A vector register of zeros. -/
def zeroV : List Lane := List.replicate 64 0

/-- v[n]: 64 lanes (R214). -/
def ClusterSt.vr (k : ClusterSt) (n : Nat) : List Lane := SMap.get k.v zeroV n

/-- v[n] written with its poison mark (R215). -/
def ClusterSt.setV (k : ClusterSt) (n : Nat) (x : List Lane) (psn : Bool) : ClusterSt :=
  { k with v := SMap.set k.v zeroV n x, vpsn := putBits k.vpsn n 1 psn.toNat }

/-- A tile of zeros. -/
def zeroTa : List Lane := List.replicate 1024 0

/-- ta t of unit u, number 8u + t: 32 rows of 32 words. -/
def ClusterSt.tile (k : ClusterSt) (n : Nat) : List Lane := SMap.get k.ta zeroTa n

/-- A tile written with its poison mark. -/
def ClusterSt.setTile (k : ClusterSt) (n : Nat) (x : List Lane) (psn : Bool) : ClusterSt :=
  { k with ta := SMap.set k.ta zeroTa n x, tapsn := putBits k.tapsn n 1 psn.toNat }

/-- The length of an instruction in bytes. -/
def ilen (long : Bool) : Nat := if long then 8 else 4

/-- Whether an instruction's words lie in the code range (R162). -/
def ClusterSt.inCode (k : ClusterSt) (long : Bool) : Bool := decide (k.codeBase ≤ k.pc) && decide (k.pc + ilen long ≤ k.codeLim)

/-- Whether the guard lets the instruction execute (R166): forms R and I always do. -/
def ClusterSt.guard (k : ClusterSt) (x : Iss) : Bool := !x.long || xor (k.pr x.pg) x.pn

/-- IMM24 sign-extended (R167). -/
def immS (i : BitVec 24) : Word := i.signExtend 64

end Sys2Proof.Machine
end

