-- ==== Sys2Proof/Machine/RegAccess.lean ====
section
/-! DEFINITION. Machine/RegAccess.lean: the field-by-field write of a register (R16, R692, R694): which fields an access covers, who may write
them, the expert enable, the ranges, and what is counted when a field is discarded. -/

namespace Sys2Proof.Machine

/-- Every field of every register table. -/
def allFields : List Fld := F.listA ++ F.listB ++ F.listC

/-- The instance of a field that lies in the register at an address. -/
def Fld.instAt (f : Fld) (a : Nat) : Option (Nat × Nat) := f.inst (64 * a + f.lo)

/-- The fields of the register at an address. -/
def fieldsAt (a : Nat) : List (Fld × Nat × Nat) :=
  allFields.filterMap (fun f => (f.instAt a).map (fun ij => (f, ij.1, ij.2)))

/-- The ranges a write must lie in, for the fields that have one and no row of their own (R608, R621, R650, R475, R545, R620). -/
def rangeTable : List (Fld × Nat × Nat) :=
  [(F.SM_CUR_I_RUN, 10, 120), (F.SM_CUR_HOLD_DLY, 0, 1000), (F.SM_VEL_VMAX, 1, 200000), (F.SM_VEL_VMIN, 50, 2000),
   (F.SM_VEL_HOME_V, 1, 200000), (F.SM_ACC_AMAX, 1000, 16000000), (F.SM_ACC_DMAX, 1000, 16000000),
   (F.SM_JERK_JMAX, 10000, 4000000000), (F.SM_HOME_HOME_MAX, 1, 2147483647), (F.SM_STALL_STALL_VMIN, 100, 200000),
   (F.SM_STALL_STALL_TH, 1, 255), (F.SM_CTL_HOME_SRC, 0, 8), (F.SM_CTL_DECAY, 0, 2),
   (F.ERR_CFG_CROSS_ESC, 10, 10000), (F.ERR_CFG_ROW_TH, 1, 64), (F.AGT_CFG_DIRTY_LIM, 16, 65535), (F.AGT_CFG_PASS_MAX, 1, 15),
   (F.MCA_CTRL_LAG_FRAC, 1, 7), (F.QTZ_MGMT_TTL_INIT, 1, 255), (F.HBM_SCRUB_PERIOD_H, 1, 168), (F.HBM_SCRUB_RPR_THRESH, 1, 64),
   (F.QTZ_PORT_PWR_DOZE_IDLE, 1, 1000), (F.QTZ_PORT_PWR_REST_IDLE, 1, 10000), (F.QTZ_PORT_PWR_SPARE_CHK, 1, 600),
   (F.QTZ_PART_WEIGHT, 1, 255), (F.QTZ_PART_QUOTA_WAIT, 1, 1000), (F.QTZ_PART_CTX_T, 35, 10000)]

/-- Whether a value lies in a field's range; I_HOLD is bounded by I_RUN (R602). -/
def inRange (s : State) (f : Fld) (i x : Nat) : Bool :=
  if f = F.SM_CUR_I_HOLD then x ≤ s.rd F.SM_CUR_I_RUN i
  else match rangeTable.find? (fun r => r.1 = f) with
    | some r => r.2.1 ≤ x && x ≤ r.2.2
    | none => true

/-- The flag that an out-of-range write sets, by the block of the field (R621, R650, R475, R545). -/
def fmtFlag (s : State) (f : Fld) (i : Nat) : State :=
  if f.ix = .sm then s.wb F.SM_STAT_FMT_REJ true i
  else if f.ix = .lp then s.wb F.LP_STAT_FMT_REJ true i
  else if f.addr = F.ERR_CFG_ROW_TH.addr then s.wb F.ERR_CFG_FMT_REJ true
  else if f.addr = F.AGT_CFG_PASS_MAX.addr then s.wb F.AGT_CFG_FMT_REJ true
  else if f.addr = F.MCA_CTRL_LAG_FRAC.addr then s.wb F.MCA_CTRL_FMT_REJ true
  else if f.addr = F.HBM_SCRUB_PERIOD_H.addr then s.wb F.HBM_SCRUB_FMT_REJ true
  else if f.addr = F.FLT_HB_CFG_DIE_HB_T.addr then s.wb F.FLT_HB_CFG_FMT_REJ true
  else if f.addr = F.QTZ_PORT_PWR_DOZE_EN.addr then s.wb F.QTZ_PORT_PWR_FMT_REJ true i
  else if f.addr = F.QTZ_PART_QUOTA.addr then s.wb F.QTZ_PART_FMT_REJ true i
  else if f.addr = F.ISL_FREQ_REQ_CODE.addr then s.wb F.ISL_FREQ_FMT_REJ true i
  else s

/-- The FORMAT code a management write gets for an out-of-range value: 0x1B in the stepper block, 0x1A in the loop block (R586, R621),
no qualifier elsewhere. -/
def fmtCode (f : Fld) : Nat := if f.ix = .sm then Code.format 0x1B else if f.ix = .lp then Code.format 0x1A else Code.format 0

/-- Count a discarded field or write where the register's statement says: PERM_REJ of the partition or island register, ISL_WR_REJ in the
ISL block, FLT_WR_REJ elsewhere (R694). -/
def countReject (s : State) (f : Fld) (i : Nat) : State :=
  if f.addr = F.QTZ_PART_QUOTA.addr then s.wb F.QTZ_PART_PERM_REJ true i
  else if f.addr = F.ISL_FREQ_REQ_CODE.addr then s.wb F.ISL_FREQ_PERM_REJ true i
  else if 0xFF0000100000 ≤ f.addr ∧ f.addr < 0xFF0000200000 then s.bump F.ISL_WR_REJ_COUNT
  else s.bump F.FLT_WR_REJ_COUNT

/-- The enable an expert field requires: FLT_EXPERT_EN, or EXPERT_EN of the partition the register belongs to (R13, R15, R694). -/
def expertOn (s : State) (f : Fld) (i : Nat) : Bool :=
  if f.ex = 2 ∧ f.ix = .part then s.bit F.HST_PART_CTL_EXPERT_EN i
  else if f.ex = 2 ∧ f.ix = .ring ∧ s.rd F.HST_RING_OWNER i < 16 then s.bit F.HST_PART_CTL_EXPERT_EN (s.rd F.HST_RING_OWNER i)
  else s.bit F.FLT_EXPERT_EN_EN

/-- Whether an access of a size at an address covers a field: all of an 8-byte register, or one half (R692). -/
def covers (size a : Nat) (f : Fld) : Bool :=
  if size = 8 then true else if a % 8 = 0 then f.lo < 32 else 32 ≤ f.lo

/-- What a field is to hold after an access: a 4-byte access leaves the bits of the other half as they are (R692). -/
def newBits (size a : Nat) (f : Fld) (cur v : Nat) : Nat :=
  let x := bitsAt v f.lo f.w
  if size = 8 then x
  else if a % 8 = 0 then (if f.lo + f.w ≤ 32 then x else putBits cur 0 (32 - f.lo) x)
  else if 32 ≤ f.lo then x
  else cur % 2 ^ (32 - f.lo) + x / 2 ^ (32 - f.lo) * 2 ^ (32 - f.lo)

/-- Write one field: RO and WO fields keep what they hold; an expert field without its enable is discarded and counted if the write would
change it; a value out of range is discarded and flagged; RW takes the value, W1C clears, W1S sets, RWL writes once (R16, R694). -/
def writeField (src : Src) (size a v : Nat) (r : State × Nat) (t : Fld × Nat × Nat) : State × Nat :=
  let s := r.1
  let f := t.1
  let i := t.2.1
  let j := t.2.2
  let cur := s.rd f i j
  let x := match f.acc with
    | .rw | .rwl => newBits size a f cur v
    | _ => bitsAt v f.lo f.w
  let mgmt := match src with | .mb _ => true | _ => false
  if !covers size a f && decide (f.lo + f.w ≤ 32 ∨ 32 ≤ f.lo) then r
  else if f.acc = .ro then r
  else if mgmt && !f.mb then r
  else if decide (f.ex ≠ 0) && !expertOn s f i then
    let expertWrite := match f.acc with | .rw => decide (x ≠ cur) | _ => decide (x ≠ 0)
    if expertWrite then (countReject s f i, Code.perm 2) else r
  else match f.acc with
    | .rw => if inRange s f i x then (s.wr f x i j, r.2) else (fmtFlag s f i, if r.2 = Code.perm 2 then r.2 else fmtCode f)
    | .rwl => if cur = f.dflt i j then (s.wr f x i j, r.2) else r
    | .w1c => (s.wr f (cur - (cur &&& x)) i j, r.2)
    | .w1s => (s.wr f (cur ||| x) i j, r.2)
    | .wo | .ro => r

/-- Write the fields of one register, and the code a management write gets. -/
def writeFields (s : State) (src : Src) (size a v : Nat) : State × Nat :=
  (fieldsAt (a - a % 8)).foldl (writeField src size a v) (s, 0)

/-- Whether a field's written value asks for its action: a 1 written to a WO or W1S bit that the access covers, by a source that may use
it (R694). -/
def actionBit (s : State) (src : Src) (size a v : Nat) (f : Fld) (i : Nat) : Bool :=
  let mgmt := match src with | .mb _ => true | _ => false
  covers size a f && bitAt v f.lo && (!mgmt || f.mb) && (f.ex = 0 || expertOn s f i)

end Sys2Proof.Machine
end

