-- ==== Sys2Proof/Machine/Power.lean ====
section
/-! DEFINITION. Machine/Power.lean: supplies, island clocks and the response to sag (R44 to R79). -/

namespace Sys2Proof.Machine

/-- The source of a rail's events (R693): VPHY, VHBM, VBD, VCC0 to VCC3. -/
def railSource (r : Nat) : Nat := if r = 0 then 0xF035 else if r = 1 then 0xF036 else if r = 2 then 0xF034 else 0xF030 + (r - 3)

/-- The tracking rail that feeds an island: VCC of its chiplet for a cluster, VBD for a base-die island (R44). -/
def islRail (i : Nat) : Nat := if i < 272 then 3 + i / 68 else 2

/-- An island's clock state; one not listed runs on requested code 16 (R46 step 6). -/
def State.islClk (s : State) (i : Nat) : IslClk := SMap.get s.pwr.isl ⟨16, none, none, false, false, false, 0⟩ i

/-- An island's clock state replaced. -/
def State.setClk (s : State) (i : Nat) (c : IslClk) : State := { s with pwr := { s.pwr with isl := SMap.put s.pwr.isl i c } }

/-- The code of a performance state (R55). -/
def pstateCode (p : Nat) : Nat := if p = 0 then 128 else if p = 1 then 108 else if p = 2 then 80 else 16

/-- The partition of an island that follows one: a cluster's, or the owner of an assigned slice (R51). -/
def State.islPart (s : State) (i : Nat) : Option Nat :=
  if i < 272 then (s.islandClu i).bind s.cluPart
  else if i < 288 ∧ s.rd F.SLT_SLICE_MODE (i - 272) ≠ 0 then some (s.rd F.SLT_SLICE_OWNER (i - 272))
  else none

/-- The code an island requests: its fixed code, its expert code, or its partition's or the device-wide state; 80 at most while a
persistent sag has lowered its rail (R51, R55, R58, R60, R76). -/
def State.reqCode (s : State) (i : Nat) : Nat :=
  if i = 303 then 80 else if i = 304 then 16
  else
    let ex := s.rd F.ISL_FREQ_REQ_CODE i
    let base := if ex ≠ 0 then ex else match s.islPart i with
      | some p => pstateCode (bitsAt (s.rd F.ISL_PSTATE_PART) (2 * p) 2)
      | none => max (pstateCode (s.rd F.ISL_PSTATE_DEV)) (effCodeReset i)
    if bitAt s.pwr.lowered (islRail i) then min base 80 else base

/-- The programmed code: the requested code under the ceiling, not below the class minimum; the ceiling leaves the PCI Express controller
and Flint alone (R52, R64). -/
def State.progCode (s : State) (i : Nat) : Nat :=
  if i = 303 then 80 else if i = 304 then 16
  else max (min (s.islClk i).cur (s.rd F.ISL_CEIL_CEIL_EFF)) (effCodeReset i)

/-- The effective frequency of an island in kHz (R51, R52, R63): 12.5 MHz for each unit of the programmed code, times the stretch level 100 %, 87.5 %, 75 % or
50 %. -/
def State.effKHz (s : State) (i : Nat) : Nat :=
  let l := s.rd F.ISL_FREQ_STR_LVL i
  12500 * s.progCode i * (if l = 0 then 8 else if l = 1 then 7 else if l = 2 then 6 else 4) / 8

/-- One frequency request of an island: a transition starts, or becomes the pending request behind the one that runs (R54). -/
def State.request (s : State) (i code : Nat) : State :=
  let c := s.islClk i
  match c.run with
  | none => if code = c.cur then s else s.setClk i { c with run := some code }
  | some r => if code = r then s.setClk i { c with pend := none } else s.setClk i { c with pend := some code }

/-- The set-point of a tracking rail for the highest requested code, mV: linear between the points of R45, rounded up to the next 5 mV. -/
def setPoint (code : Nat) : Nat :=
  let f (c0 m0 c1 m1 : Nat) : Nat := m0 * (c1 - c0) * 5 + (code - c0) * (m1 - m0) * 5
  let up (x d : Nat) : Nat := (x + d * 25 - 1) / (d * 25) * 5
  if code ≤ 16 then 600 else if code ≤ 64 then up (f 16 600 64 660) 48 else if code ≤ 80 then up (f 64 660 80 700) 16
  else if code ≤ 108 then up (f 80 700 108 750) 28 else up (f 108 750 128 850) 20

/-- The code that an island requests now: what it waits for, else what it moves to, else what it has (R54). -/
def IslClk.asked (c : IslClk) : Nat := c.pend.getD (c.run.getD c.cur)

/-- The highest requested code of any island the ceiling applies to (R64, R68, R585). -/
def State.topRequest (s : State) : Nat :=
  (List.range 303).foldl (fun m i => if s.islPres i then max m (s.islClk i).asked else m) 16

/-- The set-point of a rail: of the highest requested code among the present islands it feeds (R45). -/
def State.railSet (s : State) (r : Nat) : Nat :=
  setPoint ((List.range 304).foldl (fun m i => if islRail i = r && s.islPres i then max m (s.islClk i).asked else m) 16)

/-- Mark in ISL_SUMMARY each cause that imposes the effective ceiling below a request (R68, R69). -/
def State.noteLimits (s : State) : State :=
  let e := s.rd F.ISL_CEIL_CEIL_EFF
  if s.topRequest ≤ e then s
  else
    let s := if s.rd F.ISL_CEIL_CEIL_SAG = e then s.wb F.ISL_SUMMARY_SAG true else s
    let s := if s.rd F.ISL_CEIL_CEIL_ENV = e then s.wb F.ISL_SUMMARY_ENV true else s
    if s.rd F.ISL_CEIL_CEIL_FLT = e then s.wb F.ISL_SUMMARY_FLT true else s

/-- Request again what every present island's registers ask for (R53, R55, R68). -/
def State.requestAll (s : State) : State :=
  State.noteLimits ((List.range 303).foldl (fun s i => if s.islPres i then s.request i (s.reqCode i) else s) s)

/-- Set one cause's ceiling; the lowest is the effective one; a change records its fabric time and cause (R64, R68). -/
def State.setCeil (s : State) (f : Fld) (cause code : Nat) : State :=
  let s := s.wr f code
  let e := min (s.rd F.ISL_CEIL_CEIL_SAG) (min (s.rd F.ISL_CEIL_CEIL_ENV) (s.rd F.ISL_CEIL_CEIL_FLT))
  if e = s.rd F.ISL_CEIL_CEIL_EFF then s.noteLimits
  else (((s.wr F.ISL_CEIL_CEIL_EFF e).wr F.ISL_CEIL_LAST s.time.ft).wr F.ISL_CEIL_LAST_CAUSE cause).noteLimits

/-- Set the sag level and its ceiling, and log the change (R65, R69). -/
def State.setSag (s : State) (lvl : Nat) : State :=
  let old := s.rd F.ISL_CEIL_V48_LVL
  let s := (s.wr F.ISL_CEIL_V48_LVL lvl).setCeil F.ISL_CEIL_CEIL_SAG 0 (if lvl = 0 then 128 else if lvl = 1 then 80 else 16)
  s.logE 0x0110 0xF000 1 [old, lvl]

/-- CEIL_FLT for what holds now: code 16 while Flint acts alone or V12AUX is lost (R64, R78, R92). -/
def State.setFltCeil (s : State) : State :=
  let c := if s.bit F.FLT_ALONE_ACTIVE || s.pwr.v12lost then 16 else 128
  if c = s.rd F.ISL_CEIL_CEIL_FLT then s else (s.setCeil F.ISL_CEIL_CEIL_FLT 2 c).logE 0x0111 304 1 [c]

/-- The effective power cap: ISL_PWR_CAP, or 250 W while Flint acts alone (R57); the pulse-derived cap joins it in the envelope loop. -/
def State.capW (s : State) : Nat := if s.bit F.FLT_ALONE_ACTIVE then min 250 (s.rd F.ISL_PWR_CAP_CAP_W) else s.rd F.ISL_PWR_CAP_CAP_W

/-- Package rails off in reverse order (R47, R48). Both watches disarm and no island runs (R81). CEIL_ENV is 128 while they are off (R585). -/
def State.railsOff (s : State) : State :=
  let s := { s with pwr := { s.pwr with en := 0, good := 0, step := 0, isl := [], lowered := 0 },
                    flint := { s.flint with hbArmed := [false, false, false, false, false], errArmed := [false, false, false, false, false] },
                    time := { s.time with run := false } }
  s.setCeil F.ISL_CEIL_CEIL_ENV 1 128

/-- Steps 3 to 5 of R46: enable the next rail group. -/
def State.enableStep (s : State) (n : Nat) : State :=
  let m := if n = 3 then 3 else if n = 4 then 4 else 0x78
  { s with pwr := { s.pwr with en := s.pwr.en ||| m, step := n } }

/-- V48_SAMPLE: a 5 µs sample, 10 mV units; a level is entered when two samples in a row lie below its threshold (R65). -/
def execV48Sample (v : BitVec 16) (s : State) : Host.Outcome State Fault Refusal :=
  let v := v.toNat
  let prev := s.pwr.v48.getD 65535
  let s := (s.wr F.ISL_V48_V48_NOW v).wr F.ISL_V48_V48_MIN (min v (s.rd F.ISL_V48_V48_MIN))
  let s := { s with pwr := { s.pwr with v48 := some v } }
  let lvl := s.rd F.ISL_CEIL_V48_LVL
  if v < 4050 ∧ prev < 4050 ∧ lvl < 2 then .next (s.setSag 2)
  else if v < 4200 ∧ prev < 4200 ∧ lvl < 1 then .next (s.setSag 1)
  else .next s

/-- SAG_LEVEL_EXIT: V48 has stayed 1.0 V above the level's threshold for 1 ms; one level is left (R65). -/
def execSagLevelExit (s : State) : Host.Outcome State Fault Refusal :=
  let lvl := s.rd F.ISL_CEIL_V48_LVL
  let th := if lvl = 2 then 4150 else 4300
  if lvl = 0 ∨ s.pwr.v48.getD 0 < th then .next s else .next (s.setSag (lvl - 1))

/-- CLOCK_TRIM: an island's loop counts its cycles over the gate and trims its oscillator (R50); the gate needs REFCLK (R77). -/
def execClockTrim (i : Fin 305) (cycles : BitVec 16) (s : State) : Host.Outcome State Fault Refusal :=
  if s.pwr.refclk && s.islPres i then .next (s.setClk i { s.islClk i with cycles := cycles.toNat }) else .next s

/-- Step an island down one stretch level: count it, record level and fabric time, mark ISL_SUMMARY (R61, R67, R69). -/
def State.stretchDown (s : State) (i : Nat) : State :=
  let l := s.rd F.ISL_FREQ_STR_LVL i
  if 3 ≤ l then s
  else
    let s := ((s.wr F.ISL_FREQ_STR_LVL (l + 1) i).wr F.ISL_FREQ_LAST_LVL (l + 1) i).wr F.ISL_STR_LAST s.time.ft i
    let s := if l = 0 then s.bump F.ISL_STR_CNT_N875 1 i else if l = 1 then s.bump F.ISL_STR_CNT_N75 1 i else s.bump F.ISL_STR_CNT_N50 1 i
    s.wb F.ISL_SUMMARY_STRETCH true

/-- An island senses and stretches: present, its rails up, not in reset (R74), not pinned (R75). -/
def State.senses (s : State) (i : Nat) : Bool :=
  decide (i ≠ 304) && s.islPres i && s.pwr.step = 6 && SMap.get s.start.isl 0 i = 0 && !(s.islClk i).pinned

/-- ISLAND_SAG_DETECT: the rail falls more than 4 % below its set-point (R61). -/
def execIslandSagDetect (i : Fin 305) (mv : BitVec 12) (s : State) : Host.Outcome State Fault Refusal :=
  let s := s.wr F.ISL_SENSE_RAIL_MV mv.toNat i
  if s.senses i then .next ((s.setClk i { s.islClk i with low := true }).stretchDown i) else .next s

/-- STRETCH_STEP_DOWN: 16 further cycles with the rail still low (R61). -/
def execStretchStepDown (i : Fin 305) (s : State) : Host.Outcome State Fault Refusal :=
  if s.senses i && (s.islClk i).low then .next (s.stretchDown i) else .next s

/-- STRETCH_RECOVER: RECOV_HOLD of clean supply; one level up (R62). -/
def execStretchRecover (i : Fin 305) (s : State) : Host.Outcome State Fault Refusal :=
  let l := s.rd F.ISL_FREQ_STR_LVL i
  if s.senses i && decide (l ≠ 0) then
    .next ((s.setClk i { s.islClk i with low := false, persist := false }).wr F.ISL_FREQ_STR_LVL (l - 1) i)
  else .next (if s.senses i then s.setClk i { s.islClk i with low := false } else s)

/-- FREQ_TRANSITION_DONE: the running transition completes and the pending request starts (R53, R54). -/
def execFreqTransitionDone (i : Fin 305) (s : State) : Host.Outcome State Fault Refusal :=
  let c := s.islClk i
  match c.run with
  | none => .next s
  | some r => .next ((s.setClk i { c with cur := r, run := if c.pend = some r then none else c.pend, pend := none }).noteLimits)

/-- SENSOR_FAULT: the island pins itself at 75 % and records a sensor error (R75, R638 KIND 0x06). -/
def execSensorFault (i : Fin 305) (s : State) : Host.Outcome State Fault Refusal :=
  let i : Nat := i
  if s.senses i then
    let s := ((s.setClk i { s.islClk i with pinned := true }).wr F.ISL_FREQ_STR_LVL 2 i).wb F.ISL_SENSE_SENSOR_FLT true i
    .next ((s.errRec 0x06 i 0).logE 0x0120 i 3 [i])
  else .next s

/-- PERSISTENT_SAG: 1 ms at 50 % (R76). -/
def execPersistentSag (i : Fin 305) (s : State) : Host.Outcome State Fault Refusal :=
  let i : Nat := i
  if s.rd F.ISL_FREQ_STR_LVL i = 3 ∧ (s.islClk i).persist = false then
    .next (((s.setClk i { s.islClk i with persist := true }).errRec 0x06 i 0).logE 0x0121 i 3 [i])
  else .next s

/-- PERSISTENT_SAG_LOWER: 100 ms later the requests of every island on that rail are lowered to 80 (R76). -/
def execPersistentSagLower (i : Fin 305) (s : State) : Host.Outcome State Fault Refusal :=
  if (s.islClk i).persist then
    .next ({ s with pwr := { s.pwr with lowered := s.pwr.lowered ||| 2 ^ islRail i } }.requestAll)
  else .next s

/-- PERSISTENT_SAG_CLEAR: the rail's condition has cleared for 1 s; the lowered requests are restored (R76). -/
def execPersistentSagClear (r : Fin 7) (s : State) : Host.Outcome State Fault Refusal :=
  if bitAt s.pwr.lowered r then .next ({ s with pwr := { s.pwr with lowered := s.pwr.lowered - 2 ^ (r : Nat) } }.requestAll) else .next s

/-- V12AUX_LOSS: CEIL_FLT 16, logged, AUX (R78). -/
def execV12auxLoss (s : State) : Host.Outcome State Fault Refusal :=
  if s.pwr.v12lost then .next s
  else .next ((({ s with pwr := { s.pwr with v12lost := true } }.setFltCeil).logE 0x0112 0xF001 3 [0]).alert .aux)

/-- V12AUX_RESTORE: 1 s above 11.4 V; CEIL_FLT is restored unless Flint acts alone (R78). -/
def execV12auxRestore (s : State) : Host.Outcome State Fault Refusal :=
  if s.pwr.v12lost then .next ({ s with pwr := { s.pwr with v12lost := false } }.setFltCeil.logE 0x0112 0xF001 3 [1]) else .next s

/-- V48_QUALIFIED: V48 at or above 43.0 V for 10 ms in STANDBY, no POWER_OFF in force: RAILS, VPHY and VHBM enabled (R46, R118). -/
def execV48Qualified (s : State) : Host.Outcome State Fault Refusal :=
  if s.rd F.FLT_START_STAGE = 2 ∧ s.pwr.off = false ∧ s.pwr.lockout = 0 ∧ s.fw.recovery = false ∧ s.pwr.fails < 2 ∧ s.pwr.retry = false then
    .next ((s.wr F.FLT_START_STAGE 3).enableStep 3)
  else .next s

/-- RAIL_PG_TIMEOUT: the rails go off in reverse order, the error is logged, SUPPLY is raised; one retry is due after the first failure (R47). -/
def execRailPgTimeout (r : Fin 7) (s : State) : Host.Outcome State Fault Refusal :=
  if (s.pwr.step = 3 ∨ s.pwr.step = 4 ∨ s.pwr.step = 5) ∧ bitAt s.pwr.en r = true ∧ bitAt s.pwr.good r = false then
    let s := s.railsOff
    let s := { s with pwr := { s.pwr with fails := s.pwr.fails + 1, retry := decide (s.pwr.fails = 0) } }
    .next (((s.wr F.FLT_START_STAGE 2).logE 0x0101 (railSource r) 4 [r]).alert .supply)
  else .next s

/-- RAIL_SEQ_RETRY: 1 s after the first failure the sequence runs once more (R47). -/
def execRailSeqRetry (s : State) : Host.Outcome State Fault Refusal :=
  if s.pwr.retry = true ∧ s.pwr.off = false ∧ s.pwr.lockout = 0 then
    .next (({ s with pwr := { s.pwr with retry := false } }.wr F.FLT_START_STAGE 3).enableStep 3)
  else .next s

/-- V48_RESTART: 10 ms between 43.0 and 59.0 V after a lockout; the exit is logged, and the sequence reruns from step 3 unless the rails are off for another
reason: POWER_OFF, recovery mode, or a sequence that failed (R47, R48). -/
def execV48Restart (s : State) : Host.Outcome State Fault Refusal :=
  if s.pwr.lockout = 0 then .next s
  else
    let code := if s.pwr.lockout = 1 then 0x0102 else 0x0103
    let s : State := { s with pwr := { s.pwr with lockout := 0 } }
    let s := s.logE code 0xF000 3 [0]
    if s.pwr.off = true ∨ 2 ≤ s.pwr.fails ∨ s.pwr.retry = true ∨ s.fw.recovery = true ∨ s.rd F.FLT_START_STAGE < 2 then .next s
    else .next (({ s with pwr := { s.pwr with fails := 0 } }.wr F.FLT_START_STAGE 3).enableStep 3)

/-- ISL_PSTATE_WRITE: the performance states; only the host physical function may write (R55). -/
def execIslPstateWrite (src : Src) (v : BitVec 64) (s : State) : Host.Outcome State Fault Refusal :=
  match src.host with
  | .pf => .next ((writeFields s src.host 8 F.ISL_PSTATE_DEV.addr v.toNat).1.requestAll)
  | _ => .next (s.bump F.ISL_WR_REJ_COUNT)

/-- Log the source of a write to a register that R97 names. -/
def srcCode : Src → Nat
  | .mb false => 0xF012
  | .mb true => 0xF013
  | .pf | .vf _ | .clu _ | .mg => 0xF010

/-- Write the power cap: 250 to 600 W, else discarded with CAP_REJ; the source of every write is logged (R56, R97). -/
def State.writeCap (s : State) (src : Src) (w : Nat) : State :=
  let s := s.logE 0x0240 (srcCode src) 1 [0x38, srcCode src, w]
  if 250 ≤ w ∧ w ≤ 600 then s.wr F.ISL_PWR_CAP_CAP_W w else s.wb F.ISL_PWR_CAP_CAP_REJ true

/-- ISL_PWR_CAP_WRITE: W1C of CAP_REJ, then the cap (R56). -/
def execIslPwrCapWrite (src : Src) (v : BitVec 64) (s : State) : Host.Outcome State Fault Refusal :=
  match src.host with
  | .pf =>
    let s := if v.getLsbD 10 then s.wb F.ISL_PWR_CAP_CAP_REJ false else s
    .next (s.writeCap src.host (bitsAt v.toNat 0 10))
  | _ => .next (s.bump F.ISL_WR_REJ_COUNT)

/-- Whether the partition of an island has EXPERT_EN; shared islands have no expert frequency control (R58). -/
def State.islExpert (s : State) (i : Nat) : Bool :=
  match s.islPart i with | some p => s.bit F.HST_PART_CTL_EXPERT_EN p | none => false

/-- ISL_FREQ_WRITE: REQ_CODE 0 or 16 to 128 while the owning partition's EXPERT_EN is 1; the W1C flags always; 0
ends the expert RECOV_HOLD too (R58, R60, R694). -/
def execIslFreqWrite (i : Fin 305) (src : Src) (v : BitVec 64) (s : State) : Host.Outcome State Fault Refusal :=
  let i : Nat := i
  match src.host with
  | .pf =>
    if s.islPres i = false then .next s
    else
      let x := bitsAt v.toNat 0 8
      let s := if v.getLsbD 20 then s.wb F.ISL_FREQ_FMT_REJ false i else s
      let s := if v.getLsbD 21 then s.wb F.ISL_FREQ_PERM_REJ false i else s
      if x = s.rd F.ISL_FREQ_REQ_CODE i then .next s
      else if s.islExpert i = false then .next (s.wb F.ISL_FREQ_PERM_REJ true i)
      else if x ≠ 0 ∧ (x < 16 ∨ 128 < x) then .next (s.wb F.ISL_FREQ_FMT_REJ true i)
      else
        let s := s.wr F.ISL_FREQ_REQ_CODE x i
        let s := if x = 0 then s.wr F.ISL_STR_CFG_RECOV_HOLD 2 i else s
        .next (s.request i (s.reqCode i)).noteLimits
  | _ => .next (s.bump F.ISL_WR_REJ_COUNT)

/-- ISL_STR_CFG_WRITE: RECOV_HOLD 2 to 32 µs while the owning partition's EXPERT_EN is 1 (R59). -/
def execIslStrCfgWrite (i : Fin 305) (src : Src) (v : BitVec 64) (s : State) : Host.Outcome State Fault Refusal :=
  let i : Nat := i
  match src.host with
  | .pf =>
    let x := bitsAt v.toNat 0 6
    if s.islPres i = false ∨ x = s.rd F.ISL_STR_CFG_RECOV_HOLD i then .next s
    else if s.islExpert i = false then .next (s.wb F.ISL_FREQ_PERM_REJ true i)
    else if x < 2 ∨ 32 < x then .next (s.wb F.ISL_FREQ_FMT_REJ true i)
    else .next (s.wr F.ISL_STR_CFG_RECOV_HOLD x i)
  | _ => .next (s.bump F.ISL_WR_REJ_COUNT)

/-- V48_MIN_CLR: writing MIN_CLR sets V48_MIN to 0xFFFF (R67, the ISL_V48 table). -/
def execV48MinClr (src : Src) (s : State) : Host.Outcome State Fault Refusal :=
  match src.host with
  | .pf => .next (s.wr F.ISL_V48_V48_MIN 0xFFFF)
  | _ => .next (s.bump F.ISL_WR_REJ_COUNT)

end Sys2Proof.Machine
end

