-- ==== Sys2Proof/Machine/Start.lean ====
section
/-! DEFINITION. Machine/Start.lean: the stages of start-up, and the requests for a module reset (R118 to R134, R141 to R144, R153, R160), and the entry of a loop channel into a mode. -/

namespace Sys2Proof.Machine

/-- The highest stage reached (R119). -/
def State.stage (s : State) : Nat := s.rd F.FLT_START_STAGE

/-- A port has finished bring-up: its stage is UP (R320). -/
def State.portUp (s : State) (n : Nat) : Bool := s.rd F.QTZ_PORT_STAT_STATE n = 7

/-- Every present port has finished bring-up (R118 stage 7). -/
def State.portsReady (s : State) : Bool := (List.range 17).all (fun n => !s.portPres n || s.portUp n)

/-- ID_OK, RT_OK and FT_OK, and TWIN_OK or SOLO (R118 stage 8). -/
def State.fabricCond (s : State) : Bool :=
  s.bit F.DEV_START_ID_OK && s.bit F.DEV_START_RT_OK && s.bit F.DEV_START_FT_OK && (s.bit F.DEV_START_TWIN_OK || s.bit F.DEV_START_SOLO)

/-- Whether the work of a stage is done, so that the next may be entered (R118). -/
def State.stageDone (s : State) : Nat → Bool
  | 3 => s.pwr.step = 6
  | 4 => s.start.dieInit
  | 5 => s.start.memInit && s.start.perst
  | 6 => s.portsReady || s.start.linkLimit
  | 7 => s.fabricCond
  | _ => false

/-- What entering a stage does at once: DIE_INIT starts the fabric-time counter at 0 and arms the error watches (R118, R126, R81). -/
def State.enterStage (s : State) (n : Nat) : State :=
  let s := s.wr F.FLT_START_STAGE n
  if n = 4 then
    { s with time := { TimeSt.init with run := s.pwr.refclk }, start := { s.start with dieInit := false, memInit := false, linkLimit := false },
             flint := { s.flint with errArmed := [true, true, true, true, true] } }
  else s

/-- Enter every stage whose predecessor is done, in order; HOLD_AT stops before its stage, with HELD set (R118, R144). No stage is entered
while a module reset is in effect. -/
def State.advance : Nat → State → State
  | 0, s => s
  | k + 1, s =>
    let n := s.stage
    if s.start.rstOn || !s.stageDone n then s
    else if s.rd F.FLT_START_HOLD_AT = n + 1 then s.wb F.FLT_START_HELD true
    else State.advance k (s.enterStage (n + 1))

/-- Advance start-up as far as its conditions hold. -/
def State.startUp (s : State) : State := State.advance 6 s

/-- TWIN_HB_O runs at the HEALTHY rate: FABRIC_READY, no module reset, package not failed (R83). -/
def State.twinHealthy (s : State) : Bool := s.flint.on && s.stage = 8 && !s.start.rstOn && !s.bit F.FLT_STAT_PKG_FAIL

/-- Start a module reset with a cause of DEV_RST_CAUSE: no effect in STANDBY or FLINT_BOOT, absorbed while one waits or runs (R152, R153). -/
def State.moduleReset (s : State) (cause : Nat) : State :=
  if s.stage < 3 ∨ s.start.rstPend ≠ none ∨ s.start.rstOn = true then s
  else { s with start := { s.start with rstPend := some cause } }

/-- Mark the package failed: LOST, held in module reset, TWIN_HB at the DOWN rate (R82). -/
def State.packageFail (s : State) : State :=
  ((s.wb F.FLT_STAT_PKG_FAIL true).alert .lost).moduleReset 6

/-- A loop channel. -/
def State.lp (s : State) (c : Nat) : LpSt := SMap.get s.loops.ch LpSt.init c

/-- A loop channel changed. -/
def State.modLp (s : State) (c : Nat) (f : LpSt → LpSt) : State :=
  { s with loops := { s.loops with ch := SMap.set s.loops.ch LpSt.init c (f (s.lp c)) } }

/-- UMAX of a channel: on channel 15 the highest requested code (R585). -/
def State.lpMax (s : State) (c : Nat) : Lane :=
  if c = 15 then BitVec.ofNat 32 (fF32.encode false false (.fin false s.topRequest 0)).1 else BitVec.ofNat 32 (s.rd F.LP_PAR_UMAX c)

/-- A channel enters a mode (R577, R580, R584, R591): from OFF it counts as having output UMAX; RUN initialises the law and the set-point filter; RUN,
HOLD and MANUAL the model. -/
def State.lpEnter (s : State) (c mode : Nat) : State :=
  let old := s.rd F.LP_CTL_MODE c
  let h := if old = 0 then s.lpMax c else (s.lp c).uPrev
  let s := s.modLp c (fun x => { x with uPrev := h, initLaw := x.initLaw || decide (mode = 1), initM := x.initM || decide (mode ≠ 0),
                                        xf := if mode = 1 then none else x.xf, waits := if mode = 0 then [] else x.waits })
  (s.wr F.LP_CTL_MODE mode c).wflag F.FLT_LP_GLB_FALLBACK c (decide (mode = 4))

/-- RAIL_POWER_GOOD: the next rail group, or step 6: every island starts and DIE_INIT is entered; channel 15 enters RUN (R46, R585). -/
def execRailPowerGood (r : Fin 7) (s : State) : Host.Outcome State Fault Refusal :=
  if bitAt s.pwr.en r = false then .next s
  else
    let s := { s with pwr := { s.pwr with good := s.pwr.good ||| 2 ^ (r : Nat) } }
    let g := s.pwr.good
    if s.pwr.step = 3 ∧ bitAt g 0 = true ∧ bitAt g 1 = true then .next (s.enableStep 4)
    else if s.pwr.step = 4 ∧ bitAt g 2 = true then .next (s.enableStep 5)
    else if s.pwr.step = 5 ∧ bitsAt g 3 4 = 15 then
      let s := { s with pwr := { s.pwr with step := 6, isl := [], fails := 0 } }
      .next ((s.lpEnter 15 1).startUp)
    else .next s

/-- V48_LOCKOUT: the entry logged, SUPPLY raised; package rails that are on go off, with a module reset (R48, R134). -/
def execV48Lockout (above : Bool) (s : State) : Host.Outcome State Fault Refusal :=
  if s.flint.on = false ∨ s.pwr.lockout ≠ 0 then .next s
  else
    let on := decide (s.pwr.step ≠ 0)
    let s := { s with pwr := { s.pwr with lockout := if above then 2 else 1 } }
    let s := (s.logE (if above then 0x0103 else 0x0102) 0xF000 3 [1]).alert .supply
    .next (if on then s.railsOff.moduleReset 5 else s)

/-- DIE_INIT_DONE: fuses and repair records applied, cluster SRAM and scratch zeroed; each island leaves the start frequency for its
performance state (R118, R124). -/
def execDieInitDone (s : State) : Host.Outcome State Fault Refusal :=
  if s.stage ≠ 4 ∨ s.start.dieInit = true ∨ s.start.rstOn = true then .next s
  else
    let s := { s with start := { s.start with dieInit := true } }
    let s := s.zeroMem 0 0x140000000
    let s := s.err.flashMap.foldl (fun s kv => s.wr F.ERR_MAP_POS
      (putBits (s.rd F.ERR_MAP_POS (kv.1 / 64) (kv.1 % 64 / 8)) (8 * (kv.1 % 8)) 8 kv.2) (kv.1 / 64) (kv.1 % 64 / 8)) s
    let s := s.err.flashRows.foldl (fun s kv =>
      let i := kv.1 / 16
      let b := kv.1 % 16
      if i < 272 then (match s.islandClu i with
        | some c => s.wr F.CLU_ROWS_LEFT (putBits (s.rd F.CLU_ROWS_LEFT c) (3 * b) 3 (4 - kv.2)) c
        | none => s)
      else s.wr F.SLT_ROWS_LEFT (64 - kv.2) (i - 272)) s
    .next (s.requestAll.startUp)

/-- HOST_READY_ENTRY: MEM_INIT is done and PERST_N high: HOST_READY is entered (R118, R122). -/
def execHostReadyEntry (s : State) : Host.Outcome State Fault Refusal := .next s.startUp

/-- PERST_N_RELEASE: PERST_N goes high; HOST_READY may follow (R122, R690). -/
def execPerstNRelease (s : State) : Host.Outcome State Fault Refusal :=
  .next ({ s with start := { s.start with perst := true } }.startUp)

/-- Record a stage limit that was exceeded (R118, R158). -/
def State.stageLimit (s : State) (stage mask : Nat) : State := (s.wr F.DEV_START_TO_STAGE stage).logE 0x0501 0xF043 3 [stage, mask]

/-- LINK_UP_TIMEOUT: 2 s after MEM_INIT the unfinished ports are logged and LINK_UP is entered anyway (R118). -/
def execLinkUpTimeout (s : State) : Host.Outcome State Fault Refusal :=
  if s.start.memInit = true ∧ s.start.linkLimit = false ∧ s.stage < 7 then
    let mask := (List.range 17).foldl (fun m n => if s.portPres n && !s.portUp n then m + 2 ^ n else m) 0
    let s := if mask = 0 then s else s.stageLimit 7 mask
    .next ({ s with start := { s.start with linkLimit := true } }.startUp)
  else .next s

/-- FLT_START_WRITE: HOLD_AT 0 or 4 to 8, expert, by the host physical function or a management bus; 0 releases the hold (R144). -/
def execFltStartWrite (src : Src) (v : BitVec 64) (s : State) : Host.Outcome State Fault Refusal :=
  match src.host with
  | .pf | .mb _ =>
    let x := bitsAt v.toNat 4 4
    if s.bit F.FLT_EXPERT_EN_EN = false then
      .next (if x = s.rd F.FLT_START_HOLD_AT then s else s.bump F.FLT_WR_REJ_COUNT)
    else if x = 0 then .next (((s.wr F.FLT_START_HOLD_AT 0).wb F.FLT_START_HELD false).startUp)
    else if 4 ≤ x ∧ x ≤ 8 then .next (s.wr F.FLT_START_HOLD_AT x)
    else .next s
  | _ => .next (s.bump F.FLT_WR_REJ_COUNT)

/-- DEV_START_SOLO_WRITE: the host physical function lets the module become fabric-ready without a twin (R118). -/
def execDevStartSoloWrite (src : Src) (solo : Bool) (s : State) : Host.Outcome State Fault Refusal :=
  match src.host with
  | .pf => .next ((s.wb F.DEV_START_SOLO solo).startUp)
  | _ => .next (s.bump F.FLT_WR_REJ_COUNT)

/-- MOD_RST_N_ASSERT: MOD_RST_N low for 1 µs starts a module reset; it is ignored until STANDBY (R134, R145, R153). -/
def execModRstNAssert (s : State) : Host.Outcome State Fault Refusal :=
  if s.stage < 2 then .next s
  else .next ({ s with start := { s.start with modLow := true, modLong := false } }.moduleReset 1)

/-- MOD_RST_HELD_LONG: low for 10 s is logged once (R160). -/
def execModRstHeldLong (s : State) : Host.Outcome State Fault Refusal :=
  if s.start.modLow = true ∧ s.start.modLong = false then
    .next ({ s with start := { s.start with modLong := true } }.logE 0x0513 0xF042 3 [])
  else .next s

/-- MODULE_RESET: the management command (R97, R132). -/
def execModuleReset (bus : Bool) (s : State) : Host.Outcome State Fault Refusal :=
  let r : MbResp := { status := 0, payload := [], ready := false }
  let s := if bus then { s with flint := { s.flint with mb1 := some r } } else { s with flint := { s.flint with mb0 := some r } }
  .next (s.moduleReset 2)

/-- Reject a write to DEV_RST (R141). -/
def State.rstReject (s : State) : State := (s.wb F.DEV_RST_REJ true).bump F.FLT_WR_REJ_COUNT

/-- DEV_RST_MODULE: only the host physical function (R141). -/
def execDevRstModule (src : Src) (s : State) : Host.Outcome State Fault Refusal :=
  match src.host with
  | .pf => .next (s.moduleReset 3)
  | _ => .next s.rstReject

/-- FLR_PF: a Function Level Reset of the physical function is a module reset (R142). -/
def execFlrPf (s : State) : Host.Outcome State Fault Refusal := .next (s.moduleReset 4)

end Sys2Proof.Machine
end

