-- ==== Sys2Proof/Machine/Mem.lean ====
section
/-! DEFINITION. Machine/Mem.lean: the device-local address map, who may access what, and reads and writes of cluster SRAM, Slate scratch and
HBM with their poison marks, HBM seen through Slate (R31, R32, R176, R242 to R254, R281, R289, R290, R304, R305, R634, R695). -/

namespace Sys2Proof.Machine

/-- A byte and whether it lies in a poisoned word. -/
abbrev MByte := Byte × Bool

/-- The regions of the address map (R31). -/
inductive Region where
  | sram (c off : Nat)
  | scratch (slice off : Nat)
  | mica
  | jasper
  | hbm (o : Nat)
  | regs
  | none
  deriving DecidableEq, Repr

/-- The region of a device-local address (R31). -/
def regionOf (a : Nat) : Region :=
  if a < 0x40000000 then .sram (a / 0x400000) (a % 0x400000)
  else if 0x100000000 ≤ a ∧ a < 0x140000000 then .scratch ((a - 0x100000000) / 0x4000000) (a % 0x4000000)
  else if 0x200000000 ≤ a ∧ a < 0x202000000 then .mica
  else if 0x202000000 ≤ a ∧ a < 0x203000000 then .jasper
  else if 0x1000000000 ≤ a ∧ a < 0x4000000000 then .hbm (a - 0x1000000000)
  else if 0xFF0000000000 ≤ a ∧ a < 0xFF0100000000 then .regs
  else .none

/-- The first address of HBM. -/
def hbmBase : Nat := 0x1000000000

/-- The stacks of the interleave group: w = 2^B (R281, R303). -/
def State.hbmW (s : State) : Nat := 2 ^ s.rd F.HBM_STAT_B

/-- The capacity in force: w × 24 GiB (R281). -/
def State.hbmCap (s : State) : Nat := s.hbmW * 24 * 2 ^ 30

/-- The first address of the mirror region (R297). -/
def State.mirrorBase (s : State) : Nat := hbmBase + s.hbmCap - s.rd F.HBM_MIRROR_SIZE_GIB * 2 ^ 30

/-- The stack an HBM offset goes to (R281). -/
def State.stackOf (s : State) (o : Nat) : Nat :=
  let b := s.rd F.HBM_STAT_B
  s.rd F.HBM_STAT_G0 + (bitsAt o 8 b ^^^ bitsAt o 18 b ^^^ bitsAt o 28 b)

/-- The stack-local address of an HBM offset (R281). -/
def State.stackAddr (s : State) (o : Nat) : Nat := o / 2 ^ (8 + s.rd F.HBM_STAT_B) * 256 + o % 256

/-- Whether a stack answers: not failed in service, and the PHYs have lock (R304, R306). -/
def State.stackOk (s : State) (n : Nat) : Bool := !s.flag F.HBM_STAT_INSVC_FAIL n && s.pwr.refclk

/-- A list cut where its addresses cross a multiple of m (R695). -/
def cutAt {α : Type} (m : Nat) : Nat → Nat → List α → List (Nat × List α)
  | 0, _, _ => []
  | _ + 1, _, [] => []
  | n + 1, a, l => (a, l.take (m - a % m)) :: cutAt m n (a + (m - a % m)) (l.drop (m - a % m))

/-- The bytes of a list of marked bytes. -/
def plain (l : List MByte) : List Byte := l.map Prod.fst

/-- Whether any byte is marked. -/
def anyPsn (l : List MByte) : Bool := l.any Prod.snd

/-- The bytes of a number, little-endian, unmarked. -/
def leM : Nat → Nat → List MByte
  | 0, _ => []
  | n + 1, v => (BitVec.ofNat 8 v, false) :: leM n (v / 256)

/-- A number from bytes, little-endian. -/
def numL : List MByte → Nat
  | [] => 0
  | b :: t => b.1.toNat + 256 * numL t

/-- Read marked bytes of SRAM or scratch. -/
def State.sramRead (s : State) (a n : Nat) : List MByte :=
  (List.range n).map (fun k => (s.mem1 (a + k), s.psnAt (a + k - (a + k) % 8)))

/-- Write marked bytes of SRAM or scratch: each 8-byte word keeps its mark unless unpoisoned data covers it whole (R634). -/
def State.sramWrite (s : State) (a : Nat) (l : List MByte) : State :=
  (cutAt 8 l.length a l).foldl (fun s p =>
    let w := p.1 - p.1 % 8
    let s := s.setMemL p.1 (plain p.2)
    if anyPsn p.2 then s.setPsn w true else if p.2.length = 8 then s.setPsn w false else s) s

/-- The partition whose grant covers an HBM address with an entry in effect (R495). -/
def State.grantAt (s : State) (a : Nat) : Option Grant :=
  (s.host.grants.find? (fun g => g.2.live && decide (g.2.base ≤ a) && decide (a < g.2.base + 4096 * g.2.pages))).map Prod.snd

/-- The home partition of an HBM address (R250). -/
def State.homeOf (s : State) (a : Nat) : Option Nat := (s.grantAt a).map Grant.home

/-- The slices of a mode that a partition holds, in ascending order (R251). -/
def State.slicesOf (s : State) (p mode : Nat) : List Nat :=
  (List.range 16).filter (fun k => SMap.get s.slate.slices (0, 0) k = (mode, p))

/-- The LOCAL slice of an HBM line for its home partition, if it has LOCAL slices (R251). -/
def State.localSlice (s : State) (p a : Nat) : Option Nat :=
  let l := s.slicesOf p 1
  let n := (a / 128) % 2 ^ 31
  let h := bitsAt n 0 10 ^^^ bitsAt n 10 10 ^^^ bitsAt n 20 10 ^^^ bitsAt n 30 1
  l[h % l.length]?

/-- The REMOTE slice of a partition for a fabric address (R251). -/
def State.remoteSlice (s : State) (p a : Nat) : Option Nat :=
  let l := s.slicesOf p 2
  let n := (a / 128) % 2 ^ 31
  let d := a / 2 ^ 48
  let h := bitsAt n 0 10 ^^^ bitsAt n 10 10 ^^^ bitsAt n 20 10 ^^^ bitsAt n 30 1 ^^^ bitsAt d 0 10 ^^^ bitsAt d 10 6
  l[h % l.length]?

/-- The line of Slate at an HBM address, if it is present. -/
def State.lineAt (s : State) (a : Nat) : Option SLine := SMap.find s.slate.lines (a / 128)

/-- A line put in place of the one at its address. -/
def State.setLine (s : State) (a : Nat) (l : SLine) : State :=
  { s with slate := { s.slate with lines := SMap.put s.slate.lines (a / 128) l } }

/-- Drop a line: its bytes and marks leave the cache. -/
def State.dropLine (s : State) (a : Nat) : State :=
  let b := a - a % 128
  { s with slate := { s.slate with lines := SMap.del s.slate.lines (a / 128),
                                   cmem := s.slate.cmem.filter (fun c => !(decide (b ≤ c.1) && decide (c.1 < b + 128))),
                                   cpsn := s.slate.cpsn.filter (fun c => !(decide (b ≤ c.1) && decide (c.1 < b + 128))) } }

/-- One byte of HBM as the array and the poison table hold it; a stack that does not answer gives poisoned data of no stated value (R304). -/
def State.hbmRaw1 (s : State) (a : Nat) : MByte :=
  if s.stackOk (s.stackOf (a - hbmBase)) then (s.mem1 a, s.psnAt (a - a % 32)) else (Config.freeByte (s.free + a), true)

/-- One byte of HBM as every reader sees it: the VALID bytes of a line over the array (R244, R250). -/
def State.hbm1 (s : State) (a : Nat) : MByte :=
  match s.lineAt a with
  | some l => if bitAt l.valid (a % 128) then (memGet s.slate.cmem a, SMap.get s.slate.cpsn false (a - a % 8)) else s.hbmRaw1 a
  | none => s.hbmRaw1 a

/-- Read marked bytes of HBM through Slate. -/
def State.hbmRead (s : State) (a n : Nat) : List MByte := (List.range n).map (fun k => s.hbm1 (a + k))

/-- Read marked bytes of HBM directly, as Agate reads the mirror region (R250). -/
def State.hbmReadRaw (s : State) (a n : Nat) : List MByte := (List.range n).map (fun k => s.hbmRaw1 (a + k))

/-- One burst written to the array, whole or in part (R289, R290, R304, R305): the code of the write, POISON when the stack does not answer
or when the burst must be entered in a full poison table; in that case its partition is to be reset. -/
def State.burstWrite (s : State) (a : Nat) (l : List MByte) : State × Nat :=
  let b := a - a % 32
  let n := s.stackOf (a - hbmBase)
  if s.stackOk n = false then (s, Code.poison 1)
  else
    let was := s.psnAt b
    let mark := anyPsn l || (was && decide (l.length < 32))
    if mark && !was && decide (4096 ≤ s.rd F.HBM_PSN_USED n) then
      match s.homeOf a with
      | some p =>
        (({ s with hbm := { s.hbm with rstPart := s.hbm.rstPart ||| 2 ^ p } }.errRec 0x0A (0xF100 + p) 3 (Code.poison 1) b p (295 + n)), Code.ok)
      | none => (s.errRec 0x08 (295 + n) 1 (Code.poison 1) b, Code.poison 1)
    else
      let s := s.setMemL a (plain l)
      let s := if mark && !was then s.wr F.HBM_PSN_USED (s.rd F.HBM_PSN_USED n + 1) n
        else if !mark && was then s.wr F.HBM_PSN_USED (s.rd F.HBM_PSN_USED n - 1) n else s
      (s.setPsn b mark, Code.ok)

/-- Marked bytes written to the array, burst by burst; the first nonzero code. -/
def State.hbmWriteRaw (s : State) (a : Nat) (l : List MByte) : State × Nat :=
  (cutAt 32 l.length a l).foldl (fun r p =>
    let t := r.1.burstWrite p.1 p.2
    (t.1, if r.2 = 0 then t.2 else r.2)) (s, 0)

/-- Write a DIRTY line back (R245): its DIRTY bytes go to the array and DIRTY is cleared; a stack that has failed loses them and the line is
dropped with a class-1 record (R304). -/
def State.lineWriteBack (s : State) (a : Nat) : State :=
  match s.lineAt a with
  | none => s
  | some l =>
    if l.dirty = 0 then s
    else
      let b := a - a % 128
      let s := (s.bump F.SLT_WB 1 l.slice)
      let s := if l.dirty = 2 ^ 128 - 1 then s else s.bump F.SLT_PWB 1 l.slice
      let n := s.stackOf (b - hbmBase)
      if s.stackOk n = false then (s.dropLine a).errRec 0x08 (295 + n) 1 (Code.poison 1) b
      else
        let out := (List.range 16).foldl (fun (s : State) w =>
          let d := bitsAt l.dirty (8 * w) 8
          let ps := SMap.get s.slate.cpsn false (b + 8 * w)
          (List.range 8).foldl (fun s k =>
            if bitAt d k then (s.burstWrite (b + 8 * w + k) [(memGet s.slate.cmem (b + 8 * w + k), ps)]).1 else s) s) s
        let out := if l.dirty = 2 ^ 128 - 1 ∧ (List.range 16).all (fun w => !SMap.get s.slate.cpsn false (b + 8 * w)) then
          (s.hbmWriteRaw b ((List.range 128).map (fun k => (memGet s.slate.cmem (b + k), false)))).1 else out
        out.setLine a { l with dirty := 0 }

/-- The lines that share the set of a line's address in a slice (R242, R246). -/
def State.setLines (s : State) (sl a : Nat) : List Nat :=
  (s.slate.lines.filter (fun e => decide (e.2.slice = sl ∧ Config.slateSet (128 * e.1) % 32768 = Config.slateSet (a - a % 128) % 32768))).map (fun e => 128 * e.1)

/-- Room for a line in a slice (R242, R246): if it is not present and the 16 ways of its set are taken, a line of the set without an outstanding fill is
evicted, which of them is a free choice; its DIRTY bytes are written back. None if no line may be evicted. -/
def State.makeRoom (s : State) (sl a : Nat) : Option State :=
  if (s.lineAt a).isSome || decide (s.slate.lines.length < 16) then some s
  else
    let l := s.setLines sl a
    if l.length < 16 then some s
    else
      let vs := l.filter (fun b => s.slate.fills.all (fun f => f.remote || decide (f.line ≠ b)))
      match vs[Config.freeNat s.free % vs.length]? with
      | some v => some ((s.drawn.lineWriteBack v).dropLine v)
      | none => none

/-- A bit mask of n bits from bit b on. -/
def maskOf (b n : Nat) : Nat := (2 ^ n - 1) * 2 ^ b

/-- A write that reaches a line held or allocated in a slice: its bytes become VALID and DIRTY; a word keeps its mark unless unpoisoned data
covers it whole or none of it was VALID (R243, R276, R634). -/
def State.lineWrite (s : State) (slice a : Nat) (l : List MByte) : State :=
  let old := (s.lineAt a).getD ⟨slice, 0, 0⟩
  let m := maskOf (a % 128) l.length
  let s := s.setLine a { old with valid := old.valid ||| m, dirty := old.dirty ||| m }
  (cutAt 8 l.length a l).foldl (fun s p =>
    let w := p.1 - p.1 % 8
    let cm := (List.range p.2.length).foldl (fun c k => memSet c (p.1 + k) ((plain p.2)[k]?.getD 0)) s.slate.cmem
    let keep := SMap.get s.slate.cpsn false w && decide (p.2.length < 8) && decide (bitsAt old.valid (w % 128) 8 ≠ 0)
    { s with slate := { s.slate with cmem := cm, cpsn := SMap.set s.slate.cpsn false w (anyPsn p.2 || keep) } }) s

/-- A write of HBM within one line, under the routing of R250: the home's accesses allocate (unless marked SLATE_NA, or no line of the set may be evicted,
log 16), every other access merges into a line that is present or goes to the array. -/
def State.hbmLineWrite (s : State) (part : Option Nat) (na : Bool) (a : Nat) (l : List MByte) : State × Nat :=
  match s.homeOf a with
  | none => s.hbmWriteRaw a l
  | some h =>
    match s.localSlice h a with
    | none => s.hbmWriteRaw a l
    | some sl =>
      if (decide (part = some h) && !na) || (s.lineAt a).isSome then
        (match s.makeRoom sl a with | some t => (t.lineWrite sl a l, 0) | none => s.hbmWriteRaw a l)
      else s.hbmWriteRaw a l

/-- A write of HBM, line by line; the first nonzero code. -/
def State.hbmWrite (s : State) (part : Option Nat) (na : Bool) (a : Nat) (l : List MByte) : State × Nat :=
  (cutAt 128 l.length a l).foldl (fun r p =>
    let t := r.1.hbmLineWrite part na p.1 p.2
    (t.1, if r.2 = 0 then t.2 else r.2)) (s, 0)

/-- A fill merged into a line (R244, R277): bytes not VALID take the array's, and a word is marked when the fill brought it poisoned and gave
it at least one byte. It is not installed where no line of the set may be evicted (log 16). -/
def State.lineFill (s : State) (slice a : Nat) : State :=
  let b := a - a % 128
  match s.makeRoom slice b with
  | none => s
  | some s =>
    let old := (s.lineAt a).getD ⟨slice, 0, 0⟩
    let s' := s.setLine a { old with valid := 2 ^ 128 - 1 }
    (List.range 128).foldl (fun t k =>
      if bitAt old.valid k then t
      else
        let x := s.hbmRaw1 (b + k)
        { t with slate := { t.slate with cmem := memSet t.slate.cmem (b + k) x.1,
                                         cpsn := if x.2 then SMap.set t.slate.cpsn false (b + k - k % 8) true else t.slate.cpsn } }) s'

/-- A read of one line by a partition, its effect on Slate (R244, R250): a hit or miss is counted; a miss of the home fills the line. -/
def State.lineRead (s : State) (part : Option Nat) (na : Bool) (a n : Nat) : State :=
  match s.homeOf a with
  | none => s
  | some h =>
    match s.localSlice h a with
    | none => s
    | some sl =>
      let m := maskOf (a % 128) n
      let v := match s.lineAt a with | some l => l.valid | none => 0
      if v &&& m = m then s.bump F.SLT_HIT 1 sl
      else
        let s := s.bump F.SLT_MISS 1 sl
        if part = some h ∧ na = false then s.lineFill sl a else s

/-- The effect on Slate of reading a range of HBM. -/
def State.touchRead (s : State) (part : Option Nat) (na : Bool) (a n : Nat) : State :=
  (cutAt 128 n a (List.replicate n ())).foldl (fun s p => s.lineRead part na p.1 p.2.length) s

/-- Whether an island is under reset, so that crossings into it refuse (R136). -/
def State.islResetting (s : State) (i : Nat) : Bool := (SMap.find s.start.isl i).isSome

/-- The code of an access of n bytes that lie in one unit: 0 when it may be made (R31, R32, R162, R176, R195, R278, R297, R351, R492).
`part` is the requester's partition, or none for the host physical function. -/
def State.accCode (s : State) (part : Option Nat) (wr : Bool) (a n : Nat) : Nat :=
  match regionOf a with
  | .none => Code.addr 1
  | .mica => if s.micaPres then Code.perm 0x0A else Code.addr 1
  | .jasper => if s.jasperPres then Code.perm 0x0C else Code.addr 1
  | .regs => Code.perm 4
  | .sram c off =>
    let k := SMap.get s.clu ClusterSt.init c
    if part ≠ none ∧ s.cluPart c ≠ part then Code.perm 3
    else if s.islResetting (s.cluIsland c) then Code.busy 0x12
    else if wr && k.run && decide (off < k.codeLim) && decide (k.codeBase < off + n) then Code.perm 1
    else Code.ok
  | .scratch sl _ =>
    if s.bit F.SLT_SLICE_FAILED sl ∧ (SMap.get s.slate.slices (0, 0) sl).1 = 3 then Code.poison 1
    else if (SMap.get s.slate.slices (0, 0) sl).1 ≠ 3 then Code.addr 1
    else if part ≠ none ∧ part ≠ some (SMap.get s.slate.slices (0, 0) sl).2 then Code.perm 3
    else if s.islResetting (272 + sl) then Code.busy 0x12
    else Code.ok
  | .hbm o =>
    if s.hbmCap < o + n then Code.addr 1
    else if s.mirrorBase < a + n then Code.perm 3
    else match part with
      | none => Code.ok
      | some p =>
        if (List.range ((a + n - 1) / 4096 - a / 4096 + 1)).all (fun k =>
            match s.grantAt (max a ((a / 4096 + k) * 4096)) with
            | some g => if g.ro then !wr && bitAt g.parts p else decide (g.home = p)
            | none => false)
        then Code.ok else Code.perm 3

/-- Where a unit ends: accesses are cut there (R695). -/
def unitEnd (a : Nat) : Nat :=
  match regionOf a with
  | .sram c _ => (c + 1) * 0x400000
  | .scratch sl _ => 0x100000000 + (sl + 1) * 0x4000000
  | .mica => 0x202000000
  | .jasper => 0x203000000
  | .hbm _ => 0x4000000000
  | .regs => a + 8
  | .none => a + 1

/-- Read n bytes of memory that lie in one unit. -/
def State.memRead (s : State) (a n : Nat) : List MByte :=
  match regionOf a with
  | .hbm _ => s.hbmRead a n
  | _ => s.sramRead a n

/-- Write marked bytes of memory that lie in one unit, and the code of the write. -/
def State.memWrite (s : State) (part : Option Nat) (na : Bool) (a : Nat) (l : List MByte) : State × Nat :=
  match regionOf a with
  | .hbm _ => s.hbmWrite part na a l
  | _ => (s.sramWrite a l, 0)

/-- Whether a stack that does not answer serves any of n bytes of HBM (R304): a read of it completes with POISON. -/
def State.hbmDead (s : State) (a n : Nat) : Bool :=
  match regionOf a with
  | .hbm _ => (List.range (n / 256 + 2)).any (fun k =>
      decide (a / 256 * 256 + k * 256 < a + n) && !s.stackOk (s.stackOf (a / 256 * 256 + k * 256 - hbmBase)))
  | _ => false

/-- The device IDs this device answers for (R35): its own, its twin's after a takeover, and 0xFFFE. A held ID is not answered for (R470). -/
def State.answersFor (s : State) (d : Nat) : Bool :=
  d = 0xFFFE || (s.bit F.QTZ_ID_ID_OK && decide (d = s.rd F.QTZ_ID_DEVID) && !s.bit F.AGT_STAT_HELD)
    || (decide (d ≠ 0xFFFF) && decide (d = s.rd F.QTZ_ID_ASSUMED))

/-- Whether an ID is the assumed one and not the module's own (R466). -/
def State.isAssumed (s : State) (d : Nat) : Bool :=
  decide (d ≠ 0xFFFF) && decide (d = s.rd F.QTZ_ID_ASSUMED) && decide (d ≠ s.rd F.QTZ_ID_DEVID)

/-- The copy of an adopted range at the lost module's local address, for a partition (R466, R467). -/
def State.adoptedAt (s : State) (part : Option Nat) (a n : Nat) : Option Nat :=
  (s.twin.adopts.find? (fun r => (match part with | some p => decide (r.part = p) | none => true) && decide (r.base ≤ a)
    && decide (a + n ≤ r.base + r.len))).map (fun r => r.at_ + (a - r.base))

/-- Whether an ID is fenced for a handback or a yield (R472, R473): its requests are answered BUSY 0x10. -/
def State.fenced (s : State) (d : Nat) : Bool :=
  s.twin.fence && (if s.twin.yielding then decide (d = s.rd F.QTZ_ID_DEVID) else s.isAssumed d)

/-- Read through an ID this device answers for: code and data. A request to the assumed ID is served from the adopted ranges only (R466). -/
def State.readAs (s : State) (part : Option Nat) (na : Bool) (d a n : Nat) : State × Nat × List MByte :=
  if s.fenced d then (s, Code.busy 0x10, [])
  else if s.isAssumed d then
    match s.adoptedAt part a n with
    | some m => (s.drawn, 0, s.hbmReadRaw m n)
    | none => (s, Code.takeover 3, [])
  else
    let c := s.accCode part false a n
    if c ≠ 0 then (s, c, [])
    else (match regionOf a with
      | .hbm _ => ((s.touchRead part na a n).drawn, 0, s.memRead a n)
      | _ => (s, 0, s.memRead a n))

/-- Mark the 64 KiB granules of adopted memory that a write touches (R471). -/
def State.dirtyGranules (s : State) (a n : Nat) : State :=
  let d := (List.range ((a + n - 1) / 0x10000 - a / 0x10000 + 1)).foldl (fun d k => SMap.set d false (a / 0x10000 + k) true) s.twin.dirty
  { s with twin := { s.twin with dirty := d } }

/-- Write through an ID this device answers for: the code. -/
def State.writeAs (s : State) (part : Option Nat) (na : Bool) (d a : Nat) (l : List MByte) : State × Nat :=
  if l.isEmpty then (s, 0)
  else if s.fenced d then (s, Code.busy 0x10)
  else if s.isAssumed d then
    match s.adoptedAt part a l.length with
    | some m =>
      let r := s.hbmWriteRaw m l
      (r.1.dirtyGranules m l.length, r.2)
    | none => (s, Code.takeover 3)
  else
    let c := s.accCode part true a l.length
    if c ≠ 0 then (s, c) else s.memWrite part na a l

end Sys2Proof.Machine
end

