-- ==== Sys2Proof/Machine/Packet.lean ====
section
/-! DEFINITION. Machine/Packet.lean: the fields of a fabric packet (R347, R348), what makes a header invalid (R349), and packets as a device
builds them. -/

namespace Sys2Proof

open Machine

/-- OPC. -/
def Pkt.opc (p : Pkt) : Nat := bitsAt p.w0.toNat 0 6
/-- DET. -/
def Pkt.det (p : Pkt) : Nat := bitsAt p.w0.toNat 6 2
/-- VC. -/
def Pkt.vc (p : Pkt) : Nat := bitsAt p.w0.toNat 8 3
/-- CLS: the response class of VC0. -/
def Pkt.cls (p : Pkt) : Bool := bitAt p.w0.toNat 11
/-- LEN, units of 64 bytes. -/
def Pkt.len (p : Pkt) : Nat := bitsAt p.w0.toNat 12 7
/-- PART. -/
def Pkt.part (p : Pkt) : Nat := bitsAt p.w0.toNat 19 4
/-- PAIR. -/
def Pkt.pair (p : Pkt) : Bool := bitAt p.w0.toNat 23
/-- DST. -/
def Pkt.dst (p : Pkt) : Nat := bitsAt p.w0.toNat 24 16
/-- SRC. -/
def Pkt.src (p : Pkt) : Nat := bitsAt p.w0.toNat 40 16
/-- TTL. -/
def Pkt.ttl (p : Pkt) : Nat := bitsAt p.w0.toNat 56 8
/-- ADDR. -/
def Pkt.addr (p : Pkt) : Nat := bitsAt p.w1.toNat 0 48
/-- AOP. -/
def Pkt.aop (p : Pkt) : Nat := bitsAt p.w1.toNat 48 4
/-- AW. -/
def Pkt.aw (p : Pkt) : Bool := bitAt p.w1.toNat 52
/-- FIX. -/
def Pkt.fix (p : Pkt) : Bool := bitAt p.w1.toNat 53
/-- CTX. -/
def Pkt.ctx (p : Pkt) : Nat := bitsAt p.w2.toNat 0 17
/-- BYTES. -/
def Pkt.bytes (p : Pkt) : Nat := bitsAt p.w2.toNat 17 13
/-- CODE, RQID or EPOCH. -/
def Pkt.code (p : Pkt) : Nat := bitsAt p.w2.toNat 32 16
/-- AUX. -/
def Pkt.aux (p : Pkt) : Nat := bitsAt p.w2.toNat 48 8
/-- GEN. -/
def Pkt.gen (p : Pkt) : Nat := bitsAt p.w2.toNat 56 8

/-- A packet with one field of word 0 replaced. -/
def Pkt.put0 (p : Pkt) (lo w x : Nat) : Pkt := { p with w0 := BitVec.ofNat 64 (putBits p.w0.toNat lo w x) }
/-- A packet with CTX and GEN of its context. -/
def Pkt.withCtx (p : Pkt) (i g : Nat) : Pkt := { p with w2 := BitVec.ofNat 64 (putBits (putBits p.w2.toNat 0 17 i) 56 8 g) }

/-- The bytes a packet takes on a link: the header and its payload units. -/
def Pkt.size (p : Pkt) : Nat := 32 + 64 * p.len

/-- A payload byte; bytes beyond the list read 0. -/
def Pkt.byte (p : Pkt) (k : Nat) : Nat := (p.data[k]?.getD 0).toNat

/-- n payload bytes as a number, little-endian. -/
def Pkt.num (p : Pkt) (k : Nat) : Nat → Nat
  | 0 => 0
  | n + 1 => p.byte k + 256 * Pkt.num p (k + 1) n

/-- The payload bytes with the mark of their units (R350). -/
def Pkt.marked (p : Pkt) : List MByte :=
  (List.range p.bytes).map (fun k => (p.data[k]?.getD 0, bitAt p.w3.toNat (k / 64)))

end Sys2Proof

namespace Sys2Proof.Machine

/-- PMASK of marked bytes: one bit for each unit that holds a poisoned word (R350). -/
def pmaskOf (l : List MByte) : Nat :=
  (cutAt 64 l.length 0 l).foldl (fun m p => if anyPsn p.2 then m + 2 ^ (p.1 / 64) else m) 0

/-- The opcodes R348 defines. -/
def opcKnown (o : Nat) : Bool :=
  (1 ≤ o && o ≤ 7) || o = 0x10 || (0x18 ≤ o && o ≤ 0x1A) || (0x20 ≤ o && o ≤ 0x27) || (0x30 ≤ o && o ≤ 0x37)

/-- A path-routed management packet. -/
def opcPath (o : Nat) : Bool := o = 0x32 || o = 0x33
/-- A link-local packet, consumed where it arrives. -/
def opcLocal (o : Nat) : Bool := o = 6 || o = 7 || o = 0x34
/-- A flooded packet. -/
def opcFlood (o : Nat) : Bool := o = 0x36 || o = 0x37
/-- A packet that travels on Agate only. -/
def opcTwin (o : Nat) : Bool := 0x20 ≤ o && o ≤ 0x27
/-- A bulk packet. -/
def opcBulk (o : Nat) : Bool := o = 1 || o = 3
/-- An opcode of the response class of VC0. -/
def opcResp (o : Nat) : Bool := o = 7 || o = 0x10 || o = 0x21

/-- The channels an opcode may travel on (R348, R451). -/
def vcSuits (o vc : Nat) (cls : Bool) : Bool :=
  if o = 1 ∨ o = 3 then 2 ≤ vc && vc ≤ 5
  else if 0x18 ≤ o ∧ o ≤ 0x1A then vc = 1
  else if o = 0x20 ∨ o = 0x23 ∨ o = 0x27 then vc = 6
  else if 0x30 ≤ o then vc = 7
  else vc = 0 && cls == opcResp o

/-- The LEN an opcode may have (R348, R451). -/
def lenSuits (o len : Nat) : Bool :=
  if o = 1 ∨ o = 3 ∨ o = 0x20 ∨ o = 0x27 ∨ (0x30 ≤ o ∧ o ≤ 0x33) then 1 ≤ len
  else if o = 4 ∨ o = 6 ∨ o = 7 ∨ o = 0x22 ∨ o = 0x23 ∨ o = 0x26 ∨ 0x34 ≤ o then len = 1
  else if 0x18 ≤ o ∧ o ≤ 0x1A then true
  else len = 0

/-- Whether an opcode names BYTES (R348 note b). -/
def opcBytes (o : Nat) : Bool := o = 1 || o = 2 || o = 3 || o = 0x18 || o = 0x19 || o = 0x20 || o = 0x27

/-- The bits of words 1 to 3 that an opcode uses (R348, R412, R451). R348 leaves the layout of the sync messages to a section that the spec does not
hold: any bits are taken (log 31). -/
def usedBits (o : Nat) : Nat × Nat × Nat :=
  let ctxGen := maskOf 0 17 + maskOf 56 8
  let all := 2 ^ 64 - 1
  if o = 1 then (maskOf 0 48 + maskOf 53 1, ctxGen + maskOf 17 13, all)
  else if o = 2 then (maskOf 0 48, ctxGen + maskOf 17 13, all)
  else if o = 3 then (maskOf 0 48 + maskOf 53 1, ctxGen + maskOf 17 13 + maskOf 32 16, all)
  else if o = 4 then (maskOf 0 53, ctxGen, 0)
  else if o = 5 then (maskOf 8 8 + maskOf 0 6, ctxGen, maskOf 0 33)
  else if o = 6 ∨ o = 7 then (all, all, all)
  else if o = 0x10 then (0, ctxGen + maskOf 32 16, all)
  else if o = 0x18 then (maskOf 0 56, maskOf 17 13 + maskOf 32 23, all)
  else if o = 0x19 then (maskOf 0 56, maskOf 17 13 + maskOf 32 23, all)
  else if o = 0x1A then (maskOf 0 44, maskOf 32 16, 0)
  else if o = 0x20 ∨ o = 0x27 then (maskOf 0 48, ctxGen + maskOf 17 13 + maskOf 32 16, all)
  else if o = 0x21 then (0, 0, all)
  else if o = 0x23 then (0, ctxGen + maskOf 32 18, 0)
  else if o = 0x22 ∨ o = 0x24 ∨ o = 0x25 ∨ o = 0x26 then (0, ctxGen, 0)
  else if o = 0x32 ∨ o = 0x33 then (all, maskOf 0 61, 0)
  else (0, 0, 0)

end Sys2Proof.Machine

namespace Sys2Proof

open Machine

/-- Whether a receiving port must discard a packet for its header (R349). -/
def Pkt.badHdr (p : Pkt) (agate : Bool) : Bool :=
  let o := p.opc
  let u := usedBits o
  !opcKnown o
    || decide (p.w1.toNat &&& u.1 ≠ p.w1.toNat) || decide (p.w2.toNat &&& u.2.1 ≠ p.w2.toNat) || decide (p.w3.toNat &&& u.2.2 ≠ p.w3.toNat)
    || decide (p.vc ≠ 0 ∧ p.cls = true) || (p.pair && !(o = 1 || o = 2 || o = 3))
    || decide (64 < p.len) || !lenSuits o p.len
    || (opcBytes o && (if o = 2 then decide (p.bytes < 1 ∨ 4096 < p.bytes) else decide (64 * p.len < p.bytes)))
    || !vcSuits o p.vc p.cls || (!agate && opcTwin o)

end Sys2Proof

namespace Sys2Proof.Machine

/-- A packet as this device builds it, with TTL_INIT, its own ID as SRC and no context yet. -/
def State.mkPkt (s : State) (opc vc part dst : Nat) (w1 w2 w3 : Nat) (data : List Byte) : Pkt :=
  { w0 := BitVec.ofNat 64 (opc + vc * 2 ^ 8 + (opcResp opc && vc = 0).toNat * 2 ^ 11 + (data.length + 63) / 64 * 2 ^ 12
      + part % 16 * 2 ^ 19 + dst * 2 ^ 24 + s.rd F.QTZ_ID_DEVID * 2 ^ 40 + s.rd F.QTZ_MGMT_TTL_INIT * 2 ^ 56),
    w1 := BitVec.ofNat 64 w1, w2 := BitVec.ofNat 64 w2, w3 := BitVec.ofNat 64 w3, data := data }

/-- The low channel of a bulk pair. -/
def bulkVc (pair : Nat) : Nat := if pair = 1 then 4 else 2

/-- FIX of the bulk packets a partition injects (R387). -/
def State.fixBit (s : State) (part : Nat) : Nat := if part < 16 then (s.bit F.QTZ_PART_FIX_ALL part).toNat * 2 ^ 53 else 0

/-- A WR packet (R348). -/
def State.pktWrite (s : State) (part pair dst addr : Nat) (l : List MByte) : Pkt :=
  (s.mkPkt 1 (bulkVc pair) part dst (addr % 2 ^ 48 + s.fixBit part) (l.length * 2 ^ 17) (pmaskOf l) (plain l)).put0 23 1 pair

/-- An RD packet: its data is pushed to a fabric address (R348). -/
def State.pktRead (s : State) (part pair dst addr n push : Nat) : Pkt :=
  (s.mkPkt 2 0 part dst (addr % 2 ^ 48) (n * 2 ^ 17) push []).put0 23 1 pair

/-- A SIG packet (R348, R180). -/
def State.pktSignal (s : State) (part dst clu sem value : Nat) (psn : Bool) : Pkt :=
  s.mkPkt 5 0 part dst (clu * 2 ^ 8 + sem) 0 (value % 2 ^ 32 + psn.toNat * 2 ^ 32) []

/-- An AMO packet: payload bytes 0 to 7 the operand, 8 to 15 the comparand (R348). -/
def State.pktAtomic (s : State) (part dst addr aop : Nat) (wide : Bool) (v cmp : Nat) : Pkt :=
  s.mkPkt 4 0 part dst (addr % 2 ^ 48 + aop * 2 ^ 48 + wide.toNat * 2 ^ 52) 0 0
    (plain (leM 8 v ++ leM 8 cmp) ++ List.replicate 48 0)

/-- The RSP to a request (R348): its context, generation, code and, for an AMO, the old value. -/
def State.pktRsp (s : State) (dest : Nat) (q : Pkt) (code old : Nat) : Pkt :=
  s.mkPkt 0x10 0 q.part dest 0 (q.ctx + code * 2 ^ 32 + q.gen * 2 ^ 56) old []

end Sys2Proof.Machine
end

