-- ==== Sys2Proof/Machine/Route.lean ====
section
/-! DEFINITION. Machine/Route.lean: the lookup of a destination, the choice of an output port, local repair, and transaction contexts with
their quotas (R357, R368 to R376, R382 to R386). -/

namespace Sys2Proof.Machine

/-- The queue of a port that a packet uses (R354): 0 VC0.Q, 1 VC0.R, 2 to 8 VC1 to VC7. -/
def queueOf (vc : Nat) (cls : Bool) : Nat := if vc = 0 then cls.toNat else vc + 1

/-- A port may be chosen: present, UP and not marked down (R370, R374). A port that leaves rest counts as UP: its data waits and is never refused
(R333). -/
def State.portUsable (s : State) (n : Nat) : Bool :=
  s.portPres n && (s.portUp n || (SMap.get s.ports PortSt.init n).restExit) && !s.bit F.QTZ_NBR_DOWN n

/-- The neighbour's queue is ON (R360). -/
def State.queueOn (s : State) (n q : Nat) : Bool := !s.bit F.QTZ_Q_OFF_RX n q

/-- The packets that wait for an output. -/
def State.txOf (s : State) (n : Nat) : List TxEnt := SMap.get s.quartz.txq [] n

/-- The bytes that wait for an output (R370). -/
def State.txBytes (s : State) (n : Nat) : Nat := (s.txOf n).foldl (fun b e => b + e.pkt.size) 0

/-- Queue a packet for an output port. -/
def State.enqueue (s : State) (n : Nat) (e : TxEnt) : State :=
  { s with quartz := { s.quartz with txq := SMap.set s.quartz.txq [] n (s.txOf n ++ [e]) } }

/-- The active bank's route entry for a destination (R368): by region, or by member, with MOVED taking the twin's. -/
def State.routeEntry (s : State) (dst : Nat) : Nat :=
  let b := s.rd F.QTZ_RT_CTRL_ACTIVE
  let own := s.rd F.QTZ_ID_DEVID
  let m := dst % 256
  let e := if dst / 256 ≠ own / 256 then s.rd F.RT_REGION_ENTRY b (dst / 256)
    else if s.flag F.QTZ_MOVED_MOVED (m % 64) (m / 64) then s.rd F.RT_MEMBER_ENTRY b (m ^^^ 1)
    else s.rd F.RT_MEMBER_ENTRY b m
  e

/-- The bound states in which the twin's ID is reached over Agate (R357, R463, R470): the partner's own ID, or the ID that the survivor
holds for a replacement. -/
def State.twinAnswers (s : State) (dst : Nat) : Bool :=
  let st := s.rd F.AGT_STAT_STATE
  decide (dst ≠ 0xFFFF) && ((decide (st = 2 ∨ st = 3 ∨ st = 6 ∨ st = 7 ∨ st = 8) && decide (dst = s.rd F.AGT_STAT_PEER_ID))
    || (decide (st = 8) && s.bit F.AGT_STAT_HELD && decide (dst = s.rd F.QTZ_ID_DEVID)))

/-- Apply a VC action (R371): 0 keep, 1 up, 2 reset; a packet on the high channel that meets up has no channel. -/
def vcAct (vc act : Nat) : Option Nat :=
  if act = 1 then (if vc = 2 ∨ vc = 4 then some (vc + 1) else none)
  else if act = 2 then some (vc - vc % 2) else some vc

/-- Discard a packet for a routing error (R357, R371): counted, logged and trapped. -/
def State.rtErr (s : State) (dst port : Nat) : State :=
  ((s.bump F.QTZ_DROP_RT_ERR).logE 0x0802 0xF200 3 [dst, port]).trap 0x0802 0xF200 [dst, port]

/-- The candidates of an entry with their VC actions: C0 to C3 (R368). -/
def candidates (e : Nat) : List (Nat × Nat) := (List.range 4).map (fun k => (bitsAt e (5 * k) 5, bitsAt e (20 + 2 * k) 2))

/-- The alternates of an entry: A0, A1 (R375). -/
def alternates (e : Nat) : List (Nat × Nat) := (List.range 2).map (fun k => (bitsAt e (38 + 5 * k) 5, bitsAt e (48 + 2 * k) 2))

/-- The candidate with the fewest bytes waiting for its output, ties to the lowest index (R370). -/
def State.fewest (s : State) : List (Nat × Nat) → Option (Nat × Nat)
  | [] => none
  | c :: t => match State.fewest s t with
    | none => some c
    | some d => if s.txBytes c.1 ≤ s.txBytes d.1 then some c else some d

/-- What a routing attempt ends in: queued or discarded, or no port can take the packet. -/
inductive Routed where
  | done (s : State)
  | noRoute (s : State)

/-- Send a bulk packet on a port with its VC action. -/
def State.sendBulk (s : State) (e : TxEnt) (c : Nat × Nat) (det : Nat) : State :=
  match vcAct e.pkt.vc c.2 with
  | some v => s.enqueue c.1 { e with pkt := (e.pkt.put0 8 3 v).put0 6 2 det }
  | none => s.rtErr e.pkt.dst c.1

/-- Route a bulk packet (R370, R375): an open usable candidate with the fewest bytes waiting, or a wait of one block period; without a usable
candidate A0, then A1, while DET is below 2. -/
def State.routeBulk (s : State) (e : TxEnt) (entry : Nat) : Routed :=
  let us := (candidates entry).filter (fun c => s.portUsable c.1)
  let us := if e.pkt.fix then ((candidates entry).take 1).filter (fun c => s.portUsable c.1) else us
  if us.isEmpty then
    match (alternates entry).find? (fun c => s.portUsable c.1) with
    | some c => if e.pkt.det < 2 then .done (s.sendBulk e c (e.pkt.det + 1)) else .noRoute s
    | none => .noRoute s
  else
    let isOpen (c : Nat × Nat) : Bool := match vcAct e.pkt.vc c.2 with
      | some v => s.queueOn c.1 (queueOf v false)
      | none => true
    match s.fewest (us.filter isOpen) with
    | some c => .done (s.sendBulk e c e.pkt.det)
    | none => .done { s with quartz := { s.quartz with stuck := s.quartz.stuck ++ [e] } }

/-- Route a packet that this device does not answer for (R357, R368, R370, R375). In SUSPECT the packet for the twin is held at the Agate port (R462). -/
def State.routeOut (s : State) (e : TxEnt) : Routed :=
  let dst := e.pkt.dst
  if s.twinAnswers dst then
    if s.rd F.AGT_STAT_STATE = 3 ∨ s.portUsable 16 then .done (s.enqueue 16 e) else .noRoute s
  else
    let entry := s.routeEntry dst
    if bitAt entry 53 = false ∨ bitAt entry 52 = true then .noRoute s
    else if opcBulk e.pkt.opc then s.routeBulk e entry
    else
      let sc := bitsAt entry 28 5
      let sca := bitsAt entry 33 5
      if s.portUsable sc then .done (s.enqueue sc e) else if s.portUsable sca then .done (s.enqueue sca e) else .noRoute s

/-- The PART index of contexts that the physical function draws on, and of the Agate reserve (R382). -/
def ctxPF : Nat := 16
/-- The Agate reserve. -/
def ctxAgate : Nat := 17

/-- Live counts of a partition: outstanding, allocated, completed (R385). -/
def State.ctxCnt (s : State) (p : Nat) : Nat × Nat × Nat := SMap.get s.quartz.cnt (0, 0, 0) p

/-- The contexts a holder may have (R382): its QUOTA, the rest of 126,976 for the physical function, 4,096 for the Agate reserve. -/
def State.ctxLimit (s : State) (p : Nat) : Nat :=
  if p = ctxAgate then 4096
  else if p = ctxPF then 126976 - (List.range 16).foldl (fun n q => n + s.rd F.QTZ_PART_QUOTA q) 0
  else s.rd F.QTZ_PART_QUOTA p

/-- The lowest free context from an index on. DESIGN CHOICE (log 20): R382 does not say which free index a request takes. -/
def freeCtx : Nat → SMap Ctx → Nat
  | n, [] => n
  | n, (k, _) :: t => if k = n then freeCtx (n + 1) t else n

/-- Count an allocation of a partition (R385). -/
def State.ctxAlloc (s : State) (p : Nat) : State :=
  let c := s.ctxCnt p
  let s := { s with quartz := { s.quartz with cnt := SMap.set s.quartz.cnt (0, 0, 0) p (c.1 + 1, c.2.1 + 1, c.2.2) } }
  if p < 16 ∧ s.rd F.QTZ_PART_PEAK p < c.1 + 1 then s.wr F.QTZ_PART_PEAK (c.1 + 1) p else s

/-- Count a completion of a partition. -/
def State.ctxDone (s : State) (p : Nat) : State :=
  let c := s.ctxCnt p
  { s with quartz := { s.quartz with cnt := SMap.set s.quartz.cnt (0, 0, 0) p (c.1 - 1, c.2.1, c.2.2 + 1) } }

/-- Send a request that holds a context now: allocated, its generation advanced, and routed; with no usable route it waits to resend as after
BUSY 0x10 (R376, R382, R384). A request that travels on Agate goes to the Agate port. -/
def State.sendCtx (s : State) (o : Owner) (part dst : Nat) (agate : Bool) (p : Pkt) : State :=
  let i := freeCtx 0 s.quartz.ctx
  let g := (SMap.get s.quartz.gens 0 i + 1) % 256
  let p := p.withCtx i g
  let c : Ctx := { owner := o, part := part, dst := dst, pkt := p, since := s.now, gen := g, retry := none, orphan := false }
  let s := s.ctxAlloc part
  let s := { s with quartz := { s.quartz with ctx := SMap.put s.quartz.ctx i c, gens := SMap.set s.quartz.gens 0 i g } }
  let e : TxEnt := { pkt := p, src := 31, at_ := s.now }
  if agate then s.enqueue 16 e
  else match s.routeOut e with
    | .done t => t
    | .noRoute t => { t with quartz := { t.quartz with ctx := SMap.put t.quartz.ctx i { c with retry := some t.now } } }

/-- Issue a remote request (R382, R383): with a context to spare it is sent, else it waits in issue order. -/
def State.remote (s : State) (o : Owner) (part dst : Nat) (agate : Bool) (p : Pkt) : State :=
  if (s.ctxCnt part).1 < s.ctxLimit part ∧ s.quartz.qwait.all (fun w => w.part ≠ part) then s.sendCtx o part dst agate p
  else { s with quartz := { s.quartz with qwait := s.quartz.qwait ++ [⟨o, part, dst, p, s.now⟩] } }

/-- Free a context. -/
def State.freeCtxAt (s : State) (i : Nat) (c : Ctx) : State :=
  { s with quartz := { s.quartz with ctx := SMap.del s.quartz.ctx i } }.ctxDone c.part

/-- The PART index of a requester. -/
def ctxPart : Option Nat → Nat
  | some p => p
  | none => ctxPF

/-- The code that stops a request to a device ID before it is sent (R34, R352): 0xFFFF never, region 0xFF and other devices before ID_OK. -/
def State.idCode (s : State) (d : Nat) : Nat :=
  if d = 0xFFFF then Code.addr 5
  else if s.answersFor d then 0
  else if d / 256 = 0xFF then Code.addr 6
  else if s.bit F.QTZ_ID_ID_OK = false then Code.addr 6
  else 0

/-- Send a packet that needs no context and no answer here: a response, a trap, a management packet; one that no port can take is discarded and
counted (R375). -/
def State.sendPlain (s : State) (p : Pkt) : State :=
  match s.routeOut { pkt := p, src := 31, at_ := s.now } with
  | .done t => t
  | .noRoute t => t.bump F.QTZ_DROP_NO_ROUTE

/-- Answer a request with an RSP (R348): to SRC, or for a PUSH to RQID; back over Agate when it came that way. -/
def State.answer (s : State) (q : Pkt) (port : Nat) (code old : Nat) : State :=
  let dest := if q.opc = 3 then q.code else q.src
  let r := s.pktRsp dest q code old
  if port = 16 then s.enqueue 16 { pkt := r, src := 31, at_ := s.now } else s.sendPlain r

end Sys2Proof.Machine
end

