-- ==== Sys2Proof/Machine/Ring.lean ====
section
/-! DEFINITION. Machine/Ring.lean: completion entries on their way to host memory (R500 to R504, R510, R511). -/

namespace Sys2Proof.Machine

/-- What a ring pair holds besides its registers. -/
def State.ringSt (s : State) (r : Nat) : RingSt := SMap.get s.host.rings RingSt.init r

/-- A ring pair's state replaced. -/
def State.setRing (s : State) (r : Nat) (x : RingSt) : State :=
  { s with host := { s.host with rings := SMap.set s.host.rings RingSt.init r x } }

/-- The entries of each ring of a pair (R500). -/
def State.ringSize (s : State) (r : Nat) : Nat := 2 ^ s.rd F.HST_RING_SIZE_LOG2 r

/-- The completion ring is full (R503). -/
def State.ringFull (s : State) (r : Nat) : Bool := decide ((s.rd F.HST_RING_CQ_TAIL r + 1) % s.ringSize r = (s.ringSt r).cqHead)

/-- The ring takes entries: the host link is up and ENABLE is 1 (R510, R511). -/
def State.ringLive (s : State) (r : Nat) : Bool := s.bit F.HST_STAT_LINK_UP && s.bit F.HST_RING_ENABLE r

/-- The function of a ring's owner (R490). -/
def State.ringFn (s : State) (r : Nat) : Nat := if s.rd F.HST_RING_OWNER r < 16 then s.rd F.HST_RING_OWNER r + 1 else 0

/-- Send the ring's message and count its entries as signalled (R504). -/
def State.ringSignal (s : State) (r : Nat) : State :=
  (s.setRing r { s.ringSt r with unsig := 0 }).msi (s.ringFn r) (s.rd F.HST_RING_VEC r)

/-- Write a completion entry at the tail with the ring's phase; the phase toggles as the tail wraps; the message goes out when CNT_TH entries
are unsignalled (R503, R504). -/
def State.cqWrite (s : State) (r : Nat) (e : CqEnt) : State :=
  let t := s.rd F.HST_RING_CQ_TAIL r
  let o : CqOut := { ring := r, slot := t, e := e, phase := s.rd F.HST_RING_PHASE r, sqHead := s.rd F.HST_RING_SQ_HEAD r }
  let s := { s with host := { s.host with out := o :: s.host.out } }
  let t' := (t + 1) % s.ringSize r
  let s := s.wr F.HST_RING_CQ_TAIL t' r
  let s := if t' = 0 then s.wr F.HST_RING_PHASE (1 - s.rd F.HST_RING_PHASE r) r else s
  if e.noirq then s
  else
    let x := s.ringSt r
    let s := s.setRing r { x with unsig := x.unsig + 1, since := if x.unsig = 0 then s.now else x.since }
    if s.rd F.HST_RING_CNT_TH r ≤ x.unsig + 1 then s.ringSignal r else s

/-- Post a completion entry: lost on a ring that takes none, waiting in order while the ring is full (R503, R510, R511). -/
def State.cqPost (s : State) (r : Nat) (e : CqEnt) : State :=
  if s.ringLive r = false then s.bump F.HST_STAT_CQ_LOST
  else if s.ringFull r || !(s.ringSt r).waiting.isEmpty then s.setRing r { s.ringSt r with waiting := (s.ringSt r).waiting ++ [e] }
  else s.cqWrite r e

/-- Write the entries that waited, as far as there is room (R503). -/
def State.cqDrain : Nat → State → Nat → State
  | 0, s, _ => s
  | k + 1, s, r => match (s.ringSt r).waiting with
    | [] => s
    | e :: t => if s.ringFull r then s else State.cqDrain k ((s.setRing r { s.ringSt r with waiting := t }).cqWrite r e) r

/-- The completion entry of a host command (KIND 0). -/
def State.cmdDone (s : State) (c : HostCmd) (code value : Nat) : State :=
  ({ s with host := { s.host with cmds := s.host.cmds.filter (fun d => d.id ≠ c.id) } }).cqPost c.ring
    { tag := c.tag, code := code, kind := 0, cluster := 0xFFFF, fpc := 0, value := value, finfo := 0, noirq := c.noirq }

/-- Complete the host command with an identifier, if it is still known. -/
def State.cmdDoneId (s : State) (id code value : Nat) : State :=
  match s.host.cmds.find? (fun c => c.id = id) with
  | some c => s.cmdDone c code value
  | none => s

end Sys2Proof.Machine
end

