-- ==== Sys2Proof/Machine/Seq.lean ====
section
/-! DEFINITION. Machine/Seq.lean: a cluster's sequencer: its registers, the delivery of faults, and the issue of an instruction
(R161 to R173, R196 to R199). -/

namespace Sys2Proof.Machine

/-- A cluster's sequencer. -/
def State.cl (s : State) (c : Nat) : ClusterSt := SMap.get s.clu ClusterSt.init c

/-- A cluster's sequencer replaced. -/
def State.setCl (s : State) (c : Nat) (k : ClusterSt) : State := { s with clu := SMap.set s.clu ClusterSt.init c k }

/-- A cluster's sequencer changed. -/
def State.modCl (s : State) (c : Nat) (f : ClusterSt → ClusterSt) : State := s.setCl c (f (s.cl c))

/-- A semaphore (R161). -/
def ClusterSt.semAt (k : ClusterSt) (n : Nat) : Sem := SMap.get k.sems ⟨0, false, false⟩ n

/-- A semaphore replaced. -/
def ClusterSt.setSem (k : ClusterSt) (n : Nat) (x : Sem) : ClusterSt := { k with sems := SMap.set k.sems ⟨0, false, false⟩ n x }

/-- A DMA slot. -/
def ClusterSt.slotAt (k : ClusterSt) (n : Nat) : DmaSlot := SMap.get k.slots DmaSlot.init n

/-- A DMA slot replaced. -/
def ClusterSt.setSlot (k : ClusterSt) (n : Nat) (x : DmaSlot) : ClusterSt := { k with slots := SMap.set k.slots DmaSlot.init n x }

/-- A collective slot. -/
def ClusterSt.clxAt (k : ClusterSt) (n : Nat) : ClxSlot := SMap.get k.clx ClxSlot.init n

/-- A collective slot replaced. -/
def ClusterSt.setClx (k : ClusterSt) (n : Nat) (x : ClxSlot) : ClusterSt := { k with clx := SMap.set k.clx ClxSlot.init n x }

/-- The device-local address of an offset in a cluster's own SRAM. -/
def sramAt (c off : Nat) : Nat := c * 0x400000 + off

/-- The partition of a cluster as a requester; a cluster of no partition requests as partition 16, which holds no grant. -/
def State.cluReq (s : State) (c : Nat) : Option Nat := some ((s.cluPart c).getD 16)

/-- EXPERT_EN of a cluster's partition (R494). -/
def State.cluExpert (s : State) (c : Nat) : Bool := match s.cluPart c with
  | some p => s.bit F.HST_PART_CTL_EXPERT_EN p
  | none => false

/-- NOIRQ of the LAUNCH command that a cluster runs for: it covers the entries of its clusters (R501). -/
def State.launchNoirq (s : State) (k : ClusterSt) : Bool := s.host.cmds.any (fun d => decide (k.cmd = some d.id) && d.noirq)

/-- A cluster no longer runs for its LAUNCH; the command is over with its last cluster (R506). -/
def State.launchLeave (s : State) (c : Nat) : State :=
  match (s.cl c).cmd with
  | none => s
  | some i =>
    let s := s.modCl c (fun k => { k with cmd := none })
    if s.clu.any (fun e => decide (e.2.cmd = some i)) then s
    else { s with host := { s.host with cmds := s.host.cmds.filter (fun d => d.id ≠ i) } }

/-- The KIND 1 completion entry of a cluster that ends (R501, R187, R198). -/
def State.postEnd (s : State) (c code : Nat) : State :=
  let k := s.cl c
  (s.cqPost k.ring { tag := k.tag, code := code, kind := 1, cluster := c, fpc := k.fpc, value := k.faddr, finfo := k.finfo,
                     noirq := s.launchNoirq k }).launchLeave c

/-- Deliver a fault (R197 to R199): the four CTL registers are written; in halt mode, or while the handler runs (DOUBLE), the sequencer stops
and posts its entry; in handler mode INH is set and the handler starts. `info` holds the bits of CTL.FINFO from BG up. -/
def State.deliver (s : State) (c : Nat) (long : Bool) (code addr info : Nat) : State :=
  let k := s.cl c
  let k := { k with fcode := code, fpc := k.pc, faddr := addr, finfo := long.toNat + 2 * k.inh.toNat + info, wait := none }
  if k.fmode = 0 ∨ k.inh = true then (s.setCl c { k with run := false, faulted := true }).postEnd c code
  else s.setCl c { k with inh := true, pc := k.fvec }

/-- Raise a precise fault of the instruction at issue. -/
def State.fault (s : State) (x : Iss) (code : Nat) (addr : Nat := 0) : State := s.deliver x.c x.long code addr 0

/-- Finish the instruction: the cluster's new state with PC past it (R164). -/
def State.done (s : State) (x : Iss) (k : ClusterSt) : State := s.setCl x.c { k with pc := k.pc + ilen x.long }

/-- Finish an instruction that changes no register. -/
def State.pass (s : State) (x : Iss) : State := s.done x (s.cl x.c)

/-- Wait at issue with PC at the instruction. -/
def State.hold (s : State) (x : Iss) (w : Wait) : State := s.modCl x.c (fun k => { k with wait := some w, waitLong := x.long })

/-- End the wait of a cluster, its instruction done. -/
def State.finish (s : State) (c : Nat) : State := s.modCl c (fun k => { k with wait := none, pc := k.pc + ilen k.waitLong })

/-- Fault the instruction that waits. -/
def State.faultWait (s : State) (c code addr info : Nat) : State := s.deliver c (s.cl c).waitLong code addr info

/-- Whether a cluster's sequencer can issue: its program runs, has started, and nothing holds it. -/
def ClusterSt.ready (k : ClusterSt) : Bool := k.run && !k.starting && k.wait.isNone

/-- Flint holds a cluster's partition (R91). -/
def State.cluHeld (s : State) (c : Nat) : Bool := match s.cluPart c with
  | some p => s.flag F.FLT_ALONE_QUIESCED p
  | none => false

/-- Issue an instruction (R162 to R168, R201): nothing while the sequencer cannot issue; a fetch outside the code range, and one of a poisoned
word, fault; then the faults of the encoding, FORMAT 0x01 (given as `enc`) before 0x02; a false guard only advances PC; else the
instruction's own effect. -/
def State.issue (s : State) (x : Iss) (enc : Nat) (f : State → State) : State :=
  let k := s.cl x.c
  if k.ready = false ∨ s.cluHeld x.c = true then s
  else if k.inCode x.long = false then s.fault x (Code.addr 4) k.pc
  else if s.psnAt (sramAt x.c (k.pc - k.pc % 8)) || (x.long && s.psnAt (sramAt x.c (k.pc + 4 - (k.pc + 4) % 8))) then
    s.fault x (Code.poison 1) k.pc
  else if enc ≠ 0 then s.fault x enc
  else if x.res then s.fault x (Code.format 2)
  else if k.guard x = false then s.pass x
  else f s

end Sys2Proof.Machine
end

