-- ==== Sys2Proof/Machine/Flags.lean ====
section
/-! DEFINITION. Machine/Flags.lean: the sticky numeric flags of a cluster (R210): INVALID, OVERFLOW, INTSAT as bits 0 to 2 of CLU_NUMFLG. -/

namespace Sys2Proof.Machine

/-- Set numeric flags; they are sticky (R210). -/
def ClusterSt.raise (k : ClusterSt) (f : NumFlags) : ClusterSt := { k with numflg := k.numflg ||| f }

/-- The flags of a list of results. -/
def flagsOf {α : Type} (l : List (α × NumFlags)) : NumFlags := l.foldl (fun f p => f ||| p.2) 0

end Sys2Proof.Machine
end

