-- ==== Sys2Proof/Machine/Alu.lean ====
section
/-! DEFINITION. Machine/Alu.lean: the SCL instructions (R172). -/

namespace Sys2Proof.Machine

/-- A register result: g[rd] ← f of the state's g[ra] and g[rb]. -/
def State.aluRR (s : State) (x : Iss) (rd ra rb : Nat) (f : Word → Word → Word) : State :=
  s.issue x 0 (fun s => s.done x ((s.cl x.c).setG rd (f ((s.cl x.c).gr ra) ((s.cl x.c).gr rb))))

/-- g[rd] ← f of g[ra] and IMM. -/
def State.aluRI (s : State) (x : Iss) (rd ra : Nat) (v : Word) (f : Word → Word → Word) : State :=
  s.issue x 0 (fun s => s.done x ((s.cl x.c).setG rd (f ((s.cl x.c).gr ra) v)))

/-- p[rd] ← g[ra] compared with g[rb]. -/
def State.cmpRR (s : State) (x : Iss) (rd ra rb : Nat) (f : Word → Word → Bool) : State :=
  s.issue x 0 (fun s => s.done x ((s.cl x.c).setP rd (f ((s.cl x.c).gr ra) ((s.cl x.c).gr rb))))

/-- p[rd] ← p[ra] op p[rb]. -/
def State.predRR (s : State) (x : Iss) (rd ra rb : Nat) (f : Bool → Bool → Bool) : State :=
  s.issue x 0 (fun s => s.done x ((s.cl x.c).setP rd (f ((s.cl x.c).pr ra) ((s.cl x.c).pr rb))))

/-- The low six bits of a shift count. -/
def sh6 (b : Word) : Nat := b.toNat % 64

/-- The number of leading zeros among the low n bits. -/
def clzN : Nat → Word → Nat
  | 0, _ => 0
  | n + 1, a => if a.getLsbD n then 0 else 1 + clzN n a

/-- The number of trailing zeros from bit 64 − n on. -/
def ctzN : Nat → Word → Nat
  | 0, _ => 0
  | n + 1, a => if a.getLsbD (63 - n) then 0 else 1 + ctzN n a

/-- The number of set bits among the low n. -/
def popN : Nat → Word → Nat
  | 0, _ => 0
  | n + 1, a => (a.getLsbD n).toNat + popN n a

/-- The signed quotient truncated toward zero; by zero all bits set; −2⁶³ ÷ −1 wraps (R172). -/
def divS (a b : Word) : Word := if b = 0 then BitVec.allOnes 64 else BitVec.ofInt 64 (Int.tdiv a.toInt b.toInt)
/-- The unsigned quotient; by zero all bits set (R172). -/
def divU (a b : Word) : Word := if b = 0 then BitVec.allOnes 64 else BitVec.ofNat 64 (a.toNat / b.toNat)
/-- The signed remainder; by zero the dividend; of −2⁶³ by −1, 0 (R172). -/
def remS (a b : Word) : Word := if b = 0 then a else BitVec.ofInt 64 (Int.tmod a.toInt b.toInt)
/-- The unsigned remainder; by zero the dividend (R172). -/
def remU (a b : Word) : Word := if b = 0 then a else BitVec.ofNat 64 (a.toNat % b.toNat)
/-- The high 64 bits of the signed product. -/
def mulHS (a b : Word) : Word := BitVec.ofInt 64 ((a.toInt * b.toInt) / 2 ^ 64)
/-- The high 64 bits of the unsigned product. -/
def mulHU (a b : Word) : Word := BitVec.ofNat 64 (a.toNat * b.toNat / 2 ^ 64)

/-- ADD (R172). -/
def execAluAdd (x : Iss) (rd ra rb : Fin 64) (s : State) : Host.Outcome State Fault Refusal :=
  .next (s.aluRR x rd ra rb (fun a b => a + b))

/-- SUB (R172). -/
def execAluSub (x : Iss) (rd ra rb : Fin 64) (s : State) : Host.Outcome State Fault Refusal :=
  .next (s.aluRR x rd ra rb (fun a b => a - b))

/-- AND (R172). -/
def execAluAnd (x : Iss) (rd ra rb : Fin 64) (s : State) : Host.Outcome State Fault Refusal :=
  .next (s.aluRR x rd ra rb (fun a b => a &&& b))

/-- OR (R172). -/
def execAluOr (x : Iss) (rd ra rb : Fin 64) (s : State) : Host.Outcome State Fault Refusal :=
  .next (s.aluRR x rd ra rb (fun a b => a ||| b))

/-- XOR (R172). -/
def execAluXor (x : Iss) (rd ra rb : Fin 64) (s : State) : Host.Outcome State Fault Refusal :=
  .next (s.aluRR x rd ra rb (fun a b => a ^^^ b))

/-- ANDN (R172). -/
def execAndn (x : Iss) (rd ra rb : Fin 64) (s : State) : Host.Outcome State Fault Refusal :=
  .next (s.aluRR x rd ra rb (fun a b => a &&& ~~~b))

/-- SHL (R172). -/
def execAluShl (x : Iss) (rd ra rb : Fin 64) (s : State) : Host.Outcome State Fault Refusal :=
  .next (s.aluRR x rd ra rb (fun a b => a <<< sh6 b))

/-- SHR (R172). -/
def execAluShr (x : Iss) (rd ra rb : Fin 64) (s : State) : Host.Outcome State Fault Refusal :=
  .next (s.aluRR x rd ra rb (fun a b => a >>> sh6 b))

/-- SAR (R172). -/
def execAluSar (x : Iss) (rd ra rb : Fin 64) (s : State) : Host.Outcome State Fault Refusal :=
  .next (s.aluRR x rd ra rb (fun a b => a.sshiftRight (sh6 b)))

/-- MIN (R172). -/
def execAluMin (x : Iss) (rd ra rb : Fin 64) (s : State) : Host.Outcome State Fault Refusal :=
  .next (s.aluRR x rd ra rb (fun a b => if b.slt a then b else a))

/-- MAX (R172). -/
def execAluMax (x : Iss) (rd ra rb : Fin 64) (s : State) : Host.Outcome State Fault Refusal :=
  .next (s.aluRR x rd ra rb (fun a b => if a.slt b then b else a))

/-- MINU (R172). -/
def execMinu (x : Iss) (rd ra rb : Fin 64) (s : State) : Host.Outcome State Fault Refusal :=
  .next (s.aluRR x rd ra rb (fun a b => if b < a then b else a))

/-- MAXU (R172). -/
def execMaxu (x : Iss) (rd ra rb : Fin 64) (s : State) : Host.Outcome State Fault Refusal :=
  .next (s.aluRR x rd ra rb (fun a b => if a < b then b else a))

/-- MUL (R172). -/
def execAluMul (x : Iss) (rd ra rb : Fin 64) (s : State) : Host.Outcome State Fault Refusal :=
  .next (s.aluRR x rd ra rb (fun a b => a * b))

/-- MULH (R172). -/
def execMulh (x : Iss) (rd ra rb : Fin 64) (s : State) : Host.Outcome State Fault Refusal :=
  .next (s.aluRR x rd ra rb (mulHS))

/-- MULHU (R172). -/
def execMulhu (x : Iss) (rd ra rb : Fin 64) (s : State) : Host.Outcome State Fault Refusal :=
  .next (s.aluRR x rd ra rb (mulHU))

/-- DIV (R172). -/
def execAluDiv (x : Iss) (rd ra rb : Fin 64) (s : State) : Host.Outcome State Fault Refusal :=
  .next (s.aluRR x rd ra rb (divS))

/-- DIVU (R172). -/
def execDivu (x : Iss) (rd ra rb : Fin 64) (s : State) : Host.Outcome State Fault Refusal :=
  .next (s.aluRR x rd ra rb (divU))

/-- REM (R172). -/
def execAluRem (x : Iss) (rd ra rb : Fin 64) (s : State) : Host.Outcome State Fault Refusal :=
  .next (s.aluRR x rd ra rb (remS))

/-- REMU (R172). -/
def execRemu (x : Iss) (rd ra rb : Fin 64) (s : State) : Host.Outcome State Fault Refusal :=
  .next (s.aluRR x rd ra rb (remU))

/-- CLZ (R172). -/
def execClz (x : Iss) (rd ra : Fin 64) (s : State) : Host.Outcome State Fault Refusal :=
  .next (s.aluRI x rd ra 0 (fun a _ => BitVec.ofNat 64 (clzN 64 a)))

/-- CTZ (R172). -/
def execCtz (x : Iss) (rd ra : Fin 64) (s : State) : Host.Outcome State Fault Refusal :=
  .next (s.aluRI x rd ra 0 (fun a _ => BitVec.ofNat 64 (ctzN 64 a)))

/-- POPC (R172). -/
def execPopc (x : Iss) (rd ra : Fin 64) (s : State) : Host.Outcome State Fault Refusal :=
  .next (s.aluRI x rd ra 0 (fun a _ => BitVec.ofNat 64 (popN 64 a)))

/-- CMP_EQ (R172). -/
def execCmpEq (x : Iss) (rd : Fin 8) (ra rb : Fin 64) (s : State) : Host.Outcome State Fault Refusal :=
  .next (s.cmpRR x rd ra rb (fun a b => a == b))

/-- CMP_NE (R172). -/
def execCmpNe (x : Iss) (rd : Fin 8) (ra rb : Fin 64) (s : State) : Host.Outcome State Fault Refusal :=
  .next (s.cmpRR x rd ra rb (fun a b => a != b))

/-- CMP_LT (R172). -/
def execCmpLt (x : Iss) (rd : Fin 8) (ra rb : Fin 64) (s : State) : Host.Outcome State Fault Refusal :=
  .next (s.cmpRR x rd ra rb (fun a b => a.slt b))

/-- CMP_LTU (R172). -/
def execCmpLtu (x : Iss) (rd : Fin 8) (ra rb : Fin 64) (s : State) : Host.Outcome State Fault Refusal :=
  .next (s.cmpRR x rd ra rb (fun a b => decide (a < b)))

/-- CMP_GE (R172). -/
def execCmpGe (x : Iss) (rd : Fin 8) (ra rb : Fin 64) (s : State) : Host.Outcome State Fault Refusal :=
  .next (s.cmpRR x rd ra rb (fun a b => !a.slt b))

/-- CMP_GEU (R172). -/
def execCmpGeu (x : Iss) (rd : Fin 8) (ra rb : Fin 64) (s : State) : Host.Outcome State Fault Refusal :=
  .next (s.cmpRR x rd ra rb (fun a b => !decide (a < b)))

/-- P_AND (R172). -/
def execPAnd (x : Iss) (rd ra rb : Fin 8) (s : State) : Host.Outcome State Fault Refusal :=
  .next (s.predRR x rd ra rb (fun a b => a && b))

/-- P_OR (R172). -/
def execPOr (x : Iss) (rd ra rb : Fin 8) (s : State) : Host.Outcome State Fault Refusal :=
  .next (s.predRR x rd ra rb (fun a b => a || b))

/-- P_XOR (R172). -/
def execPXor (x : Iss) (rd ra rb : Fin 8) (s : State) : Host.Outcome State Fault Refusal :=
  .next (s.predRR x rd ra rb (fun a b => xor a b))

/-- P_ANDN (R172). -/
def execPAndn (x : Iss) (rd ra rb : Fin 8) (s : State) : Host.Outcome State Fault Refusal :=
  .next (s.predRR x rd ra rb (fun a b => a && !b))

/-- P_TOG (R172). -/
def execPTog (x : Iss) (rd : Fin 64) (ra : Fin 8) (s : State) : Host.Outcome State Fault Refusal :=
  .next (s.issue x 0 (fun s => s.done x ((s.cl x.c).setG rd (if (s.cl x.c).pr ra then 1 else 0))))

/-- P_FROMG (R172). -/
def execPFromg (x : Iss) (rd : Fin 8) (ra : Fin 64) (s : State) : Host.Outcome State Fault Refusal :=
  .next (s.cmpRR x rd ra 0 (fun a _ => a != 0))

/-- ADDI (R172). -/
def execAddi (x : Iss) (rd ra : Fin 64) (imm : BitVec 24) (s : State) : Host.Outcome State Fault Refusal :=
  .next (s.aluRI x rd ra (immS imm) (fun a b => a + b))

/-- ANDI (R172). -/
def execAndi (x : Iss) (rd ra : Fin 64) (imm : BitVec 24) (s : State) : Host.Outcome State Fault Refusal :=
  .next (s.aluRI x rd ra (immS imm) (fun a b => a &&& b))

/-- ORI (R172). -/
def execOri (x : Iss) (rd ra : Fin 64) (imm : BitVec 24) (s : State) : Host.Outcome State Fault Refusal :=
  .next (s.aluRI x rd ra (immS imm) (fun a b => a ||| b))

/-- XORI (R172). -/
def execXori (x : Iss) (rd ra : Fin 64) (imm : BitVec 24) (s : State) : Host.Outcome State Fault Refusal :=
  .next (s.aluRI x rd ra (immS imm) (fun a b => a ^^^ b))

/-- SHLI: the remaining IMM bits are zero (R172). -/
def execShli (x : Iss) (rd ra sh : Fin 64) (s : State) : Host.Outcome State Fault Refusal :=
  .next (s.aluRI x rd ra (BitVec.ofNat 64 sh) (fun a b => a <<< sh6 b))

/-- SHRI: the remaining IMM bits are zero (R172). -/
def execShri (x : Iss) (rd ra sh : Fin 64) (s : State) : Host.Outcome State Fault Refusal :=
  .next (s.aluRI x rd ra (BitVec.ofNat 64 sh) (fun a b => a >>> sh6 b))

/-- SARI: the remaining IMM bits are zero (R172). -/
def execSari (x : Iss) (rd ra sh : Fin 64) (s : State) : Host.Outcome State Fault Refusal :=
  .next (s.aluRI x rd ra (BitVec.ofNat 64 sh) (fun a b => a.sshiftRight (sh6 b)))

/-- CMPI_EQ (R172). -/
def execCmpiEq (x : Iss) (rd : Fin 8) (ra : Fin 64) (imm : BitVec 24) (s : State) : Host.Outcome State Fault Refusal :=
  .next (s.cmpRR x rd ra 0 (fun a _ => a == immS imm))

/-- CMPI_LT (R172). -/
def execCmpiLt (x : Iss) (rd : Fin 8) (ra : Fin 64) (imm : BitVec 24) (s : State) : Host.Outcome State Fault Refusal :=
  .next (s.cmpRR x rd ra 0 (fun a _ => a.slt (immS imm)))

/-- CMPI_LTU (R172). -/
def execCmpiLtu (x : Iss) (rd : Fin 8) (ra : Fin 64) (imm : BitVec 24) (s : State) : Host.Outcome State Fault Refusal :=
  .next (s.cmpRR x rd ra 0 (fun a _ => decide (a < immS imm)))

/-- LI: IMM24 sign-extended (R172). -/
def execAluLi (x : Iss) (rd : Fin 64) (imm : BitVec 24) (s : State) : Host.Outcome State Fault Refusal :=
  .next (s.aluRI x rd 0 (immS imm) (fun _ b => b))

/-- LIS (R172). -/
def execLis (x : Iss) (rd ra : Fin 64) (imm : BitVec 24) (s : State) : Host.Outcome State Fault Refusal :=
  .next (s.aluRI x rd ra (imm.setWidth 64) (fun a b => (a <<< 24) ||| b))

/-- SEL (R172). -/
def execAluSel (x : Iss) (rd ra rb : Fin 64) (p : Fin 8) (s : State) : Host.Outcome State Fault Refusal :=
  .next (s.issue x 0 (fun s => s.done x ((s.cl x.c).setG rd (if (s.cl x.c).pr p then (s.cl x.c).gr ra else (s.cl x.c).gr rb))))

end Sys2Proof.Machine
end

