-- ==== Sys2Proof/Machine/Tns.lean ====
section
/-! DEFINITION. Machine/Tns.lean: what the operations of a tensor unit do when they are performed (R214 to R226, R230): the multiply in its
fixed order, stores, loads and moves. -/

namespace Sys2Proof.Machine

/-- The operand formats of TFMT (R222): the element codes of A and B, MX scales, INT32 accumulator. -/
def tfmtOf : Nat → Option (Nat × Nat × Bool × Bool)
  | 0 => some (1, 1, false, false)
  | 1 => some (2, 2, false, false)
  | 2 => some (0, 0, false, false)
  | 3 => some (3, 3, false, false)
  | 4 => some (3, 4, false, false)
  | 5 => some (4, 3, false, false)
  | 6 => some (4, 4, false, false)
  | 7 => some (3, 3, true, false)
  | 8 => some (4, 4, true, false)
  | 9 => some (5, 5, true, false)
  | 10 => some (11, 11, true, false)
  | 11 => some (9, 9, false, true)
  | 12 => some (10, 10, false, true)
  | 13 => some (9, 10, false, true)
  | _ => none

/-- G of R223: 1 for TFMT 0 to 2, else 2. -/
def groupOf (t : Nat) : Nat := if t ≤ 2 then 1 else 2

/-- Element e of a packed row that starts at an SRAM address (R204, R218, R222). -/
def State.elemAt (s : State) (a w e : Nat) : Nat :=
  if w = 4 then bitsAt (s.mem1 (a + e / 2)).toNat (4 * (e % 2)) 4 else s.memN (a + e * (w / 8)) (w / 8)

/-- Whether any byte of a range of SRAM lies in a poisoned word. -/
def State.psnRange (s : State) (a n : Nat) : Bool :=
  n ≠ 0 && (List.range ((a + n - 1) / 8 - a / 8 + 1)).any (fun k => s.psnAt (8 * (a / 8 + k)))

/-- The value of an E8M0 scale: 0xFF is NaN (R202, R204). -/
def scaleVal (x : Nat) : FV := if x = 0xFF then .nan else .fin false 1 ((x : Int) - 127)

/-- A[i][k] with its scale. -/
def State.aElem (s : State) (base : Nat) (c : TileCfg) (f : Nat × Nat × Bool × Bool) (a i k : Nat) : FV × FV :=
  let w := (codeWidth f.1).getD 8
  let v := elemDecode f.1 (s.elemAt (base + a + i * c.aStride) w k)
  let sc := if f.2.2.1 then scaleVal (s.mem1 (((base + a : Nat) : Int) + c.aSdelta + i * c.asStride + k / 32).toNat).toNat else .fin false 1 0
  (v, sc)

/-- B[k][j] with its scale (R222). -/
def State.bElem (s : State) (base : Nat) (c : TileCfg) (f : Nat × Nat × Bool × Bool) (b k j : Nat) : FV × FV :=
  let w := (codeWidth f.2.1).getD 8
  let v := elemDecode f.2.1 (if c.bt then s.elemAt (base + b + j * c.bStride) w k else s.elemAt (base + b + k * c.bStride) w j)
  let sc := if f.2.2.1 then scaleVal (s.mem1 (((base + b : Nat) : Int) + c.bSdelta + (k / 32) * c.bsStride + j).toNat).toNat else .fin false 1 0
  (v, sc)

/-- The exact sum of a group's products, with whether an input is NaN and whether a step is invalid (R207, R223). -/
def groupSum : List (FV × FV × FV × FV) → FV × Bool × NumFlags
  | [] => (.fin true 0 0, false, 0)
  | (a, sa, b, sb) :: t =>
    let r := groupSum t
    let p := a.mul b
    let q := p.1.mul sa
    let q' := q.1.mul sb
    let nanIn := decide (a = .nan) || decide (b = .nan) || decide (sa = .nan) || decide (sb = .nan)
    let u := q'.1.add r.1
    (u.1, nanIn || r.2.1, p.2 ||| q.2 ||| q'.2 ||| u.2 ||| r.2.2)

/-- c ← round(c + s) for a binary32 accumulator (R223): flags are raised only where no input is NaN (R210). -/
def accF (c : Lane) (g : FV × Bool × NumFlags) : Lane × NumFlags :=
  if f32 c = .nan ∨ g.2.1 = true then (nanF, 0)
  else
    let u := (f32 c).add g.1
    let r := toF32 u
    (r.1, r.2 ||| (if u.1 = .nan then g.2.2 else 0))

/-- The integer of a finite value. -/
def FV.int : FV → Int
  | .fin n m e => FV.scaled n m e 0
  | _ => 0

/-- c ← round(c + s) for an INT32 accumulator: saturating, with INTSAT (R223). -/
def accI (c : Lane) (s : Int) : Lane × NumFlags :=
  let v := c.toInt + s
  if 2 ^ 31 ≤ v then (0x7FFFFFFF, 4) else if v < -2 ^ 31 then (0x80000000, 4) else (BitVec.ofInt 32 v, 0)

/-- One element of the product in the fixed order of R223. -/
def State.mmElem (s : State) (base : Nat) (c : TileCfg) (f : Nat × Nat × Bool × Bool) (a b i j : Nat) (start : Lane) : Lane × NumFlags :=
  let g := groupOf c.tfmt
  (List.range (c.k / g)).foldl (fun acc n =>
    let l := (List.range g).map (fun q =>
      let k := g * n + q
      let x := s.aElem base c f a i k
      let y := s.bElem base c f b k j
      (x.1, x.2, y.1, y.2))
    let r := if f.2.2.2 then accI acc.1 (l.foldl (fun v e => v + e.1.int * e.2.2.1.int) 0) else accF acc.1 (groupSum l)
    (r.1, acc.2 ||| r.2)) (start, 0)

/-- Whether any byte that a multiply reads is poisoned (R215). -/
def State.mmPsn (s : State) (base : Nat) (c : TileCfg) (f : Nat × Nat × Bool × Bool) (a b : Nat) : Bool :=
  let wa := (codeWidth f.1).getD 8
  let wb := (codeWidth f.2.1).getD 8
  (List.range 32).any (fun i => s.psnRange (base + a + i * c.aStride) (c.k * wa / 8))
    || (if c.bt then (List.range 32).any (fun j => s.psnRange (base + b + j * c.bStride) (c.k * wb / 8))
        else (List.range c.k).any (fun k => s.psnRange (base + b + k * c.bStride) (32 * wb / 8)))
    || (f.2.2.1 && ((List.range 32).any (fun i => s.psnRange (((base + a : Nat) : Int) + c.aSdelta + i * c.asStride).toNat (c.k / 32))
        || (List.range (c.k / 32)).any (fun k => s.psnRange (((base + b : Nat) : Int) + c.bSdelta + k * c.bsStride).toNat 32)))

/-- A row of elements packed into bytes (R218). -/
def packBytes (w : Nat) : List Nat → List Byte
  | [] => []
  | x :: t =>
    if w = 4 then match t with
      | y :: t' => BitVec.ofNat 8 (x % 16 + 16 * (y % 16)) :: packBytes w t'
      | [] => [BitVec.ofNat 8 (x % 16)]
    else plain (leM (w / 8) x) ++ packBytes w t

/-- Perform a tensor operation (R223 to R226): the state after it. -/
def State.runTns (s : State) (c : Nat) (o : TnsOp) : State :=
  let k := s.cl c
  let base := sramAt c 0
  let n := 8 * o.unit + o.ta
  let psn := bitAt k.tapsn n
  match o.kind with
  | .cfg => s
  | .zero => s.setCl c { (k.setTile n zeroTa false) with taInt := putBits k.taInt n 1 0 }
  | .mm a b zero clx =>
    match tfmtOf o.cfg.tfmt with
    | none => s
    | some f =>
      let old := k.tile n
      let r := (List.range 1024).map (fun e => s.mmElem base o.cfg f a b (e / 32) (e % 32) (if zero then 0 else old[e]?.getD 0))
      let t := r.map Prod.fst
      let bad := (o.cfg.k ≠ 0 && s.mmPsn base o.cfg f a b) || (!zero && psn)
      let k := if o.cfg.k = 0 ∧ zero = false then k else (k.setTile n t bad).raise (flagsOf r)
      let k := { k with taInt := putBits k.taInt n 1 f.2.2.2.toNat }
      match clx with
      | none => s.setCl c k
      | some q => s.setCl c (k.setClx q { k.clxAt q with ready := true, data := (k.tile n).map (fun e => (e.toNat, bitAt k.tapsn n)) })
  | .st a ofmt rtz nosat clr =>
    let w := (codeWidth ofmt).getD 32
    let t := k.tile n
    let r := t.map (fun e => elemEncode ofmt rtz nosat (if bitAt k.taInt n then intDecode 32 e.toNat else f32 e))
    let s := s.setCl c (k.raise (flagsOf r))
    let s := (List.range 32).foldl (fun (s : State) i =>
      s.sramWrite (base + a + i * o.cfg.cStride) ((packBytes w (((r.map Prod.fst).drop (32 * i)).take 32)).map (fun b => (b, false)))) s
    if clr then s.modCl c (fun k => k.setTile n zeroTa false) else s
  | .ld a =>
    let t := (List.range 1024).map (fun e => BitVec.ofNat 32 (s.memN (base + a + e / 32 * o.cfg.cStride + e % 32 * 4) 4))
    let bad := (List.range 32).any (fun i => s.psnRange (base + a + i * o.cfg.cStride) 128)
    s.setCl c { (k.setTile n t bad) with taInt := putBits k.taInt n 1 0 }
  | .tov vd r => s.setCl c (k.setV vd (((k.tile n).drop (64 * r)).take 64) psn)
  | .frv va vp r =>
    let t := k.tile n
    s.setCl c { (k.setTile n (t.take (64 * r) ++ va ++ t.drop (64 * r + 64)) (psn || vp)) with taInt := putBits k.taInt n 1 0 }

/-- The tensor operations of a cluster in hand, running and queued. -/
def ClusterSt.tnsAll (k : ClusterSt) : List TnsOp := k.trun.map Prod.snd ++ k.tq.flatMap Prod.snd

/-- Insert by order of issue. -/
def insOp (o : TnsOp) : List TnsOp → List TnsOp
  | [] => [o]
  | h :: t => if o.order < h.order then o :: h :: t else h :: insOp o t

/-- Perform every tensor operation in hand in issue order: what an instruction that reads or writes the same registers or SRAM waits for
(R216, R229). -/
def State.drainTns (s : State) (c : Nat) : State :=
  let k := s.cl c
  if k.trun.isEmpty && k.tq.isEmpty then s
  else
    let ops := k.tnsAll.foldl (fun l o => insOp o l) []
    (ops.foldl (fun s o => s.runTns c o) s).modCl c (fun k => { k with trun := [], tq := [] })

/-- Issue an instruction whose accesses to SRAM, v or ta registers follow those of every tensor operation issued before it. -/
def State.issueAfter (s : State) (x : Iss) (enc : Nat) (f : State → State) : State :=
  s.issue x enc (fun s => f (s.drainTns x.c))

/-- Issue an instruction that names v registers (a mask): the scoreboard holds it back while a collective still has to write one (R404). -/
def State.issueV (s : State) (x : Iss) (enc vs : Nat) (f : State → State) : State :=
  s.issueAfter x enc (fun s => if (s.cl x.c).vBusy &&& vs = 0 then f s else s)

end Sys2Proof.Machine
end

