-- ==== Sys2Proof/Machine/MemIns.lean ====
section
/-! DEFINITION. Machine/MemIns.lean: branches, own-SRAM loads and stores, and atomics (R173 to R176, R201, R215). -/

namespace Sys2Proof.Machine

/-- Go to a target, which must be a multiple of 4 in the code range; else the branch faults and changes nothing (R173). `k` is the cluster's
state with any link written. -/
def State.branchTo (s : State) (x : Iss) (k : ClusterSt) (t : Word) : State :=
  let n := t.toNat
  if n % 4 ≠ 0 then s.fault x (Code.addr 2) n
  else if n < k.codeBase ∨ k.codeLim ≤ n then s.fault x (Code.addr 4) n
  else s.setCl x.c { k with pc := n }

/-- PC plus a byte distance. -/
def ClusterSt.pcRel (k : ClusterSt) (d : Int) : Word := BitVec.ofInt 64 ((k.pc : Int) + d)

/-- BR.JR (R173). -/
def execBrJr (x : Iss) (ra : Fin 64) (s : State) : Host.Outcome State Fault Refusal :=
  .next (s.issue x 0 (fun s => s.branchTo x (s.cl x.c) ((s.cl x.c).gr ra)))

/-- BR.JALR: the target is read before the link is written (R173). -/
def execBrJalr (x : Iss) (rd ra : Fin 64) (s : State) : Host.Outcome State Fault Refusal :=
  .next (s.issue x 0 (fun s =>
    let k := s.cl x.c
    s.branchTo x (k.setG rd (BitVec.ofNat 64 (k.pc + ilen x.long))) (k.gr ra)))

/-- BR.BC: a 14-bit offset in words; a false condition checks no target (R173). -/
def execBrBc (x : Iss) (p : Fin 8) (inv : Bool) (off : BitVec 14) (s : State) : Host.Outcome State Fault Refusal :=
  .next (s.issue x 0 (fun s =>
    let k := s.cl x.c
    if xor (k.pr p) inv then s.branchTo x k (k.pcRel (off.toInt * 4)) else s.pass x))

/-- BR.J (R173). -/
def execBrJ (x : Iss) (off : BitVec 24) (s : State) : Host.Outcome State Fault Refusal :=
  .next (s.issue x 0 (fun s => s.branchTo x (s.cl x.c) ((s.cl x.c).pcRel (off.toInt * 4))))

/-- BR.JAL: the link is PC + 8 (R173). -/
def execBrJal (x : Iss) (rd : Fin 64) (off : BitVec 24) (s : State) : Host.Outcome State Fault Refusal :=
  .next (s.issue x 0 (fun s =>
    let k := s.cl x.c
    s.branchTo x (k.setG rd (BitVec.ofNat 64 (k.pc + 8))) (k.pcRel (off.toInt * 4))))

/-- The own-SRAM offset of a load or store: g[ra] + IMM × scale, as a signed number (R174). -/
def ClusterSt.memOff (k : ClusterSt) (ra : Nat) (imm : BitVec 24) (scale : Nat) : Int := (k.gr ra + immS imm * BitVec.ofNat 64 scale).toInt

/-- The code that stops an access of n bytes at an offset with an alignment (R174); an aligned vector access that crosses the end of own SRAM lies
outside it (DEDUCED, log 62). -/
def sramCode (off : Int) (n align : Nat) : Nat :=
  if off < 0 ∨ 0x400000 ≤ off then Code.addr 3 else if off % align ≠ 0 then Code.addr 2 else if 0x400000 < off + n then Code.addr 3 else 0

/-- Whether n bytes at an own-SRAM offset touch the code range (R162). -/
def ClusterSt.hitsCode (k : ClusterSt) (off n : Nat) : Bool := decide (off < k.codeLim) && decide (k.codeBase < off + n)

/-- A scalar load (R174, R201): w bytes, sign-extended or zero-extended. -/
def State.load (s : State) (x : Iss) (rd ra : Nat) (imm : BitVec 24) (w : Nat) (signed : Bool) : State :=
  s.issueAfter x 0 (fun s =>
    let k := s.cl x.c
    let off := k.memOff ra imm w
    let c := sramCode off w w
    let addr := (BitVec.ofInt 64 off).toNat
    if c ≠ 0 then s.fault x c addr
    else
      let a := sramAt x.c off.toNat
      if s.psnRange a w then s.fault x (Code.poison 1) addr
      else
        let v := s.memN a w
        s.done x (k.setG rd (if signed then BitVec.ofInt 64 (toSigned (8 * w) v) else BitVec.ofNat 64 v)))

/-- A scalar store (R162, R174). -/
def State.store (s : State) (x : Iss) (rd ra : Nat) (imm : BitVec 24) (w : Nat) : State :=
  s.issueAfter x 0 (fun s =>
    let k := s.cl x.c
    let off := k.memOff ra imm w
    let c := sramCode off w w
    let addr := (BitVec.ofInt 64 off).toNat
    if c ≠ 0 then s.fault x c addr
    else if k.hitsCode off.toNat w then s.fault x (Code.perm 1) addr
    else (s.sramWrite (sramAt x.c off.toNat) (leM w (k.gr rd).toNat)).pass x)

/-- The words of 256 bytes as 64 lanes, lane k from bytes 4k to 4k + 3 (R174). -/
def State.lanesAt (s : State) (a : Nat) : List Lane := (List.range 64).map (fun k => BitVec.ofNat 32 (s.memN (a + 4 * k) 4))

/-- LD.V: it cannot load poisoned data, and clears the register's mark (R174, R201, R215). -/
def execLdV (x : Iss) (rd : Fin 32) (ra : Fin 64) (imm : BitVec 24) (s : State) : Host.Outcome State Fault Refusal :=
  .next (s.issueV x 0 (2 ^ (rd : Nat)) (fun s =>
    let k := s.cl x.c
    let off := k.memOff ra imm 64
    let c := sramCode off 256 64
    let addr := (BitVec.ofInt 64 off).toNat
    if c ≠ 0 then s.fault x c addr
    else if s.psnRange (sramAt x.c off.toNat) 256 then s.fault x (Code.poison 1) addr
    else s.done x (k.setV rd (s.lanesAt (sramAt x.c off.toNat)) false)))

/-- ST.V: a poisoned register faults and nothing is written (R174, R215). -/
def execStV (x : Iss) (rd : Fin 32) (ra : Fin 64) (imm : BitVec 24) (s : State) : Host.Outcome State Fault Refusal :=
  .next (s.issueV x 0 (2 ^ (rd : Nat)) (fun s =>
    let k := s.cl x.c
    let off := k.memOff ra imm 64
    let c := sramCode off 256 64
    let addr := (BitVec.ofInt 64 off).toNat
    if c ≠ 0 then s.fault x c addr
    else if k.hitsCode off.toNat 256 then s.fault x (Code.perm 1) addr
    else if bitAt k.vpsn rd then s.fault x (Code.poison 1)
    else (s.sramWrite (sramAt x.c off.toNat) ((k.vr rd).flatMap (fun l => leM 4 l.toNat))).pass x))

/-- The operation of an atomic on the old value (R175): 0 ADD to 10 FADD; CAS compares with `cmp`. -/
def atomicOp (op n old v cmp : Nat) : Nat :=
  let w := 8 * n
  let sOld := toSigned w old
  let sV := toSigned w v
  match op with
  | 0 => (old + v) % 2 ^ w
  | 1 => old &&& (v % 2 ^ w)
  | 2 => old ||| (v % 2 ^ w)
  | 3 => old ^^^ (v % 2 ^ w)
  | 4 => if sV < sOld then v % 2 ^ w else old
  | 5 => if sOld < sV then v % 2 ^ w else old
  | 6 => if v % 2 ^ w < old then v % 2 ^ w else old
  | 7 => if old < v % 2 ^ w then v % 2 ^ w else old
  | 8 => v % 2 ^ w
  | 9 => if old = cmp % 2 ^ w then v % 2 ^ w else old
  | _ => (addF (BitVec.ofNat 32 old) (BitVec.ofNat 32 v)).1.toNat

/-- The targets an atomic may have besides what accCode refuses (R175): SRAM, scratch and HBM. -/
def atomicTarget (a : Nat) : Bool :=
  match regionOf a with
  | .regs => false
  | _ => true

/-- An atomic at its home (R175, R38): code, and the old value on success. A poisoned word faults with POISON and is not written (R201, R635;
DEDUCED, log 21). -/
def State.atomicAt (s : State) (part : Option Nat) (d a op n v cmp : Nat) : State × Nat × Nat :=
  if a % n ≠ 0 then (s, Code.addr 2, 0)
  else if s.isAssumed d = false ∧ atomicTarget a = false then (s, Code.addr 1, 0)
  else
    let r := s.readAs part false d a n
    if r.2.1 ≠ 0 then (s, r.2.1, 0)
    else
      let cw := if s.isAssumed d then 0 else s.accCode part true a n
      if cw ≠ 0 then (s, cw, 0)
      else if anyPsn r.2.2 then (r.1, Code.poison 1, 0)
      else
        let old := numL r.2.2
        let new := atomicOp op n old v cmp
        if op = 9 ∧ old ≠ cmp % 2 ^ (8 * n) then (r.1, 0, old)
        else
          let w := r.1.writeAs part false d a (leM n new)
          (w.1, w.2, old)

/-- AMO.W and AMO.D (R175 to R177, R382): performed at the home of the address; a remote one waits for its response. -/
def State.amo (s : State) (x : Iss) (rd ra rb : Nat) (op : Nat) (n : Nat) : State :=
  s.issueAfter x (if 10 < op ∨ (op = 10 ∧ n = 8) then Code.format 1 else 0) (fun s =>
    let k := s.cl x.c
    let a := (k.gr ra).toNat
    let d := a / 2 ^ 48
    let l := a % 2 ^ 48
    let v := (k.gr rb).toNat
    let cmp := (k.gr rd).toNat
    if d = 0xFFFF then s.fault x (Code.addr 5) a
    else if a % n ≠ 0 then s.fault x (Code.addr 2) a
    else if s.answersFor d then
      let r := s.atomicAt (s.cluReq x.c) d l op n v cmp
      if r.2.1 ≠ 0 then r.1.fault x r.2.1 a else r.1.done x ((r.1.cl x.c).setG rd (BitVec.ofNat 64 r.2.2))
    else if s.idCode d ≠ 0 then s.fault x (s.idCode d) a
    else
      let p := (s.cluPart x.c).getD 16
      (s.hold x (.amo rd n)).remote (.amo x.c) p d false (s.pktAtomic p d l op (decide (n = 8)) v cmp))

/-- AMO.W (R175). -/
def execAmoW (x : Iss) (rd ra rb : Fin 64) (op : BitVec 4) (s : State) : Host.Outcome State Fault Refusal :=
  .next (s.amo x rd ra rb op.toNat 4)

/-- AMO.D (R175). -/
def execAmoD (x : Iss) (rd ra rb : Fin 64) (op : BitVec 4) (s : State) : Host.Outcome State Fault Refusal :=
  .next (s.amo x rd ra rb op.toNat 8)

/-- LD.B (R174). -/
def execLdB (x : Iss) (rd ra : Fin 64) (imm : BitVec 24) (s : State) : Host.Outcome State Fault Refusal :=
  .next (s.load x rd ra imm 1 true)

/-- LD.BU (R174). -/
def execLdBu (x : Iss) (rd ra : Fin 64) (imm : BitVec 24) (s : State) : Host.Outcome State Fault Refusal :=
  .next (s.load x rd ra imm 1 false)

/-- LD.H (R174). -/
def execLdH (x : Iss) (rd ra : Fin 64) (imm : BitVec 24) (s : State) : Host.Outcome State Fault Refusal :=
  .next (s.load x rd ra imm 2 true)

/-- LD.HU (R174). -/
def execLdHu (x : Iss) (rd ra : Fin 64) (imm : BitVec 24) (s : State) : Host.Outcome State Fault Refusal :=
  .next (s.load x rd ra imm 2 false)

/-- LD.W (R174). -/
def execLdW (x : Iss) (rd ra : Fin 64) (imm : BitVec 24) (s : State) : Host.Outcome State Fault Refusal :=
  .next (s.load x rd ra imm 4 true)

/-- LD.WU (R174). -/
def execLdWu (x : Iss) (rd ra : Fin 64) (imm : BitVec 24) (s : State) : Host.Outcome State Fault Refusal :=
  .next (s.load x rd ra imm 4 false)

/-- LD.D (R174). -/
def execLdD (x : Iss) (rd ra : Fin 64) (imm : BitVec 24) (s : State) : Host.Outcome State Fault Refusal :=
  .next (s.load x rd ra imm 8 true)

/-- ST.B (R174). -/
def execStB (x : Iss) (rd ra : Fin 64) (imm : BitVec 24) (s : State) : Host.Outcome State Fault Refusal :=
  .next (s.store x rd ra imm 1)

/-- ST.H (R174). -/
def execStH (x : Iss) (rd ra : Fin 64) (imm : BitVec 24) (s : State) : Host.Outcome State Fault Refusal :=
  .next (s.store x rd ra imm 2)

/-- ST.W (R174). -/
def execStW (x : Iss) (rd ra : Fin 64) (imm : BitVec 24) (s : State) : Host.Outcome State Fault Refusal :=
  .next (s.store x rd ra imm 4)

/-- ST.D (R174). -/
def execStD (x : Iss) (rd ra : Fin 64) (imm : BitVec 24) (s : State) : Host.Outcome State Fault Refusal :=
  .next (s.store x rd ra imm 8)

end Sys2Proof.Machine
end

