-- ==== Sys2Proof/Machine/Sync.lean ====
section
/-! DEFINITION. Machine/Sync.lean: semaphores, signals, fabric-time waits and completion posts (R181 to R186, R191, R200). -/

namespace Sys2Proof.Machine

/-- A signal applied to a count: saturating at 0xFFFF_FFFF, which sets OVF (R181). -/
def Sem.add (x : Sem) (v : Nat) : Sem :=
  if x.count + v < 2 ^ 32 then { x with count := x.count + v } else { x with count := 2 ^ 32 - 1, ovf := true }

/-- A signal applied to a cluster's semaphore (R181). -/
def State.signalSem (s : State) (c n v : Nat) : State := s.modCl c (fun k => k.setSem n ((k.semAt n).add v))

/-- POISON set on a cluster's semaphore (R180). -/
def State.poisonSem (s : State) (c n : Nat) : State := s.modCl c (fun k => k.setSem n { k.semAt n with psn := true })

/-- The code that refuses a signal of a partition to a cluster of this device: PERM 0x03 outside the partition, BUSY 0x12 in island reset
(R136, R182). -/
def State.sigCode (s : State) (part : Option Nat) (c : Nat) : Nat :=
  if part ≠ none ∧ s.cluPart c ≠ part then Code.perm 3
  else if s.islResetting (s.cluIsland c) then Code.busy 0x12 else 0

/-- A remote signal of a cluster has failed: counted, its code kept in order (R182, R200). -/
def ClusterSt.sigFailed (k : ClusterSt) (code : Nat) : ClusterSt := { k with sigerr := k.sigerr + 1, sigCodes := k.sigCodes ++ [code] }

/-- A signal of a cluster is resolved with a code. -/
def State.sigResolved (s : State) (c code : Nat) : State :=
  s.modCl c (fun k =>
    let k := { k with sigOut := k.sigOut - 1 }
    if code = 0 then k else k.sigFailed code)

/-- CTL.FINFO of a background fault (R197): BG, INDEX, CLX and ORIG. -/
def bgInfo (index : Nat) (clx : Bool) (orig : Nat) : Nat := 4 + 8 * index + clx.toNat * 512 + orig * 65536

/-- Raise the oldest failed signal as a background fault (R200). -/
def State.raiseSig (s : State) (c : Nat) (long : Bool) : State :=
  let k := s.cl c
  let code := k.sigCodes.headD 0
  (s.setCl c { k with sigerr := k.sigerr - 1, sigCodes := k.sigCodes.tail }).deliver c long code 0 (bgInfo 0 false code)

/-- SYN.SIGL (R181). -/
def execSynSigl (x : Iss) (sem : Fin 64) (imm : BitVec 24) (s : State) : Host.Outcome State Fault Refusal :=
  .next (s.issueAfter x 0 (fun s => (s.signalSem x.c sem imm.toNat).pass x))

/-- SYN.SIG (R181, R182): within the device the signal travels through the crossings until SIGNAL_ARRIVE; to another device it takes a context.
A nonzero reserved bit of the semaphore name faults with FORMAT 0x02 (DEDUCED, log 22). -/
def execSynSig (x : Iss) (ra rb : Fin 64) (s : State) : Host.Outcome State Fault Refusal :=
  .next (s.issueAfter x 0 (fun s =>
    let k := s.cl x.c
    let a := (k.gr ra).toNat
    let d := a / 2 ^ 48
    let v := (k.gr rb).toNat % 2 ^ 32
    let c := bitsAt a 8 8
    let n := bitsAt a 0 6
    if d = 0xFFFF then s.fault x (Code.addr 5) a
    else if bitsAt a 16 32 ≠ 0 ∨ bitsAt a 6 2 ≠ 0 then s.fault x (Code.format 2) a
    else
      let s := s.done x { k with sigOut := k.sigOut + 1 }
      if s.idCode d ≠ 0 then s.sigResolved x.c (s.idCode d)
      else if s.isAssumed d then s.sigResolved x.c (Code.takeover 3)
      else if s.answersFor d then
        { s with quartz := { s.quartz with sigs := s.quartz.sigs ++ [⟨x.c, c, n, v⟩] } }
      else
        let p := (s.cluPart x.c).getD 16
        s.remote (.sig x.c) p d false (s.pktSignal p d c n v false)))

/-- Take the first signal for a semaphore out of a list. -/
def takeSig (c n : Nat) : List SigMsg → Option (SigMsg × List SigMsg)
  | [] => none
  | m :: t => if m.dst = c ∧ m.sem = n then some (m, t)
    else (takeSig c n t).map (fun r => (r.1, m :: r.2))

/-- SIGNAL_ARRIVE (R181, R182): the oldest signal on its way to a semaphore reaches it: applied whole, or refused. -/
def execSignalArrive (c : Clu) (sem : Fin 64) (s : State) : Host.Outcome State Fault Refusal :=
  match takeSig c sem s.quartz.sigs with
  | none => .next s
  | some (m, rest) =>
    let s := { s with quartz := { s.quartz with sigs := rest } }
    let code := s.sigCode (s.cluReq m.src) c
    if code ≠ 0 then .next (s.sigResolved m.src code) else .next ((s.signalSem c sem m.value).sigResolved m.src 0)

/-- Raise POISON 0x02 of a semaphore and clear its flag (R183). -/
def State.raiseSemPsn (s : State) (c n : Nat) (long : Bool) : State :=
  (s.modCl c (fun k => k.setSem n { k.semAt n with psn := false })).deliver c long (Code.poison 2) 0 (8 * n)

/-- SYN.WAIT (R183, R188). -/
def execSynWait (x : Iss) (sem : Fin 64) (imm : BitVec 24) (s : State) : Host.Outcome State Fault Refusal :=
  .next (s.issue x 0 (fun s =>
    let k := s.cl x.c
    let m := k.semAt sem
    if m.psn then s.raiseSemPsn x.c sem x.long
    else if imm.toNat ≤ m.count then s.done x (k.setSem sem { m with count := m.count - imm.toNat })
    else s.hold x (.sem sem imm.toNat s.now)))

/-- SYN_WAIT_SATISFIED (R183, R184): the count has reached what the wait needs, or POISON was set while it waits. -/
def execSynWaitSatisfied (c : Clu) (s : State) : Host.Outcome State Fault Refusal :=
  let k := s.cl c
  match k.wait with
  | some (.sem n need _) =>
    let m := k.semAt n
    if m.psn then .next (s.raiseSemPsn c n k.waitLong)
    else if need ≤ m.count then .next ((s.setCl c (k.setSem n { m with count := m.count - need })).finish c)
    else .next s
  | _ => .next s

/-- SYN_WAIT_TIMEOUT (R183): a limit of 0 is no limit; the count stays. -/
def execSynWaitTimeout (c : Clu) (s : State) : Host.Outcome State Fault Refusal :=
  let k := s.cl c
  match k.wait with
  | some (.sem n need _) =>
    if k.waitLim = 0 ∨ ((k.semAt n).psn = false ∧ need ≤ (k.semAt n).count) then .next s
    else if (k.semAt n).psn then .next (s.raiseSemPsn c n k.waitLong)
    else .next (s.faultWait c (Code.timeout 0) 0 (8 * n))
  | _ => .next s

/-- SYN.TRY (R183, R188). -/
def execSynTry (x : Iss) (rd : Fin 8) (sem : Fin 64) (imm : BitVec 24) (s : State) : Host.Outcome State Fault Refusal :=
  .next (s.issue x 0 (fun s =>
    let k := s.cl x.c
    let m := k.semAt sem
    if m.psn then s.raiseSemPsn x.c sem x.long
    else if imm.toNat ≤ m.count then s.done x ((k.setSem sem { m with count := m.count - imm.toNat }).setP rd true)
    else s.done x (k.setP rd false)))

/-- SYN.TWAIT (R186). -/
def execSynTwait (x : Iss) (ra : Fin 64) (s : State) : Host.Outcome State Fault Refusal :=
  .next (s.issue x 0 (fun s =>
    let t := ((s.cl x.c).gr ra).toNat
    if s.time.ft + 2 ^ 36 < t then s.fault x (Code.format 5)
    else if t ≤ s.time.ft then s.pass x
    else s.hold x (.time t)))

/-- SYN_TWAIT_EXPIRE (R186): the counter has reached the target. -/
def execSynTwaitExpire (c : Clu) (s : State) : Host.Outcome State Fault Refusal :=
  match (s.cl c).wait with
  | some (.time t) => if t ≤ s.time.ft then .next (s.finish c) else .next s
  | _ => .next s

/-- SYN.DRAIN (R182, R200). -/
def execSynDrain (x : Iss) (s : State) : Host.Outcome State Fault Refusal :=
  .next (s.issue x 0 (fun s =>
    let k := s.cl x.c
    if k.sigOut ≠ 0 then s.hold x .drain
    else if k.sigerr ≠ 0 then s.raiseSig x.c x.long
    else s.pass x))

/-- SYN_DRAIN_DONE (R182, R200). -/
def execSynDrainDone (c : Clu) (s : State) : Host.Outcome State Fault Refusal :=
  let k := s.cl c
  match k.wait with
  | some .drain =>
    if k.sigOut ≠ 0 then .next s
    else if k.sigerr ≠ 0 then .next (s.raiseSig c k.waitLong)
    else .next (s.finish c)
  | _ => .next s

/-- The KIND 2 completion entry of SYN.POST (R185, R501). -/
def State.postValue (s : State) (c v : Nat) : State :=
  let k := s.cl c
  s.cqPost k.ring { tag := k.tag, code := 0, kind := 2, cluster := c, fpc := 0, value := v, finfo := 0, noirq := s.launchNoirq k }

/-- A live ring with no room holds SYN.POST (R185, R503). -/
def State.postBlocked (s : State) (r : Nat) : Bool := s.ringLive r && (s.ringFull r || !(s.ringSt r).waiting.isEmpty)

/-- SYN.POST (R185, R511). -/
def execSynPost (x : Iss) (ra : Fin 64) (s : State) : Host.Outcome State Fault Refusal :=
  .next (s.issue x 0 (fun s =>
    let k := s.cl x.c
    let v := (k.gr ra).toNat
    if s.postBlocked k.ring then s.hold x (.post v) else (s.postValue x.c v).pass x))

/-- SYN_POST_RESUME (R185): room has appeared, or the ring no longer takes entries. -/
def execSynPostResume (c : Clu) (s : State) : Host.Outcome State Fault Refusal :=
  let k := s.cl c
  match k.wait with
  | some (.post v) => if s.postBlocked k.ring then .next s else .next ((s.postValue c v).finish c)
  | _ => .next s

/-- SYN.RDSEM (R184). -/
def execSynRdsem (x : Iss) (rd sem : Fin 64) (s : State) : Host.Outcome State Fault Refusal :=
  .next (s.issue x 0 (fun s => s.done x ((s.cl x.c).setG rd (BitVec.ofNat 64 ((s.cl x.c).semAt sem).count))))

end Sys2Proof.Machine
end

