-- ==== Sys2Proof/Machine/Tensor.lean ====
section
/-! DEFINITION. Machine/Tensor.lean: the issue of the TNS instructions, the queues of the tensor units, and the start and end of their
operations (R214, R216, R222 to R229, R233). -/

namespace Sys2Proof.Machine

/-- A row of bytes of own SRAM: its first offset, which a scale row may have below 0, and its length. -/
abbrev Row := Int × Nat

/-- Rows of n bytes, a stride apart. -/
def rowsOf (base : Int) (rows stride n : Nat) : List Row := (List.range rows).map (fun (i : Nat) => (base + (i * stride : Nat), n))

/-- The rows a multiply reads: A, B and for MX formats their scales (R222); none with K = 0 (R226). -/
def TileCfg.mmRows (c : TileCfg) (f : Nat × Nat × Bool × Bool) (a b : Nat) : List Row :=
  let wa := (codeWidth f.1).getD 8
  let wb := (codeWidth f.2.1).getD 8
  if c.k = 0 then []
  else
    rowsOf a 32 c.aStride (c.k * wa / 8)
      ++ (if c.bt then rowsOf b 32 c.bStride (c.k * wb / 8) else rowsOf b c.k c.bStride (4 * wb))
      ++ (if f.2.2.1 then rowsOf ((a : Int) + c.aSdelta) 32 c.asStride (c.k / 32) ++ rowsOf ((b : Int) + c.bSdelta) (c.k / 32) c.bsStride 32
          else [])

/-- The rows of C for elements of w bits. -/
def TileCfg.cRows (c : TileCfg) (a w : Nat) : List Row := rowsOf a 32 c.cStride (4 * w)

/-- The rows an operation reads. -/
def TnsOp.reads (o : TnsOp) : List Row :=
  match o.kind with
  | .mm a b _ _ => match tfmtOf o.cfg.tfmt with
    | some f => o.cfg.mmRows f a b
    | none => []
  | .ld a => o.cfg.cRows a 32
  | _ => []

/-- The rows an operation writes. -/
def TnsOp.writes (o : TnsOp) : List Row :=
  match o.kind with
  | .st a f _ _ _ => o.cfg.cRows a ((codeWidth f).getD 32)
  | _ => []

/-- Whether two lists of rows overlap. -/
def rowsMeet (l m : List Row) : Bool :=
  l.any (fun p => m.any (fun q => decide (p.1 < q.1 + q.2) && decide (q.1 < p.1 + p.2)))

/-- Whether an operation must wait for another in hand that was issued before it (R216). -/
def TnsOp.after (o e : TnsOp) : Bool :=
  decide (e.order < o.order) && (rowsMeet e.writes o.reads || rowsMeet e.writes o.writes || rowsMeet e.reads o.writes)

/-- A row outside own SRAM (R224 check 4). -/
def rowOut (r : Row) : Bool := decide (r.2 ≠ 0) && (decide (r.1 < 0) || decide (0x400000 < r.1 + r.2))

/-- Check 3 of R224: the first value that is no multiple of 16. -/
def misaligned16 (l : List Int) : Option Int := l.find? (fun v => decide (v % 16 ≠ 0))

/-- The code and address of checks 3 and 4 (R224). -/
def rowsCode (vals : List Int) (rows : List Row) : Nat × Nat :=
  match misaligned16 vals with
  | some v => (Code.addr 2, (BitVec.ofInt 64 v).toNat)
  | none => match rows.find? rowOut with
    | some r => (Code.addr 3, (BitVec.ofInt 64 r.1).toNat)
    | none => (0, 0)

/-- The values that check 3 covers for A and B: addresses and strides, those of the scales included for MX formats (DEDUCED, log 23). -/
def TileCfg.mmVals (c : TileCfg) (f : Nat × Nat × Bool × Bool) (a b : Nat) : List Int :=
  [(a : Int), b, c.aStride, c.bStride]
    ++ (if f.2.2.1 then [(a : Int) + c.aSdelta, (b : Int) + c.bSdelta, c.asStride, c.bsStride] else [])

/-- Checks 3 and 4 of a multiply. -/
def TileCfg.mmCode (c : TileCfg) (a b : Nat) : Nat × Nat :=
  match tfmtOf c.tfmt with
  | none => (Code.format 7, 0)
  | some f => rowsCode (c.mmVals f a b) (c.mmRows f a b)

/-- The queue of a unit. -/
def ClusterSt.queue (k : ClusterSt) (u : Nat) : List TnsOp := SMap.get k.tq [] u

/-- The units an operation enters: for TMM.CFG the mask that `ta` holds. -/
def TnsOp.units (o : TnsOp) : List Nat :=
  match o.kind with
  | .cfg => (List.range 4).filter (fun u => bitAt o.ta u)
  | _ => [o.unit]

/-- Whether every unit of an operation has a free place among its four (R227). -/
def ClusterSt.room (k : ClusterSt) (o : TnsOp) : Bool := o.units.all (fun u => decide ((k.queue u).length < 4))

/-- An operation enters its queues; TMM.CFG sets the issue-side copy of each unit it names (R224). -/
def ClusterSt.push (k : ClusterSt) (o : TnsOp) : ClusterSt :=
  let o := { o with order := k.order }
  let k := o.units.foldl (fun k u => { k with tq := SMap.set k.tq [] u (k.queue u ++ [{ o with unit := u }]) }) { k with order := k.order + 1 }
  match o.kind with
  | .cfg => o.units.foldl (fun k u => { k with cfg := SMap.put k.cfg u o.cfg }) k
  | _ => k

/-- Issue an operation that has passed its checks: into its queue, or a wait at issue while that is full (R227). -/
def State.tnsPush (s : State) (x : Iss) (o : TnsOp) : State :=
  let k := s.cl x.c
  if k.room o then s.done x (k.push o) else s.hold x (.tns o)

/-- Where a 64-byte descriptor may lie, and its poison (R224 check 1, R635). -/
def State.tileDescCode (s : State) (c off : Nat) : Nat :=
  if 0x400000 < off + 64 then Code.addr 3
  else if off % 64 ≠ 0 then Code.addr 2
  else if s.psnRange (sramAt c off) 64 then Code.poison 1
  else 0

/-- The tile configuration that a descriptor gives, or its code (checks 1 of R224, R233, R635). -/
def State.tileDesc (s : State) (c off : Nat) : Nat × TileCfg :=
  let none' : TileCfg := ⟨0, false, 0, 0, 0, 0, 0, 0, 0, 0⟩
  let e := s.tileDescCode c off
  if e ≠ 0 then (e, none')
  else
    let a := sramAt c off
    let t : TileCfg :=
      { tfmt := s.memN a 1, bt := bitAt (s.memN (a + 1) 1) 0, k := s.memN (a + 2) 2, aStride := s.memN (a + 4) 4,
        bStride := s.memN (a + 8) 4, cStride := s.memN (a + 12) 4, aSdelta := toSigned 32 (s.memN (a + 16) 4),
        bSdelta := toSigned 32 (s.memN (a + 20) 4), asStride := s.memN (a + 24) 4, bsStride := s.memN (a + 28) 4 }
    if s.memN (a + 1) 1 / 2 ≠ 0 ∨ s.memN (a + 32) 32 ≠ 0 then (Code.format 2, t)
    else if (tfmtOf t.tfmt).isNone then (Code.format 6, t)
    else if 4096 < t.k ∨ t.k % 32 ≠ 0 then (Code.format 7, t)
    else (0, t)

/-- TMM.CFG (R224). -/
def execTmmCfg (x : Iss) (ra : Fin 64) (imm : BitVec 24) (s : State) : Host.Outcome State Fault Refusal :=
  let x := { x with res := x.res || decide (16 ≤ imm.toNat) }
  .next (s.issueAfter x 0 (fun s =>
    let off := ((s.cl x.c).gr ra).toNat
    let d := s.tileDesc x.c off
    if d.1 ≠ 0 then s.fault x d.1 off
    else s.tnsPush x { unit := 0, ta := imm.toNat, kind := .cfg, cfg := d.2, order := 0 }))

/-- Issue a unit's operation under its issue-side configuration; without a valid one it faults with FORMAT 0x07 (R224 check 2). -/
def State.withCfg (s : State) (x : Iss) (u : Nat) (f : TileCfg → State) : State :=
  match SMap.find (s.cl x.c).cfg u with
  | none => s.fault x (Code.format 7)
  | some c => f c

/-- TMM.MM (R222 to R226). -/
def execTmmMm (x : Iss) (ra rb : Fin 64) (imm : BitVec 24) (s : State) : Host.Outcome State Fault Refusal :=
  let i := imm.toNat
  let x := { x with res := x.res || decide (2 ^ 6 ≤ i) }
  .next (s.issue x 0 (fun s => s.withCfg x (bitsAt i 3 2) (fun c =>
    let a := ((s.cl x.c).gr ra).toNat
    let b := ((s.cl x.c).gr rb).toNat
    let e := c.mmCode a b
    if e.1 ≠ 0 then s.fault x e.1 e.2
    else s.tnsPush x { unit := bitsAt i 3 2, ta := bitsAt i 0 3, kind := .mm a b (bitAt i 5) none, cfg := c, order := 0 })))

/-- The mark a tile has once every operation in hand is done. -/
def State.tileMark (s : State) (c n : Nat) : Bool := bitAt ((s.drainTns c).cl c).tapsn n

/-- TMM.ST (R215, R224, R225, R228). -/
def execTmmSt (x : Iss) (ra : Fin 64) (imm : BitVec 24) (s : State) : Host.Outcome State Fault Refusal :=
  let i := imm.toNat
  let x := { x with res := x.res || decide (2 ^ 12 ≤ i) }
  let f := bitsAt i 5 4
  .next (s.issue x 0 (fun s =>
    let u := bitsAt i 3 2
    match codeWidth f with
    | none => s.fault x (Code.format 6)
    | some w =>
      if f = 11 then s.fault x (Code.format 6)
      else if bitsAt i 9 2 ≠ 0 ∧ s.cluExpert x.c = false then s.fault x (Code.perm 2)
      else s.withCfg x u (fun c =>
        let k := s.cl x.c
        let a := (k.gr ra).toNat
        let e := rowsCode [(a : Int), c.cStride] (c.cRows a w)
        if e.1 ≠ 0 then s.fault x e.1 e.2
        else match (c.cRows a w).find? (fun r => k.hitsCode r.1.toNat r.2) with
          | some r => s.fault x (Code.perm 1) r.1.toNat
          | none =>
            if s.tileMark x.c (8 * u + bitsAt i 0 3) then s.fault x (Code.poison 1)
            else s.tnsPush x { unit := u, ta := bitsAt i 0 3, kind := .st a f (bitAt i 9) (bitAt i 10) (bitAt i 11), cfg := c, order := 0 })))

/-- TMM.LD (R225). -/
def execTmmLd (x : Iss) (ra : Fin 64) (imm : BitVec 24) (s : State) : Host.Outcome State Fault Refusal :=
  let i := imm.toNat
  let x := { x with res := x.res || decide (2 ^ 5 ≤ i) }
  .next (s.issue x 0 (fun s => s.withCfg x (bitsAt i 3 2) (fun c =>
    let a := ((s.cl x.c).gr ra).toNat
    let e := rowsCode [(a : Int), c.cStride] (c.cRows a 32)
    if e.1 ≠ 0 then s.fault x e.1 e.2
    else s.tnsPush x { unit := bitsAt i 3 2, ta := bitsAt i 0 3, kind := .ld a, cfg := c, order := 0 })))

/-- An operation that uses no configuration. -/
def plainOp (u t : Nat) (k : TnsKind) : TnsOp := { unit := u, ta := t, kind := k, cfg := ⟨0, false, 0, 0, 0, 0, 0, 0, 0, 0⟩, order := 0 }

/-- TMM.ZERO (R214). -/
def execTmmZero (x : Iss) (ta : Fin 8) (unit : Fin 4) (s : State) : Host.Outcome State Fault Refusal :=
  .next (s.issue x 0 (fun s => s.tnsPush x (plainOp unit ta .zero)))

/-- Issue a move between a tile and a v register: the scoreboard holds it back while a collective still writes the register (R169, R404). -/
def State.issueMove (s : State) (x : Iss) (i v : Nat) (f : State → TnsKind) : State :=
  let x := { x with res := x.res || decide (2 ^ 9 ≤ i) }
  s.issue x 0 (fun s => if bitAt (s.cl x.c).vBusy v then s else s.tnsPush x (plainOp (bitsAt i 3 2) (bitsAt i 0 3) (f s)))

/-- TMM.TOV (R225). -/
def execTmmTov (x : Iss) (vd : Fin 32) (imm : BitVec 24) (s : State) : Host.Outcome State Fault Refusal :=
  .next (s.issueMove x imm.toNat vd (fun _ => .tov vd (bitsAt imm.toNat 5 4)))

/-- TMM.FRV: va is read at issue, after any operation in hand that writes it (R216, R225). -/
def execTmmFrv (x : Iss) (va : Fin 32) (imm : BitVec 24) (s : State) : Host.Outcome State Fault Refusal :=
  .next (s.issueMove x imm.toNat va (fun s =>
    let k := (s.drainTns x.c).cl x.c
    .frv (k.vr va) (bitAt k.vpsn va) (bitsAt imm.toNat 5 4)))

/-- TNS_QUEUE_ROOM (R227): the instruction that waits at issue enters the queue. -/
def execTnsQueueRoom (c : Clu) (s : State) : Host.Outcome State Fault Refusal :=
  let k := s.cl c
  match k.wait with
  | some (.tns o) => if k.room o then .next ((s.setCl c (k.push o)).finish c) else .next s
  | _ => .next s

/-- TENSOR_UNIT_START (R216, R227): an idle unit takes the oldest of its queue, once every overlapping operation issued before it is done. -/
def execTensorUnitStart (c : Clu) (u : Fin 4) (s : State) : Host.Outcome State Fault Refusal :=
  let k := s.cl c
  match SMap.find k.trun u, k.queue u with
  | none, o :: t =>
    if k.tnsAll.any (fun e => o.after e) then .next s
    else .next (s.setCl c { k with trun := SMap.put k.trun u o, tq := SMap.set k.tq [] u t })
  | _, _ => .next s

/-- TENSOR_OP_COMPLETE (R223 to R226): the operation that runs in the unit is performed. -/
def execTensorOpComplete (c : Clu) (u : Fin 4) (s : State) : Host.Outcome State Fault Refusal :=
  match SMap.find (s.cl c).trun u with
  | none => .next s
  | some o => .next ((s.runTns c o).modCl c (fun k => { k with trun := SMap.del k.trun u }))

end Sys2Proof.Machine
end

