-- ==== Sys2Proof/Machine/Vec.lean ====
section
/-! DEFINITION. Machine/Vec.lean: the VEC instructions (R206, R207, R210 to R221). -/

namespace Sys2Proof.Machine

/-- Lane k of a vector. -/
def lane (v : List Lane) (k : Nat) : Lane := v[k]?.getD 0

/-- The bit of a vector register in a mask. -/
def vbit (n : Nat) : Nat := 2 ^ n

/-- vd ← f of va and vb lane by lane (and the old vd): the mark is set when an input that f reads is marked (`vd` counts when `rdVd`). -/
def State.vec3 (s : State) (x : Iss) (vd va vb : Nat) (rdVd : Bool) (f : Lane → Lane → Lane → Lane × NumFlags) : State :=
  s.issueV x 0 (vbit vd ||| vbit va ||| vbit vb) (fun s =>
    let k := s.cl x.c
    let r := (List.range 64).map (fun n => f (lane (k.vr va) n) (lane (k.vr vb) n) (lane (k.vr vd) n))
    let p := bitAt k.vpsn va || bitAt k.vpsn vb || (rdVd && bitAt k.vpsn vd)
    s.done x ((k.setV vd (r.map Prod.fst) p).raise (flagsOf r)))

/-- vd ← f of va and vb, without flags. -/
def State.vecI (s : State) (x : Iss) (vd va vb : Nat) (f : Lane → Lane → Lane) : State :=
  s.vec3 x vd va vb false (fun a b _ => (f a b, 0))

/-- vd ← f of va and vb, with flags. -/
def State.vecF (s : State) (x : Iss) (vd va vb : Nat) (f : Lane → Lane → Lane × NumFlags) : State :=
  s.vec3 x vd va vb false (fun a b _ => f a b)

/-- vd ← f of va. -/
def State.vec1 (s : State) (x : Iss) (vd va : Nat) (f : Lane → Lane × NumFlags) : State :=
  s.vec3 x vd va va false (fun a _ _ => f a)

/-- The smaller of two signed lanes. -/
def minS (a b : Lane) : Lane := if b.toInt < a.toInt then b else a
/-- The larger of two signed lanes. -/
def maxS (a b : Lane) : Lane := if a.toInt < b.toInt then b else a
/-- The smaller of two unsigned lanes. -/
def minU (a b : Lane) : Lane := if b.toNat < a.toNat then b else a
/-- The larger of two unsigned lanes. -/
def maxU (a b : Lane) : Lane := if a.toNat < b.toNat then b else a

/-- VEC.ADD.I (R206, R217). -/
def execVecAddI (x : Iss) (vd va vb : Fin 32) (s : State) : Host.Outcome State Fault Refusal :=
  .next (s.vecI x vd va vb (fun a b => a + b))

/-- VEC.SUB.I (R206, R217). -/
def execVecSubI (x : Iss) (vd va vb : Fin 32) (s : State) : Host.Outcome State Fault Refusal :=
  .next (s.vecI x vd va vb (fun a b => a - b))

/-- VEC.MUL.I (R206, R217). -/
def execVecMulI (x : Iss) (vd va vb : Fin 32) (s : State) : Host.Outcome State Fault Refusal :=
  .next (s.vecI x vd va vb (fun a b => a * b))

/-- VEC.MIN.I (R206, R217). -/
def execVecMinI (x : Iss) (vd va vb : Fin 32) (s : State) : Host.Outcome State Fault Refusal :=
  .next (s.vecI x vd va vb (fun a b => minS a b))

/-- VEC.MAX.I (R206, R217). -/
def execVecMaxI (x : Iss) (vd va vb : Fin 32) (s : State) : Host.Outcome State Fault Refusal :=
  .next (s.vecI x vd va vb (fun a b => maxS a b))

/-- VEC.MIN.U (R206, R217). -/
def execVecMinU (x : Iss) (vd va vb : Fin 32) (s : State) : Host.Outcome State Fault Refusal :=
  .next (s.vecI x vd va vb (fun a b => minU a b))

/-- VEC.MAX.U (R206, R217). -/
def execVecMaxU (x : Iss) (vd va vb : Fin 32) (s : State) : Host.Outcome State Fault Refusal :=
  .next (s.vecI x vd va vb (fun a b => maxU a b))

/-- VEC.AND (R206, R217). -/
def execVecAnd (x : Iss) (vd va vb : Fin 32) (s : State) : Host.Outcome State Fault Refusal :=
  .next (s.vecI x vd va vb (fun a b => a &&& b))

/-- VEC.OR (R206, R217). -/
def execVecOr (x : Iss) (vd va vb : Fin 32) (s : State) : Host.Outcome State Fault Refusal :=
  .next (s.vecI x vd va vb (fun a b => a ||| b))

/-- VEC.XOR (R206, R217). -/
def execVecXor (x : Iss) (vd va vb : Fin 32) (s : State) : Host.Outcome State Fault Refusal :=
  .next (s.vecI x vd va vb (fun a b => a ^^^ b))

/-- VEC.SHL (R206, R217). -/
def execVecShl (x : Iss) (vd va vb : Fin 32) (s : State) : Host.Outcome State Fault Refusal :=
  .next (s.vecI x vd va vb (fun a b => a <<< (b.toNat % 32)))

/-- VEC.SHR (R206, R217). -/
def execVecShr (x : Iss) (vd va vb : Fin 32) (s : State) : Host.Outcome State Fault Refusal :=
  .next (s.vecI x vd va vb (fun a b => a >>> (b.toNat % 32)))

/-- VEC.SAR (R206, R217). -/
def execVecSar (x : Iss) (vd va vb : Fin 32) (s : State) : Host.Outcome State Fault Refusal :=
  .next (s.vecI x vd va vb (fun a b => a.sshiftRight (b.toNat % 32)))

/-- VEC.ADD.F (R206). -/
def execVecAddF (x : Iss) (vd va vb : Fin 32) (s : State) : Host.Outcome State Fault Refusal :=
  .next (s.vecF x vd va vb addF)

/-- VEC.SUB.F (R206). -/
def execVecSubF (x : Iss) (vd va vb : Fin 32) (s : State) : Host.Outcome State Fault Refusal :=
  .next (s.vecF x vd va vb subF)

/-- VEC.MUL.F (R206). -/
def execVecMulF (x : Iss) (vd va vb : Fin 32) (s : State) : Host.Outcome State Fault Refusal :=
  .next (s.vecF x vd va vb mulF)

/-- VEC.DIV.F (R206). -/
def execVecDivF (x : Iss) (vd va vb : Fin 32) (s : State) : Host.Outcome State Fault Refusal :=
  .next (s.vecF x vd va vb divF)

/-- VEC.FMA.F: vd ← va × vb + vd with one rounding (R213). -/
def execVecFmaF (x : Iss) (vd va vb : Fin 32) (s : State) : Host.Outcome State Fault Refusal :=
  .next (s.vec3 x vd va vb true fmaF)

/-- VEC.MIN.F (R207). -/
def execVecMinF (x : Iss) (vd va vb : Fin 32) (s : State) : Host.Outcome State Fault Refusal :=
  .next (s.vecI x vd va vb minF)

/-- VEC.MAX.F (R207). -/
def execVecMaxF (x : Iss) (vd va vb : Fin 32) (s : State) : Host.Outcome State Fault Refusal :=
  .next (s.vecI x vd va vb maxF)

/-- VEC.SQRT.F (R206). -/
def execVecSqrtF (x : Iss) (vd va : Fin 32) (s : State) : Host.Outcome State Fault Refusal :=
  .next (s.vec1 x vd va sqrtF)

/-- VEC.RCP.F (R220). -/
def execVecRcpF (x : Iss) (vd va : Fin 32) (s : State) : Host.Outcome State Fault Refusal :=
  .next (s.vec1 x vd va rcpF)

/-- VEC.RSQ.F (R220). -/
def execVecRsqF (x : Iss) (vd va : Fin 32) (s : State) : Host.Outcome State Fault Refusal :=
  .next (s.vec1 x vd va rsqF)

/-- VEC.EXP2.F (R220). -/
def execVecExp2F (x : Iss) (vd va : Fin 32) (s : State) : Host.Outcome State Fault Refusal :=
  .next (s.vec1 x vd va exp2F)

/-- VEC.LOG2.F (R220). -/
def execVecLog2F (x : Iss) (vd va : Fin 32) (s : State) : Host.Outcome State Fault Refusal :=
  .next (s.vec1 x vd va log2F)

/-- The condition of VEC.CMP: MOD[2:0] EQ, NE, LT, LE; MOD[4:3] signed, unsigned, binary32; with NaN only NE is true. -/
def cmpLane (md : Nat) (a b : Lane) : Bool :=
  let eq := if md / 8 % 4 = 2 then eqF a b else decide (a = b)
  let lt := if md / 8 % 4 = 0 then decide (a.toInt < b.toInt) else if md / 8 % 4 = 1 then decide (a.toNat < b.toNat) else ltF a b
  match md % 8 with
  | 0 => eq
  | 1 => !eq
  | 2 => lt
  | _ => lt || eq

/-- VEC.CMP (R217): undefined MOD values fault with FORMAT 0x01, MOD[5] with FORMAT 0x02. -/
def execVecCmp (x : Iss) (vd va vb : Fin 32) (md : BitVec 6) (s : State) : Host.Outcome State Fault Refusal :=
  let bad := decide (4 ≤ md.toNat % 8 ∨ md.toNat / 8 % 4 = 3)
  let x := { x with res := x.res || decide (32 ≤ md.toNat) }
  .next (s.issueV x (if bad then Code.format 1 else 0) (vbit vd ||| vbit va ||| vbit vb) (fun s =>
    let k := s.cl x.c
    let r := (List.range 64).map (fun n => if cmpLane md.toNat (lane (k.vr va) n) (lane (k.vr vb) n) then BitVec.allOnes 32 else 0)
    s.done x (k.setV vd r (bitAt k.vpsn va || bitAt k.vpsn vb))))

/-- VEC.SEL: vd[k] ← va[k] where the mask register's lane is not zero, else vb[k] (R217). -/
def execVecSel (x : Iss) (vd va vb : Fin 32) (md : BitVec 6) (s : State) : Host.Outcome State Fault Refusal :=
  let m := md.toNat % 32
  let x := { x with res := x.res || decide (32 ≤ md.toNat) }
  .next (s.issueV x 0 (vbit vd ||| vbit va ||| vbit vb ||| vbit m) (fun s =>
    let k := s.cl x.c
    let r := (List.range 64).map (fun n => if lane (k.vr m) n = 0 then lane (k.vr vb) n else lane (k.vr va) n)
    s.done x (k.setV vd r (bitAt k.vpsn va || bitAt k.vpsn vb || bitAt k.vpsn m))))

/-- VEC.BC: every lane ← g[ra][31:0]. -/
def execVecBc (x : Iss) (vd : Fin 32) (ra : Fin 64) (s : State) : Host.Outcome State Fault Refusal :=
  .next (s.issueV x 0 (vbit vd) (fun s =>
    let k := s.cl x.c
    s.done x (k.setV vd (List.replicate 64 ((k.gr ra).setWidth 32)) false)))

/-- VEC.EXT: IMM above 63 faults with FORMAT 0x08, a poisoned register with POISON (R215, R221). -/
def execVecExt (x : Iss) (rd : Fin 64) (va : Fin 32) (imm : BitVec 24) (s : State) : Host.Outcome State Fault Refusal :=
  .next (s.issueV x 0 (vbit va) (fun s =>
    let k := s.cl x.c
    if 63 < imm.toNat then s.fault x (Code.format 8)
    else if bitAt k.vpsn va then s.fault x (Code.poison 1)
    else s.done x (k.setG rd ((lane (k.vr va) imm.toNat).setWidth 64))))

/-- VEC.INS: one lane is written, the others and the mark stay (R221). -/
def execVecIns (x : Iss) (vd : Fin 32) (ra : Fin 64) (imm : BitVec 24) (s : State) : Host.Outcome State Fault Refusal :=
  .next (s.issueV x 0 (vbit vd) (fun s =>
    let k := s.cl x.c
    if 63 < imm.toNat then s.fault x (Code.format 8)
    else s.done x (k.setV vd ((k.vr vd).set imm.toNat ((k.gr ra).setWidth 32)) (bitAt k.vpsn vd))))

/-- VEC.IDX: vd[k] ← k. -/
def execVecIdx (x : Iss) (vd : Fin 32) (s : State) : Host.Outcome State Fault Refusal :=
  .next (s.issueV x 0 (vbit vd) (fun s =>
    s.done x ((s.cl x.c).setV vd ((List.range 64).map (fun n => BitVec.ofNat 32 n)) false)))

/-- VEC.PERM: vd[k] ← va[vb[k][5:0]]. -/
def execVecPerm (x : Iss) (vd va vb : Fin 32) (s : State) : Host.Outcome State Fault Refusal :=
  .next (s.issueV x 0 (vbit vd ||| vbit va ||| vbit vb) (fun s =>
    let k := s.cl x.c
    let r := (List.range 64).map (fun n => lane (k.vr va) ((lane (k.vr vb) n).toNat % 64))
    s.done x (k.setV vd r (bitAt k.vpsn va || bitAt k.vpsn vb))))

/-- Element e of a register that holds elements of w bits (R218). -/
def regElem (w : Nat) (v : List Lane) (e : Nat) : Nat := bitsAt (lane v (e / (32 / w))).toNat (e % (32 / w) * w) w

/-- A register with elements from number e on replaced (R218). -/
def putElems (w : Nat) (v : List Lane) (e : Nat) : List Nat → List Lane
  | [] => v
  | y :: t => putElems w (v.set (e / (32 / w)) (BitVec.ofNat 32 (putBits (lane v (e / (32 / w))).toNat (e % (32 / w) * w) w y))) (e + 1) t

/-- The mark of a register of which a part of 1 ÷ n is written. -/
def partMark (w : Nat) (old new : Bool) : Bool := if w = 32 then new else old || new

/-- VEC.CVT (R211, R218, R228): undefined codes FORMAT 0x06, parts out of range FORMAT 0x08, RTZ or NOSAT without EXPERT_EN PERM 0x02. -/
def execVecCvt (x : Iss) (vd va : Fin 32) (imm : BitVec 24) (s : State) : Host.Outcome State Fault Refusal :=
  let i := imm.toNat
  let x := { x with res := x.res || decide (2 ^ 16 ≤ i) }
  .next (s.issueV x 0 (vbit vd ||| vbit va) (fun s =>
    let k := s.cl x.c
    let sc := bitsAt i 0 4
    let dc := bitsAt i 4 4
    let sp := bitsAt i 8 3
    let dp := bitsAt i 11 3
    match codeWidth sc, codeWidth dc with
    | some sw, some dw =>
      if sc = 11 ∨ dc = 11 then s.fault x (Code.format 6)
      else if 32 / sw ≤ sp ∨ 32 / dw ≤ dp then s.fault x (Code.format 8)
      else if bitsAt i 14 2 ≠ 0 ∧ s.cluExpert x.c = false then s.fault x (Code.perm 2)
      else
        let r := (List.range 64).map (fun n => elemEncode dc (bitAt i 14) (bitAt i 15) (elemDecode sc (regElem sw (k.vr va) (64 * sp + n))))
        s.done x ((k.setV vd (putElems dw (k.vr vd) (64 * dp) (r.map Prod.fst))
          (partMark dw (bitAt k.vpsn vd) (bitAt k.vpsn va))).raise (flagsOf r))
    | _, _ => s.fault x (Code.format 6)))

/-- The exponent of the largest power of two of an MX element format (R212). -/
def emaxOf : Nat → Int
  | 3 => 8
  | 4 => 15
  | 5 => 2
  | _ => 0

/-- floor(log₂ |x|) of a value that is not NaN, none for zero; ∞ counts as 2¹²⁸. -/
def topOf : FV → Option Int
  | .nan => none
  | .inf _ => some 128
  | .fin _ m e => if m = 0 then none else some ((Nat.log2 m : Int) + e)

/-- The largest exponent of a block. -/
def topMax : List FV → Option Int
  | [] => none
  | v :: t => match topOf v, topMax t with
    | some a, some b => some (max a b)
    | some a, none => some a
    | none, r => r

/-- x × 2^(−e). -/
def FV.shift (e : Int) : FV → FV
  | .fin n m f => .fin n m (f - e)
  | v => v

/-- One block quantised: its scale and its elements with their flags (R212). -/
def mxQuant (elem : Nat) (l : List FV) : Nat × List (Nat × NumFlags) :=
  if l.any (fun v => decide (v = .nan)) then (0xFF, l.map (fun _ => (0, 0)))
  else
    let e : Int := match topMax l with
      | none => -127
      | some t => max (-127) (min 127 (t - emaxOf elem))
    ((e + 127).toNat, l.map (fun v => elemEncode elem false false (v.shift e)))

/-- The checks of IMM24 that VEC.MXQ and VEC.MXD share: the element code, then the part. -/
def mxCode (i : Nat) : Nat :=
  let el := bitsAt i 0 4
  if el ≠ 3 ∧ el ≠ 4 ∧ el ≠ 5 ∧ el ≠ 11 then Code.format 6
  else if 32 / (codeWidth el).getD 8 ≤ bitsAt i 4 3 then Code.format 8 else 0

/-- VEC.MXQ (R212, R218). -/
def execVecMxq (x : Iss) (vd va : Fin 32) (rb : Fin 64) (imm : BitVec 24) (s : State) : Host.Outcome State Fault Refusal :=
  let i := imm.toNat
  let x := { x with res := x.res || decide (2 ^ 7 ≤ i) }
  .next (s.issueV x 0 (vbit vd ||| vbit va) (fun s =>
    let k := s.cl x.c
    if mxCode i ≠ 0 then s.fault x (mxCode i)
    else
      let el := bitsAt i 0 4
      let w := (codeWidth el).getD 8
      let l := (k.vr va).map f32
      let a := mxQuant el (l.take 32)
      let b := mxQuant el (l.drop 32)
      let r := a.2 ++ b.2
      let k' := (k.setV vd (putElems w (k.vr vd) (64 * bitsAt i 4 3) (r.map Prod.fst))
        (partMark w (bitAt k.vpsn vd) (bitAt k.vpsn va))).raise (flagsOf r)
      s.done x (k'.setG rb (BitVec.ofNat 64 (a.1 + 256 * b.1)))))

/-- VEC.MXD (R212): exact products; a scale of 0xFF gives NaN; beyond the range ±∞ with OVERFLOW. -/
def execVecMxd (x : Iss) (vd va : Fin 32) (rb : Fin 64) (imm : BitVec 24) (s : State) : Host.Outcome State Fault Refusal :=
  let i := imm.toNat
  let x := { x with res := x.res || decide (2 ^ 7 ≤ i) }
  .next (s.issueV x 0 (vbit vd ||| vbit va) (fun s =>
    let k := s.cl x.c
    if mxCode i ≠ 0 then s.fault x (mxCode i)
    else
      let el := bitsAt i 0 4
      let w := (codeWidth el).getD 8
      let r := (List.range 64).map (fun n =>
        let sc := bitsAt (k.gr rb).toNat (n / 32 * 8) 8
        toF32 ((elemDecode el (regElem w (k.vr va) (64 * bitsAt i 4 3 + n))).mul (scaleVal sc)))
      s.done x ((k.setV vd (r.map Prod.fst) (bitAt k.vpsn va)).raise (flagsOf r))))

/-- One level of the tree of R219: pairs combined, with the flags so far. -/
def pairUp (f : Lane → Lane → Lane × NumFlags) : List Lane → List (Lane × NumFlags)
  | a :: b :: t => f a b :: pairUp f t
  | _ => []

/-- The tree of R219 over 2^n lanes. -/
def treeOf (f : Lane → Lane → Lane × NumFlags) : Nat → List Lane → Lane × NumFlags
  | 0, l => (lane l 0, 0)
  | n + 1, l =>
    let r := pairUp f l
    let u := treeOf f n (r.map Prod.fst)
    (u.1, flagsOf r ||| u.2)

/-- A reduction of va to g[rd]; a poisoned register faults (R215, R219). -/
def State.reduce (s : State) (x : Iss) (rd va : Nat) (sext : Bool) (f : Lane → Lane → Lane × NumFlags) : State :=
  s.issueV x 0 (vbit va) (fun s =>
    let k := s.cl x.c
    if bitAt k.vpsn va then s.fault x (Code.poison 1)
    else
      let r := treeOf f 6 (k.vr va)
      s.done x ((k.setG rd (if sext then r.1.signExtend 64 else r.1.setWidth 64)).raise r.2))

/-- VEC.RSUM.F (R219). -/
def execVecRsumF (x : Iss) (rd : Fin 64) (va : Fin 32) (s : State) : Host.Outcome State Fault Refusal :=
  .next (s.reduce x rd va false addF)

/-- VEC.RSUM.I: wrapping, sign-extended (R219). -/
def execVecRsumI (x : Iss) (rd : Fin 64) (va : Fin 32) (s : State) : Host.Outcome State Fault Refusal :=
  .next (s.reduce x rd va true (fun a b => (a + b, 0)))

/-- VEC.RMAX.F (R219). -/
def execVecRmaxF (x : Iss) (rd : Fin 64) (va : Fin 32) (s : State) : Host.Outcome State Fault Refusal :=
  .next (s.reduce x rd va false (fun a b => (maxF a b, 0)))

/-- VEC.RMIN.F (R219). -/
def execVecRminF (x : Iss) (rd : Fin 64) (va : Fin 32) (s : State) : Host.Outcome State Fault Refusal :=
  .next (s.reduce x rd va false (fun a b => (minF a b, 0)))

/-- The mask of the lanes that are not zero, from bit n on. -/
def maskLanes : List Lane → Nat
  | [] => 0
  | a :: t => (decide (a ≠ 0)).toNat + 2 * maskLanes t

/-- VEC.MSK (R215). -/
def execVecMsk (x : Iss) (rd : Fin 64) (va : Fin 32) (s : State) : Host.Outcome State Fault Refusal :=
  .next (s.issueV x 0 (vbit va) (fun s =>
    let k := s.cl x.c
    if bitAt k.vpsn va then s.fault x (Code.poison 1)
    else s.done x (k.setG rd (BitVec.ofNat 64 (maskLanes (k.vr va))))))

/-- The own-SRAM offsets of a gather or scatter: g[rb] + va[k] × 4, modulo 2⁶⁴. -/
def ClusterSt.gthOffs (k : ClusterSt) (va rb : Nat) : List Nat :=
  (k.vr va).map (fun l => (k.gr rb + l.setWidth 64 * 4).toNat)

/-- The first lane whose offset faults: code and offset (R221). -/
def gthBad (l : List Nat) : Option (Nat × Nat) :=
  l.findSome? (fun o => if 0x400000 ≤ o then some (Code.addr 3, o) else if o % 4 ≠ 0 then some (Code.addr 2, o) else none)

/-- VEC.GTH (R221, R215). -/
def execVecGth (x : Iss) (vd va : Fin 32) (rb : Fin 64) (s : State) : Host.Outcome State Fault Refusal :=
  .next (s.issueV x 0 (vbit vd ||| vbit va) (fun s =>
    let k := s.cl x.c
    let os := k.gthOffs va rb
    match gthBad os with
    | some e => s.fault x e.1 e.2
    | none =>
      let r := os.map (fun o => BitVec.ofNat 32 (s.memN (sramAt x.c o) 4))
      s.done x (k.setV vd r (bitAt k.vpsn va || os.any (fun o => s.psnRange (sramAt x.c o) 4)))))

/-- VEC.SCT (R162, R215, R221): offsets, then the code range, then marks of the registers read; the highest lane of an offset is the one kept. -/
def execVecSct (x : Iss) (vd va : Fin 32) (rb : Fin 64) (s : State) : Host.Outcome State Fault Refusal :=
  .next (s.issueV x 0 (vbit vd ||| vbit va) (fun s =>
    let k := s.cl x.c
    let os := k.gthOffs va rb
    match gthBad os with
    | some e => s.fault x e.1 e.2
    | none =>
      match os.find? (fun o => k.hitsCode o 4) with
      | some o => s.fault x (Code.perm 1) o
      | none =>
        if bitAt k.vpsn vd || bitAt k.vpsn va then s.fault x (Code.poison 1)
        else ((os.zip (k.vr vd)).foldl (fun s p => s.sramWrite (sramAt x.c p.1) (leM 4 p.2.toNat)) s).pass x))

/-- VEC.FLG: g[rd] ← the flags, which become 0 (R210). -/
def execVecFlg (x : Iss) (rd : Fin 64) (s : State) : Host.Outcome State Fault Refusal :=
  .next (s.issueAfter x 0 (fun s =>
    let k := s.cl x.c
    s.done x { k.setG rd (BitVec.ofNat 64 k.numflg) with numflg := 0 }))

end Sys2Proof.Machine
end

