-- ==== Sys2Proof/Machine/Clx.lean ====
section
/-! DEFINITION. Machine/Clx.lean: group records, the steps at a node, the members' slots, activation, the collective instructions and what aborts
a step (R395 to R424). -/

namespace Sys2Proof.Machine

/-- The record of a partition's handle, with its index (R395). -/
def State.recOf (s : State) (p grp : Nat) : Option (Nat × ClxRec) :=
  s.grps.find? (fun e => decide (e.2.part = p ∧ e.2.handle = grp))

/-- A record replaced. -/
def State.setRec (s : State) (r : Nat) (x : ClxRec) : State := { s with grps := SMap.put s.grps r x }

/-- A record changed. -/
def State.modRec (s : State) (r : Nat) (f : ClxRec → ClxRec) : State :=
  match SMap.find s.grps r with
  | some x => s.setRec r (f x)
  | none => s

/-- The bytes that records reserve (R414). -/
def clxStore (m : SMap ClxRec) : Nat := m.foldl (fun n e => n + 16384 * (e.2.inputs.length + 1)) 0

/-- REC and STORE_KIB of QTZ_CLX_STAT for the records there are (R414). -/
def State.noteRecs (s : State) : State :=
  (s.wr F.QTZ_CLX_STAT_REC s.grps.length).wr F.QTZ_CLX_STAT_STORE_KIB (clxStore s.grps / 1024)

/-- The width of FMT in bytes. -/
def ClxRec.w (x : ClxRec) : Nat := (codeWidth x.fmt).getD 32 / 8

/-- The width of an element as sent (R413). -/
def ClxRec.u (x : ClxRec) : Nat := if x.mode = 1 then 4 else x.w

/-- The code of the elements as sent: binary32 or INT32 in WIDE mode, else FMT (R401). -/
def ClxRec.wide (x : ClxRec) : Nat := if x.mode = 1 then (if codeFloat x.fmt then 0 else 8) else x.fmt

/-- Elements in a chunk (R413). -/
def ClxRec.e (x : ClxRec) : Nat := 4096 / x.u

/-- Chunks of a contribution; a barrier has one, without elements (R411, R413). -/
def ClxRec.chunks (x : ClxRec) : Nat := if x.n = 0 then 1 else (x.n + x.e - 1) / x.e

/-- An all-gather that passes segments (R414). -/
def ClxRec.ag (x : ClxRec) : Bool := decide (x.kind = 2) && decide (x.n ≠ 0)

/-- The key of a chunk: AG keeps the chunks of each rank apart. -/
def ClxRec.key (x : ClxRec) (rank chunk : Nat) : Nat := if x.ag then 4096 * rank + chunk else chunk

/-- The result chunks of a step. -/
def ClxRec.results (x : ClxRec) : Nat := if x.ag then x.m * x.chunks else x.chunks

/-- The tree ports: the children's and the parent's (R395). -/
def ClxRec.children (x : ClxRec) : List Nat := (x.inputs.filter (fun i => i.child)).map ClxIn.id

/-- Every tree port. -/
def ClxRec.ports (x : ClxRec) : List Nat := x.children ++ (if x.parent = 31 then [] else [x.parent])

/-- The member a cluster is, if it is a local member. -/
def ClxRec.member (x : ClxRec) (c : Nat) : Option ClxIn := x.inputs.find? (fun i => !i.child && decide (i.id = c))

/-- Step numbers wrap from 0xF_FFFE to 0 (R396). -/
def nextStep (n : Nat) : Nat := (n + 1) % 0xFFFFF

/-- Marks spread to the whole 64-byte unit (R350, R409). -/
def unitMarks (u : Nat) (l : List (Nat × Bool)) : List (Nat × Bool) :=
  (l.zip (List.range l.length)).map (fun e => (e.1.1, ((l.drop (e.2 / (64 / u) * (64 / u))).take (64 / u)).any Prod.snd))

/-- Two elements of a code combined under OP: 0 SUM, 1 MAX, 2 MIN (R406, R407). -/
def clxOp (code op a b : Nat) : Nat × NumFlags :=
  if codeFloat code then
    if op = 0 then
      let r := (elemDecode code a).add (elemDecode code b)
      let q := elemEncode code false false r.1
      (q.1, r.2 ||| q.2)
    else
      let x := (toF32 (elemDecode code a, 0)).1
      let y := (toF32 (elemDecode code b, 0)).1
      let z := if op = 1 then maxF x y else minF x y
      ((elemEncode code false false (f32 z)).1, 0)
  else
    let w := (codeWidth code).getD 32
    let i := toSigned w a
    let j := toSigned w b
    if op = 0 then elemEncode code false false ((elemDecode code a).add (elemDecode code b)).1
    else if op = 1 then (if i < j then b else a, 0) else (if j < i then b else a, 0)

/-- Two contributions combined element by element, the mark of either kept (R406, R409). -/
def clxCombine (code op : Nat) (a b : List (Nat × Bool)) : List (Nat × Bool) × NumFlags :=
  let r := (a.zip b).map (fun p => (clxOp code op p.1.1 p.2.1, p.1.2 || p.2.2))
  (r.map (fun e => (e.1.1, e.2)), r.foldl (fun f e => f ||| e.1.2) 0)

/-- Fold the inputs of a chunk in list order (R406). -/
def clxFold (code op : Nat) (l : List ClxPart) : List (Nat × Bool) × Nat :=
  match l with
  | [] => ([], 0)
  | p :: t => t.foldl (fun a q =>
      let r := clxCombine code op a.1 q.data
      (r.1, a.2 ||| r.2 ||| q.flags)) (p.data, p.flags)

/-- The conversion to FMT at the root in WIDE mode (R406, R407). -/
def ClxRec.toFmt (x : ClxRec) (l : List (Nat × Bool)) : List (Nat × Bool) × Nat :=
  if x.mode = 0 then (l, 0)
  else
    let r := l.map (fun e => elemEncode x.fmt false false (elemDecode x.wide e.1))
    (unitMarks x.w ((r.map Prod.fst).zip (l.map Prod.snd)), r.foldl (fun f e => f ||| e.2) 0)

/-- A collective packet on its way out of a tree port (R412); it waits there like any packet, and tree edges ignore the route tables. -/
def State.clxSend (s : State) (port opc part w1 w2 w3 : Nat) (data : List Byte) : State :=
  s.enqueue port { pkt := s.mkPkt opc 1 part 0 w1 w2 w3 data, src := 31, at_ := s.now }

/-- Word 1 of a collective packet: GRP, STEP, NODE, CHUNK. -/
def clxW1 (grp step node chunk : Nat) : Nat := grp + step * 2 ^ 12 + node * 2 ^ 32 + chunk * 2 ^ 44

/-- A chunk sent on a tree port: BYTES, RANK, the flags of R408, and PMASK. -/
def State.sendChunk (s : State) (x : ClxRec) (port opc step rank chunk w : Nat) (data : List (Nat × Bool)) (flags : Nat) : State :=
  let l : List MByte := data.flatMap (fun e => (leM w e.1).map (fun b => (b.1, e.2)))
  s.clxSend port opc x.part (clxW1 x.handle step x.node chunk) (l.length * 2 ^ 17 + rank * 2 ^ 32 + flags % 8 * 2 ^ 52) (pmaskOf l) (plain l)

/-- A CLX_ABORT sent on a tree port. -/
def State.sendAbort (s : State) (port part grp step node code : Nat) : State :=
  s.clxSend port 0x1A part (clxW1 grp step node 0) (code * 2 ^ 32) 0 []

/-- The activation mark of a record on a port (R399). -/
def State.sendMark (s : State) (x : ClxRec) (port reply : Nat) : State :=
  let role := if port = x.parent then 0 else 1
  let l := leM 4 x.tsig ++ leM 2 x.node ++ leM 1 role ++ leM 1 reply ++ leM 4 x.n ++ leM 4 x.m
    ++ leM 1 x.kind ++ leM 1 x.fmt ++ leM 1 x.op ++ leM 1 x.mode
  s.clxSend port 0x18 x.part (clxW1 x.handle 0xFFFFF x.node 0) (64 * 2 ^ 17) 0 (plain l ++ List.replicate 44 0)

/-- The status word of a SYS.GRP.DEF, ticket 0 (R399, R263); SEM is signalled on success (log 27). -/
def State.grpTell (s : State) (g : GrpWait) (code : Nat) : State :=
  let s := s.sramWrite (sramAt g.clu g.stat) (leM 8 code)
  if g.sig && decide (code = 0) then s.signalSem g.clu g.sem 1 else s

/-- Tell every instruction that waits for a record's activation. -/
def State.grpTellAll (s : State) (r code : Nat) : State :=
  match SMap.find s.grps r with
  | none => s
  | some x => (x.waits.foldl (fun s g => s.grpTell g code) s).modRec r (fun x => { x with waits := [] })

/-- A record breaks (R399, R422, R423), logged; its waiting definitions are told the code. -/
def State.breakRec (s : State) (r code : Nat) : State :=
  match SMap.find s.grps r with
  | none => s
  | some x =>
    if x.state = 3 then s
    else ((s.modRec r (fun x => { x with state := 3 })).logE 0x0901 0xF041 2 [x.part, x.handle, code]).grpTellAll r code

/-- The cluster's slot that holds a step of a group (R403). -/
def ClusterSt.clxOpen (k : ClusterSt) (grp : Nat) : Option Nat :=
  (List.range 8).find? (fun n => (k.clxAt n).busy && decide ((k.clxAt n).grp = grp))

/-- A slot's step ends (R403): on success SEM is signalled; on an abort the code is kept and SEM poisoned. -/
def State.clxEnd (s : State) (c slot code : Nat) : State :=
  let q := (s.cl c).clxAt slot
  let s := s.modCl c (fun k => { (k.setClx slot { q with busy := false, code := code, unrep := decide (code ≠ 0) }) with
                                  vBusy := if q.vreg then putBits k.vBusy q.dst 1 0 else k.vBusy })
  if q.sig = false then s else if code = 0 then s.signalSem c q.sem 1 else s.poisonSem c q.sem

/-- The elements of a slot's result in order of their keys. -/
def clxGathered (q : ClxSlot) (n : Nat) : List (Nat × Bool) :=
  (List.range n).flatMap (fun k => match q.got.find? (fun e => e.1 = k) with | some e => e.2 | none => [])

/-- Elements written to own SRAM from an offset on, with their marks. -/
def State.putEls (s : State) (c off w : Nat) (l : List (Nat × Bool)) : State :=
  s.sramWrite (sramAt c off) (l.flatMap (fun e => (leM w e.1).map (fun b => (b.1, e.2))))

/-- A result chunk written by a member (R401, R408, R409): the tile in 32 rows, the share, the whole, or a segment; a register's is kept until
completion (R404). -/
def State.clxTake (s : State) (x : ClxRec) (c slot key : Nat) (l : List (Nat × Bool)) (flags : Nat) : State :=
  let q := (s.cl c).clxAt slot
  if q.got.any (fun e => e.1 = key) then s
  else
    let e0 := key % 4096 * x.e
    let rank := match x.member c with | some i => i.rank | none => 0
    let s := match q.kind with
      | .tmmAr => (List.range 32).foldl (fun (s : State) i => s.putEls c (q.dst + i * q.cStride) x.w ((l.drop (32 * i)).take 32)) s
      | .tmmRs => s.putEls c q.dst x.w ((l.drop (rank * (x.n / x.m))).take (x.n / x.m))
      | .vecAr => if q.vreg then s else s.putEls c (q.dst + e0 * x.w) x.w l
      | .vecAg => s.putEls c (q.dst + (key / 4096 * x.n + e0) * x.w) x.w l
    s.modCl c (fun k => (k.raise flags).setClx slot { q with got := q.got ++ [(key, if q.vreg then l else [])] })

/-- A slot that has taken every result chunk is done: a register is written now (R403, R404). -/
def State.clxFinish (s : State) (x : ClxRec) (c slot : Nat) : State :=
  let q := (s.cl c).clxAt slot
  if q.busy = false ∨ q.got.length < x.results then s
  else
    let s := if q.vreg then
        let l := clxGathered q x.chunks
        s.modCl c (fun k => k.setV q.dst (putElems (8 * x.w) zeroV 0 (l.map Prod.fst)) (l.any Prod.snd))
      else s
    s.clxEnd c slot 0

/-- The local members, as (place in the input list, input). -/
def ClxRec.members (x : ClxRec) : List ClxIn := x.inputs.filter (fun i => !i.child)

/-- A result chunk gives its elements to each local member with the step open. -/
def State.clxGive (s : State) (x : ClxRec) (step key : Nat) (l : List (Nat × Bool)) (flags : Nat) : State :=
  x.members.foldl (fun s i => match (s.cl i.id).clxOpen x.handle with
    | some n => if ((s.cl i.id).clxAt n).step = step then (s.clxTake x i.id n key l flags).clxFinish x i.id n else s
    | none => s) s

/-- A step leaves a node's open steps; the base moves on over the steps that are resolved (R415). -/
def ClxRec.close (x : ClxRec) (step : Nat) : ClxRec :=
  let b := if x.base = step then (if (SMap.find x.aborts (nextStep step)).isSome then nextStep (nextStep step) else nextStep step) else x.base
  { x with open_ := x.open_.filter (fun t => t.step ≠ step), base := b }

/-- The codes of aborted steps that are still needed: of steps a local member has yet to issue, and of the step after the base. -/
def ClxRec.prune (x : ClxRec) : ClxRec :=
  { x with aborts := x.aborts.filter (fun e => decide (e.1 = nextStep x.base)
      || x.inputs.any (fun i => !i.child && decide ((e.1 + 0xFFFFF - SMap.get x.next 0 i.id) % 0xFFFFF < 0x80000))) }

/-- The open entry of a step. -/
def ClxRec.stepOf (x : ClxRec) (step : Nat) : Option ClxStep := x.open_.find? (fun t => t.step = step)

/-- An open step changed. -/
def ClxRec.modStep (x : ClxRec) (step : Nat) (f : ClxStep → ClxStep) : ClxRec :=
  { x with open_ := x.open_.map (fun t => if t.step = step then f t else t) }

/-- A node works on a step when it is the oldest unresolved one or the one after it (R415). -/
def ClxRec.takes (x : ClxRec) (step : Nat) : Bool :=
  decide (step = x.base) || (decide (step = nextStep x.base) && (SMap.find x.aborts step).isNone)

/-- A packet discarded (R415, R423). -/
def State.clxBad (s : State) : State := s.bump F.QTZ_CLX_BAD

/-- A result chunk at a node (R414): multicast to the children, given to the local members; after the last one the step is resolved with
success. -/
def State.clxDown (s : State) (r step key : Nat) (l : List (Nat × Bool)) (flags : Nat) : State :=
  match SMap.find s.grps r with
  | none => s
  | some x =>
    let s := x.children.foldl (fun s p => s.sendChunk x p 0x19 step (if x.ag then key / 4096 else 0) (key % 4096) x.w l flags) s
    let s := s.modRec r (fun x => x.modStep step (fun t => { t with down := key :: t.down }))
    let s := s.clxGive x step key l flags
    match SMap.find s.grps r with
    | none => s
    | some y => match y.stepOf step with
      | none => s
      | some t => if t.down.length < y.results then s
        else (s.setRec r (y.close step)).wr F.QTZ_CLX_STEPS_DONE (s.rd F.QTZ_CLX_STEPS_DONE + 1)

/-- A chunk whose inputs are all in hand: folded, and sent to the parent or resolved at the root (R406, R414). -/
def State.clxFoldAt (s : State) (r step key : Nat) : State :=
  match SMap.find s.grps r with
  | none => s
  | some x => match x.stepOf step with
    | none => s
    | some t =>
      let parts := t.parts.filter (fun p => p.key = key)
      if t.folded.contains key ∨ (x.ag = false ∧ parts.length < x.inputs.length) then s
      else
        let ins := (List.range x.inputs.length).filterMap (fun i => parts.find? (fun p => p.input = i))
        let f := clxFold x.wide x.op ins
        let s := s.modRec r (fun x => x.modStep step (fun t =>
          { t with folded := key :: t.folded, parts := t.parts.filter (fun p => p.key ≠ key) }))
        if x.parent = 31 then
          let g := x.toFmt f.1
          s.clxDown r step key g.1 (f.2 ||| g.2)
        else s.sendChunk x x.parent 0x18 step (if x.ag then key / 4096 else 0) (key % 4096) x.u (unitMarks x.u f.1) f.2

/-- An input of a chunk reaches a node (R406, R415): accepted into the reservation, or discarded and counted. -/
def State.clxInput (s : State) (r step key input : Nat) (l : List (Nat × Bool)) (flags : Nat) : State :=
  match SMap.find s.grps r with
  | none => s.clxBad
  | some x =>
    if x.state = 3 ∨ x.takes step = false ∨ x.results ≤ (if x.ag then key / 4096 * x.chunks + key % 4096 else key) ∨ x.chunks ≤ key % 4096 then
      s.clxBad
    else
      let t := (x.stepOf step).getD ⟨step, s.now, [], [], [], false⟩
      if t.aborting ∨ t.folded.contains key ∨ t.parts.any (fun p => decide (p.key = key ∧ p.input = input)) then s
      else
        let x := if (x.stepOf step).isSome then x else { x with open_ := x.open_ ++ [t] }
        (s.setRec r (x.modStep step (fun t => { t with parts := t.parts ++ [⟨key, input, unitMarks x.u l, flags⟩] }))).clxFoldAt r step key

/-- An abort ends a local member's step; a member that has not issued the step yet meets the code when it does (R402, R415). -/
def State.clxMembersAbort (s : State) (x : ClxRec) (step code : Nat) : State :=
  x.members.foldl (fun s i => match (s.cl i.id).clxOpen x.handle with
    | some n => if ((s.cl i.id).clxAt n).step = step then s.clxEnd i.id n code else s
    | none => s) s

/-- A step is resolved with an abort at a node (R415, R416): sent on the given ports, told to the local members, counted, kept. -/
def State.clxResolve (s : State) (r step code : Nat) (ports : List Nat) : State :=
  match SMap.find s.grps r with
  | none => s
  | some x =>
    let s := ports.foldl (fun s p => s.sendAbort p x.part x.handle step x.node code) s
    let s := s.clxMembersAbort x step code
    ((s.modRec r (fun x => { (x.close step) with lastCode := code, lastStep := step, aborts := SMap.put x.aborts step code }.prune)).wr
      F.QTZ_CLX_STEPS_ABORT (s.rd F.QTZ_CLX_STEPS_ABORT + 1))

/-- A tree port that can still carry packets. -/
def State.edgeAlive (s : State) (p : Nat) : Bool := s.portUp p && decide (s.rd F.QTZ_PORT_STAT_QSTATE p = 0)

/-- An abort that is raised at a node or reaches it from below (R415): the root resolves the step, another node sends the abort up; without a
parent edge it goes down. -/
def State.clxAbortUp (s : State) (r step code : Nat) : State :=
  match SMap.find s.grps r with
  | none => s
  | some x =>
    if x.takes step = false then s
    else if x.parent = 31 ∨ s.edgeAlive x.parent = false then s.clxResolve r step code x.children
    else
      let t := (x.stepOf step).getD ⟨step, s.now, [], [], [], false⟩
      if t.aborting then s
      else
        let x := if (x.stepOf step).isSome then x else { x with open_ := x.open_ ++ [t] }
        (s.setRec r (x.modStep step (fun t => { t with aborting := true }))).sendAbort x.parent x.part x.handle step x.node code

/-- The steps open at a record: at the node, or at a local member. -/
def State.recSteps (s : State) (x : ClxRec) : List Nat :=
  let m := x.members.filterMap (fun i => ((s.cl i.id).clxOpen x.handle).map (fun n => ((s.cl i.id).clxAt n).step))
  (x.open_.map ClxStep.step ++ m).eraseDups

/-- Every open step of a record aborts, on every tree port and at the local members (R419, R423). -/
def State.clxAbortAll (s : State) (r code : Nat) : State :=
  match SMap.find s.grps r with
  | none => s
  | some x => (s.recSteps x).foldl (fun s t => s.clxResolve r t code x.ports) s

/-- A tree edge goes down or is quiesced (R423): every record that uses it breaks, its open steps abort with BUSY 0x24. -/
def State.clxEdgeDown (s : State) (port : Nat) : State :=
  s.grps.foldl (fun s e => if e.2.ports.contains port then (s.clxAbortAll e.1 (Code.busy 0x24)).breakRec e.1 (Code.busy 0x24) else s) s

/-- A record is deleted with a code for its open steps and its waiting definitions (R400, R419). -/
def State.clxDelete (s : State) (r code tell : Nat) : State :=
  let s := (s.clxAbortAll r code).grpTellAll r tell
  { s with grps := SMap.del s.grps r }.noteRecs

/-- A cluster is reset: the open steps of every group it is a member of abort with BUSY 0x20, and the records break (R423). -/
def State.clxMemberGone (s : State) (c : Nat) : State :=
  s.grps.foldl (fun s e => if (e.2.member c).isSome then (s.clxAbortAll e.1 (Code.busy 0x20)).breakRec e.1 (Code.busy 0x20) else s) s

/-- A partition is reset: its records go, their open steps aborted (R400, R423). -/
def State.clxPartGone (s : State) (p : Nat) : State :=
  s.grps.foldl (fun s e => if e.2.part = p then s.clxDelete e.1 (Code.busy 0x20) (Code.busy 0x20) else s) s

/-- The configuration of a unit on the issue side. -/
def ClusterSt.cfgOf (k : ClusterSt) (u : Nat) : Option TileCfg := SMap.find k.cfg u

/-- Check 5 of R402: kind, source format and accumulator suit the group. -/
def clxSuits (k : ClusterSt) (x : ClxRec) (q : ClxReq) : Bool :=
  let sf := bitsAt q.mod 1 4
  let same := decide (sf = x.fmt) || (bitAt q.mod 0 = false && ((codeFloat x.fmt && decide (sf = 0)) || (decide (x.fmt = 9) && decide (sf = 8))))
  let acc := match k.cfgOf (bitsAt q.mod 0 2) with
    | some c => match tfmtOf c.tfmt with
      | some f => f.2.2.2 == !codeFloat x.fmt
      | none => true
    | none => true
  match q.kind with
  | .tmmAr => decide (x.kind = 0) && acc
  | .tmmRs => decide (x.kind = 1) && acc
  | .vecAr => decide (x.kind = 0) && same
  | .vecAg => decide (x.kind = 2) && decide (sf = x.fmt ∨ (codeFloat x.fmt = true ∧ sf = 0) ∨ (x.fmt = 9 ∧ sf = 8))

/-- Check 6 of R402: the count. A register holds 64 × 4 ÷ w elements (R401). -/
def clxCountOk (k : ClusterSt) (x : ClxRec) (q : ClxReq) : Bool :=
  match q.kind with
  | .tmmAr | .tmmRs => decide (x.n = 1024)
  | .vecAr => decide ((k.gr q.rd).toNat = x.n) && (bitAt q.mod 0 = false || decide (x.n = 256 / x.w))
  | .vecAg => decide ((k.gr q.rd).toNat = x.n)

/-- The checks of an own-SRAM range: outside, misaligned (R402 check 7). -/
def clxRange (off n align : Nat) : Nat := if 0x400000 < off + n then Code.addr 3 else if off % align ≠ 0 then Code.addr 2 else 0

/-- Check 7 of R402: the code and the address. -/
def State.clxOperands (s : State) (c : Nat) (x : ClxRec) (q : ClxReq) : Nat × Nat :=
  let k := s.cl c
  let a := (k.gr q.ra).toNat
  let b := (k.gr q.rb).toNat
  let d := (k.gr q.rd).toNat
  match q.kind with
  | .tmmAr | .tmmRs =>
    match k.cfgOf (bitsAt q.mod 0 2) with
    | none => (Code.format 7, 0)
    | some t =>
      let e := t.mmCode a b
      let rows := if q.kind = .tmmAr then t.cRows d (8 * x.w) else [((d : Int), x.n / x.m * x.w)]
      let g := rowsCode (if q.kind = .tmmAr then [(d : Int), t.cStride] else [(d : Int)]) rows
      if e.1 ≠ 0 then e else if g.1 ≠ 0 then g
      else match rows.find? (fun r => k.hitsCode r.1.toNat r.2) with
        | some r => (Code.perm 1, r.1.toNat)
        | none => (0, 0)
  | _ =>
    if q.kind = .vecAr ∧ bitAt q.mod 0 = true then (if bitAt k.vpsn (q.ra % 32) then (Code.poison 1, 0) else (0, 0))
    else if x.n = 0 then (0, 0)
    else
      let sw := (codeWidth (bitsAt q.mod 1 4)).getD 32 / 8
      let sn := x.n * sw
      let dn := (if x.ag then x.m * x.n else x.n) * x.w
      let own := match x.member c with | some i => b + i.rank * x.n * x.w | none => b
      let meet := decide (a < b + dn) && decide (b < a + sn)
      let okMeet := (decide (a = b) && !x.ag && decide (bitsAt q.mod 1 4 = x.fmt))
        || (x.ag && decide (bitsAt q.mod 1 4 = x.fmt) && decide (a = own))
      if clxRange a sn 64 ≠ 0 then (clxRange a sn 64, a)
      else if clxRange b dn 64 ≠ 0 then (clxRange b dn 64, b)
      else if k.hitsCode b dn then (Code.perm 1, b)
      else if meet && !okMeet then (Code.format 4, b)
      else (0, 0)

/-- The contribution of a VEC form: the source elements with the mark of their word, converted to FMT and, in WIDE mode, exactly on (R401). -/
def State.clxSource (s : State) (c : Nat) (x : ClxRec) (q : ClxReq) : List (Nat × Bool) × NumFlags :=
  let k := s.cl c
  let sf := bitsAt q.mod 1 4
  let sw := (codeWidth sf).getD 32
  let raw : List (Nat × Bool) :=
    if q.kind = .vecAr ∧ bitAt q.mod 0 = true then (List.range x.n).map (fun e => (regElem sw (k.vr (q.ra % 32)) e, false))
    else
      let a := sramAt c (k.gr q.ra).toNat
      (List.range x.n).map (fun e => (s.memN (a + e * (sw / 8)) (sw / 8), s.psnAt ((a + e * (sw / 8)) / 8 * 8)))
  let r := raw.map (fun e => if sf = x.fmt then (e.1, (0 : NumFlags)) else elemEncode x.fmt false false (elemDecode sf e.1))
  let l := r.map (fun e => if x.mode = 1 then (elemEncode x.wide false false (elemDecode x.fmt e.1)).1 else e.1)
  (l.zip (raw.map Prod.snd), flagsOf r)

/-- The slot a collective instruction sets up (R403). -/
def clxSlotOf (k : ClusterSt) (x : ClxRec) (q : ClxReq) (step now : Nat) : ClxSlot :=
  let vr := decide (q.kind = .vecAr) && bitAt q.mod 0
  let tmm := decide (q.kind = .tmmAr) || decide (q.kind = .tmmRs)
  { ClxSlot.init with
    busy := true, grp := x.handle, step := step, kind := q.kind, vreg := vr,
    src := if vr then q.ra % 32 else (k.gr q.ra).toNat,
    dst := if vr then q.rb % 32 else if tmm then (k.gr q.rd).toNat else (k.gr q.rb).toNat,
    sem := bitsAt q.imm 15 6, sig := bitAt q.imm 21,
    cStride := match k.cfgOf (bitsAt q.mod 0 2) with | some t => if tmm then t.cStride else 0 | none => 0,
    since := now }

/-- Raise a collective slot's unreported fault as a background fault (R405). -/
def State.raiseClx (s : State) (c n : Nat) (long : Bool) : State :=
  let q := (s.cl c).clxAt n
  (s.modCl c (fun k => k.setClx n { q with unrep := false })).deliver c long q.code 0 (bgInfo n true q.code)

/-- The step is consumed: checks 5 to 7 of R402, then the slot. A fault of these checks advances the member's step and aborts it for the others,
the qualifier ORed with 0x80. -/
def State.clxConsume (s : State) (x : Iss) (r : Nat) (y : ClxRec) (q : ClxReq) : State :=
  let k := s.cl x.c
  let step := SMap.get y.next 0 x.c
  let s := s.modRec r (fun y => { y with next := SMap.set y.next 0 x.c (nextStep step) })
  let e : Nat × Nat := if clxSuits k y q = false then (Code.format 0x0E, 0)
    else if clxCountOk k y q = false then (Code.size 1, 0)
    else s.clxOperands x.c y q
  if e.1 ≠ 0 then (s.fault x e.1 e.2).clxAbortUp r step (e.1 ||| 0x8000)
  else
    let n := bitsAt q.imm 12 3
    let sl := clxSlotOf k y q step s.now
    let s := match q.kind with
      | .tmmAr | .tmmRs =>
        match k.cfgOf (bitsAt q.mod 0 2) with
        | none => s
        | some t => (s.modCl x.c (fun k => k.setClx n sl)).tnsPush x
            { unit := bitsAt q.mod 0 2, ta := bitsAt q.mod 2 3,
              kind := .mm (k.gr q.ra).toNat (k.gr q.rb).toNat (bitAt q.mod 5) (some n), cfg := t, order := 0 }
      | _ =>
        let d := s.clxSource x.c y q
        s.done x ({ (k.raise d.2) with vBusy := if sl.vreg then k.vBusy ||| 2 ^ sl.dst else k.vBusy }.setClx n { sl with ready := true, data := d.1 })
    match SMap.find y.aborts step with
    | some code => s.clxEnd x.c n code
    | none => s

/-- Issue of a collective instruction (R402, R403): a busy slot, a step already open on the group and a LOADING record hold it; an unreported slot
fault is raised at reuse. -/
def State.clxStart (s : State) (x : Iss) (q : ClxReq) (since : Nat) : State :=
  let k := s.cl x.c
  let n := bitsAt q.imm 12 3
  if (k.clxAt n).busy then s.hold x (.clx q false since)
  else if (k.clxAt n).unrep then s.raiseClx x.c n x.long
  else match s.recOf ((s.cluPart x.c).getD 16) (bitsAt q.imm 0 12) with
    | none => s.fault x (Code.format 0x0D)
    | some (r, y) =>
      if (y.member x.c).isNone then s.fault x (Code.perm 6)
      else if y.state = 3 then s.fault x (Code.busy 0x21)
      else if (k.clxOpen y.handle).isSome then s.hold x (.clx q false since)
      else if y.state = 1 then s.hold x (.clx q true since)
      else s.clxConsume x r y q

/-- The reserved bits of a collective instruction (R400). -/
def clxReserved (q : ClxReq) : Bool :=
  decide (2 ^ 22 ≤ q.imm) || (match q.kind with
    | .vecAr => bitAt q.mod 5
    | .vecAg => bitAt q.mod 5 || bitAt q.mod 0
    | _ => false)

/-- What waits at issue for a collective slot or record goes on where it can. -/
def State.clxWake (s : State) (c : Nat) : State :=
  let k := s.cl c
  match k.wait with
  | some (.clx q _ since) => (s.setCl c { k with wait := none }).clxStart { c := BitVec.ofNat 8 c |>.toFin, pg := 0, pn := false, long := k.waitLong, res := false } q since
  | some (.cwait n) =>
    let l := (List.range 8).filter (fun m => decide (n = 63) || decide (m = n))
    if l.any (fun m => (k.clxAt m).busy) then s
    else match l.find? (fun m => (k.clxAt m).unrep) with
      | some m => s.raiseClx c m k.waitLong
      | none => s.finish c
  | _ => s

/-- The clusters that wait for a collective, in ascending order. -/
def State.clxWaiters (s : State) : List Nat :=
  (s.clu.filter (fun e => match e.2.wait with | some (.clx _ _ _) | some (.cwait _) => true | _ => false)).map Prod.fst

/-- Let every waiting instruction go on, as long as that lets others go on. -/
def State.clxSettle : Nat → State → State
  | 0, s => s
  | n + 1, s =>
    let l := s.clxWaiters
    if l.isEmpty then s
    else
      let t := l.foldl (fun s c => s.clxWake c) s
      if t.clxWaiters = l then t else State.clxSettle n t

/-- What waits goes on after an event. -/
def State.clxGo (s : State) : State := s.clxSettle 32

/-- Issue of a collective instruction; one that names v registers follows the collectives that still write them (R404). -/
def State.clxIssue (s : State) (x : Iss) (q : ClxReq) : State :=
  let x := { x with res := x.res || clxReserved q }
  match q.kind with
  | .tmmAr | .tmmRs => (s.issue x 0 (fun s => s.clxStart x q s.now)).clxGo
  | _ =>
    let vs := if decide (q.kind = .vecAr) && bitAt q.mod 0 then 2 ^ (q.ra % 32) ||| 2 ^ (q.rb % 32) else 0
    (s.issueV x 0 vs (fun s => s.clxStart x q s.now)).clxGo

/-- TMM.AR (R401). -/
def execTmmAr (x : Iss) (rd ra rb : Fin 64) (md : BitVec 6) (imm : BitVec 24) (s : State) : Host.Outcome State Fault Refusal :=
  .next (s.clxIssue x ⟨.tmmAr, rd, ra, rb, md.toNat, imm.toNat⟩)

/-- TMM.RS (R401). -/
def execTmmRs (x : Iss) (rd ra rb : Fin 64) (md : BitVec 6) (imm : BitVec 24) (s : State) : Host.Outcome State Fault Refusal :=
  .next (s.clxIssue x ⟨.tmmRs, rd, ra, rb, md.toNat, imm.toNat⟩)

/-- VEC.AR (R401). -/
def execVecAr (x : Iss) (rd ra rb : Fin 64) (md : BitVec 6) (imm : BitVec 24) (s : State) : Host.Outcome State Fault Refusal :=
  .next (s.clxIssue x ⟨.vecAr, rd, ra, rb, md.toNat, imm.toNat⟩)

/-- VEC.AG (R401). -/
def execVecAg (x : Iss) (rd ra rb : Fin 64) (md : BitVec 6) (imm : BitVec 24) (s : State) : Host.Outcome State Fault Refusal :=
  .next (s.clxIssue x ⟨.vecAg, rd, ra, rb, md.toNat, imm.toNat⟩)

/-- CLX_LOADING_WAIT_TIMEOUT (R402 check 4): a limit of 0 is no limit. -/
def execClxLoadingWaitTimeout (c : Clu) (s : State) : Host.Outcome State Fault Refusal :=
  let k := s.cl c
  match k.wait with
  | some (.clx _ true _) => if k.waitLim = 0 then .next s else .next (s.faultWait c (Code.timeout 0) 0 0)
  | _ => .next s

/-- SYS.CWAIT (R405). -/
def execSysCwait (x : Iss) (n : Fin 64) (s : State) : Host.Outcome State Fault Refusal :=
  .next (s.issue x (if 8 ≤ (n : Nat) ∧ (n : Nat) ≠ 63 then Code.format 1 else 0) (fun s => (s.hold x (.cwait n)).clxWake x.c))

/-- An input entry of a descriptor, and whether a reserved bit is set (R397). -/
def clxEntry (v : Nat) : ClxIn × Bool :=
  let t := bitAt v 8
  (⟨bitsAt v 0 8, t, bitsAt v 16 12, bitsAt v 32 20⟩,
   decide (bitsAt v 9 7 ≠ 0 ∨ bitsAt v 28 4 ≠ 0 ∨ bitsAt v 52 12 ≠ 0) || (if t then decide (bitsAt v 32 20 ≠ 0) else decide (bitsAt v 16 12 ≠ 0)))

/-- An input or a tree port listed twice. -/
def clxTwice : List ClxIn → Bool
  | [] => false
  | i :: t => t.any (fun j => decide (i.child = j.child ∧ i.id = j.id)) || clxTwice t

/-- The fields out of range that give FORMAT 0x0B (R398 check 4, R417). -/
def ClxRec.outOfRange (x : ClxRec) : Bool :=
  decide (2 < x.kind) || !([0, 1, 2, 3, 4, 8, 9].contains x.fmt) || decide (2 < x.op) || (decide (x.kind = 2) && decide (x.op ≠ 0))
    || decide (1 < x.mode) || (decide (x.mode = 1) && decide (x.op ≠ 0 ∨ x.kind = 2)) || decide (2 ^ 22 < x.n)
    || decide (x.m = 0 ∨ 2 ^ 20 < x.m) || decide (4095 < x.node) || decide (x.inputs.length = 0 ∨ 271 < x.inputs.length)
    || decide (15 < x.parent ∧ x.parent ≠ 31) || clxTwice x.inputs || x.children.contains x.parent || x.children.any (fun p => decide (15 < p))
    || x.members.any (fun i => decide (x.m ≤ i.rank)) || (decide (x.kind = 1) && decide (x.n % x.m ≠ 0))
    || (decide (x.kind = 2) && decide (4 * 2 ^ 20 < x.m * x.n * x.w)) || decide (x.stepT ≠ 0 ∧ (x.stepT < 1000 ∨ 10000000 < x.stepT))

/-- The record that a descriptor at a memory address describes, and whether a reserved field is set (R397). -/
def State.clxDesc (s : State) (a p : Nat) : ClxRec × Bool :=
  let h := s.memN a 2
  let es := (List.range (s.memN (a + 20) 2)).map (fun i => clxEntry (s.memN (a + 64 + 8 * i) 8))
  ({ handle := h % 4096, part := p, state := 1, kind := s.memN (a + 2) 1, fmt := s.memN (a + 3) 1, op := s.memN (a + 4) 1,
     mode := s.memN (a + 5) 1, n := s.memN (a + 8) 4, m := s.memN (a + 12) 4, node := s.memN (a + 16) 2, parent := s.memN (a + 22) 1,
     stepT := s.memN (a + 24) 4, tsig := s.memN (a + 28) 4, inputs := es.map Prod.fst, waits := [], matched := 0, since := s.now, next := [],
     base := 0, open_ := [], aborts := [], lastCode := 0, lastStep := 0 },
   decide (4096 ≤ h) || decide (s.memN (a + 6) 2 ≠ 0) || decide (s.memN (a + 18) 2 ≠ 0) || decide (s.memN (a + 23) 1 ≠ 0)
     || decide (s.memN (a + 32) 32 ≠ 0) || es.any Prod.snd)

/-- The same definition (R398 check 6). -/
def ClxRec.same (x y : ClxRec) : Bool :=
  decide (x.kind = y.kind ∧ x.fmt = y.fmt ∧ x.op = y.op ∧ x.mode = y.mode ∧ x.n = y.n ∧ x.m = y.m ∧ x.node = y.node ∧ x.parent = y.parent
    ∧ x.stepT = y.stepT ∧ x.tsig = y.tsig ∧ x.inputs = y.inputs)

/-- The lowest free record index. -/
def freeRec : Nat → SMap ClxRec → Nat
  | n, [] => n
  | n, (k, _) :: t => if k = n then freeRec (n + 1) t else n

/-- A LOADING record with a matching mark on every tree port becomes ACTIVE; its definitions complete (R399). -/
def State.clxActivate (s : State) (r : Nat) : State :=
  match SMap.find s.grps r with
  | none => s
  | some x =>
    if x.state = 1 ∧ x.ports.all (fun p => bitAt x.matched p) then (s.modRec r (fun x => { x with state := 2 })).grpTellAll r 0 else s

/-- SYS.GRP.DEF (R398, R399, R417, R418, R635). -/
def execSysGrpDef (x : Iss) (ra rb : Fin 64) (imm : BitVec 24) (s : State) : Host.Outcome State Fault Refusal :=
  let i := imm.toNat
  let x := { x with res := x.res || decide (bitsAt i 0 6 ≠ 0 ∨ 2 ^ 13 ≤ i) }
  .next (s.issueAfter x 0 (fun s =>
    let k := s.cl x.c
    let off := (k.gr ra).toNat
    let st := (k.gr rb).toNat
    let a := sramAt x.c off
    let nin := s.memN (a + 20) 2
    let p := (s.cluPart x.c).getD 16
    let d := s.clxDesc a p
    if 0x400000 < off + 64 then s.fault x (Code.addr 3) off
    else if off % 64 ≠ 0 then s.fault x (Code.addr 2) off
    else if 0x400000 < st + 8 then s.fault x (Code.addr 3) st
    else if st % 8 ≠ 0 then s.fault x (Code.addr 2) st
    else if 0x400000 < off + 64 + 8 * nin then s.fault x (Code.addr 3) off
    else if s.psnRange a (64 + 8 * nin) then s.fault x (Code.poison 1) off
    else if k.hitsCode st 8 then s.fault x (Code.perm 1) st
    else if d.1.ports.any (fun q => decide (q < 16) && !s.portPres q) then s.fault x Code.unitAbsent
    else if d.2 then s.fault x (Code.format 2)
    else if d.1.stepT ≠ 0 ∧ s.cluExpert x.c = false then s.fault x (Code.perm 2)
    else if d.1.outOfRange then s.fault x (Code.format 0x0B)
    else if d.1.members.any (fun q => s.cluPart q.id ≠ some p) then s.fault x (Code.perm 6)
    else
      let g : GrpWait := ⟨x.c, st, bitsAt i 6 6, bitAt i 12⟩
      match s.recOf p d.1.handle with
      | some (r, y) =>
        if d.1.same y = false then s.fault x (Code.busy 0x23)
        else if y.state = 1 then (s.pass x).modRec r (fun y => { y with waits := y.waits ++ [g] })
        else (s.pass x).grpTell g 0
      | none =>
        if 1024 ≤ s.grps.length ∨ 16 * 2 ^ 20 < clxStore s.grps + 16384 * (nin + 1) then s.fault x (Code.busy 0x22)
        else
          let r := freeRec 0 s.grps
          let s := ((s.pass x).setRec r { d.1 with waits := [g] }).noteRecs
          (d.1.ports.foldl (fun s q => s.sendMark d.1 q 0) s).clxActivate r))

/-- A mark's payload agrees with a record (R399). -/
def ClxRec.agrees (x : ClxRec) (n : Nat) (p : Pkt) : Bool :=
  x.ports.contains n && decide (p.num 0 4 = x.tsig ∧ p.num 8 4 = x.n ∧ p.num 12 4 = x.m ∧ p.num 16 1 = x.kind ∧ p.num 17 1 = x.fmt
    ∧ p.num 18 1 = x.op ∧ p.num 19 1 = x.mode ∧ p.num 7 1 ≤ 1 ∧ p.num 6 1 = (if n = x.parent then 1 else 0))
    && (decide (n = x.parent) || x.inputs.any (fun i => i.child && decide (i.id = n ∧ i.cnode = p.num 4 2)))

/-- An activation mark that arrives on a port (R399). -/
def State.clxMark (s : State) (n : Nat) (p : Pkt) : State :=
  match s.recOf p.part (bitsAt p.w1.toNat 0 12) with
  | none => s.clxBad
  | some (r, x) =>
    if x.state = 3 then s
    else if x.agrees n p = false then
      ((s.bump F.QTZ_CLX_MARK_ERR).logE 0x0902 0xF041 2 [x.part, x.handle, n]).breakRec r (Code.format 0x0C)
    else
      let s := s.modRec r (fun x => { x with matched := x.matched ||| 2 ^ n })
      let s := if p.num 7 1 = 0 then s.sendMark x n 1 else s
      s.clxActivate r

/-- GRP_MARK_RESEND (R399). -/
def execGrpMarkResend (r : Fin 1024) (s : State) : Host.Outcome State Fault Refusal :=
  match SMap.find s.grps r with
  | some x => if x.state = 1 then .next ((x.ports.filter (fun p => !bitAt x.matched p)).foldl (fun s p => s.sendMark x p 0) s) else .next s
  | none => .next s

/-- GRP_ACTIVATE_TIMEOUT (R399): a record that is not ACTIVE within 1 s is deleted, its definitions told TIMEOUT 0x04. -/
def execGrpActivateTimeout (r : Fin 1024) (s : State) : Host.Outcome State Fault Refusal :=
  match SMap.find s.grps r with
  | some x => if x.state = 2 then .next s else .next (s.clxDelete r (Code.busy 0x20) (Code.timeout 4)).clxGo
  | none => .next s

/-- SYS.GRP.DEL (R400, R419). -/
def execSysGrpDel (x : Iss) (imm : BitVec 24) (s : State) : Host.Outcome State Fault Refusal :=
  let x := { x with res := x.res || decide (4096 ≤ imm.toNat) }
  .next (s.issue x 0 (fun s =>
    match s.recOf ((s.cluPart x.c).getD 16) imm.toNat with
    | none => s.pass x
    | some (r, _) => ((s.pass x).clxDelete r (Code.busy 0x20) (Code.busy 0x20)).clxGo))

/-- SYS.GRP.STAT (R400). -/
def execSysGrpStat (x : Iss) (rd : Fin 64) (imm : BitVec 24) (s : State) : Host.Outcome State Fault Refusal :=
  let x := { x with res := x.res || decide (4096 ≤ imm.toNat) }
  .next (s.issue x 0 (fun s =>
    let v := match s.recOf ((s.cluPart x.c).getD 16) imm.toNat with
      | none => 0
      | some (_, y) => y.state + SMap.get y.next 0 x.c * 2 ^ 12 + y.lastCode * 2 ^ 32
    s.done x ((s.cl x.c).setG rd (BitVec.ofNat 64 v))))

/-- A member sends its next chunk to its node (R404, R413): formed, at most four chunks ahead of the results. -/
def State.clxContribute (s : State) (c slot : Nat) : State :=
  let q := (s.cl c).clxAt slot
  match s.recOf ((s.cluPart c).getD 16) q.grp with
  | none => s
  | some (r, x) =>
    match x.member c with
    | none => s
    | some i =>
      let key := x.key i.rank q.sent
      let ok := decide (q.sent < 4) || q.got.any (fun e => e.1 = x.key i.rank (q.sent - 4))
      if q.busy = false ∨ q.ready = false ∨ x.chunks ≤ q.sent ∨ ok = false then s
      else
        let l := (q.data.drop (q.sent * x.e)).take x.e
        let conv : List ((Nat × NumFlags) × Bool) := match q.kind with
          | .tmmAr | .tmmRs => l.map (fun e =>
              if x.mode = 1 then ((e.1, (0 : NumFlags)), e.2)
              else (elemEncode x.fmt false false (if codeFloat x.fmt then f32 (BitVec.ofNat 32 e.1) else intDecode 32 e.1), e.2))
          | _ => l.map (fun e => ((e.1, (0 : NumFlags)), e.2))
        let s := s.modCl c (fun k => (k.raise (conv.foldl (fun f e => f ||| e.1.2) 0)).setClx slot { q with sent := q.sent + 1 })
        match (x.inputs.zip (List.range x.inputs.length)).find? (fun e => e.1 = i) with
        | some e => s.clxInput r q.step key e.2 (conv.map (fun e => (e.1.1, e.2))) 0
        | none => s

/-- The elements of a packet of width u, with the marks of their units. -/
def pktEls (p : Pkt) (u : Nat) : List (Nat × Bool) :=
  (List.range (p.bytes / u)).map (fun k => (p.num (k * u) u, bitAt p.w3.toNat (k * u / 64)))

/-- A collective packet of a known or unknown record, of the given opcode (R414, R415, R423). -/
def State.clxArrive (s : State) (n : Nat) (p : Pkt) : State :=
  let grp := bitsAt p.w1.toNat 0 12
  let step := bitsAt p.w1.toNat 12 20
  if p.opc = 0x18 ∧ step = 0xFFFFF then s.clxMark n p
  else match s.recOf p.part grp with
    | none => (s.sendAbort n p.part grp step 0 (Code.busy 0x20)).clxBad
    | some (r, x) =>
      if p.opc = 0x1A then
        let code := p.code
        if x.ports.contains n = false ∨ x.takes step = false then s.clxBad
        else if code = Code.busy 0x20 ∨ code = Code.busy 0x24 then
          (s.clxResolve r step code (x.ports.filter (fun q => q ≠ n))).breakRec r code
        else if n = x.parent then s.clxResolve r step code x.children
        else s.clxAbortUp r step code
      else
        let rank := bitsAt p.w2.toNat 32 20
        let chunk := bitsAt p.w1.toNat 44 12
        let flags := bitsAt p.w2.toNat 52 3
        if p.opc = 0x18 then
          match (x.inputs.zip (List.range x.inputs.length)).find? (fun e => e.1.child && decide (e.1.id = n)) with
          | some e => s.clxInput r step (x.key rank chunk) e.2 (pktEls p x.u) flags
          | none => s.clxBad
        else if n ≠ x.parent ∨ x.takes step = false then s.clxBad
        else if (x.stepOf step).any (fun t => t.down.contains (x.key rank chunk)) then s
        else
          let t : ClxStep := (x.stepOf step).getD ⟨step, s.now, [], [], [], false⟩
          let y := if (x.stepOf step).isSome then x else { x with open_ := x.open_ ++ [t] }
          (s.setRec r y).clxDown r step (x.key rank chunk) (pktEls p x.w) flags

/-- CLX_STEP_TIMEOUT (R422): the oldest open step of a record aborts with TIMEOUT 0x02, logged. -/
def execClxStepTimeout (r : Fin 1024) (s : State) : Host.Outcome State Fault Refusal :=
  match SMap.find s.grps r with
  | none => .next s
  | some x => match x.open_ with
    | [] => .next s
    | t :: _ => .next (((s.logE 0x0903 0xF041 2 [x.part, x.handle, t.step]).clxAbortUp r t.step (Code.timeout 2)).clxGo)

/-- CLX_SLOT_TIMEOUT (R422): the slot completes with TIMEOUT 0x03, its record breaks on this device. -/
def execClxSlotTimeout (c : Clu) (slot : Fin 8) (s : State) : Host.Outcome State Fault Refusal :=
  let q := (s.cl c).clxAt slot
  if q.busy = false then .next s
  else
    let s := s.clxEnd c slot (Code.timeout 3)
    match s.recOf ((s.cluPart c).getD 16) q.grp with
    | some (r, _) => .next (s.breakRec r (Code.timeout 3)).clxGo
    | none => .next s.clxGo

end Sys2Proof.Machine
end

