-- ==== Sys2Proof/Machine/Dma.lean ====
section
/-! DEFINITION. Machine/Dma.lean: the DMA instructions: their checks, the start of a transfer, waits and status, and the end of a transfer
(R178 to R180, R188 to R190, R200, R238, R240). -/

namespace Sys2Proof.Machine

/-- The bounding range of all rows, as lowest and highest byte (R178 check 5). -/
def boundRange (a rowBytes rows : Nat) (stride : Int) : Int × Int :=
  let last : Int := (a : Int) + ((rows : Int) - 1) * stride
  (min (a : Int) last, max (a : Int) last + rowBytes - 1)

/-- The device an ID names, with 0xFFFE read as this one (R176). -/
def State.devOf (s : State) (d : Nat) : Nat := if d = 0xFFFE then s.rd F.QTZ_ID_DEVID else d

/-- The cluster whose SRAM holds a fabric address, if its region is cluster SRAM. -/
def sramCluster (a : Nat) : Option Nat := match regionOf (a % 2 ^ 48) with | .sram c _ => some c | _ => none

/-- Checks 3 to 6 of R178, in order; a zero length skips 3 to 5 (R188). -/
def State.xferCode (s : State) (t : Xfer) : Nat :=
  let total := t.rowBytes * t.rows
  if total = 0 then
    (if t.sigDest ∧ sramCluster t.dst = none then Code.format 4 else 0)
  else if 2 ^ 32 - 1 < total then Code.format 4
  else if t.dst / 2 ^ 48 = 0xFFFF ∨ t.src / 2 ^ 48 = 0xFFFF then Code.addr 5
  else
    let rd := boundRange (t.dst % 2 ^ 48) t.rowBytes t.rows t.dstStride
    let rs := boundRange (t.src % 2 ^ 48) t.rowBytes t.rows t.srcStride
    if s.devOf (t.dst / 2 ^ 48) = s.devOf (t.src / 2 ^ 48) ∧ rd.1 ≤ rs.2 ∧ rs.1 ≤ rd.2 then Code.format 4
    else if t.sigDest ∧ sramCluster t.dst = none then Code.format 4
    else 0

/-- The signed 64-bit number in descriptor bytes. -/
def State.memI (s : State) (a : Nat) : Int := toSigned 64 (s.memN a 8)

/-- Check 2 of R178 and R635: where a descriptor of n bytes lies, and its poison. -/
def State.descCode (s : State) (c : Nat) (off : Nat) (n : Nat) : Nat :=
  if 0x400000 < off + n then Code.addr 3
  else if off % n ≠ 0 then Code.addr 2
  else if s.psnRange (sramAt c off) n then Code.poison 1
  else 0

/-- The transfer that a DMA instruction describes, or the code of check 2 (R178, R189, R190). -/
def State.dmaDesc (s : State) (c : Nat) (r : DmaReq) : Nat × Xfer :=
  let k := s.cl c
  let base : Xfer := { Xfer.init with sem := bitsAt r.imm 6 6, sig := bitAt r.imm 12, sigDest := bitAt r.imm 13, ro := r.ro,
                                      vcPair := k.dmavc, order := k.order }
  match r.kind with
  | .cp => (0, { base with dst := (k.gr r.rd).toNat, src := (k.gr r.ra).toNat, rowBytes := (k.gr r.rb).toNat, rows := 1 })
  | _ =>
    let off := (k.gr r.ra).toNat
    let e := s.descCode c off 64
    if e ≠ 0 then (e, base)
    else
      let a := sramAt c off
      let x := r.kind = .cpx
      let vp := s.memN (a + 48) 1
      let pr := s.memN (a + 49) 1
      let fl := s.memN (a + 50) 1
      if s.memN (a + 40) 8 ≠ 0 ∨ s.memN (a + 51) 13 ≠ 0 ∨ (if x then 1 < fl else s.memN (a + 48) 3 ≠ 0) then (Code.format 2, base)
      else if x ∧ ((1 < vp ∧ vp ≠ 0xFF) ∨ 3 < pr) then (Code.format 0x1D, base)
      else (0, { base with dst := s.memN a 8, src := s.memN (a + 8) 8, rowBytes := s.memN (a + 16) 4, rows := s.memN (a + 20) 4,
                           dstStride := s.memI (a + 24), srcStride := s.memI (a + 32),
                           vcPair := if x ∧ vp ≠ 0xFF then vp else k.dmavc, prio := if x then pr else 0, slateNa := decide (x ∧ fl = 1) })

/-- Raise a slot's unreported fault as a background fault (R200). -/
def State.raiseSlot (s : State) (c n : Nat) (long : Bool) : State :=
  let m := (s.cl c).slotAt n
  (s.modCl c (fun k => k.setSlot n { m with unrep := false })).deliver c long m.code 0 (bgInfo n false m.code)

/-- The numbered checks of R178 on a slot that is idle, and the start of the transfer. -/
def State.dmaStart (s : State) (x : Iss) (r : DmaReq) : State :=
  let k := s.cl x.c
  let n := r.imm % 64
  let m := k.slotAt n
  if m.unrep then s.raiseSlot x.c n x.long
  else
    let d := s.dmaDesc x.c r
    if d.1 ≠ 0 then s.fault x d.1 (match r.kind with | .cp => 0 | _ => (k.gr r.ra).toNat)
    else
      let e := s.xferCode d.2
      if e ≠ 0 then s.fault x e
      else s.done x ({ k with order := k.order + 1 }.setSlot n { m with busy := true, code := 0, x := d.2, out := 0, signalling := false })

/-- Issue a DMA instruction (R178, R179, R189): encoding, EXPERT_EN for DMA.CPX, a busy slot holds it, then the numbered checks. -/
def State.dmaIssue (s : State) (x : Iss) (r : DmaReq) : State :=
  let bad := decide (2 ^ 14 ≤ r.imm) || (bitAt r.imm 13 && !bitAt r.imm 12)
  s.issueAfter { x with res := x.res || bad } 0 (fun s =>
    if r.kind = .cpx ∧ s.cluExpert x.c = false then s.fault x (Code.perm 2)
    else if ((s.cl x.c).slotAt (r.imm % 64)).busy then s.hold x (.dmaSlot r (r.imm % 64))
    else s.dmaStart x r)

/-- DMA.CP (R178). -/
def execDmaCp (x : Iss) (rd ra rb : Fin 64) (imm : BitVec 24) (s : State) : Host.Outcome State Fault Refusal :=
  .next (s.dmaIssue x ⟨.cp, false, rd, ra, rb, imm.toNat⟩)

/-- DMA.CP2 (R178). -/
def execDmaCp2 (x : Iss) (ra : Fin 64) (imm : BitVec 24) (s : State) : Host.Outcome State Fault Refusal :=
  .next (s.dmaIssue x ⟨.cp2, false, 0, ra, 0, imm.toNat⟩)

/-- DMA.CPX (R189). -/
def execDmaCpx (x : Iss) (ra : Fin 64) (imm : BitVec 24) (s : State) : Host.Outcome State Fault Refusal :=
  .next (s.dmaIssue x ⟨.cpx, false, 0, ra, 0, imm.toNat⟩)

/-- UNT.CPRO: DMA.CP with the source marked read-only (R240). -/
def execUntCpro (x : Iss) (rd ra rb : Fin 64) (imm : BitVec 24) (s : State) : Host.Outcome State Fault Refusal :=
  .next (s.dmaIssue x ⟨.cp, true, rd, ra, rb, imm.toNat⟩)

/-- UNT.CP2RO (R240). -/
def execUntCp2ro (x : Iss) (ra : Fin 64) (imm : BitVec 24) (s : State) : Host.Outcome State Fault Refusal :=
  .next (s.dmaIssue x ⟨.cp2, true, 0, ra, 0, imm.toNat⟩)

/-- The issue of an instruction that waits, as its checks need it. -/
def State.waiter (s : State) (c : Clu) : Iss := { c := c, pg := 0, pn := false, long := (s.cl c).waitLong, res := false }

/-- DMA_ISSUE_RESUME (R178, R179): the slot's earlier transfer has completed. -/
def execDmaIssueResume (c : Clu) (s : State) : Host.Outcome State Fault Refusal :=
  let k := s.cl c
  match k.wait with
  | some (.dmaSlot r n) =>
    if (k.slotAt n).busy then .next s
    else .next ((s.setCl c { k with wait := none }).dmaStart (s.waiter c) r)
  | _ => .next s

/-- The lowest slot with an unreported fault (R200). -/
def ClusterSt.unrepSlot (k : ClusterSt) : Option Nat := (List.range 64).find? (fun n => (k.slotAt n).unrep)

/-- Every slot is idle. -/
def ClusterSt.slotsIdle (k : ClusterSt) : Bool := (List.range 64).all (fun n => !(k.slotAt n).busy)

/-- DMA.WAIT (R179, R200). -/
def execDmaWait (x : Iss) (n : Fin 64) (s : State) : Host.Outcome State Fault Refusal :=
  .next (s.issue x 0 (fun s =>
    let m := (s.cl x.c).slotAt n
    if m.busy then s.hold x (.dmaWait n) else if m.unrep then s.raiseSlot x.c n x.long else s.pass x))

/-- DMA.WAITALL (R200): unreported faults in ascending slot order, one at each execution. -/
def execDmaWaitall (x : Iss) (s : State) : Host.Outcome State Fault Refusal :=
  .next (s.issue x 0 (fun s =>
    let k := s.cl x.c
    if k.slotsIdle = false then s.hold x .dmaAll
    else match k.unrepSlot with
      | some n => s.raiseSlot x.c n x.long
      | none => s.pass x))

/-- DMA_WAIT_DONE (R200). -/
def execDmaWaitDone (c : Clu) (s : State) : Host.Outcome State Fault Refusal :=
  let k := s.cl c
  match k.wait with
  | some (.dmaWait n) =>
    if (k.slotAt n).busy then .next s
    else if (k.slotAt n).unrep then .next (s.raiseSlot c n k.waitLong) else .next (s.finish c)
  | some .dmaAll =>
    if k.slotsIdle = false then .next s
    else match k.unrepSlot with
      | some n => .next (s.raiseSlot c n k.waitLong)
      | none => .next (s.finish c)
  | _ => .next s

/-- The DMA.STAT result of a slot (R180). -/
def DmaSlot.status (m : DmaSlot) : Nat := m.code + m.busy.toNat * 65536 + m.unrep.toNat * 131072

/-- DMA.STAT (R180). -/
def execDmaStat (x : Iss) (rd n : Fin 64) (s : State) : Host.Outcome State Fault Refusal :=
  .next (s.issue x 0 (fun s => s.done x ((s.cl x.c).setG rd (BitVec.ofNat 64 ((s.cl x.c).slotAt n).status))))

/-- Free a slot with its final code (R179, R180). -/
def State.slotEnd (s : State) (c n code : Nat) : State :=
  s.modCl c (fun k => k.setSlot n { k.slotAt n with busy := false, code := code, unrep := decide (code ≠ 0), signalling := false })

/-- All of a slot's transfer is handed out, or a fatal code stopped it, and nothing is outstanding (R179). -/
def DmaSlot.finished (m : DmaSlot) : Bool :=
  m.busy && !m.signalling && decide (m.out = 0)
    && (decide (m.x.rowBytes * m.x.rows ≤ m.x.done) || (decide (m.code ≠ 0) && decide (m.code ≠ Code.poison 1)))

/-- DMA_SLOT_COMPLETE (R179, R180): SEM is signalled, or poisoned after a nonzero code, and the slot becomes idle; a completion signal to another
device keeps the slot until it is answered. -/
def execDmaSlotComplete (c : Clu) (n : Fin 64) (s : State) : Host.Outcome State Fault Refusal :=
  let m := (s.cl c).slotAt n
  if m.finished = false then .next s
  else if m.x.sig = false then .next (s.slotEnd c n m.code)
  else if m.x.sigDest = false then
    let t := if m.code = 0 then s.signalSem c m.x.sem 1 else s.poisonSem c m.x.sem
    .next (t.slotEnd c n m.code)
  else
    let d := m.x.dst / 2 ^ 48
    let tgt := (sramCluster m.x.dst).getD 0
    let p := (s.cluPart c).getD 16
    if s.idCode d ≠ 0 then
      .next ((if m.code = 0 then s.slotEnd c n (s.idCode d) else (s.modCl c (fun k => k.sigFailed (s.idCode d))).slotEnd c n m.code))
    else if s.answersFor d then
      let code := if s.isAssumed d then Code.takeover 3 else s.sigCode (s.cluReq c) tgt
      if m.code = 0 then
        .next (if code = 0 then (s.signalSem tgt m.x.sem 1).slotEnd c n 0 else s.slotEnd c n code)
      else
        .next (if code = 0 then (s.poisonSem tgt m.x.sem).slotEnd c n m.code
          else (s.modCl c (fun k => k.sigFailed code)).slotEnd c n m.code)
    else if m.code = 0 then
      .next ((s.modCl c (fun k => k.setSlot n { m with signalling := true })).remote (.dmaSig c n) p d false
        (s.pktSignal p d tgt m.x.sem 1 false))
    else
      .next (((s.modCl c (fun k => { k with sigOut := k.sigOut + 1 })).slotEnd c n m.code).remote (.dmaPsn c) p d false
        (s.pktSignal p d tgt m.x.sem 0 true))

end Sys2Proof.Machine
end

