-- ==== Sys2Proof/Machine/Fail.lean ====
section
/-! DEFINITION. Machine/Fail.lean: SERVICE_DUE and the mark of a failed unit (R631, R651). -/

namespace Sys2Proof.Machine

/-- SERVICE_DUE (R651): a cluster failed with no spare; a chiplet, slice, port group, stack, Mica or Jasper failed; or SERVICE of a port. -/
def State.serviceDue (s : State) : Bool :=
  (List.range 4).any (fun k => decide (s.rd F.ERR_CLU_FAIL_FAIL k ≠ 0)) || decide (s.rd F.ERR_SUMMARY_CC_FAILED ≠ 0)
    || s.err.failed.any (fun e => decide (272 ≤ e.1 ∧ e.1 ≤ 302)) || (List.range 17).any (fun n => s.bit F.QTZ_PORT_STAT_SERVICE n)

/-- Log event 0x1006 when a change has set SERVICE_DUE; how its DATA codes the condition is not stated: a free value (log 26). -/
def State.noteService (s0 s : State) : State :=
  if !s0.serviceDue && s.serviceDue then (s.logE 0x1006 0xF044 3 [Config.freeNat s.free]).drawn else s

/-- Mark an island's unit as failed, with its class-2 record of its own (R631). -/
def State.markFailed (s : State) (isl kind : Nat) : State :=
  { s with err := { s.err with failed := SMap.set s.err.failed false isl true } }.errRec kind isl 2

end Sys2Proof.Machine
end

