-- ==== Sys2Proof/Machine/Hbm.lean ====
section
/-! DEFINITION. Machine/Hbm.lean: the HBM controllers: array and link errors, patrol, row repair, bandwidth modes, the mirror region's size
(R279 to R306). -/

namespace Sys2Proof.Machine

/-- The row of a stack-local address (R282). -/
def hbmRow (sa : Nat) : HbmRow :=
  ⟨bitsAt sa 8 5 ^^^ bitsAt sa 17 5, bitsAt sa 33 2, bitsAt sa 15 4, bitsAt sa 19 14⟩

/-- The stack-local address of granule g of a row (R282). -/
def HbmRow.addr (r : HbmRow) (g : Nat) : Nat :=
  let hi := g * 2 ^ 13 + r.bank * 2 ^ 15 + r.row * 2 ^ 19 + r.sid * 2 ^ 33
  hi + (r.pc ^^^ bitsAt hi 17 5) * 2 ^ 8

/-- The local address of a stack-local address: the inverse of R281. -/
def State.localOf (s : State) (n sa : Nat) : Nat :=
  let b := s.rd F.HBM_STAT_B
  let o := sa / 256 * 2 ^ (8 + b) + sa % 256
  hbmBase + o + ((n - s.rd F.HBM_STAT_G0) ^^^ bitsAt o 18 b ^^^ bitsAt o 28 b) * 256

/-- A controller. -/
def State.hb (s : State) (n : Nat) : HbmSt := SMap.get s.hbm.ctl HbmSt.init n

/-- A controller changed, with QUEUE of HBM_ERR. -/
def State.modHb (s : State) (n : Nat) (f : HbmSt → HbmSt) : State :=
  let x := f (s.hb n)
  { s with hbm := { s.hbm with ctl := SMap.set s.hbm.ctl HbmSt.init n x } }.wr F.HBM_ERR_QUEUE x.queue.length n

/-- A stack of the interleave group in use (R281). -/
def State.inGroup (s : State) (n : Nat) : Bool := decide (s.rd F.HBM_STAT_G0 ≤ n) && decide (n < s.rd F.HBM_STAT_G0 + s.hbmW)

/-- The stack whose rate a mode change is changing (R284, R300): the next one, unless a repair still runs on it. -/
def State.retraining (s : State) (n : Nat) : Bool :=
  match s.hbm.modeRun with
  | some (_, m :: _) => decide (m = n) && (s.hb n).run.isNone
  | _ => false

/-- Accesses to a stack-local address wait: its stack retrains or its bank is fenced (R284, R294). -/
def State.hbmWaits (s : State) (n sa : Nat) : Bool :=
  s.retraining n || (match (s.hb n).run with
    | some r => decide (r.pc = (hbmRow sa).pc ∧ r.sid = (hbmRow sa).sid ∧ r.bank = (hbmRow sa).bank)
    | none => false)

/-- A row becomes a repair candidate (R293). -/
def State.candidate (s : State) (n : Nat) (r : HbmRow) : State :=
  let x := s.hb n
  if x.queue.contains r ∨ x.run = some r then s
  else if 16 ≤ x.queue.length then s.bump F.HBM_ERR_RPR_DROP 1 n
  else s.modHb n (fun x => { x with queue := x.queue ++ [r] })

/-- Raise a row's count in the tracker of 256 rows (R288, R293). -/
def State.trackRow (s : State) (n : Nat) (r : HbmRow) : State :=
  let x := s.hb n
  let c := (match x.track.find? (fun e => e.1 = r) with | some e => e.2 | none => 0) + 1
  let s := s.modHb n (fun x => { x with track := ((r, c) :: x.track.filter (fun e => e.1 ≠ r)).take 256 })
  if s.rd F.HBM_SCRUB_RPR_THRESH ≤ c then s.candidate n r else s

/-- Parity errors of a lane (R287): at the sixteenth within a second the lane is repaired. -/
def State.laneErr : Nat → State → Nat → Nat → State
  | 0, s, _, _ => s
  | k + 1, s, n, lane =>
    let x := s.hb n
    let l := (lane, s.now) :: x.lanes.filter (fun e => decide (s.now < e.2 + 1000000000))
    let s := if 16 ≤ (l.filter (fun e => e.1 = lane)).length then
        (((s.modHb n (fun x => { x with lanes := l.filter (fun e => e.1 ≠ lane) })).bump F.HBM_ERR_LANE_RPR 1 n).errRec 0x08 (295 + n) 0).logE
          0x0601 (295 + n) 2 [n, lane / 64, lane]
      else s.modHb n (fun x => { x with lanes := l })
    State.laneErr k s n lane

/-- An uncorrected error of a burst, or replay exhausted (R288, R291): counted, recorded, logged. -/
def State.hbmUE (s : State) (n a : Nat) : State :=
  ((s.bump F.HBM_ERR_UE 1 n).errRec 0x08 (295 + n) 1 (Code.poison 1) a).logE 0x0602 (295 + n) 3 [a]

/-- Enter a burst in the poison table unless it is full (R289, R305). -/
def State.enterPsn (s : State) (n b : Nat) : State :=
  if s.psnAt b then s
  else if 4096 ≤ s.rd F.HBM_PSN_USED n then s
  else (s.setPsn b true).wr F.HBM_PSN_USED (s.rd F.HBM_PSN_USED n + 1) n

/-- What a burst read brings to light (R287, R288): replays, exhaustion, and the severity of on-die ECC (0 none, 1 single-bit, 2 multi-bit, 3
uncorrected). -/
def State.eccRead (s : State) (n sa parity lane sev : Nat) : State :=
  let a := s.localOf n sa
  let b := a - a % 32
  let s := State.laneErr parity (s.bump F.HBM_ERR_LINK_RPL (min parity 4) n) n lane
  if parity = 5 then s.hbmUE n b
  else match sev with
    | 0 => s
    | 1 => (s.bump F.HBM_ERR_CE1 1 n).trackRow n (hbmRow sa)
    | 2 => ((s.bump F.HBM_ERR_CEM 1 n).errRec 0x08 (295 + n) 0 0 b).candidate n (hbmRow sa)
    | _ => ((s.enterPsn n b).hbmUE n b).candidate n (hbmRow sa)

/-- HBM_READ (R287, R288, R304): a burst read at its controller; it waits at a fence or a retraining stack. -/
def execHbmRead (a : BitVec 48) (parity : Fin 6) (lane : BitVec 11) (sev : Fin 4) (s : State) : Host.Outcome State Fault Refusal :=
  match regionOf a.toNat with
  | .hbm o =>
    let n := s.stackOf o
    if s.hbmCap ≤ o ∨ s.stackOk n = false ∨ s.hbmWaits n (s.stackAddr o) then .next s
    else .next (s.eccRead n (s.stackAddr o) parity lane.toNat sev)
  | _ => .next s

/-- HBM_WRITE (R287, R289, R290, R304, R305): the bytes must lie in one burst; a write whose replays are exhausted is entered as poisoned. -/
def execHbmWrite (a : BitVec 48) (data : List (Byte × Bool)) (parity : Fin 6) (lane : BitVec 11) (s : State) :
    Host.Outcome State Fault Refusal :=
  match regionOf a.toNat with
  | .hbm o =>
    let n := s.stackOf o
    if s.hbmCap < o + data.length ∨ data = [] ∨ 32 < o % 32 + data.length ∨ s.hbmWaits n (s.stackAddr o) then .next s
    else if s.stackOk n = false then .next s
    else
      let s := State.laneErr parity (s.bump F.HBM_ERR_LINK_RPL (min (parity : Nat) 4) n) n lane.toNat
      if parity = 5 then .next ((s.burstWrite a.toNat (data.map (fun e => (e.1, true)))).1.hbmUE n (a.toNat - a.toNat % 32))
      else .next (s.burstWrite a.toNat data).1
  | _ => .next s

/-- The bursts' end of a stack: 24 GiB. -/
def stackEnd : Nat := 24 * 2 ^ 30

/-- PATROL_READ (R292, R293, R299, R300): the next burst, or one skipped behind a fence; the mirror region only with MIRROR_SCRUB. Corrected data is
written back, which changes no data. At the end of a pass PASS counts and the single-bit counts are cleared. -/
def execPatrolRead (n : Fin 8) (parity : Fin 6) (lane : BitVec 11) (sev : Fin 4) (s : State) : Host.Outcome State Fault Refusal :=
  if s.inGroup n = false ∨ s.stackOk n = false ∨ s.retraining n then .next s
  else
    let x := s.hb n
    let fresh := decide (x.patrol < stackEnd)
    let sa := if fresh then x.patrol else x.skipped.headD 0
    let a := s.localOf n sa
    let skip := decide (s.mirrorBase ≤ a) && !s.bit F.HBM_SCRUB_MIRROR_SCRUB
    let wait := s.hbmWaits n sa
    let s := if skip || wait then s else s.eccRead n sa parity lane.toNat sev
    let s := s.modHb n (fun x =>
      let x := if fresh then { x with patrol := x.patrol + 32 } else { x with skipped := x.skipped.tail }
      if wait && !skip then { x with skipped := x.skipped ++ [sa] } else x)
    let y := s.hb n
    if stackEnd ≤ y.patrol ∧ y.skipped = [] then .next ((s.modHb n (fun x => { x with patrol := 0, track := [] })).bump F.HBM_SCRUB_PASS)
    else .next s

/-- The event data of a row: stack, PC, stack-ID, bank, row. -/
def HbmRow.data (r : HbmRow) (n : Nat) : List Nat := [n, r.pc, r.sid, r.bank, r.row]

/-- ROW_REPAIR_START (R294, R295, R300): the oldest candidate fences its bank; in a bank without a repair resource it cannot be repaired, and the
record names every granule of the row. -/
def execRowRepairStart (n : Fin 8) (s : State) : Host.Outcome State Fault Refusal :=
  let x := s.hb n
  match x.run, x.queue with
  | none, r :: t =>
    if s.retraining n ∨ s.stackOk n = false then .next s
    else if x.used.contains (r.pc, r.sid, r.bank) then
      let s := (s.modHb n (fun x => { x with queue := t })).bump F.HBM_ERR_RPR_FAIL 1 n
      .next ((s.errRec 0x08 (295 + n) 1 0 (s.localOf n (r.addr 0)) 0xFFFF 0xFFFF ((List.range 4).map (fun g => s.localOf n (r.addr g)))).logE
        0x0604 (295 + n) 3 (r.data n))
    else .next (s.modHb n (fun x => { x with queue := t, run := some r }))
  | _, _ => .next s

/-- The bursts that step 3 finds uncorrectable are entered one by one, as far as there is room: whether all found it (R302). -/
def State.step3 (s : State) (n : Nat) (r : HbmRow) (unc : Nat) : State × Bool :=
  (List.range 32).foldl (fun t k =>
    if bitAt unc k = false then t
    else
      let b := t.1.localOf n (r.addr (k / 8)) + 32 * (k % 8)
      let room := t.1.psnAt b || decide (t.1.rd F.HBM_PSN_USED n < 4096)
      ((t.1.enterPsn n b).hbmUE n b, t.2 && room)) (s, true)

/-- ROW_REPAIR_DONE (R294, R295, R302): the row is replaced, the fence lifts, the record goes to Flint; with a full poison table the repair is
abandoned and the row stays a candidate. -/
def execRowRepairDone (n : Fin 8) (unc : BitVec 32) (s : State) : Host.Outcome State Fault Refusal :=
  match (s.hb n).run with
  | none => .next s
  | some r =>
    let t := s.step3 n r unc.toNat
    if t.2 = false then .next (t.1.modHb n (fun x => { x with run := none, queue := r :: x.queue }))
    else
      let s := t.1.modHb n (fun x => { x with run := none, used := (r.pc, r.sid, r.bank) :: x.used })
      let s := (s.bump F.HBM_ERR_RPR_DONE 1 n).wr F.HBM_ERR_RPR_LEFT (s.rd F.HBM_ERR_RPR_LEFT n - 1) n
      let s := (s.errRec 0x08 (295 + n) 0 0 (s.localOf n (r.addr 0)) 0xFFFF 0xFFFF (r.data n)).logE 0x0603 (295 + n) 1 (r.data n)
      .next { s with hbm := { s.hbm with unflashed := s.hbm.unflashed ++ [((n : Nat), r)] } }

/-- Set FLASHED of the newest record of a kind with given data (R636). -/
def State.flashRec (s : State) (kind : Nat) (d : List Nat) : State :=
  let rec go : List ErrRec → List ErrRec
    | [] => []
    | e :: t => if e.kind = kind ∧ e.data = d then { e with flashed := true } :: t else e :: go t
  { s with err := { s.err with ring := go s.err.ring } }

/-- REPAIR_RECORD_FLASHED (R294, R296): the oldest record that waits reaches flash, which holds 4,096. -/
def execRepairRecordFlashed (s : State) : Host.Outcome State Fault Refusal :=
  match s.hbm.unflashed with
  | [] => .next s
  | (n, r) :: t =>
    let s := { s with hbm := { s.hbm with unflashed := t } }
    if 4096 ≤ s.hbm.records.length then .next s
    else .next ({ s with hbm := { s.hbm with records := s.hbm.records ++ [(n, r, false)] } }.flashRec 0x08 (r.data n))

/-- The stacks that a mode change visits (R283). -/
def State.modeStacks (s : State) : List Nat := (List.range 8).filter (fun n => s.inGroup n && !s.flag F.HBM_STAT_INSVC_FAIL n)

/-- The running and pending mode changes, shown in HBM_MODE. -/
def State.setModes (s : State) (run : Option (Nat × List Nat)) (pend : Option Nat) : State :=
  ({ s with hbm := { s.hbm with modeRun := run, modePend := pend } }.wb F.HBM_MODE_RUN run.isSome).wb F.HBM_MODE_PEND pend.isSome

/-- The turn of a request has come (R285). -/
def State.modeTurn (s : State) (m : Nat) : State :=
  if m = s.rd F.HBM_STAT_MODE then (s.setModes none none).wr F.HBM_MODE_CODE 0
  else if s.modeStacks = [] then ((s.setModes none none).wr F.HBM_MODE_CODE 0).wr F.HBM_STAT_MODE m
  else s.setModes (some (m, s.modeStacks)) none

/-- A write of HBM_MODE (R283, R285). -/
def State.modeWrite (s : State) (src : Src) (v : Nat) : State :=
  if src ≠ .pf then s.bump F.FLT_WR_REJ_COUNT
  else
    let m := v % 2
    let s := s.wr F.HBM_MODE_REQ m
    match s.hbm.modePend, s.hbm.modeRun with
    | some _, run => (s.setModes run (some m)).wr F.HBM_MODE_CODE (Code.superseded 0)
    | none, some (t, l) => if m = t then s.wr F.HBM_MODE_CODE 0 else s.setModes (some (t, l)) (some m)
    | none, none => s.modeTurn m

/-- HBM_MODE_REQ (R283, R285). -/
def execHbmModeReq (src : Src) (v : BitVec 64) (s : State) : Host.Outcome State Fault Refusal := .next (s.modeWrite src.host v.toNat)

/-- HBM_MODE_STACK_DONE (R284, R285, R300): the next stack, or the end of the change and the turn of a pending request. -/
def execHbmModeStackDone (s : State) : Host.Outcome State Fault Refusal :=
  match s.hbm.modeRun with
  | none => .next s
  | some (m, l) =>
    if l.any (fun n => s.retraining n) = false ∧ l ≠ [] then .next s
    else match l.tail with
      | [] =>
        let p := s.hbm.modePend
        let s := ((s.setModes none none).wr F.HBM_STAT_MODE m).wr F.HBM_MODE_CODE 0
        .next (match p with | some q => s.modeTurn q | none => s)
      | t => .next (s.setModes (some (m, t)) s.hbm.modePend)

/-- The pair is bound (R297): every state but UNBOUND, BINDING and YIELDED. -/
def State.pairIsBound (s : State) : Bool := decide (2 ≤ s.rd F.AGT_STAT_STATE ∧ s.rd F.AGT_STAT_STATE ≤ 8)

/-- A write of HBM_MIRROR (R297). -/
def State.mirrorWrite (s : State) (src : Src) (v : Nat) : State :=
  if src ≠ .pf then s.bump F.FLT_WR_REJ_COUNT
  else
    let s := if bitAt v 6 then s.wb F.HBM_MIRROR_REJ false else s
    let g := v % 64
    let lo := hbmBase + s.hbmCap - g * 2 ^ 30
    if g = s.rd F.HBM_MIRROR_SIZE_GIB then s
    else if 48 < g ∨ s.pairIsBound ∨ s.hbmCap < 2 * (g * 2 ^ 30)
        ∨ s.host.grants.any (fun e => decide (lo < e.2.base + 4096 * e.2.pages)) then s.wb F.HBM_MIRROR_REJ true
    else s.wr F.HBM_MIRROR_SIZE_GIB g

/-- HBM_MIRROR_WRITE (R297). -/
def execHbmMirrorWrite (src : Src) (v : BitVec 64) (s : State) : Host.Outcome State Fault Refusal := .next (s.mirrorWrite src.host v.toNat)

/-- Sources that may write the registers of a block that only the host physical function writes, with the fields the management paths may write. -/
def hostOrMgmt : Src → Bool
  | .pf => true
  | .mb _ => true
  | .mg => true
  | _ => false

/-- HBM_SCRUB_WRITE (R298): expert fields; values out of range are discarded and set FMT_REJ. -/
def execHbmScrubWrite (src : Src) (v : BitVec 64) (s : State) : Host.Outcome State Fault Refusal :=
  if hostOrMgmt src.host = false then .next (s.bump F.FLT_WR_REJ_COUNT)
  else .next (writeFields s src.host 8 F.HBM_SCRUB_PERIOD_H.addr v.toNat).1

/-- A write of HBM_RPR_REQ with its code (R298). -/
def State.rprWrite (s : State) (src : Src) (size a v : Nat) : State × Nat :=
  if hostOrMgmt src = false then (s.bump F.FLT_WR_REJ_COUNT, 0)
  else
    let r := writeFields s src size a v
    if actionBit s src size a v F.HBM_RPR_REQ_GO 0 = false then r
    else
      let s := r.1
      let n := s.rd F.HBM_RPR_REQ_STACK
      let row : HbmRow := ⟨s.rd F.HBM_RPR_REQ_PC, s.rd F.HBM_RPR_REQ_SID, s.rd F.HBM_RPR_REQ_BANK, s.rd F.HBM_RPR_REQ_ROW⟩
      if s.inGroup n = false ∨ s.stacks ≤ n ∨ s.flag F.HBM_STAT_INSVC_FAIL n ∨ 2 < row.sid then (s.wb F.HBM_SCRUB_FMT_REJ true, Code.format 0)
      else (s.candidate n row, 0)

/-- HBM_RPR_REQ_GO (R298). -/
def execHbmRprReqGo (src : Src) (v : BitVec 64) (s : State) : Host.Outcome State Fault Refusal :=
  .next (s.rprWrite src.host 8 F.HBM_RPR_REQ_STACK.addr v.toNat).1

/-- A stack fails in service (R304, R631): it answers with POISON; a running mode change leaves it out. -/
def State.stackFail (s : State) (n : Nat) : State :=
  if s.stacks ≤ n ∨ s.flag F.HBM_STAT_INSVC_FAIL n then s
  else
    let s := State.noteService s (((s.wflag F.HBM_STAT_INSVC_FAIL n true).markFailed (295 + n) 0x09).logE 0x0605 (295 + n) 4 [n])
    let s := s.modHb n (fun x => { x with queue := [], run := none })
    match s.hbm.modeRun with
    | some (m, l) =>
      let l := l.filter (fun k => k ≠ n)
      if l ≠ [] then s.setModes (some (m, l)) s.hbm.modePend
      else
        let p := s.hbm.modePend
        let s := ((s.setModes none none).wr F.HBM_STAT_MODE m).wr F.HBM_MODE_CODE 0
        match p with | some q => s.modeTurn q | none => s
    | none => s

/-- HBM_STACK_FAIL (R304). -/
def execHbmStackFail (n : Fin 8) (s : State) : Host.Outcome State Fault Refusal := .next (s.stackFail n)

end Sys2Proof.Machine
end

