-- ==== Sys2Proof/Machine/Slate.lean ====
section
/-! DEFINITION. Machine/Slate.lean: accesses that reach a slice, line fills, and the assignment of slices (R243 to R259, R268, R277, R278). -/

namespace Sys2Proof.Machine

/-- Slate changed. -/
def State.modSl (s : State) (f : SlateSt → SlateSt) : State := { s with slate := f s.slate }

/-- The partition of a requester; none is the host physical function. -/
def State.rqPart (s : State) : Rq → Option Nat
  | .clu c => s.cluReq c
  | .port _ p => some p
  | .pf => none
  | .vf p => some p
  | .eng p => some p

/-- The place a requester lies behind (R247): chiplets 0 to 3, port groups 4 to 8, 15 any other. -/
def rqPlace : Rq → Nat
  | .clu c => c / 64
  | .port n _ => 4 + n / 4
  | _ => 15

/-- Whether an access waits at a slice input because an assignment change runs on its slice (R259). -/
def State.accWaits (s : State) (a : Nat) : Bool :=
  match regionOf a with
  | .scratch sl _ => s.bit F.SLT_SLICE_BUSY sl
  | .hbm _ => match s.homeOf a with
    | some h => match s.localSlice h a with
      | some sl => s.bit F.SLT_SLICE_BUSY sl
      | none => false
    | none => false
  | _ => false

/-- The outstanding fill of a line in a slice. -/
def State.fillAt (s : State) (sl line : Nat) : Option SFill := s.slate.fills.find? (fun f => decide (f.slice = sl ∧ f.line = line))

/-- The fills outstanding in a slice (R247). -/
def State.fillCount (s : State) (sl : Nat) : Nat := (s.slate.fills.filter (fun f => f.slice = sl)).length

/-- Request a remote line for a REMOTE slice. Where the pushed data is addressed is a free value: the spec states no address (log 24). -/
def State.requestLine (s : State) (line : Nat) (p : Nat) : State :=
  let push := s.rd F.QTZ_ID_DEVID * 2 ^ 48 + Config.freeNat s.free % 2 ^ 48
  s.drawn.remote (.fill line) p (line / 2 ^ 48) false (s.pktRead p 0 (line / 2 ^ 48) (line % 2 ^ 48) 128 push)

/-- A miss in a slice (R247, R248): it joins the line's fill, opens one, or waits at the input. -/
def State.slateMiss (s : State) (sl line : Nat) (remote : Bool) (place : Nat) : State :=
  match s.fillAt sl line with
  | some f =>
    if f.waiters.length < 32 then
      (s.modSl (fun t => { t with fills := t.fills.map (fun g => if g = f then { g with waiters := g.waiters ++ [place] } else g) })).bump F.SLT_MERGE 1 sl
    else s.modSl (fun t => { t with waits := t.waits ++ [⟨sl, line, remote, place⟩] })
  | none =>
    if s.fillCount sl < 512 then
      let s := (s.modSl (fun t => { t with fills := t.fills ++ [⟨sl, line, remote, [place], false⟩] })).bump F.SLT_MISS 1 sl
      if remote then s.requestLine line (SMap.get s.slate.slices (0, 0) sl).2 else s
    else s.modSl (fun t => { t with waits := t.waits ++ [⟨sl, line, remote, place⟩] })

/-- SLATE_READ (R244, R247, R250, R252): a read of n bytes within one line. -/
def execSlateRead (r : Rq) (ro na : Bool) (a : BitVec 64) (n : Fin 129) (s : State) : Host.Outcome State Fault Refusal :=
  let d := a.toNat / 2 ^ 48
  let l := a.toNat % 2 ^ 48
  let part := s.rqPart r
  if n = 0 ∨ 128 < l % 128 + (n : Nat) ∨ s.isAssumed d then .next s
  else if s.answersFor d then
    if s.accCode part false l n ≠ 0 ∨ s.accWaits l then .next s
    else match regionOf l with
      | .hbm _ => match s.homeOf l with
        | none => .next s
        | some h => match s.localSlice h l with
          | none => .next s
          | some sl =>
            let m := maskOf (l % 128) n
            let v := match s.lineAt l with | some x => x.valid | none => 0
            if v &&& m = m then .next (s.bump F.SLT_HIT 1 sl)
            else if part = some h ∧ na = false then .next (s.slateMiss sl (l - l % 128) false (rqPlace r))
            else .next (s.bump F.SLT_MISS 1 sl)
      | _ => .next s
  else match part, ro with
    | some p, true => match s.remoteSlice p a.toNat with
      | none => .next s
      | some sl =>
        if s.bit F.SLT_SLICE_BUSY sl ∨ s.idCode d ≠ 0 then .next s
        else if (SMap.find s.slate.rlines (a.toNat / 128)).isSome then .next (s.bump F.SLT_HIT 1 sl)
        else .next (s.slateMiss sl (a.toNat - a.toNat % 128) true (rqPlace r))
    | _, _ => .next s

/-- SLATE_WRITE (R243, R250, R253): a write that reaches Slate or scratch under the requester's rights. -/
def execSlateWrite (r : Rq) (na : Bool) (a : BitVec 64) (data : List (Byte × Bool)) (s : State) : Host.Outcome State Fault Refusal :=
  let d := a.toNat / 2 ^ 48
  let l := a.toNat % 2 ^ 48
  if s.answersFor d = false ∨ s.accWaits l then .next s
  else match regionOf l with
    | .hbm _ | .scratch _ _ => .next (s.writeAs (s.rqPart r) na d l data).1
    | _ => .next s

/-- SLATE_ATOMIC (R175, R250, R253). -/
def execSlateAtomic (r : Rq) (a : BitVec 64) (op : BitVec 4) (wide : Bool) (v cmp : BitVec 64) (s : State) :
    Host.Outcome State Fault Refusal :=
  let d := a.toNat / 2 ^ 48
  let l := a.toNat % 2 ^ 48
  if s.answersFor d = false ∨ s.accWaits l ∨ 10 < op.toNat ∨ (op = 10 ∧ wide) then .next s
  else match regionOf l with
    | .hbm _ | .scratch _ _ => .next (s.atomicAt (s.rqPart r) d l op.toNat (if wide then 8 else 4) v.toNat cmp.toNat).1
    | _ => .next s

/-- A remote line installed in a REMOTE slice with the marks of its words (R277). -/
def SlateSt.putRemote (t : SlateSt) (sl line : Nat) (data : List Byte) (psn : Nat) : SlateSt :=
  { t with
    rlines := SMap.put t.rlines (line / 128) sl,
    rmem := (List.range 128).foldl (fun m k => memSet m (line + k) (data[k]?.getD 0)) t.rmem,
    rpsn := (List.range 16).foldl (fun m w => SMap.set m false (line + 8 * w) (bitAt psn w)) t.rpsn }

/-- Remote lines dropped: those for which the test holds. -/
def SlateSt.dropRemote (t : SlateSt) (f : Nat → Nat → Bool) : SlateSt :=
  let out (a : Nat) : Bool := match SMap.find t.rlines (a / 128) with
    | some sl => f sl (a / 128 * 128)
    | none => false
  { t with rlines := t.rlines.filter (fun e => !f e.2 (128 * e.1)), rmem := t.rmem.filter (fun c => !out c.1),
           rpsn := t.rpsn.filter (fun c => !out c.1) }

/-- The remote lines that share the set of a line in a slice (R242, R246). -/
def State.remoteSet (s : State) (sl line : Nat) : List Nat :=
  (s.slate.rlines.filter (fun e => decide (e.2 = sl ∧ Config.slateSet (128 * e.1) % 32768 = Config.slateSet line % 32768))).map (fun e => 128 * e.1)

/-- Room for a remote line in a slice (R246): a line of a full set, without an outstanding fill, is discarded; none if no line may be. -/
def State.remoteRoom (s : State) (sl line : Nat) : Option State :=
  if (SMap.find s.slate.rlines (line / 128)).isSome || decide (s.slate.rlines.length < 16) then some s
  else
    let l := s.remoteSet sl line
    if l.length < 16 then some s
    else
      let vs := l.filter (fun b => s.slate.fills.all (fun f => !f.remote || decide (f.line ≠ b)))
      match vs[Config.freeNat s.free % vs.length]? with
      | some v => some (s.drawn.modSl (fun t => t.dropRemote (fun _ b => decide (b = v))))
      | none => none

/-- Whether responses leave as one multicast packet: two waiters behind the same bridge or port group (R247). -/
def multicast : List Nat → Bool
  | [] => false
  | p :: t => (decide (p < 9) && t.contains p) || multicast t

/-- The running prefetches that a failed fill of a line belongs to take its code, the first one (R262, R263). -/
def State.prefetchFailed (s : State) (line code : Nat) : State :=
  s.modSl (fun t => { t with rgn := t.rgn.map (fun e => match e.2.run with
    | some q => if q.op = 3 ∧ q.code = 0 ∧ q.base ≤ line ∧ line < q.base + q.len then (e.1, { e.2 with run := some { q with code := code } }) else e
    | none => e) })

/-- SLATE_FILL (R244, R247, R271, R277): the fill is merged and installed unless a maintenance step forbids it or it failed. The data of a
remote fill come with the command; a local fill's come from HBM. -/
def execSlateFill (sl : Fin 16) (line : BitVec 64) (code : BitVec 16) (data : List Byte) (psn : BitVec 16) (s : State) :
    Host.Outcome State Fault Refusal :=
  let line := line.toNat - line.toNat % 128
  match s.fillAt sl line with
  | none => .next s
  | some f =>
    let s := s.modSl (fun t => { t with fills := t.fills.filter (fun g => g ≠ f) })
    let s := if multicast f.waiters then s.bump F.SLT_MCAST 1 sl else s
    if f.remote = false then .next (if f.drop then s else s.lineFill sl line)
    else if code ≠ 0 then .next (s.prefetchFailed line code.toNat)
    else
      let s := if psn = 0 then s else s.prefetchFailed line (Code.poison 1)
      .next (if f.drop then s else match s.remoteRoom sl line with
        | some u => u.modSl (fun t => t.putRemote sl line data psn.toNat)
        | none => s)

/-- SLATE_FILL_ENTRY_FREE (R248): the oldest miss that waits at a slice proceeds when it can. -/
def execSlateFillEntryFree (sl : Fin 16) (s : State) : Host.Outcome State Fault Refusal :=
  match s.slate.waits.find? (fun w => w.slice = (sl : Nat)) with
  | none => .next s
  | some w =>
    let ok := match s.fillAt sl w.line with
      | some f => decide (f.waiters.length < 32)
      | none => decide (s.fillCount sl < 512)
    if ok then .next ((s.modSl (fun t => { t with waits := t.waits.erase w })).slateMiss sl w.line w.remote w.place) else .next s

/-- Write back and drop every line for which a test of its slice and address holds (R258). -/
def State.flushLines (s : State) (f : Nat → Nat → Bool) : State :=
  s.slate.lines.foldl (fun s e => if f e.2.slice (128 * e.1) then (s.lineWriteBack (128 * e.1)).dropLine (128 * e.1) else s) s

/-- The slices of a partition in any mode. -/
def State.slicesAll (s : State) (p : Nat) : List Nat :=
  (List.range 16).filter (fun k => (SMap.get s.slate.slices (0, 0) k).1 ≠ 0 && (SMap.get s.slate.slices (0, 0) k).2 = p)

/-- A partition exists (R490). -/
def State.partExists (s : State) (p : Nat) : Bool := decide (p < 16) && s.bit F.HST_PART_CTL_EXISTS p

/-- The order in which slices are assigned (R257). -/
def sliceOrder : List Nat := [0, 4, 8, 12, 1, 5, 9, 13, 2, 6, 10, 14, 3, 7, 11, 15]

/-- A slice that a request of partition p may take: not failed, not assigned to another partition nor in another's running change (R256). -/
def State.sliceFree (s : State) (p k : Nat) : Bool :=
  let o := SMap.get s.slate.slices (0, 0) k
  !s.bit F.SLT_SLICE_FAILED k && (decide (o.1 = 0) || decide (o.2 = p))
    && s.slate.asg.all (fun e => decide (e.1 = p) || e.2.run.isNone || !e.2.slices.contains k)

/-- The checks of R256 and R268. -/
def State.asgCode (s : State) (p : Nat) : AsgReq → Nat
  | .whole nl nr ns =>
    if s.partExists p = false then Code.format 0
    else if ((List.range 16).filter (s.sliceFree p)).length < nl + nr + ns then Code.busy 1 else 0
  | .one sl owner mode =>
    if s.bit F.SLT_SLICE_FAILED sl then Code.busy 1
    else if mode ≠ 0 ∧ s.partExists owner = false then Code.format 0 else 0

/-- The assignment state of a partition. -/
def State.asgAt (s : State) (p : Nat) : AsgSt := SMap.get s.slate.asg ⟨none, [], none⟩ p

/-- It replaced, with the RUN and PEND bits of SLT_ASSIGN_STAT. -/
def State.setAsg (s : State) (p : Nat) (x : AsgSt) : State :=
  ((s.modSl (fun t => { t with asg := SMap.set t.asg ⟨none, [], none⟩ p x })).wflag F.SLT_ASSIGN_STAT_RUN p x.run.isSome).wflag
    F.SLT_ASSIGN_STAT_PEND p x.pend.isSome

/-- A request completes: its code and partition in SLT_ASSIGN_STAT, and the host command that waits for it. -/
def State.asgEnd (s : State) (p : Nat) (cmd : Option Nat) (code : Nat) : State :=
  let s := (s.wr F.SLT_ASSIGN_STAT_CODE code).wr F.SLT_ASSIGN_STAT_PART p
  match cmd with
  | some i => s.cmdDoneId i code 0
  | none => s

/-- The slices that a request releases or joins. -/
def State.asgSlices (s : State) (p : Nat) : AsgReq → List Nat
  | .whole nl nr ns =>
    s.slicesAll p ++ ((sliceOrder.filter (s.sliceFree p)).take (nl + nr + ns)).filter (fun k => !(s.slicesAll p).contains k)
  | .one sl owner mode =>
    let o := SMap.get s.slate.slices (0, 0) sl
    let old := if o.1 = 1 ∨ o.1 = 2 then s.slicesOf o.2 o.1 else [sl]
    let new := if mode = 1 ∨ mode = 2 then s.slicesOf owner mode else []
    (List.range 16).filter (fun k => decide (k = sl) || old.contains k || new.contains k)

/-- Another partition that a request concerns: the present owner of an expert slice. -/
def State.asgOther (s : State) (p : Nat) : AsgReq → Option Nat
  | .whole _ _ _ => none
  | .one sl _ _ =>
    let o := SMap.get s.slate.slices (0, 0) sl
    if o.1 ≠ 0 ∧ o.2 ≠ p then some o.2 else none

/-- A partition's region operations that run. -/
def State.rgnRuns (s : State) (p : Nat) : Bool :=
  s.slate.rgn.any (fun e => decide (e.1 / 8 = p) && e.2.run.isSome)

/-- A change may start: none runs for the partitions concerned, nor any of their region operations (R259, R272). -/
def State.asgMayStart (s : State) (p : Nat) (r : AsgReq) : Bool :=
  (p :: (s.asgOther p r).toList).all (fun q => (s.asgAt q).run.isNone && !s.rgnRuns q)

/-- A change starts (R257, R259): its slices are BUSY. -/
def State.asgStart (s : State) (p : Nat) (r : AsgOne) : State :=
  let l := s.asgSlices p r.req
  let s := (p :: (s.asgOther p r.req).toList).foldl (fun s q => s.setAsg q { s.asgAt q with run := some r, slices := l }) s
  l.foldl (fun s k => s.wb F.SLT_SLICE_BUSY true k) s

/-- Submit a request that has passed its checks (R259): it starts, or becomes pending and displaces an earlier one. -/
def State.asgSubmit (s : State) (p : Nat) (r : AsgOne) : State :=
  let x := s.asgAt p
  match x.pend with
  | some o => (s.asgEnd p o.cmd (Code.superseded 0)).setAsg p { x with pend := some r }
  | none => if s.asgMayStart p r.req then s.asgStart p r else s.setAsg p { x with pend := some r }

/-- Release a slice (R258): LOCAL lines are written back and dropped, REMOTE lines dropped, scratch zeroed. -/
def State.sliceRelease (s : State) (k : Nat) : State :=
  match (SMap.get s.slate.slices (0, 0) k).1 with
  | 1 => s.flushLines (fun sl _ => sl = k)
  | 2 => s.modSl (fun t => t.dropRemote (fun sl _ => sl = k))
  | 3 => s.zeroMem (0x100000000 + k * 0x4000000) 0x4000000
  | _ => s

/-- Put a slice into a mode for a partition: SLT_SLICE shows it, scratch is zeroed (R258). -/
def State.sliceJoin (s : State) (k mode p : Nat) : State :=
  let p := if mode = 0 then 0 else p
  let s := s.modSl (fun t => { t with slices := SMap.set t.slices (0, 0) k (mode, p) })
  let s := (s.wr F.SLT_SLICE_OWNER p k).wr F.SLT_SLICE_MODE mode k
  if mode = 3 then s.zeroMem (0x100000000 + k * 0x4000000) 0x4000000 else s

/-- The work of a change (R257, R258): every set whose hash changes is flushed or invalidated whole. -/
def State.asgDo (s : State) (p : Nat) (l : List Nat) : AsgReq → State
  | .whole nl nr ns =>
    let own := s.slicesAll p
    let s := own.foldl (fun s k => (s.sliceRelease k).sliceJoin k 0 0) s
    let take := (sliceOrder.filter (fun k => l.contains k && !s.bit F.SLT_SLICE_FAILED k)).take (nl + nr + ns)
    (take.zip (List.range 16)).foldl (fun s e => s.sliceJoin e.1 (if e.2 < nl then 1 else if e.2 < nl + nr then 2 else 3) p) s
  | .one sl owner mode => (l.foldl (fun s k =>
      if k = sl ∨ (SMap.get s.slate.slices (0, 0) k).1 ≠ 3 then s.sliceRelease k else s) s).sliceJoin sl mode owner

/-- SLT_ASSIGN_GO (R256): from the host physical function only; other writes are discarded and counted. -/
def State.assignWrite (s : State) (src : Src) (size v : Nat) : State :=
  if src ≠ .pf then s.bump F.FLT_WR_REJ_COUNT
  else
    let s := (writeFields s src size F.SLT_ASSIGN_PART.addr v).1
    if bitAt v 19 = false then s
    else
      let p := s.rd F.SLT_ASSIGN_PART
      let r := AsgReq.whole (s.rd F.SLT_ASSIGN_N_LOCAL) (s.rd F.SLT_ASSIGN_N_REMOTE) (s.rd F.SLT_ASSIGN_N_SCRATCH)
      let c := s.asgCode p r
      if c ≠ 0 then s.asgEnd p none c else s.asgSubmit p ⟨r, none⟩

/-- SLT_ASSIGN_GO: an 8-byte write of SLT_ASSIGN. -/
def execSltAssignGo (src : Src) (v : BitVec 64) (s : State) : Host.Outcome State Fault Refusal :=
  .next (s.assignWrite src.host 8 v.toNat)

/-- SLT_ASSIGN_START (R256, R259, R272): the pending request is checked again and starts. -/
def execSltAssignStart (p : Part) (s : State) : Host.Outcome State Fault Refusal :=
  let x := s.asgAt p
  match x.pend with
  | none => .next s
  | some r =>
    if s.asgMayStart p r.req = false then .next s
    else
      let s := s.setAsg p { x with pend := none }
      let c := s.asgCode p r.req
      if c ≠ 0 then .next (s.asgEnd p r.cmd c) else .next (s.asgStart p r)

/-- SLT_ASSIGN_DONE (R257 to R259): a running change does its work and completes, for every partition it concerns. -/
def execSltAssignDone (p : Part) (s : State) : Host.Outcome State Fault Refusal :=
  let x := s.asgAt p
  match x.run with
  | none => .next s
  | some r =>
    let q := match r.req with
      | .whole _ _ _ => (p : Nat)
      | .one _ owner mode => if mode = 0 then p else owner
    let s := s.asgDo q x.slices r.req
    let s := x.slices.foldl (fun s k => s.wb F.SLT_SLICE_BUSY false k) s
    let s := (List.range 16).foldl (fun (s : State) q =>
      let y := s.asgAt q
      if y.run = some r then s.setAsg q { y with run := none, slices := [] } else s) s
    .next (s.asgEnd q r.cmd 0)

/-- A write of SLT_SLICE with its code (R268): the expert fields, and GO. -/
def State.sliceWrite (s : State) (src : Src) (size sl v : Nat) : State × Nat :=
  let a := F.SLT_SLICE_OWNER.regAddr sl 0
  let r := writeFields s src size a v
  if actionBit s src size a v F.SLT_SLICE_GO sl = false then r
  else
    let s := r.1
    let owner := s.rd F.SLT_SLICE_OWNER sl
    let mode := s.rd F.SLT_SLICE_MODE sl
    let q := AsgReq.one sl owner mode
    let c := s.asgCode owner q
    if c ≠ 0 then (s.asgEnd owner none c, c)
    else
      let cur := SMap.get s.slate.slices (0, 0) sl
      let p := if mode ≠ 0 then owner else cur.2
      if mode = 0 ∧ cur.1 = 0 then (s.asgEnd owner none 0, 0) else (s.asgSubmit p ⟨q, none⟩, 0)

/-- SLT_SLICE_GO (R268). -/
def execSltSliceGo (sl : Fin 16) (src : Src) (v : BitVec 64) (s : State) : Host.Outcome State Fault Refusal :=
  .next (s.sliceWrite src.host 8 sl v.toNat).1

/-- Withdraw a slice that has failed (R278): LOCAL and REMOTE slices leave their partition's set, every byte that can be read written back; a
SCRATCH slice stays where it is and answers with POISON. -/
def State.withdrawSlice (s : State) (sl : Nat) : State :=
  let s := s.wb F.SLT_SLICE_FAILED true sl
  let o := SMap.get s.slate.slices (0, 0) sl
  if o.1 = 1 ∨ o.1 = 2 then s.asgDo o.2 (s.asgSlices o.2 (.one sl 0 0)) (.one sl 0 0) else s

end Sys2Proof.Machine
end

