-- ==== Sys2Proof/Machine/Region.lean ====
section
/-! DEFINITION. Machine/Region.lean: region maintenance: its checks, the region slots, the seven operations and their end (R260 to R267, R269 to
R273), and UNT.NCINV (R241). -/

namespace Sys2Proof.Machine

/-- Whether BASE names this device's own memory (R260). -/
def State.rgnLocal (s : State) (d : Nat) : Bool := s.answersFor d && !s.isAssumed d

/-- A region number: the two addresses of a range must have the same one (R261). -/
def regionNum (a : Nat) : Nat :=
  match regionOf a with
  | .sram _ _ => 1
  | .scratch _ _ => 2
  | .mica => 3
  | .jasper => 4
  | .hbm _ => 5
  | .regs => 6
  | .none => 0

/-- Whether the range type suits the operation (R261): `loc` says that the range is local, `r` is the region of BASE. An unmapped local BASE has no
type and is left to check 5. -/
def rgnSuits (op : Nat) (loc : Bool) (r : Nat) : Bool :=
  if op = 5 then true
  else if op = 6 then !loc
  else if op = 3 then !loc || decide (r = 5 ∨ r = 0)
  else if op = 4 then loc && decide (r = 5 ∨ r = 2 ∨ r = 0)
  else loc && decide (r = 5 ∨ r = 0)

/-- Whether a local range lies within a partition's grants (R262 check 6); ZERO writes, so it needs write access (DEDUCED, log 25). -/
def State.rgnGranted (s : State) (p : Nat) (wr : Bool) (a n : Nat) : Bool :=
  match regionOf a with
  | .hbm _ => s.accCode (some p) wr a n = 0
  | .sram _ _ => (List.range ((a + n - 1) / 0x400000 - a / 0x400000 + 1)).all (fun k => s.cluPart (a / 0x400000 + k) = some p)
  | .scratch _ _ => (List.range ((a + n - 1 - 0x100000000) / 0x4000000 - (a - 0x100000000) / 0x4000000 + 1)).all (fun k =>
      SMap.get s.slate.slices (0, 0) ((a - 0x100000000) / 0x4000000 + k) = (3, p))
  | _ => false

/-- Checks 3 to 6 of R262 on a request of partition p, but for the descriptor's reserved bytes. -/
def State.rgnCode (s : State) (p : Nat) (expert : Bool) (base len op : Nat) : Nat :=
  let d := base / 2 ^ 48
  let a := base % 2 ^ 48
  let loc := s.rgnLocal d
  if 6 < op ∨ rgnSuits op loc (regionNum a) = false then Code.format 9
  else if op = 2 ∧ expert = false then Code.perm 2
  else if s.idCode d ≠ 0 then s.idCode d
  else if base % 128 ≠ 0 ∨ len % 128 ≠ 0 then Code.addr 2
  else if 2 ^ 40 < len ∨ regionNum a = 0 ∨ (len ≠ 0 ∧ regionNum (a + len - 1) ≠ regionNum a)
      ∨ (loc = true ∧ regionNum a = 5 ∧ s.hbmCap < a - hbmBase + len) then Code.addr 1
  else if loc ∧ len ≠ 0 ∧ s.rgnGranted p (decide (op = 4)) a len = false then Code.perm 3
  else 0

/-- A region slot, number 8p + r. -/
def State.rgnAt (s : State) (n : Nat) : RgnSlot := SMap.get s.slate.rgn ⟨none, none, 0⟩ n

/-- It replaced, with RUN and PEND of SLT_RGN_STAT. -/
def State.setRgn (s : State) (n : Nat) (x : RgnSlot) : State :=
  ((s.modSl (fun t => { t with rgn := SMap.set t.rgn ⟨none, none, 0⟩ n x })).wb F.SLT_RGN_STAT_RUN x.run.isSome (n / 8) (n % 8)).wb
    F.SLT_RGN_STAT_PEND x.pend.isSome (n / 8) (n % 8)

/-- Tell a cluster that its request ended (R263): the status word, then SEM. -/
def State.rgnTell (s : State) (q : RgnReq) (code ticket : Nat) : State :=
  match q.clu with
  | none => s
  | some c =>
    let s := s.sramWrite (sramAt c q.stat) (leM 8 (code + ticket * 65536))
    if q.sig then s.signalSem c q.sem 1 else s

/-- Submit a request that has passed its checks (R260, R264, R272): a zero length ends at once without a slot; else it takes the next ticket and
runs, or becomes pending and displaces an earlier one. -/
def State.rgnSubmit (s : State) (n : Nat) (q : RgnReq) : State :=
  if q.len = 0 then
    let s := s.rgnTell q 0 0
    if q.clu.isNone then (s.wr F.SLT_RGN_STAT_LAST_CODE 0 (n / 8) (n % 8)).wr F.SLT_RGN_STAT_LAST_TKT 0 (n / 8) (n % 8) else s
  else
    let x := s.rgnAt n
    let t := if x.last = 0xFFFF then 1 else x.last + 1
    let q := { q with ticket := t }
    let s := if q.clu.isNone then s.wr F.SLT_RGN_TKT_HOST_TKT t (n / 8) (n % 8) else s
    if x.run.isNone ∧ x.pend.isNone ∧ (s.asgAt (n / 8)).run.isNone then s.setRgn n { x with run := some q, last := t }
    else
      let s := match x.pend with
        | some o => (s.rgnTell o (Code.superseded 0) o.ticket).wr F.SLT_RGN_STAT_SUP_TKT o.ticket (n / 8) (n % 8)
        | none => s
      s.setRgn n { x with pend := some q, last := t }

/-- BASE with the local device named by this device's ID. -/
def State.rgnBase (s : State) (base : Nat) : Nat := s.devOf (base / 2 ^ 48) * 2 ^ 48 + base % 2 ^ 48

/-- UNT.RGN (R262, R264, R635). -/
def execUntRgn (x : Iss) (ra rb : Fin 64) (imm : BitVec 24) (s : State) : Host.Outcome State Fault Refusal :=
  let i := imm.toNat
  let x := { x with res := x.res || decide (bitsAt i 3 3 ≠ 0 ∨ 2 ^ 13 ≤ i) }
  .next (s.issueAfter x 0 (fun s =>
    let k := s.cl x.c
    let off := (k.gr ra).toNat
    let st := (k.gr rb).toNat
    if 0x400000 < off + 32 then s.fault x (Code.addr 3) off
    else if off % 32 ≠ 0 then s.fault x (Code.addr 2) off
    else if 0x400000 < st + 8 then s.fault x (Code.addr 3) st
    else if st % 8 ≠ 0 then s.fault x (Code.addr 2) st
    else if k.hitsCode st 8 then s.fault x (Code.perm 1) st
    else
      let a := sramAt x.c off
      if s.psnRange a 32 then s.fault x (Code.poison 1) off
      else if s.memN (a + 17) 15 ≠ 0 then s.fault x (Code.format 2) off
      else
        let p := (s.cluPart x.c).getD 16
        let base := s.memN a 8
        let len := s.memN (a + 8) 8
        let op := s.memN (a + 16) 1
        let e := s.rgnCode p (s.cluExpert x.c) base len op
        if e ≠ 0 then s.fault x e base
        else
          let q : RgnReq := ⟨op, s.rgnBase base, len, 0, some (x.c : Nat), st, bitsAt i 6 6, bitAt i 12, 0, false⟩
          (s.pass x).rgnSubmit (8 * p + bitsAt i 0 3) q))

/-- A write of SLT_RGN_CTRL, SLT_RGN_BASE or SLT_RGN_LEN of partition p, slot r (R267): by the host physical function or the partition's own
virtual function; GO submits. -/
def State.rgnWrite (s : State) (src : Src) (size a v p r : Nat) : State :=
  if src ≠ .pf ∧ (match src with | .vf q => decide ((q : Nat) = p) | _ => false) = false then s.bump F.FLT_WR_REJ_COUNT
  else
    let s := (writeFields s src size a v).1
    if a - a % 8 = F.SLT_RGN_CTRL_OP.regAddr p r ∧ covers size a F.SLT_RGN_CTRL_GO ∧ bitAt v 4 then
      let base := s.rd F.SLT_RGN_BASE p r
      let len := s.rd F.SLT_RGN_LEN p r
      let op := s.rd F.SLT_RGN_CTRL_OP p r
      let e := s.rgnCode p (s.bit F.HST_PART_CTL_EXPERT_EN p) base len op
      if e ≠ 0 then s.wr F.SLT_RGN_STAT_LAST_CODE e p r
      else s.rgnSubmit (8 * p + r) ⟨op, s.rgnBase base, len, 0, none, 0, 0, false, 0, false⟩
    else s

/-- REGION_OP_START (R260, R272). -/
def execRegionOpStart (p : Part) (r : Fin 8) (s : State) : Host.Outcome State Fault Refusal :=
  let n := 8 * (p : Nat) + r
  let x := s.rgnAt n
  if x.run.isNone ∧ x.pend.isSome ∧ (s.asgAt p).run.isNone then .next (s.setRgn n { x with run := x.pend, pend := none }) else .next s

/-- The local addresses of a range's lines that a partition's LOCAL slices hold. -/
def State.rgnLines (s : State) (p : Nat) (q : RgnReq) : List Nat :=
  let b := q.base % 2 ^ 48
  (s.slate.lines.filter (fun e => decide (SMap.get s.slate.slices (0, 0) e.2.slice = (1, p)) && decide (b ≤ 128 * e.1)
    && decide (128 * e.1 < b + q.len))).map (fun e => 128 * e.1)

/-- Whether a line holds a poisoned word. -/
def State.linePsn (s : State) (a : Nat) : Bool := (List.range 16).any (fun w => SMap.get s.slate.cpsn false (a + 8 * w))

/-- A fill outstanding for a line of a range. -/
def State.rgnFills (s : State) (q : RgnReq) : List SFill :=
  s.slate.fills.filter (fun f =>
    let a := if f.remote then f.line else q.base / 2 ^ 48 * 2 ^ 48 + f.line
    decide (q.base ≤ a) && decide (a < q.base + q.len))

/-- Perform an operation of a running request once (R260): nothing unless the slot runs that operation and it is not done. -/
def State.rgnWork (s : State) (p r op : Nat) (f : State → RgnReq → State × Nat) : State :=
  let n := 8 * p + r
  match (s.rgnAt n).run with
  | none => s
  | some q =>
    if q.op ≠ op ∨ q.worked then s
    else
      let t := f s q
      let x := t.1.rgnAt n
      t.1.setRgn n { x with run := x.run.map (fun q => { q with worked := true, code := if q.code = 0 then t.2 else q.code }) }

/-- POISON when an operation met poisoned lines (R263). -/
def State.rgnPsn (s : State) (l : List Nat) : Nat := if l.any s.linePsn then Code.poison 1 else 0

/-- Forbid the fills of a range to install (R271). -/
def State.rgnDropFills (s : State) (q : RgnReq) : State :=
  let l := s.rgnFills q
  s.modSl (fun t => { t with fills := t.fills.map (fun f => if l.contains f then { f with drop := true } else f) })

/-- REGION_WB (R245, R261, R265, R271): it waits for the fills outstanding in its range. -/
def execRegionWb (p : Part) (r : Fin 8) (s : State) : Host.Outcome State Fault Refusal :=
  match (s.rgnAt (8 * (p : Nat) + r)).run with
  | none => .next s
  | some q => if (s.rgnFills q).isEmpty = false then .next s
    else .next (s.rgnWork p r 0 (fun s q =>
      let l := s.rgnLines p q
      (l.foldl (fun s a => s.lineWriteBack a) s, s.rgnPsn l)))

/-- REGION_FLUSH (R261, R271). -/
def execRegionFlush (p : Part) (r : Fin 8) (s : State) : Host.Outcome State Fault Refusal :=
  .next (s.rgnWork p r 1 (fun s q =>
    let l := s.rgnLines p q
    let c := s.rgnPsn l
    (l.foldl (fun s a => (s.lineWriteBack a).dropLine a) (s.rgnDropFills q), c)))

/-- REGION_INV (R261, R269, R271): DIRTY bytes are discarded. -/
def execRegionInv (p : Part) (r : Fin 8) (s : State) : Host.Outcome State Fault Refusal :=
  .next (s.rgnWork p r 2 (fun s q =>
    let l := s.rgnLines p q
    let c := s.rgnPsn l
    (l.foldl (fun s a => s.dropLine a) (s.rgnDropFills q), c)))

/-- The lines of a range, by the address of their first byte. -/
def RgnReq.lines (q : RgnReq) : List Nat := (List.range (q.len / 128)).map (fun k => q.base + 128 * k)

/-- REGION_PREFETCH (R261, R277): local lines whose home is the partition are filled into its LOCAL slices; lines of another device are requested
for its REMOTE slices, as read-only; without slices nothing is done. -/
def execRegionPrefetch (p : Part) (r : Fin 8) (s : State) : Host.Outcome State Fault Refusal :=
  .next (s.rgnWork p r 3 (fun s q =>
    if s.rgnLocal (q.base / 2 ^ 48) then
      q.lines.foldl (fun t a =>
        let l := a % 2 ^ 48
        match t.1.homeOf l, t.1.localSlice p l with
        | some h, some sl =>
          if h ≠ p ∨ (t.1.fillAt sl l).isSome then t
          else
            let u := t.1.lineFill sl l
            (u, if t.2 = 0 ∧ u.linePsn l then Code.poison 1 else t.2)
        | _, _ => t) (s, 0)
    else
      (q.lines.foldl (fun (s : State) a => match s.remoteSlice p a with
        | some sl => if (SMap.find s.slate.rlines (a / 128)).isSome then s else s.slateMiss sl a true 15
        | none => s) s, 0)))

/-- REGION_ZERO (R261, R304, R634): HBM lines become all VALID and DIRTY zeros in the home's LOCAL slices, or zeros are written directly; scratch
is zeroed. -/
def execRegionZero (p : Part) (r : Fin 8) (s : State) : Host.Outcome State Fault Refusal :=
  .next (s.rgnWork p r 4 (fun s q =>
    if regionNum (q.base % 2 ^ 48) = 2 then (s.zeroMem (q.base % 2 ^ 48) q.len, 0)
    else q.lines.foldl (fun t a =>
      let w := t.1.hbmWrite (some p) false (a % 2 ^ 48) (List.replicate 128 (0, false))
      (w.1, if t.2 = 0 then w.2 else t.2)) (s, 0)))

/-- Drop the near-cache lines of a range in a cluster; fills in flight are not installed. -/
def ClusterSt.nearDrop (k : ClusterSt) (base len : Nat) : ClusterSt :=
  { k with near := k.near.filter (fun l => !(decide (base ≤ l.line) && decide (l.line < base + len))),
           fills := k.fills.map (fun f => if base ≤ f.line ∧ f.line < base + len then { f with stale := true } else f) }

/-- Drop the near-cache lines of a range in every cluster of a partition (R261 NCINV). -/
def State.nearDropPart (s : State) (p base len : Nat) : State :=
  ((List.range 256).filter (fun c => s.cluPart c = some p && !(decide ((s.cl c).near = []) && decide ((s.cl c).fills = [])))).foldl
    (fun s c => s.modCl c (fun k => k.nearDrop base len)) s

/-- REGION_NCINV (R261). -/
def execRegionNcinv (p : Part) (r : Fin 8) (s : State) : Host.Outcome State Fault Refusal :=
  .next (s.rgnWork p r 5 (fun s q => (s.nearDropPart p q.base q.len, 0)))

/-- REGION_RINV (R261, R271). -/
def execRegionRinv (p : Part) (r : Fin 8) (s : State) : Host.Outcome State Fault Refusal :=
  .next (s.rgnWork p r 6 (fun s q =>
    ((s.rgnDropFills q).modSl (fun t => t.dropRemote (fun sl a =>
      decide (SMap.get t.slices (0, 0) sl = (2, (p : Nat))) && decide (q.base ≤ a) && decide (a < q.base + q.len))), 0)))

/-- REGION_OP_DONE (R263, R271, R273): the running request ends once its work is done, no fill of its range is outstanding, and no slice it
touches is under reset. -/
def execRegionOpDone (p : Part) (r : Fin 8) (s : State) : Host.Outcome State Fault Refusal :=
  let n := 8 * (p : Nat) + r
  let x := s.rgnAt n
  match x.run with
  | none => .next s
  | some q =>
    if q.worked = false ∨ (q.op ≠ 4 ∧ q.op ≠ 5 ∧ (s.rgnFills q).isEmpty = false)
        ∨ (s.slicesAll p).any (fun k => s.islResetting (272 + k)) then .next s
    else
      let s := s.setRgn n { x with run := none }
      let s := (s.wr F.SLT_RGN_STAT_LAST_CODE q.code p r).wr F.SLT_RGN_STAT_LAST_TKT q.ticket p r
      .next (s.rgnTell q q.code q.ticket)

/-- UNT.NCINV (R241): every line of the own near cache is dropped, and fills in flight are not installed. -/
def execUntNcinv (x : Iss) (s : State) : Host.Outcome State Fault Refusal :=
  .next (s.issue x 0 (fun s =>
    let k := s.cl x.c
    s.done x { k with near := [], fills := k.fills.map (fun f => { f with stale := true }) }))

end Sys2Proof.Machine
end

