-- ==== Sys2Proof/Machine/HostOps.lean ====
section
/-! DEFINITION. Machine/HostOps.lean: host commands that may start, who learns the end of a unit's command, and accesses of many bytes by the host, Mica
and Jasper, local or on another device (R491, R501, R502, R508, R525, R564, R695). -/

namespace Sys2Proof.Machine

/-- A number from bytes, little-endian. -/
def numB : List Byte → Nat
  | [] => 0
  | b :: t => b.toNat + 256 * numB t

/-- n bytes at an offset of a list, as a number; missing bytes read 0. -/
def leAt (l : List Byte) (o n : Nat) : Nat := numB ((l.drop o).take n)

/-- Bytes with no poison mark. -/
def clean (l : List Byte) : List MByte := l.map (fun b => (b, false))

/-- An operand of a submission entry, by its byte in the entry, 16 to 63 (R501). -/
def HostCmd.op (c : HostCmd) (o n : Nat) : Nat := numB (((c.ops.drop (o - 16)).take n).map (BitVec.ofNat 8))

/-- A command of the administrative class (R499). -/
def admin (opc : Nat) : Bool := decide (8 ≤ opc ∧ opc ≤ 12)

/-- The command with an identifier, if it may start (R91, R499, R501, R502): the earlier ones of its ring have started, or with FENCE have completed; no
earlier administrative command waits or runs before an administrative one; Flint does not hold its partition. -/
def State.cmdReady (s : State) (id opc : Nat) : Option HostCmd :=
  match s.host.cmds.find? (fun c => decide (c.id = id)) with
  | none => none
  | some c =>
    let before := s.host.cmds.takeWhile (fun d => decide (d.id ≠ id))
    let ring := before.filter (fun d => decide (d.ring = c.ring))
    let held := !admin opc && decide (c.part < 16) && s.flag F.FLT_ALONE_QUIESCED c.part
    if c.opc = opc ∧ c.started = false ∧ ring.all (fun d => d.started) = true ∧ (c.fence = false ∨ ring = [])
      ∧ (admin opc = false ∨ before.all (fun d => !admin d.opc) = true) ∧ held = false then some c else none

/-- Run a host command that may start; it is marked as started first. -/
def State.hostCmd (s : State) (id opc : Nat) (f : State → HostCmd → State) : State :=
  match s.cmdReady id opc with
  | none => s
  | some c => f { s with host := { s.host with cmds := s.host.cmds.map (fun d => if d.id = id then { d with started := true } else d) } }
      { c with started := true }

/-- Tell the end of a command of Mica or Jasper (R525, R568): the host command completes, or the status word is written and SEM signalled. -/
def State.tell (s : State) (t : Tell) (code value : Nat) : State :=
  match t with
  | .host id => s.cmdDoneId id code value
  | .clu c stat sem sig =>
    let s := s.sramWrite (sramAt c stat) (leM 8 (code + value % 2 ^ 32 * 2 ^ 32))
    if sig then s.signalSem c sem 1 else s

/-- A Tell of a cluster. -/
def Tell.ofClu (t : Tell) (c : Nat) : Bool := match t with
  | .clu d _ _ _ => decide (d = c)
  | .host _ => false

/-- A Tell of a host command. -/
def Tell.ofCmd (t : Tell) (id : Nat) : Bool := match t with
  | .host i => decide (i = id)
  | .clu _ _ _ _ => false

/-- A unit operation of a cluster is queued or runs: a region request, a Mica or a Jasper command (R187, R506). -/
def State.unitBusy (s : State) (c : Nat) : Bool :=
  s.slate.rgn.any (fun e => (e.2.run.toList ++ e.2.pend.toList).any (fun q => decide (q.clu = some c)))
    || s.mica.streams.any (fun e => e.2.closing.any (fun t => t.ofClu c))
    || s.mica.pins.any (fun e => (e.2.run.toList ++ e.2.pend.toList).any (fun q => q.tell.ofClu c))
    || s.mica.cfgs.any (fun q => q.tell.ofClu c)
    || ((s.jasper.run.map JRun.b).toList ++ s.jasper.waiting).any (fun b => b.tell.ofClu c)

/-- The code of an access of n bytes of this device, over as many units as it spans (R695). -/
def State.spanCode : Nat → State → Option Nat → Bool → Nat → Nat → Nat
  | 0, _, _, _, _, _ => 0
  | f + 1, s, part, wr, a, n =>
    if n = 0 then 0
    else
      let m := min n (unitEnd a - a)
      let c := s.accCode part wr a m
      if c ≠ 0 then c else State.spanCode f s part wr (a + m) (n - m)

/-- The code of an access by fabric address, as far as this device can tell: another device's grants are checked there (R508, R566). -/
def State.fabCode (s : State) (part : Option Nat) (wr : Bool) (addr n : Nat) : Nat :=
  let d := addr / 2 ^ 48
  let a := addr % 2 ^ 48
  if s.idCode d ≠ 0 then s.idCode d
  else if s.isAssumed d then (if (s.adoptedAt part a n).isSome then 0 else Code.takeover 3)
  else if s.answersFor d then State.spanCode 1024 s part wr a n
  else 0

/-- A remote address: another device's. -/
def State.isFar (s : State) (addr : Nat) : Bool := decide (s.idCode (addr / 2 ^ 48) = 0) && !s.answersFor (addr / 2 ^ 48)

/-- Read n bytes by an address this device answers for, in pieces of at most 4 KiB; the first nonzero code ends it. -/
def State.readSpan (s : State) (part : Option Nat) (na : Bool) (addr n : Nat) : State × Nat × List MByte :=
  (cutAt 4096 n (addr % 2 ^ 48) (List.replicate n ())).foldl (fun r p =>
    if r.2.1 ≠ 0 then r
    else
      let t := r.1.readAs part na (addr / 2 ^ 48) p.1 p.2.length
      (t.1, t.2.1, r.2.2 ++ t.2.2)) (s, 0, [])

/-- Write bytes at an address this device answers for, in pieces of at most 4 KiB: the code, and the bytes written before it. -/
def State.writeSpan (s : State) (part : Option Nat) (na : Bool) (addr : Nat) (l : List MByte) : State × Nat × Nat :=
  (cutAt 4096 l.length (addr % 2 ^ 48) l).foldl (fun r p =>
    if r.2.1 ≠ 0 then r
    else
      let t := r.1.writeAs part na (addr / 2 ^ 48) p.1 p.2
      (t.1, t.2, if t.2 = 0 then r.2.2 + p.2.length else r.2.2)) (s, 0, 0)

/-- The partition index of the contexts that a requester draws on. -/
def ctxOf (part : Nat) : Nat := if part < 16 then part else ctxPF

/-- A requester's partition; 16 is the host physical function. -/
def reqPart (part : Nat) : Option Nat := if part < 16 then some part else none

/-- Write by fabric address as a unit (R348): this device's memory at once; another device by WR packets whose owners name offset and length. Answers
the code, the bytes written at once and the packets outstanding. -/
def State.unitWrite (s : State) (o : Nat → Nat → Owner) (part addr : Nat) (l : List MByte) : State × Nat × Nat × Nat :=
  let d := addr / 2 ^ 48
  if s.idCode d ≠ 0 then (s, s.idCode d, 0, 0)
  else if s.answersFor d then
    let t := s.writeSpan (reqPart part) false addr l
    (t.1, t.2.1, t.2.2, 0)
  else
    let ps := cutAt 4096 l.length (addr % 2 ^ 48) l
    (ps.foldl (fun (s : State) p => s.remote (o (p.1 - addr % 2 ^ 48) p.2.length) (ctxOf part) d false (s.pktWrite part 0 d p.1 p.2)) s, 0, 0, ps.length)

/-- Read by fabric address as a unit: this device's memory at once; another device by RD packets. Where their data is pushed is a free value (log 24).
Answers the code, the bytes read at once and the packets outstanding. -/
def State.unitRead (s : State) (o : Nat → Nat → Owner) (part addr n : Nat) : State × Nat × List MByte × Nat :=
  let d := addr / 2 ^ 48
  if s.idCode d ≠ 0 then (s, s.idCode d, [], 0)
  else if s.answersFor d then
    let t := s.readSpan (reqPart part) false addr n
    (t.1, t.2.1, t.2.2, 0)
  else
    let ps := cutAt 4096 n (addr % 2 ^ 48) (List.replicate n ())
    (ps.foldl (fun (s : State) p =>
      let push := s.rd F.QTZ_ID_DEVID * 2 ^ 48 + Config.freeNat s.free % 2 ^ 48
      s.drawn.remote (o (p.1 - addr % 2 ^ 48) p.2.length) (ctxOf part) d false (s.pktRead part 0 d p.1 p.2.length push)) s, 0, [], ps.length)

/-- Add 1 to the semaphore that a name gives, as a unit of a partition (R181, R533, R568): on another device by a SIG packet. A refused signal is dropped:
the unit has no program to tell. -/
def State.unitSignal (s : State) (o : Owner) (part name : Nat) : State :=
  if name = 0 then s
  else
    let d := name / 2 ^ 48
    let c := bitsAt name 8 8
    let n := bitsAt name 0 6
    if s.idCode d ≠ 0 ∨ s.isAssumed d = true then s
    else if s.answersFor d then (if s.sigCode (reqPart part) c = 0 then s.signalSem c n 1 else s)
    else s.remote o (ctxOf part) d false (s.pktSignal part d c n 1 false)

/-- Whether a semaphore name's reserved bits are zero (R181). -/
def nameOk (name : Nat) : Bool := decide (bitsAt name 16 32 = 0) && decide (bitsAt name 6 2 = 0)

/-- Whether a name gives a cluster of this device outside a partition (R527, R566). -/
def State.nameOutside (s : State) (part name : Nat) : Bool :=
  decide (name ≠ 0) && s.answersFor (name / 2 ^ 48) && decide (s.cluPart (bitsAt name 8 8) ≠ some part)

/-- The precise checks of a unit command that a cluster submits with a 128-byte descriptor (R525, R564; checks 1 and 2 of R262; R635): code and address. -/
def State.unitDescCode (s : State) (c off st : Nat) : Nat × Nat :=
  if 0x400000 < off + 128 then (Code.addr 3, off)
  else if off % 64 ≠ 0 then (Code.addr 2, off)
  else if 0x400000 < st + 8 then (Code.addr 3, st)
  else if st % 8 ≠ 0 then (Code.addr 2, st)
  else if (s.cl c).hitsCode st 8 then (Code.perm 1, st)
  else if s.psnRange (sramAt c off) 128 then (Code.poison 1, off)
  else (0, 0)

end Sys2Proof.Machine
end

