-- ==== Sys2Proof/Machine/DmaRun.lean ====
section
/-! DEFINITION. Machine/DmaRun.lean: what a DMA engine moves: the blocks of a slot, the near cache, and how an answer reaches a slot
(R178 to R180, R189, R190, R195, R201, R238 to R241, R350, R376, R695). -/

namespace Sys2Proof.Machine

/-- A code recorded in a slot: a fatal one is final, POISON gives way to it (R180). -/
def DmaSlot.note (m : DmaSlot) (code : Nat) : DmaSlot :=
  if code = 0 then m else if m.code = 0 ∨ (m.code = Code.poison 1 ∧ code ≠ Code.poison 1) then { m with code := code } else m

/-- A slot changed. -/
def State.modSlot (s : State) (c n : Nat) (f : DmaSlot → DmaSlot) : State := s.modCl c (fun k => k.setSlot n (f (k.slotAt n)))

/-- Whether a slot has a block to start (R180). -/
def DmaSlot.hasBlock (m : DmaSlot) : Bool :=
  m.busy && !m.signalling && (decide (m.code = 0) || decide (m.code = Code.poison 1)) && decide (m.x.done < m.x.rowBytes * m.x.rows)

/-- The fabric address of the byte at a place of a transfer: row by row, a stride apart (R178). -/
def rowAddr (a : Nat) (stride : Int) (rowBytes at_ : Nat) : Nat :=
  a / 2 ^ 48 * 2 ^ 48 + (((a % 2 ^ 48 : Nat) : Int) + stride * ((at_ / rowBytes : Nat) : Int) + ((at_ % rowBytes : Nat) : Int)).toNat % 2 ^ 48

/-- A fabric address with this device's own ID for 0xFFFE (R352). -/
def State.ownAddr (s : State) (a : Nat) : Nat := if a / 2 ^ 48 = 0xFFFE then s.rd F.QTZ_ID_DEVID * 2 ^ 48 + a % 2 ^ 48 else a

/-- Write bytes of a transfer at its destination: this device's memory at once, with its code in the slot; another device by a WR packet. -/
def State.dmaPut (s : State) (c n dst : Nat) (l : List MByte) : State :=
  let x := ((s.cl c).slotAt n).x
  let d := dst / 2 ^ 48
  let s := if anyPsn l then s.modSlot c n (fun m => m.note (Code.poison 1)) else s
  if s.idCode d ≠ 0 then s.modSlot c n (fun m => m.note (s.idCode d))
  else if s.answersFor d then
    let r := s.writeAs (s.cluReq c) x.slateNa d (dst % 2 ^ 48) l
    r.1.modSlot c n (fun m => m.note r.2)
  else
    let p := (s.cluPart c).getD 16
    (s.modSlot c n (fun m => { m with out := m.out + 1 })).remote (.dma c n l.length) p d false (s.pktWrite p x.vcPair d (dst % 2 ^ 48) l)

/-- A source in HBM that a slot may read through the near cache (R238): marked, or of an RO grant of this device. -/
def State.nearSource (s : State) (x : Xfer) (src : Nat) : Bool :=
  match regionOf (src % 2 ^ 48) with
  | .hbm _ => !s.isAssumed (src / 2 ^ 48) && (x.ro || (s.answersFor (src / 2 ^ 48) && (match s.grantAt (src % 2 ^ 48) with | some g => g.ro | none => false)))
  | _ => false

/-- Install a line as the most recently used of its set of 8 ways; the least recently used of a full set leaves (R238). -/
def ClusterSt.nearPut (k : ClusterSt) (l : NearLine) : ClusterSt :=
  let r := k.near.filter (fun m => m.line ≠ l.line)
  if r.length < 8 then { k with near := l :: r }
  else
    let w := r.filter (fun m => Config.nearSet m.line % 256 = Config.nearSet l.line % 256)
    match w[7]? with
    | some o => { k with near := l :: r.filter (fun m => m.line ≠ o.line) }
    | none => { k with near := l :: r }

/-- The marked bytes of a line from an offset on. -/
def NearLine.part (l : NearLine) (off n : Nat) : List MByte :=
  (List.range n).map (fun k => (l.data[off + k]?.getD 0, bitAt l.psn ((off + k) / 8)))

/-- A line of marked bytes. -/
def nearLine (line : Nat) (l : List MByte) : NearLine :=
  ⟨line, plain l, (List.range 16).foldl (fun m w => m + (anyPsn ((l.drop (8 * w)).take 8)).toNat * 2 ^ w) 0⟩

/-- A line that a REMOTE slice holds. -/
def State.slateLine (s : State) (line : Nat) : NearLine :=
  nearLine line ((List.range 128).map (fun k => (memGet s.slate.rmem (line + k), SMap.get s.slate.rpsn false (line + k - (line + k) % 8))))

/-- A part of a line read through the near cache: a hit is delivered; a miss is requested through Slate, delivered and installed (R238). A line of this
device comes at once; one of another device from the partition's REMOTE slice, or by an RD of its own. -/
def State.nearRead (s : State) (c n src dst len : Nat) : State :=
  let line := s.ownAddr (src - src % 128)
  let off := src % 128
  let k := s.cl c
  let d := src / 2 ^ 48
  let deliver (s : State) (l : NearLine) : State := (s.modCl c (fun k => k.nearPut l)).dmaPut c n dst (l.part off len)
  match k.near.find? (fun l => l.line = line) with
  | some l => deliver (s.bump F.CLU_NC_HIT 1 c) l
  | none =>
    let s := s.bump F.CLU_NC_MISS 1 c
    if s.answersFor d then
      let r := s.readAs (s.cluReq c) ((k.slotAt n).x.slateNa) d (line % 2 ^ 48) 128
      if r.2.1 ≠ 0 then r.1.modSlot c n (fun m => m.note r.2.1) else deliver r.1 (nearLine line r.2.2)
    else if s.idCode d ≠ 0 then s.modSlot c n (fun m => m.note (s.idCode d))
    else
      let p := (s.cluPart c).getD 16
      let f : NearFill := { line := line, slot := n, pieces := [(off, len, dst)], stale := false }
      let fresh := k.fills.all (fun g => g.line ≠ line)
      let s' := (s.modCl c (fun k => { k with fills := k.fills ++ [f] })).modSlot c n (fun m => { m with out := m.out + 1 })
      match s.remoteSlice p src with
      | some sl =>
        if (SMap.find s.slate.rlines (src / 128)).isSome then (deliver s (s.slateLine line)).bump F.SLT_HIT 1 sl
        else if fresh then s'.slateMiss sl line true (c / 64) else s'
      | none =>
        if fresh then
          let push := s'.rd F.QTZ_ID_DEVID * 2 ^ 48 + Config.freeNat s'.free % 2 ^ 48
          s'.drawn.remote (.near c line) p d false (s'.pktRead p ((k.slotAt n).x.vcPair) d (line % 2 ^ 48) 128 push)
        else s'

/-- A line that a cluster's near cache waited for has come, or failed with a code (R238, R241). -/
def State.nearFill (s : State) (c line code : Nat) (l : NearLine) : State :=
  let k := s.cl c
  let fs := k.fills.filter (fun f => f.line = line)
  if fs.isEmpty then s
  else
    let ok := decide (code = 0 ∨ code = Code.poison 1)
    let s := s.modCl c (fun k =>
      let k := { k with fills := k.fills.filter (fun f => f.line ≠ line) }
      if ok && fs.all (fun f => !f.stale) then k.nearPut l else k)
    fs.foldl (fun (s : State) f =>
      let s := s.modSlot c f.slot (fun m => { m with out := m.out - 1 })
      if ok then f.pieces.foldl (fun (s : State) e => s.dmaPut c f.slot e.2.2 (l.part e.1 e.2.1)) s
      else s.modSlot c f.slot (fun m => m.note code)) s

/-- NC_FILL (R238, R241). -/
def execNcFill (c : Clu) (line : BitVec 64) (code : BitVec 16) (data : List Byte) (psn : BitVec 16) (s : State) : Host.Outcome State Fault Refusal :=
  let line := line.toNat - line.toNat % 128
  .next (s.nearFill c line code.toNat ⟨line, data, psn.toNat⟩)

/-- Whether an access to this device's memory waits: an assignment change, or an HBM bank that is fenced (R259, R284, R294). -/
def State.memWaits (s : State) (d a : Nat) : Bool :=
  s.answersFor d && (if s.isAssumed d then s.fenced d else s.accWaits a || s.fenced d || (match regionOf a with
    | .hbm o => s.hbmWaits (s.stackOf o) (s.stackAddr o)
    | _ => false))

/-- DMA_BLOCK_SEND: the next block of slot n: at most 4 KiB of a row, cut where a unit of source or destination ends, and at a line's end when it is read
through the near cache (R25, R180, R238, R695). A slot of a higher PRIO goes first (R189). -/
def execDmaBlockSend (c : Clu) (n : Fin 64) (s : State) : Host.Outcome State Fault Refusal :=
  let k := s.cl c
  let m := k.slotAt n
  if m.hasBlock = false ∨ (List.range 64).any (fun j => (k.slotAt j).hasBlock && decide (m.x.prio < (k.slotAt j).x.prio)) = true then .next s
  else
    let x := m.x
    let src := rowAddr x.src x.srcStride x.rowBytes x.done
    let dst := rowAddr x.dst x.dstStride x.rowBytes x.done
    let near := s.nearSource x src
    let row := x.rowBytes - x.done % x.rowBytes
    let len := min (min (min 4096 row) (unitEnd (src % 2 ^ 48) - src % 2 ^ 48)) (unitEnd (dst % 2 ^ 48) - dst % 2 ^ 48)
    let len := if near then min len (128 - src % 128) else len
    let d := src / 2 ^ 48
    if s.memWaits d (src % 2 ^ 48) || s.memWaits (dst / 2 ^ 48) (dst % 2 ^ 48) then .next s
    else
      let s := s.modSlot c n (fun m => { m with x := { x with done := x.done + len } })
      if near then .next (s.nearRead c n src dst len)
      else if s.idCode d ≠ 0 then .next (s.modSlot c n (fun m => m.note (s.idCode d)))
      else if s.answersFor d then
        let r := s.readAs (s.cluReq c) x.slateNa d (src % 2 ^ 48) len
        .next (if r.2.1 ≠ 0 then r.1.modSlot c n (fun m => m.note r.2.1) else r.1.dmaPut c n dst r.2.2)
      else if s.idCode (dst / 2 ^ 48) ≠ 0 then .next (s.modSlot c n (fun m => m.note (s.idCode (dst / 2 ^ 48))))
      else
        let p := (s.cluPart c).getD 16
        .next ((s.modSlot c n (fun m => { m with out := m.out + 1 })).remote (.dma c n len) p d false (s.pktRead p x.vcPair d (src % 2 ^ 48) len (s.ownAddr dst)))

/-- The answer to a block of a slot. -/
def State.dmaAnswered (s : State) (c n code : Nat) : State :=
  s.modSlot c n (fun m => { m with out := m.out - 1 }.note code)

end Sys2Proof.Machine
end

