-- ==== Sys2Proof/Machine/Mica.lean ====
section
/-! DEFINITION. Machine/Mica.lean: Mica: its commands, the scheduler, the conversion to tensors, output slots, the decoded-sample cache, frame accounting
(R520 to R551). -/

namespace Sys2Proof.Machine

/-- Mica changed. -/
def State.modMi (s : State) (f : MicaSt → MicaSt) : State := { s with mica := f s.mica }

/-- An open stream. -/
def State.mst (s : State) (i : Nat) : Option MStream := SMap.find s.mica.streams i

/-- A stream put in its context. -/
def State.setMst (s : State) (i : Nat) (x : MStream) : State := s.modMi (fun m => { m with streams := SMap.put m.streams i x })

/-- A stream changed, if it is open. -/
def State.modMst (s : State) (i : Nat) (f : MStream → MStream) : State := match s.mst i with
  | some x => s.setMst i (f x)
  | none => s

/-- CAP_KS (R523). -/
def capKs : Nat := 37601280

/-- Rounded up to a multiple of 16. -/
def pad16 (n : Nat) : Nat := (n + 15) / 16 * 16

/-- The supported profiles and their weight W8 (R522). -/
def micaW8 (codec profile : Nat) : Option Nat :=
  if codec = 0 ∧ profile ≤ 2 then some 8
  else if codec = 1 ∧ profile = 0 then some 8
  else if codec = 1 ∧ profile = 1 then some 10
  else if codec = 2 ∧ profile = 0 then some 10
  else if codec = 2 ∧ profile = 1 then some 12
  else none

/-- Fields of an OPEN descriptor (R526). -/
def oW8 (d : List Byte) : Nat := (micaW8 (leAt d 1 1) (leAt d 4 1)).getD 8
/-- MODE is LIVE. -/
def oLive (d : List Byte) : Bool := decide (leAt d 6 1 = 1)
/-- NOSTAMP_OK. -/
def oNostamp (d : List Byte) : Bool := bitAt (leAt d 7 1) 0
/-- The padded luma samples of the largest coded picture. -/
def oArea (d : List Byte) : Nat := pad16 (leAt d 8 2) * pad16 (leAt d 10 2)
/-- DEADLINE_US in ns. -/
def oDeadline (d : List Byte) : Nat := leAt d 16 4 * 1000
/-- NREF (R527). -/
def oNref (d : List Byte) : Nat := if leAt d 20 4 ≠ 0 then leAt d 20 4 else if leAt d 1 1 = 2 then 9 else 17
/-- PB (R527): doubled for the 10-bit profiles. -/
def oPb (d : List Byte) : Nat := oArea d * 3 / 2 * (if leAt d 1 1 ≠ 0 ∧ leAt d 4 1 = 1 then 2 else 1)
/-- OUT_W. -/
def oOutW (d : List Byte) : Nat := leAt d 54 2
/-- OUT_H. -/
def oOutH (d : List Byte) : Nat := leAt d 56 2
/-- OUT_CH. -/
def oOutCh (d : List Byte) : Nat := leAt d 59 1
/-- The width in bytes of OUT_FMT. -/
def oWidth (d : List Byte) : Nat := (codeWidth (leAt d 58 1)).getD 32 / 8
/-- The tensor's bytes. -/
def oTensor (d : List Byte) : Nat := oOutW d * oOutH d * oOutCh d * oWidth d
/-- NBUF. -/
def oNbuf (d : List Byte) : Nat := leAt d 52 2
/-- SLOT_BYTES. -/
def oSlot (d : List Byte) : Nat := leAt d 48 4
/-- OUT_BASE. -/
def oOut (d : List Byte) : Nat := leAt d 40 8
/-- RES_KS (R527). -/
def oRes (d : List Byte) : Nat := (oArea d * leAt d 12 4 * oW8 d + 799999) / 800000
/-- The OPEN fields that a cached sample's hash covers (R540). -/
def oHash (d : List Byte) : List Byte := (d.drop 54).take 74

/-- A field of OPEN is out of range or unsupported (check 1 of R527). -/
def openBad (d : List Byte) : Bool :=
  let w := leAt d 8 2
  let h := leAt d 10 2
  let dl := leAt d 16 4
  let f := leAt d 58 1
  (micaW8 (leAt d 1 1) (leAt d 4 1)).isNone || decide (51 < leAt d 5 1) || decide (1 < leAt d 6 1)
    || decide (w < 16 ∨ 8192 < w ∨ h < 16 ∨ 8192 < h) || decide (leAt d 12 4 < 1 ∨ 24000 < leAt d 12 4)
    || (if oLive d then decide (dl < 1000 ∨ 10000000 < dl) else decide (dl ≠ 0))
    || decide (17 < leAt d 20 4) || decide (leAt d 24 8 % 4096 ≠ 0) || decide (oOut d % 64 ≠ 0) || decide (oSlot d % 64 ≠ 0)
    || decide (oNbuf d < 1 ∨ 64 < oNbuf d) || decide (oOutW d < 16 ∨ 4096 < oOutW d ∨ oOutH d < 16 ∨ 4096 < oOutH d)
    || !(f = 0 || f = 1 || f = 2 || f = 9) || !(oOutCh d = 1 || oOutCh d = 3) || decide (1 < leAt d 60 1)
    || decide (3 < leAt d 62 1) || decide (2 < leAt d 63 1) || !nameOk (leAt d 64 8)
    || (List.range 4).any (fun k => decide (leAt d (96 + 2 * k) 2 % 2 ≠ 0)) || (decide (leAt d 100 2 ≠ 0) && decide (leAt d 102 2 = 0))
    || decide (oSlot d < 64 + oTensor d) || decide (2 ^ 24 < oTensor d) || decide (leAt d 32 8 < oNref d * oPb d)

/-- A reserved bit of OPEN is set (R526). -/
def openRes (d : List Byte) : Bool :=
  decide (leAt d 61 1 ≠ 0) || decide (leAt d 104 24 ≠ 0) || decide (leAt d 2 2 ≠ 0) || decide (1 < leAt d 7 1)

/-- The sum of reservations (R527). -/
def State.resKs (s : State) : Nat := s.mica.streams.foldl (fun n e => n + e.2.res) 0

/-- EXPERT_EN of a partition. -/
def State.partExpert (s : State) (p : Nat) : Bool := decide (p < 16) && s.bit F.HST_PART_CTL_EXPERT_EN p

/-- The checks of R527, in order. -/
def State.openCode (s : State) (p : Nat) (d : List Byte) : Nat :=
  let ref := leAt d 24 8
  if openRes d then Code.format 2
  else if openBad d then Code.format 0x14
  else if (leAt d 20 4 ≠ 0 ∨ leAt d 62 1 ≠ 0 ∨ leAt d 63 1 ≠ 0 ∨ oNostamp d = true) ∧ s.partExpert p = false then Code.perm 2
  else if s.rgnLocal (ref / 2 ^ 48) = false ∨ ref % 2 ^ 48 < hbmBase ∨ State.spanCode 1024 s (some p) true (ref % 2 ^ 48) (leAt d 32 8) ≠ 0 then
    Code.perm 3
  else if (List.range (oNbuf d)).any (fun k => decide (s.fabCode (some p) true (oOut d + k * oSlot d) (64 + oTensor d) ≠ 0)) then Code.perm 3
  else if s.nameOutside p (leAt d 64 8) then Code.perm 3
  else if oLive d = true ∧ s.bit F.DEV_START_FT_OK = false then Code.busy 0x50
  else if 1024 ≤ s.mica.streams.length then Code.busy 0x52
  else if capKs < s.resKs + oRes d then Code.busy 0x51
  else 0

/-- The lowest free stream index. DESIGN CHOICE (log 41): R527 does not say which free context a stream takes. -/
def freeStream : Nat → SMap MStream → Nat
  | n, [] => n
  | n, (k, _) :: t => if k = n then freeStream (n + 1) t else n

/-- OPEN (R527). -/
def State.micaOpen (s : State) (t : Tell) (p : Nat) (d : List Byte) : State :=
  let c := s.openCode p d
  if c ≠ 0 then ((if c = Code.busy 0x51 then s.logE 0x0C01 293 1 [p, oRes d] else s)).tell t c 0
  else
    let i := freeStream 0 s.mica.streams
    let x : MStream :=
      { part := p, d := d, res := oRes d, closing := none, credits := oNbuf d, queue := [], frames := [], seq := 0, slot := 0, refs := [],
        lag := false, deficit := 0, lastErr := 0, numflg := 0, in_ := 0, dec := 0, staleS := 0, staleD := 0, err := 0, hit := 0,
        noout := 0, skip := 0, future := 0, nostamp := 0, lagN := 0, preempt := 0, secS := 0, secD := 0, snap := [] }
    (s.setMst i x).tell t 0 i

/-- FLIGHT (R544): frames accepted and not resolved; one decoded for reference only is resolved. -/
def MStream.flight (x : MStream) : Nat :=
  (x.queue.filter (fun q => match q with | .unit _ _ _ _ _ _ => true | _ => false)).length + (x.frames.filter (fun f => !f.refOnly)).length

/-- Entries queued (R529). -/
def MStream.queued (x : MStream) : Nat := (x.queue.filter (fun q => match q with | .unit _ _ _ _ _ _ => true | _ => false)).length

/-- An error drop (R544). -/
def MStream.drop (x : MStream) (code : Nat) : MStream := { x with err := x.err + 1, lastErr := code }

/-- A frame's age at a fabric time (R535): none for a frame with no stamp; a negative age counts as 0. -/
def ageOf (now : Nat) (cap : Option Nat) : Option Nat := cap.map (fun c => now - c)

/-- A live stream lags (R538, R545): its oldest queued frame is older than LAG_FRAC eighths of DEADLINE_US. -/
def State.lags (s : State) (x : MStream) : Bool :=
  oLive x.d && x.queue.any (fun q => match q with
    | .unit _ _ _ _ (some c) _ => decide (oDeadline x.d * s.rd F.MCA_CTRL_LAG_FRAC < 8 * (s.time.ft - c))
    | _ => false)

/-- Note the begin or the end of a stream's lag (R538). -/
def State.noteLag (s : State) (i : Nat) : State := match s.mst i with
  | none => s
  | some x =>
    let l := s.lags x
    if l = x.lag then s
    else
      let s := (s.setMst i { x with lag := l }).logE 0x0C02 293 1 [i]
      s.wb F.MCA_STAT_LAG (s.mica.streams.any (fun e => e.2.lag))

/-- The cached samples of a partition. -/
def State.mcache (s : State) (p : Nat) : List MEntry := SMap.get s.mica.cache [] p

/-- They replaced, with USED. -/
def State.setMcache (s : State) (p : Nat) (l : List MEntry) : State :=
  (s.modMi (fun m => { m with cache := SMap.set m.cache [] p l })).wr F.MCA_CACHE_USED l.length p

/-- The pages of an entry (R540). -/
def MEntry.pages (e : MEntry) : Nat := (e.img.length + 4095) / 4096

/-- The pages of a partition's store, after the directory (R539). -/
def State.storePages (s : State) (p : Nat) : Nat := (s.rd F.MCA_CACHE_LEN p - 32 * s.rd F.MCA_CACHE_MAX_ENT p) / 4096

/-- A pin slot, number 8p + slot. -/
def State.pinAt (s : State) (n : Nat) : MPinSlot := SMap.get s.mica.pins ⟨none, none, none⟩ n

/-- It replaced, with PIN_RUN and PIN_PEND. -/
def State.setPin (s : State) (n : Nat) (x : MPinSlot) : State :=
  ((s.modMi (fun m => { m with pins := SMap.set m.pins ⟨none, none, none⟩ n x })).wflag F.MCA_CACHE_PIN_RUN (n % 8) x.run.isSome (n / 8)).wflag
    F.MCA_CACHE_PIN_PEND (n % 8) x.pend.isSome (n / 8)

/-- A key lies in a range. -/
def inPin (r : Option (Nat × Nat)) (key : Nat) : Bool := match r with
  | some (lo, hi) => decide (lo ≤ key) && decide (key ≤ hi)
  | none => false

/-- An entry's key is pinned (R543). -/
def State.pinned (s : State) (p key : Nat) : Bool := (List.range 8).any (fun k => inPin (s.pinAt (8 * p + k)).range key)

/-- A copy of an entry is still being written to a slot (R542). -/
def State.entryHeld (s : State) (p key : Nat) : Bool :=
  s.mica.streams.any (fun e => decide (e.2.part = p) && e.2.frames.any (fun f => f.hit && decide (f.key = key)))

/-- Evict the least recently used entries that may go, from the end of the list, until count and pages suffice (R540). -/
def State.evict (s : State) (p need room : Nat) : Nat → List MEntry → Option (List MEntry × Nat)
  | 0, _ => none
  | f + 1, l =>
    if l.length < s.rd F.MCA_CACHE_MAX_ENT p ∧ need + l.foldl (fun n e => n + e.pages) 0 ≤ room then some (l, 0)
    else match l.reverse.find? (fun e => !s.pinned p e.key && !s.entryHeld p e.key) with
      | none => none
      | some v => (State.evict s p need room f (l.filter (fun e => decide (e.key ≠ v.key)))).map (fun r => (r.1, r.2 + 1))

/-- Insert a delivered frame's slot image (R540, R547): an entry of that key is replaced whole; without room the insertion is skipped and counted. -/
def State.cacheInsert (s : State) (p : Nat) (e : MEntry) : State :=
  let l := (s.mcache p).filter (fun x => decide (x.key ≠ e.key))
  match s.evict p e.pages (s.storePages p) (l.length + 1) l with
  | some (l, n) => (s.bump F.MCA_CACHE_EVICT n p).setMcache p (e :: l)
  | none => (s.bump F.MCA_CACHE_INS_FAIL 1 p).logE 0x0C04 293 2 [p]

/-- A frame that no access unit was read for: served from the cache (R541). -/
def hitFrame (now key seq : Nat) (e : MEntry) : MFrame :=
  { key := key, seq := seq, cap := some (leAt e.img 8 8), ins := false, phase := .ready, out := 0, code := 0, refOnly := false, lagged := false,
    tStart := now, tDeliv := 0, cw := leAt e.img 40 2, ch := leAt e.img 42 2, hit := true, data := e.img.drop 64 }

/-- Whether an entry's read meets poison (R542): where it lies in the cache's range is not stated, so any mark there leaves it to a free value. -/
def State.entryPsn (s : State) (p k : Nat) : Bool :=
  let b := s.rd F.MCA_CACHE_BASE p
  s.psn.any (fun e => decide (b ≤ e.1) && decide (e.1 < b + s.rd F.MCA_CACHE_LEN p)) && Config.freeBool (s.free + k)

/-- A LOOKUP FEED's turn (R541, R542): its reference state is cleared; with a hit for every keyed entry it is served from the cache and its entries with
KEY 0 are error-dropped, else it is decoded. -/
def State.lookTurn (s : State) (i : Nat) (x : MStream) : State :=
  let p := x.part
  let rest := x.queue.drop 1
  let units := rest.takeWhile (fun q => match q with | .unit _ _ _ _ _ _ => true | _ => false)
  let keys := units.filterMap (fun q => match q with | .unit _ _ k _ _ _ => if k = 0 then none else some k | _ => none)
  let bad := (keys.zip (List.range keys.length)).filterMap (fun e =>
    if (s.mcache p).any (fun m => decide (m.key = e.1)) && s.entryPsn p e.2 then some e.1 else none)
  let l := (s.mcache p).filter (fun m => !bad.contains m.key)
  let s := if bad.isEmpty then s.drawn else s.drawn.setMcache p l
  let find (k : Nat) : Option MEntry := l.find? (fun m => decide (m.key = k) && decide (m.hash = oHash x.d))
  if keys.all (fun k => (find k).isSome) then
    let used := keys.filterMap find
    let s := s.setMcache p (used.foldl (fun l e => e :: l.filter (fun m => decide (m.key ≠ e.key))) l)
    let y := units.foldl (fun (y : MStream) q => match q with
      | .unit _ _ k n _ _ => match find k with
        | some e => if k = 0 then y.drop (Code.format 0x16) else { y with frames := y.frames ++ [hitFrame s.time.ft k n e] }
        | none => y.drop (Code.format 0x16)
      | _ => y) { x with queue := rest.drop units.length, refs := [] }
    (s.bump F.MCA_CACHE_HITS 1 p).setMst i y
  else (s.bump F.MCA_CACHE_MISSES 1 p).setMst i { x with queue := rest, refs := [] }

/-- The 64-byte frame record (R533). -/
def MFrame.record (f : MFrame) (i : Nat) (live : Bool) : List Byte :=
  plain (leM 8 f.key ++ leM 8 (f.cap.getD 0) ++ leM 8 f.tStart ++ leM 8 f.tDeliv ++ leM 4 f.seq ++ leM 2 i
    ++ leM 2 (f.hit.toNat + 2 * live.toNat) ++ leM 2 f.cw ++ leM 2 f.ch ++ leM 20 0)

/-- The fabric address of the slot that the next delivered frame takes (R533). -/
def MStream.slotAddr (x : MStream) : Nat := oOut x.d + x.slot % oNbuf x.d * oSlot x.d

/-- Write part of a frame to its slot; it stays in the phase until every packet is answered. -/
def State.slotWrite (s : State) (i : Nat) (x : MStream) (f : MFrame) (t : List MFrame) (ph : MPhase) (off : Nat) (l : List Byte) : State :=
  let r := s.unitWrite (fun _ _ => .mica i f.seq 1) x.part (x.slotAddr + off) (clean l)
  r.1.setMst i { x with frames := { f with phase := ph, code := r.2.1, out := r.2.2.2 } :: t }

/-- A frame's slot is written whole: it is delivered, its consumer signalled, and inserted into the cache if asked (R533, R540, R544). -/
def State.delivered (s : State) (i : Nat) (x : MStream) (f : MFrame) (t : List MFrame) : State :=
  let s := s.setMst i { x with frames := t, dec := x.dec + 1, hit := x.hit + f.hit.toNat, slot := x.slot + 1 }
  let s := s.unitSignal (.mica i f.seq 2) x.part (leAt x.d 64 8)
  if f.ins && decide (f.key ≠ 0) then s.cacheInsert x.part ⟨f.key, oHash x.d, f.record i (oLive x.d) ++ f.data⟩ else s

/-- The stream is over (R546): its reservation and context are released, and the CLOSE completes. -/
def State.streamOver (s : State) (i : Nat) (t : Tell) : State :=
  let s := s.modMi (fun m => { m with streams := SMap.del m.streams i })
  (s.wb F.MCA_STAT_LAG (s.mica.streams.any (fun e => e.2.lag))).tell t 0 0

/-- The queue's head, when it is a mark whose turn has come: no frame of the stream is being decoded, and Flint does not hold its partition. -/
def State.micaMark (s : State) (x : MStream) : Option MItem :=
  if x.frames.any (fun f => decide (f.phase = .decode)) ∨ s.flag F.FLT_ALONE_QUIESCED x.part = true then none
  else match x.queue.head? with
    | some (.unit _ _ _ _ _ _) => none
    | q => q

/-- No picture of the stream is still to be decoded. -/
def MStream.drained (x : MStream) : Bool := x.queue.isEmpty && x.frames.all (fun f => decide (f.phase ≠ .decode))

/-- Every picture held for reordering goes out. -/
def MStream.flush (x : MStream) : MStream := { x with frames := x.frames.map (fun f => if f.phase = .held then { f with phase := .ready } else f) }

/-- One step of a stream (R533, R536, R541, R546): a mark at the queue's head, or the oldest started frame; none if nothing can be done. -/
def State.micaOne (s : State) (i : Nat) (x : MStream) : Option State :=
  match s.micaMark x with
  | some .look => some (s.lookTurn i x)
  | some .lookEnd => some (s.setMst i { x with queue := x.queue.drop 1, refs := [] })
  | some .eos => some (s.setMst i { x.flush with queue := x.queue.drop 1, refs := [] })
  | _ =>
    if x.closing.isSome ∧ x.drained = true ∧ x.frames.any (fun f => decide (f.phase = .held)) then some (s.setMst i x.flush)
    else match x.frames with
      | [] => match x.closing with
        | some t => if x.queue.isEmpty then some (s.streamOver i t) else none
        | none => none
      | f :: t => match f.phase with
        | .decode | .held => none
        | .ready =>
          if x.credits = 0 then
            (if x.closing.isSome ∧ x.drained = true then some (s.setMst i ({ x with frames := t }.drop (Code.busy 0x54))) else none)
          else
            let stale := oLive x.d && (match ageOf s.time.ft f.cap with | some a => decide (oDeadline x.d < a) | none => false)
            if stale then some (s.setMst i { x with frames := t, staleD := x.staleD + 1, secD := x.secD + 1 })
            else some (s.slotWrite i { x with credits := x.credits - 1 } { f with tDeliv := s.time.ft } t .tensor 64 f.data)
        | .tensor =>
          if f.out ≠ 0 then none
          else if f.code ≠ 0 then some (s.setMst i ({ x with frames := t, credits := x.credits + 1 }.drop f.code))
          else some (s.slotWrite i x f t .record 0 (f.record i (oLive x.d)))
        | .record =>
          if f.out ≠ 0 then none
          else if f.code ≠ 0 then some (s.setMst i ({ x with frames := t, credits := x.credits + 1 }.drop f.code))
          else some (s.delivered i x f t)

/-- FEEDs of a partition that are being served from the cache (R548). -/
def State.cacheServing (s : State) (p : Nat) : Bool :=
  s.mica.streams.any (fun e => decide (e.2.part = p) && e.2.frames.any (fun f => f.hit))

/-- The waiting CACHE_CFG commands that may take effect do so (R539, R548): entries and pin ranges are cleared. -/
def State.cfgGo (s : State) : State :=
  s.mica.cfgs.foldl (fun (s : State) c =>
    if (List.range 8).any (fun k => (s.pinAt (8 * c.part + k)).run.isSome) || s.cacheServing c.part then s
    else
      let s := s.modMi (fun m => { m with cfgs := m.cfgs.filter (fun q => decide (q ≠ c)) })
      let s := ((s.wr F.MCA_CACHE_BASE c.base c.part).wr F.MCA_CACHE_LEN c.len c.part).wr F.MCA_CACHE_MAX_ENT c.maxEnt c.part
      let s := (s.setMcache c.part [])
      ((List.range 8).foldl (fun s k => s.setPin (8 * c.part + k) ⟨none, none, none⟩) s).tell c.tell 0 0) s

/-- A stream goes on as far as it can. -/
def State.micaPump (i : Nat) : Nat → State → State
  | 0, s => s
  | f + 1, s => match s.mst i with
    | none => s
    | some x => match s.micaOne i x with
      | some t => State.micaPump i f t
      | none => s

/-- A stream goes on; a frame takes at most four steps and a mark one; then a CACHE_CFG that waited may take effect. -/
def State.micaGo (s : State) (i : Nat) : State := match s.mst i with
  | none => s
  | some x => ((State.micaPump i (5 * (x.queue.length + x.frames.length) + 8) s).noteLag i).cfgGo

/-- What a command that names a stream meets (R526): its code, and the stream. -/
def State.streamOf (s : State) (p : Nat) (d : List Byte) : Nat × Nat :=
  let i := leAt d 2 2
  match s.mst i with
  | none => (Code.busy 0x58, i)
  | some x => if x.part ≠ p then (Code.perm 0xB, i) else if x.closing.isSome then (Code.busy 0x58, i) else (0, i)

/-- CLOSE (R546). -/
def State.micaClose (s : State) (t : Tell) (p : Nat) (d : List Byte) : State :=
  let r := s.streamOf p d
  if leAt d 1 1 ≠ 0 ∨ 1 < leAt d 4 1 ∨ leAt d 5 123 ≠ 0 then s.tell t (Code.format 2) 0
  else if r.1 ≠ 0 then s.tell t r.1 0
  else
    let s := s.modMst r.2 (fun x =>
      let x := { x with closing := some t }
      if bitAt (leAt d 4 1) 0 = false then x
      else (List.replicate x.queued ()).foldl (fun x _ => x.drop (Code.busy 0x54)) { x with queue := [] })
    s.micaGo r.2

/-- The 32-byte entries of a FEED list. -/
def feedEntry (l : List Byte) (k : Nat) : List Byte := (l.drop (32 * k)).take 32

/-- FEED (R529, R530). A list on another device comes with the command, as that device answers it (log 42); so do the capture stamps. -/
def State.micaFeed (s : State) (t : Tell) (p : Nat) (d : List Byte) (f : MicaFeed) : State :=
  let r := s.streamOf p d
  let n := leAt d 4 2
  let fl := leAt d 6 1
  let look := bitAt fl 0
  let ins := bitAt fl 1
  if leAt d 1 1 ≠ 0 ∨ leAt d 7 1 ≠ 0 ∨ leAt d 16 112 ≠ 0 ∨ 8 ≤ fl then s.tell t (Code.format 2) 0
  else if 256 < n then s.tell t (Code.format 0x14) 0
  else if r.1 ≠ 0 then s.tell t r.1 0
  else
    let far := s.isFar (leAt d 8 8)
    let q : State × Nat × List MByte :=
      if n = 0 then (s, 0, [])
      else if s.idCode (leAt d 8 8 / 2 ^ 48) ≠ 0 then (s, s.idCode (leAt d 8 8 / 2 ^ 48), [])
      else if far then (s, f.list.code, f.list.data.take (32 * n)) else s.readSpan (some p) false (leAt d 8 8) (32 * n)
    let s := q.1
    let l := plain q.2.2
    let ks := List.range n
    match s.mst r.2 with
    | none => s
    | some x =>
      if q.2.1 ≠ 0 then s.tell t q.2.1 0
      else if anyPsn q.2.2 then s.tell t (Code.poison 1) 0
      else if ks.any (fun k => decide (leAt (feedEntry l k) 12 4 ≠ 0 ∨ leAt (feedEntry l k) 24 8 ≠ 0)) then s.tell t (Code.format 2) 0
      else if (oLive x.d && (look || ins)) || ks.any (fun k => decide (8388608 < leAt (feedEntry l k) 8 4)) then s.tell t (Code.format 0x14) 0
      else if 256 < x.queued + n then s.tell t (Code.busy 0x53) 0
      else
        let units := ks.filterMap (fun k =>
          let e := feedEntry l k
          if leAt e 8 4 = 0 then none
          else some (MItem.unit (leAt e 0 8) (leAt e 8 4) (leAt e 16 8) ((x.seq + k) % 2 ^ 32) ((f.stamps[k]?).getD none) ins))
        let items := (if look && decide (n ≠ 0) then .look :: units ++ [.lookEnd] else units) ++ (if bitAt fl 2 then [.eos] else [])
        let y := { x with queue := x.queue ++ items, seq := (x.seq + n) % 2 ^ 32, in_ := x.in_ + units.length, skip := x.skip + (n - units.length) }
        ((s.setMst r.2 y).tell t 0 x.seq).micaGo r.2

/-- CREDIT (R534). -/
def State.micaCredit (s : State) (t : Tell) (p : Nat) (d : List Byte) : State :=
  let r := s.streamOf p d
  let n := leAt d 4 4
  if leAt d 1 1 ≠ 0 ∨ leAt d 8 120 ≠ 0 then s.tell t (Code.format 2) 0
  else if r.1 ≠ 0 then s.tell t r.1 0
  else match s.mst r.2 with
    | none => s
    | some x =>
      if oNbuf x.d < x.credits + n then s.tell t (Code.format 0x14) 0
      else ((s.setMst r.2 { x with credits := x.credits + n }).tell t 0 (x.credits + n)).micaGo r.2

/-- The sum of a field over the other partitions, the waiting configurations counted (R539). -/
def State.cacheSum (s : State) (p : Nat) (f : Fld) (g : MCfg → Nat) : Nat :=
  (List.range 16).foldl (fun n q => if q = p then n else
    n + (match s.mica.cfgs.reverse.find? (fun c => decide (c.part = q)) with | some c => g c | none => s.rd f q)) 0

/-- CACHE_CFG (R524, R539, R548). -/
def State.micaCacheCfg (s : State) (t : Tell) (pf : Bool) (p : Nat) (d : List Byte) : State :=
  let base := leAt d 8 8
  let len := leAt d 16 8
  let me := leAt d 24 4
  if pf = false then s.tell t (Code.perm 8) 0
  else if leAt d 1 7 ≠ 0 ∨ leAt d 28 100 ≠ 0 then s.tell t (Code.format 2) 0
  else if len % 2 ^ 21 ≠ 0 ∨ 2 ^ 24 < me then s.tell t (Code.format 0x14) 0
  else if 64 * 2 ^ 30 < s.cacheSum p F.MCA_CACHE_LEN MCfg.len + len ∨ 2 ^ 24 < s.cacheSum p F.MCA_CACHE_MAX_ENT MCfg.maxEnt + me then
    s.tell t (Code.busy 0x56) 0
  else if len ≠ 0 ∧ (s.rgnLocal (base / 2 ^ 48) = false ∨ base % 2 ^ 48 < hbmBase ∨ State.spanCode 1024 s (some p) true (base % 2 ^ 48) len ≠ 0) then
    s.tell t (Code.perm 3) 0
  else
    let s := (List.range 8).foldl (fun (s : State) k =>
      let x := s.pinAt (8 * p + k)
      match x.pend with
      | some q => (s.setPin (8 * p + k) { x with pend := none }).tell q.tell (Code.superseded 0) 0
      | none => s) s
    (s.modMi (fun m => { m with cfgs := m.cfgs ++ [⟨p, base % 2 ^ 48, len, me, t⟩] })).cfgGo

/-- Start a pin operation on an idle slot (R543): UNPIN takes effect at once, PIN scans. What a ticket's number is, is not stated: a free value (log 43). -/
def State.pinStart (s : State) (n : Nat) (q : MPin) : State :=
  let x := s.pinAt n
  if q.pop then ((s.setPin n { x with range := none, run := none }).drawn).tell q.tell 0 (Config.freeNat s.free)
  else s.setPin n { x with run := some q }

/-- PIN (R543): POP 1 clears the slot's range. -/
def State.micaPin (s : State) (t : Tell) (p : Nat) (d : List Byte) : State :=
  let q : MPin := ⟨decide (leAt d 5 1 = 1), leAt d 8 8, leAt d 16 8, t⟩
  if leAt d 1 3 ≠ 0 ∨ leAt d 6 2 ≠ 0 ∨ leAt d 24 104 ≠ 0 then s.tell t (Code.format 2) 0
  else if 7 < leAt d 4 1 ∨ 1 < leAt d 5 1 ∨ q.hi < q.lo then s.tell t (Code.format 0x14) 0
  else
    let n := 8 * p + leAt d 4 1
    let x := s.pinAt n
    if x.run.isNone then s.pinStart n q
    else
      let s := match x.pend with
        | some o => s.tell o.tell (Code.superseded 0) 0
        | none => s
      s.setPin n { s.pinAt n with pend := some q }

/-- PIN_SCAN_DONE (R543): the range takes effect, or is refused when the pinned pages would exceed 7/8 of the store; then the pending operation starts. -/
def execPinScanDone (p : Part) (slot : Fin 8) (s : State) : Host.Outcome State Fault Refusal :=
  let n := 8 * (p : Nat) + slot
  let x := s.pinAt n
  match x.run with
  | none => .next s
  | some q =>
    let pages := ((s.mcache p).filter (fun e => inPin (some (q.lo, q.hi)) e.key
      || (List.range 8).any (fun k => decide (k ≠ slot) && inPin (s.pinAt (8 * p + k)).range e.key))).foldl (fun n e => n + e.pages) 0
    let s := if 7 * s.storePages p < 8 * pages
      then (s.setPin n { x with run := none, pend := none }).tell q.tell (Code.busy 0x57) 0
      else ((s.setPin n { range := some (q.lo, q.hi), run := none, pend := none }).drawn).tell q.tell 0 (Config.freeNat s.free)
    let s := match x.pend with
      | some o => s.pinStart n o
      | none => s
    .next s.cfgGo

/-- Run a Mica command (R524 to R526, R631): `pf` that a ring of the physical function carries it, `k` the command that the carrier names, if it names
one. -/
def State.micaCmd (s : State) (t : Tell) (pf : Bool) (p : Nat) (k : Option Nat) (d : List Byte) (f : MicaFeed) : State :=
  let c := leAt d 0 1
  if s.micaPres = false then s.tell t Code.unitAbsent 0
  else if s.islFailed 293 then s.tell t (Code.busy 0x49) 0
  else if 5 < c ∨ k.any (fun k => decide (k ≠ c)) = true then s.tell t (Code.format 0x14) 0
  else if c = 0 then s.micaOpen t p d
  else if c = 1 then s.micaClose t p d
  else if c = 2 then s.micaFeed t p d f
  else if c = 3 then s.micaCredit t p d
  else if c = 4 then s.micaCacheCfg t pf p d
  else s.micaPin t p d

/-- A Mica command from a ring. -/
def State.micaHost (s : State) (id k : Nat) (d : List Byte) (f : MicaFeed) : State :=
  s.hostCmd id (0x40 + k) (fun s c => s.micaCmd (.host id) (decide (s.rd F.HST_RING_OWNER c.ring = 31)) c.part (some k) d f)

/-- OPEN from a ring. -/
def execMicaOpen (id : Nat) (d : List Byte) (s : State) : Host.Outcome State Fault Refusal := .next (s.micaHost id 0 d ⟨⟨0, []⟩, []⟩)
/-- CLOSE from a ring. -/
def execMicaClose (id : Nat) (d : List Byte) (s : State) : Host.Outcome State Fault Refusal := .next (s.micaHost id 1 d ⟨⟨0, []⟩, []⟩)
/-- FEED from a ring. -/
def execMicaFeed (id : Nat) (d : List Byte) (f : MicaFeed) (s : State) : Host.Outcome State Fault Refusal := .next (s.micaHost id 2 d f)
/-- CREDIT from a ring. -/
def execMicaCredit (id : Nat) (d : List Byte) (s : State) : Host.Outcome State Fault Refusal := .next (s.micaHost id 3 d ⟨⟨0, []⟩, []⟩)
/-- CACHE_CFG from a ring. -/
def execCacheCfg (id : Nat) (d : List Byte) (s : State) : Host.Outcome State Fault Refusal := .next (s.micaHost id 4 d ⟨⟨0, []⟩, []⟩)
/-- PIN from a ring. -/
def execMicaPin (id : Nat) (d : List Byte) (s : State) : Host.Outcome State Fault Refusal := .next (s.micaHost id 5 d ⟨⟨0, []⟩, []⟩)

/-- UNT.MCMD (R168, R525): on a variant without the unit UNIT_ABSENT, whatever the form and the other fields; then the precise checks; everything else goes to the status word. -/
def execUntMcmd (x : Iss) (ra rb : Fin 64) (imm : BitVec 24) (f : MicaFeed) (s : State) : Host.Outcome State Fault Refusal :=
  let i := imm.toNat
  let here := s.micaPres
  let x := { x with res := here && (x.res || decide (i % 64 ≠ 0 ∨ 2 ^ 13 ≤ i)) }
  .next (s.issueAfter x (if here && !x.long then Code.format 1 else 0) (fun s =>
    let k := s.cl x.c
    let off := (k.gr ra).toNat
    let st := (k.gr rb).toNat
    let e := s.unitDescCode x.c off st
    if here = false then s.fault x Code.unitAbsent
    else if e.1 ≠ 0 then s.fault x e.1 e.2
    else
      let t := Tell.clu x.c st (bitsAt i 6 6) (bitAt i 12)
      (s.pass x).micaCmd t false ((s.cluPart x.c).getD 16) none (s.memL (sramAt x.c off) 128) f))

/-- MICA_LAG_BEGIN (R538). -/
def execMicaLagBegin (st : Fin 1024) (s : State) : Host.Outcome State Fault Refusal := .next (s.noteLag st)

/-- MICA_SNAP (R544): the counters of +0x08 to +0x30 are latched; only the host physical function writes the block. -/
def MStream.counters (x : MStream) : List Nat :=
  [x.in_, x.dec, x.staleS % 2 ^ 32 + x.staleD % 2 ^ 32 * 2 ^ 32, x.err % 2 ^ 32 + x.flight % 2 ^ 32 * 2 ^ 32, x.hit % 2 ^ 32 + x.noout % 2 ^ 32 * 2 ^ 32,
   x.skip % 2 ^ 32 + x.seq * 2 ^ 32]

/-- A write of SNAP. -/
def State.micaSnapWrite (s : State) (src : Src) (i : Nat) : State :=
  if src ≠ .pf then s.bump F.FLT_WR_REJ_COUNT else s.modMst i (fun x => { x with snap := x.counters })

/-- MICA_SNAP. -/
def execMicaSnap (st : Fin 1024) (src : Src) (s : State) : Host.Outcome State Fault Refusal := .next (s.micaSnapWrite src.host st)

end Sys2Proof.Machine
end

