-- ==== Sys2Proof/Machine/MicaRun.lean ====
section
/-! DEFINITION. Machine/MicaRun.lean: Mica's pipes: which frame starts, what a decoded picture brings, the conversion to a tensor, and what answers, resets
and time do to streams (R523, R530, R531, R535 to R538, R549 to R551). -/

namespace Sys2Proof.Machine

/-- One plane of a picture with its crop: samples row-major, width of a row, and the crop's place and size. -/
structure Plane where
  d : List Nat
  w : Nat
  cx : Nat
  cy : Nat
  cw : Nat
  ch : Nat
  deriving DecidableEq, Repr

/-- A sample inside the crop; one outside the coded picture is a free value (log 44). -/
def Plane.at_ (p : Plane) (free : Nat) (x y : Nat) : Lane :=
  natF (if x < p.w then (p.d[y * p.w + x]?).getD (Config.freeNat free) else Config.freeNat free)

/-- Clamp a sample position to the crop. -/
def clampAt (lo n : Nat) (x : Int) : Nat := (min (max x (lo : Int)) ((lo : Int) + (n : Int) - 1)).toNat

/-- The source coordinate of an output coordinate (R531). -/
def srcPos (x crop org out : Nat) : Lane :=
  fAdd (fSub (fMul (fAdd (natF x) 0x3F000000) (fDiv (natF crop) (natF out))) 0x3F000000) (natF org)

/-- The bilinear sample of a plane at an output position (R531). -/
def Plane.sample (p : Plane) (free ow oh x y : Nat) : Lane :=
  let sx := srcPos x p.cw p.cx ow
  let sy := srcPos y p.ch p.cy oh
  let ix := floorF sx
  let iy := floorF sy
  let fx := fSub sx (intF ix)
  let fy := fSub sy (intF iy)
  let g (dx dy : Int) : Lane := p.at_ free (clampAt p.cx p.cw (ix + dx)) (clampAt p.cy p.ch (iy + dy))
  let one : Lane := 0x3F800000
  let row (a b : Lane) : Lane := fAdd (fMul (fSub one fx) a) (fMul fx b)
  fAdd (fMul (fSub one fy) (row (g 0 0) (g 1 0))) (fMul fy (row (g 0 1) (g 1 1)))

/-- Kr and Kb of a MATRIX code (R531). -/
def lumaCoef (m : Nat) : Lane × Lane :=
  if m = 1 then (ratF 299 1000, ratF 114 1000) else if m = 3 then (ratF 2627 10000, ratF 593 10000) else (ratF 2126 10000, ratF 722 10000)

/-- Y' of a sample (R531). -/
def lumaF (full : Bool) (b : Nat) (p : Lane) : Lane :=
  if full then fDiv p (natF (2 ^ b - 1)) else fDiv (fSub p (natF (16 * 2 ^ (b - 8)))) (natF (219 * 2 ^ (b - 8)))

/-- Cb' or Cr' of a sample (R531). -/
def chromaF (full : Bool) (b : Nat) (p : Lane) : Lane :=
  if full then fDiv (fSub p (natF (2 ^ (b - 1)))) (natF (2 ^ b - 1)) else fDiv (fSub p (natF (128 * 2 ^ (b - 8)))) (natF (224 * 2 ^ (b - 8)))

/-- The channels of a picture with chroma (R531). -/
def rgbF (kr kb y cb cr : Lane) : List Lane :=
  let one : Lane := 0x3F800000
  let two : Lane := 0x40000000
  let r := fAdd y (fMul (fMul two (fSub one kr)) cr)
  let b := fAdd y (fMul (fMul two (fSub one kb)) cb)
  [r, fDiv (fSub (fSub y (fMul kr r)) (fMul kb b)) (fSub (fSub one kr) kb), b]

/-- A plane with its crop: `half` for a chroma plane, whose crop is scaled by one half (R531). -/
def planeOf (d : List Byte) (pic : MicaPic) (l : List Nat) (half : Bool) : Plane :=
  let h (n : Nat) : Nat := if half then (n + 1) / 2 else n
  if leAt d 100 2 = 0 then ⟨l, h pic.cw, 0, 0, h pic.cw, h pic.ch⟩
  else ⟨l, h pic.cw, h (leAt d 96 2), h (leAt d 98 2), h (leAt d 100 2), h (leAt d 102 2)⟩

/-- One output channel: clamped, normalised, converted to OUT_FMT with saturation (R531). -/
def outElem (d : List Byte) (c : Nat) (v : Lane) : Nat × NumFlags :=
  let v := minF (maxF v 0) 0x3F800000
  let z := fMul (fSub v (BitVec.ofNat 32 (leAt d (72 + 4 * c) 4))) (BitVec.ofNat 32 (leAt d (84 + 4 * c) 4))
  elemEncode (leAt d 58 1) false false (f32 z)

/-- The tensor of a decoded picture for a stream with an OPEN descriptor, and the flags of its conversion (R531, R532). -/
def convert (d : List Byte) (pic : MicaPic) (free : Nat) : List Byte × NumFlags :=
  let m := if leAt d 62 1 ≠ 0 then leAt d 62 1 else if pic.matrix ≠ 0 then pic.matrix else 2
  let r := if leAt d 63 1 ≠ 0 then leAt d 63 1 else if pic.range ≠ 0 then pic.range else 1
  let full := decide (r = 2)
  let k := lumaCoef m
  let yp := planeOf d pic pic.y false
  let bp := planeOf d pic pic.cb true
  let rp := planeOf d pic pic.cr true
  let ow := oOutW d
  let oh := oOutH d
  let px (x y : Nat) : List (Nat × NumFlags) :=
    let l := lumaF full pic.depth (yp.sample free ow oh x y)
    let chs := if oOutCh d = 1 then [l] else if pic.mono then [l, l, l]
      else rgbF k.1 k.2 l (chromaF full pic.depth (bp.sample free ow oh x y)) (chromaF full pic.depth (rp.sample free ow oh x y))
    chs.zipIdx.map (fun e => outElem d e.2 e.1)
  let pix := (List.range oh).flatMap (fun y => (List.range ow).map (fun x => px x y))
  let els := if leAt d 60 1 = 1 then pix.flatten else (List.range (oOutCh d)).flatMap (fun c => pix.map (fun p => (p[c]?).getD (0, 0)))
  (els.flatMap (fun e => plain (leM (oWidth d) e.1)), flagsOf els)

/-- A started frame ends without a delivery: an error drop, or nothing more for one decoded for reference only (R544, R551). -/
def MStream.dropFrame (x : MStream) (f : MFrame) (code : Nat) : MStream :=
  let y := { x with frames := x.frames.filter (fun g => decide (g.seq ≠ f.seq)) }
  if f.refOnly then y else y.drop code

/-- The frames that the pipes hold. -/
def MicaSt.decoding (m : MicaSt) : Nat := m.streams.foldl (fun n e => n + (e.2.frames.filter (fun f => decide (f.phase = .decode))).length) 0

/-- A stream has a frame that may start (R538, R549): one access unit at a time, its partition not held. -/
def State.mayStart (s : State) (x : MStream) : Bool :=
  x.frames.all (fun f => decide (f.phase ≠ .decode)) && !s.flag F.FLT_ALONE_QUIESCED x.part
    && (match x.queue.head? with | some (.unit _ _ _ _ _ _) => true | _ => false)

/-- The capture stamp of a stream's next frame, 0 for none. -/
def MStream.headCap (x : MStream) : Nat := match x.queue.head? with
  | some (.unit _ _ _ _ (some c) _) => c
  | _ => 0

/-- Of the streams of a list, the one with the oldest capture stamp. -/
def oldest : List (Nat × MStream) → Option (Nat × MStream)
  | [] => none
  | e :: t => match oldest t with
    | none => some e
    | some f => if e.2.headCap ≤ f.2.headCap then some e else some f

/-- A frame's cost in the round robin, in thousands of weighted samples, from MAX_W and MAX_H. PRESUMED (log 45): R538 does not give a frame's cost. -/
def MStream.cost (x : MStream) : Nat := (oArea x.d * oW8 x.d + 7999) / 8000

/-- Deficit round robin (R538): visit the streams in index order from the turn on, each visit adding RES_KS, until one can pay for its frame. -/
def State.drr (l : List Nat) : Nat → State → Nat → Option (State × Nat)
  | 0, s, _ => (l.head?).map (fun i => (s, i))
  | f + 1, s, cur =>
    match (match l.find? (fun i => decide (cur < i)) with | some i => some i | none => l.head?) with
    | none => none
    | some i => match s.mst i with
      | none => none
      | some x =>
        if x.cost ≤ x.deficit + x.res then some ((s.setMst i { x with deficit := x.deficit + x.res - x.cost }).modMi (fun m => { m with turn := i }), i)
        else State.drr l f (s.setMst i { x with deficit := x.deficit + x.res }) i

/-- The stream whose frame starts next (R538): a lagging LIVE stream's oldest frame first, else by deficit round robin, where the stream whose turn it is
goes on while its credit lasts. -/
def State.pick (s : State) : Option (State × Nat) :=
  let el := s.mica.streams.filter (fun e => s.mayStart e.2)
  match oldest (el.filter (fun e => e.2.lag)) with
  | some e => some (s, e.1)
  | none => match el.find? (fun e => decide (e.1 = s.mica.turn) && decide (e.2.cost ≤ e.2.deficit)) with
    | some e => some (s.setMst e.1 { e.2 with deficit := e.2.deficit - e.2.cost }, e.1)
    | none => State.drr (el.map Prod.fst) (128 * el.length + 1) s s.mica.turn

/-- Read a frame's access unit whole into the working buffers and put it in a pipe (R530). -/
def State.startFrame (s : State) (i : Nat) (x : MStream) (f : MFrame) (addr len : Nat) : State :=
  let r := s.unitRead (fun _ _ => .mica i f.seq 0) x.part addr len
  let f := { f with out := r.2.2.2, code := r.2.1 }
  let y := { x with frames := x.frames ++ [f] }
  if r.2.1 ≠ 0 then r.1.setMst i (y.dropFrame f r.2.1)
  else if anyPsn r.2.2.1 then r.1.setMst i (y.dropFrame f (Code.poison 1))
  else r.1.setMst i y

/-- A stream's next frame starts (R535 to R538): `isRef` that it is a reference picture. -/
def State.micaStart (s : State) (i : Nat) (isRef : Bool) : State :=
  match s.mst i with
  | none => s
  | some x => match x.queue with
    | .unit addr len key seq cap ins :: t =>
      let live := oLive x.d
      let x := { x with queue := t, lagN := if live && x.lag then satAt 16 (x.lagN + 1) else x.lagN }
      let f : MFrame :=
        { key := key, seq := seq, cap := cap, ins := ins, phase := .decode, out := 0, code := 0, refOnly := false, lagged := live && x.lag,
          tStart := s.time.ft, tDeliv := 0, cw := 0, ch := 0, hit := false, data := [] }
      if live = false then s.startFrame i x f addr len
      else match cap with
        | none =>
          if oNostamp x.d then s.startFrame i { x with nostamp := satAt 16 (x.nostamp + 1) } f addr len else s.setMst i (x.drop (Code.format 0x17))
        | some c =>
          let x := if s.time.ft < c then { x with future := satAt 16 (x.future + 1) } else x
          if oDeadline x.d < s.time.ft - c then
            let x := { x with staleS := x.staleS + 1, secS := x.secS + 1 }
            if isRef then s.startFrame i x { f with refOnly := true } addr len else s.setMst i x
          else s.startFrame i x f addr len
    | _ => s

/-- MICA_DECODE_START (R523, R538, R549): one of the 16 pipes is free and takes the next frame; none starts while island 293 resets. -/
def execMicaDecodeStart (isRef : Bool) (s : State) : Host.Outcome State Fault Refusal :=
  let s := s.mica.streams.foldl (fun (s : State) e => s.noteLag e.1) s
  if 16 ≤ s.mica.decoding ∨ s.islResetting 293 = true then .next s
  else match s.pick with
    | none => .next s
    | some (s, i) => .next ((s.micaStart i isRef).micaGo i)

/-- What a decoded picture's frame meets, in order (R522, R545, R551): the read's code, the decoder's, a reference that is missing or one too many, a
coded size above MAX_W and MAX_H, poison in the reference store. -/
def State.picCode (s : State) (x : MStream) (f : MFrame) (pic : MicaPic) : Nat :=
  let rd (e : Nat × Nat) := s.readSpan (reqPart x.part) false (leAt x.d 24 8 + e.1) e.2
  if f.code ≠ 0 then f.code
  else if pic.code ≠ 0 then pic.code
  else if pic.refers.any (fun q => !x.refs.contains q) then Code.format 0x16
  else if oNref x.d < pic.keep.length then Code.format 0x16
  else if leAt x.d 8 2 < pic.cw ∨ leAt x.d 10 2 < pic.ch then Code.format 0x15
  else match pic.reads.find? (fun e => decide ((rd e).2.1 ≠ 0)) with
    | some e => (rd e).2.1
    | none => if pic.reads.any (fun e => anyPsn (rd e).2.2) then Code.poison 1 else 0

/-- MICA_DECODE_DONE (R531, R538, R544, R551): the frame that the stream decodes has been read and decoded. -/
def execMicaDecodeDone (st : Fin 1024) (pic : MicaPic) (s : State) : Host.Outcome State Fault Refusal :=
  let i := (st : Nat)
  match s.mst i with
  | none => .next s
  | some x => match x.frames.find? (fun f => decide (f.phase = .decode) && decide (f.out = 0)) with
    | none => .next s
    | some f =>
      let c := s.picCode x f pic
      if c ≠ 0 then .next ((s.setMst i (x.dropFrame f c)).micaGo i)
      else
        let s := pic.writes.foldl (fun (s : State) e => (s.writeSpan (reqPart x.part) false (leAt x.d 24 8 + e.1) (clean e.2)).1) s
        let x := { x with refs := pic.keep,
                          frames := x.frames.map (fun (g : MFrame) => if pic.bump.contains g.seq ∧ g.phase = MPhase.held then { g with phase := MPhase.ready } else g) }
        if f.refOnly then .next ((s.setMst i (x.dropFrame f 0)).micaGo i)
        else if pic.noout then
          .next ((s.setMst i { (x.dropFrame { f with refOnly := true } 0) with dec := x.dec + 1, noout := x.noout + 1 }).micaGo i)
        else
          let t := convert x.d pic s.free
          let g := { f with phase := if pic.held then .held else .ready, cw := pic.cw, ch := pic.ch, data := t.1 }
          let y := { x with numflg := x.numflg ||| t.2, frames := x.frames.map (fun (h : MFrame) => if h.seq = f.seq then g else h) }
          .next ((s.drawn.setMst i y).micaGo i)

/-- A packet of a frame is answered (R530, R533, R551): `k` 0 for a read, 1 for a slot write, 2 for a signal. -/
def State.micaAnswered (s : State) (i seq k code : Nat) : State :=
  match s.mst i with
  | none => s
  | some x => match x.frames.find? (fun f => decide (f.seq = seq)) with
    | none => s
    | some f =>
      if k = 2 ∨ f.out = 0 then s
      else
        let f := { f with out := f.out - 1, code := if f.code = 0 then code else f.code }
        let y := { x with frames := x.frames.map (fun g => if g.seq = seq then f else g) }
        let y := if f.phase = .decode ∧ f.out = 0 ∧ f.code ≠ 0 then y.dropFrame f f.code else y
        (s.setMst i y).micaGo i

/-- A partition's reset closes its streams at once and clears its cache entries and pin ranges; its CACHE_CFG stays (R550). -/
def State.micaPartReset (s : State) (p : Nat) : State :=
  let s := s.modMi (fun m => { m with streams := m.streams.filter (fun e => decide (e.2.part ≠ p)) })
  let s := (s.wb F.MCA_STAT_LAG (s.mica.streams.any (fun e => e.2.lag))).setMcache p []
  ((List.range 8).foldl (fun (s : State) k => s.setPin (8 * p + k) ⟨none, none, none⟩) s).cfgGo

/-- An island reset of island 293 (R550): reference states are cleared; frames in decoding or conversion are error-dropped. -/
def State.micaIslandReset (s : State) : State :=
  let ids := s.mica.streams.map Prod.fst
  let s := s.modMi (fun m => { m with streams := m.streams.map (fun e =>
    (e.1, (e.2.frames.filter (fun f => decide (f.phase = .decode ∨ f.phase = .held))).foldl (fun (x : MStream) f => x.dropFrame f (Code.busy 0x55))
      { e.2 with refs := [], lag := false })) })
  ids.foldl (fun (s : State) i => s.micaGo i) (s.wr F.MCA_STAT_LAG 0)

/-- A module reset clears all of Mica (R550). -/
def State.micaClear (s : State) : State := s.modMi (fun _ => ⟨[], [], [], [], 0⟩)

/-- Frames of a partition are in flight (R549). -/
def State.micaFlight (s : State) (p : Nat) : Bool := s.mica.streams.any (fun e => decide (e.2.part = p) && decide (e.2.flight ≠ 0))

/-- One nanosecond of Mica (R538, R551): PREEMPT_NS of the RECORDED streams that wait while a lagging LIVE frame holds a pipe; each second the stale
drops are logged. -/
def State.micaTick (s : State) : State :=
  let hot := s.mica.streams.any (fun e => e.2.frames.any (fun f => decide (f.phase = .decode) && f.lagged))
  let s := if hot then s.modMi (fun m => { m with streams := m.streams.map (fun e =>
      if oLive e.2.d = false ∧ s.mayStart e.2 = true then (e.1, { e.2 with preempt := e.2.preempt + 1 }) else e) }) else s
  if s.now % 1000000000 ≠ 0 then s
  else s.mica.streams.foldl (fun (s : State) e =>
    if e.2.secS + e.2.secD = 0 then s
    else (s.modMst e.1 (fun x => { x with secS := 0, secD := 0 })).logE 0x0C03 293 1 [e.1, e.2.secS, e.2.secD]) s

end Sys2Proof.Machine
end

