-- ==== Sys2Proof/Machine/JasMath.lean ====
section
/-! DEFINITION. Machine/JasMath.lean: Jasper's arithmetic: the model, and FK, JAC, ID, FD and STEP of one tree, every step in binary32 (R554 to R563). -/

namespace Sys2Proof.Machine

/-- A vector of binary32 values. -/
abbrev FVec := List Lane
/-- A matrix by rows. -/
abbrev FMat := List (List Lane)

/-- A sum in ascending index order (R557). -/
def sumF : FVec → Lane
  | [] => 0
  | a :: t => t.foldl fAdd a

/-- The product of a row and a column. -/
def dotF (a b : FVec) : Lane := sumF (List.zipWith fMul a b)
/-- Matrix times vector. -/
def mulMV (m : FMat) (v : FVec) : FVec := m.map (fun r => dotF r v)
/-- The transposed matrix. -/
def trM (m : FMat) : FMat := (List.range ((m.head?).getD []).length).map (fun j => m.map (fun r => (r[j]?).getD 0))
/-- Matrix times matrix. -/
def mulMM (a b : FMat) : FMat := let t := trM b; a.map (fun r => t.map (fun c => dotF r c))
/-- The sum of vectors. -/
def addV (a b : FVec) : FVec := List.zipWith fAdd a b
/-- The difference of vectors. -/
def subV (a b : FVec) : FVec := List.zipWith fSub a b
/-- A vector times a number. -/
def scaleV (x : Lane) (a : FVec) : FVec := a.map (fun y => fMul x y)
/-- The sum of matrices. -/
def addM (a b : FMat) : FMat := List.zipWith addV a b
/-- The difference of matrices. -/
def subM (a b : FMat) : FMat := List.zipWith subV a b
/-- The negation. -/
def negF (x : Lane) : Lane := x ^^^ 0x80000000
/-- The absolute value. -/
def absF (x : Lane) : Lane := x &&& 0x7FFFFFFF
/-- A binary32 value is finite. -/
def finF (x : Lane) : Bool := decide (bitsAt x.toNat 23 8 ≠ 255)
/-- Every value is finite. -/
def finV (v : FVec) : Bool := v.all finF
/-- Every entry is finite. -/
def finM (m : FMat) : Bool := m.all finV
/-- A component of a vector. -/
def atV (v : FVec) (i : Nat) : Lane := (v[i]?).getD 0
/-- One. -/
def oneF : Lane := 0x3F800000
/-- Three zeros. -/
def zero3 : FVec := [0, 0, 0]
/-- Six zeros. -/
def zero6 : FVec := [0, 0, 0, 0, 0, 0]
/-- The 3 × 3 identity. -/
def eye3 : FMat := [[oneF, 0, 0], [0, oneF, 0], [0, 0, oneF]]
/-- The 3 × 3 zero matrix. -/
def zeroM3 : FMat := [zero3, zero3, zero3]

/-- The cross product. -/
def crossF (a b : FVec) : FVec :=
  [fSub (fMul (atV a 1) (atV b 2)) (fMul (atV a 2) (atV b 1)), fSub (fMul (atV a 2) (atV b 0)) (fMul (atV a 0) (atV b 2)),
   fSub (fMul (atV a 0) (atV b 1)) (fMul (atV a 1) (atV b 0))]

/-- The matrix of the cross product with a. -/
def skewF (a : FVec) : FMat := [[0, negF (atV a 2), atV a 1], [atV a 2, 0, negF (atV a 0)], [negF (atV a 1), atV a 0, 0]]

/-- A 6 × 6 matrix from four blocks. -/
def blocks (a b c d : FMat) : FMat := List.zipWith (fun x y => x ++ y) a b ++ List.zipWith (fun x y => x ++ y) c d

/-- The transform to a frame whose axes are the rows of e and whose origin is r: (angular; linear) (R557). -/
def xform (e : FMat) (r : FVec) : FMat := blocks e zeroM3 ((mulMM e (skewF r)).map (fun v => v.map negF)) e

/-- v × m. -/
def crossMM (v m : FVec) : FVec :=
  let w := v.take 3
  crossF w (m.take 3) ++ addV (crossF (v.drop 3) (m.take 3)) (crossF w (m.drop 3))

/-- v ×* f. -/
def crossMF (v f : FVec) : FVec :=
  let w := v.take 3
  addV (crossF w (f.take 3)) (crossF (v.drop 3) (f.drop 3)) ++ crossF w (f.drop 3)

/-- A joint record (R554). -/
structure JJoint where
  parent : Option Nat
  ty : Nat
  axis : FVec
  rot : FMat
  trans : FVec
  mass : Lane
  com : FVec
  inertia : FVec
  arm : Lane
  damp : Lane
  deriving DecidableEq, Repr

/-- A model (R554). -/
structure JModel where
  gravity : FVec
  joints : List JJoint
  deriving DecidableEq, Repr

/-- A binary32 value at a byte of a list. -/
def laneAt (l : List Byte) (o : Nat) : Lane := BitVec.ofNat 32 (leAt l o 4)
/-- n binary32 values. -/
def lanesOf (l : List Byte) (o n : Nat) : FVec := (List.range n).map (fun k => laneAt l (o + 4 * k))

/-- The joint record at a byte of the model. -/
def jointAt (l : List Byte) (o : Nat) : JJoint :=
  { parent := if leAt l o 1 = 0xFF then none else some (leAt l o 1), ty := leAt l (o + 1) 1, axis := lanesOf l (o + 4) 3,
    rot := [lanesOf l (o + 16) 3, lanesOf l (o + 28) 3, lanesOf l (o + 40) 3], trans := lanesOf l (o + 52) 3, mass := laneAt l (o + 64),
    com := lanesOf l (o + 68) 3, inertia := lanesOf l (o + 80) 6, arm := laneAt l (o + 104), damp := laneAt l (o + 108) }

/-- The model that bytes give. -/
def modelOf (l : List Byte) : JModel := ⟨lanesOf l 4 3, (List.range (leAt l 0 1)).map (fun i => jointAt l (64 + 128 * i))⟩

/-- NJ. -/
def JModel.nj (m : JModel) : Nat := m.joints.length
/-- A joint. -/
def JModel.j (m : JModel) (i : Nat) : JJoint := (m.joints[i]?).getD ⟨none, 0, zero3, eye3, zero3, 0, zero3, zero6, 0, 0⟩
/-- The degrees of freedom below a joint (R555). -/
def JModel.dofs (m : JModel) (i : Nat) : Nat := ((m.joints.take i).filter (fun j => decide (j.ty ≠ 0))).length
/-- n. -/
def JModel.n (m : JModel) : Nat := m.dofs m.nj

/-- The value of a joint's degree of freedom in a vector in DOF order; 0 for a FIXED joint. -/
def JModel.dofVal (m : JModel) (v : FVec) (i : Nat) : Lane := if (m.j i).ty = 0 then 0 else atV v (m.dofs i)

/-- S_i (R557). -/
def JJoint.s (j : JJoint) : FVec := if j.ty = 1 then j.axis ++ zero3 else if j.ty = 2 then zero3 ++ j.axis else zero6

/-- The rotation by q about a unit axis: cos q · 1 + sin q · [a]× + (1 − cos q) · a aᵀ. DEDUCED (log 46): R557 states no order of arithmetic for it. -/
def rotAxis (a : FVec) (q : Lane) : FMat :=
  let c := Config.cosine q
  let s := Config.sine q
  let k := fSub oneF c
  addM (addM (eye3.map (scaleV c)) ((skewF a).map (scaleV s))) (a.map (fun x => scaleV k (scaleV x a)))

/-- The rotation and the place of body i's frame in its parent's (R554, R555). -/
def JJoint.rel (j : JJoint) (q : Lane) : FMat × FVec :=
  if j.ty = 1 then (mulMM j.rot (rotAxis j.axis q), j.trans)
  else if j.ty = 2 then (j.rot, addV j.trans (mulMV j.rot (scaleV q j.axis)))
  else (j.rot, j.trans)

/-- X_i = XJ_i · XT_i (R557). -/
def JJoint.x (j : JJoint) (q : Lane) : FMat :=
  let xt := xform (trM j.rot) j.trans
  if j.ty = 1 then mulMM (xform (trM (rotAxis j.axis q)) zero3) xt
  else if j.ty = 2 then mulMM (xform eye3 (scaleV q j.axis)) xt
  else xt

/-- I_i (R557): about the body frame's origin, from MASS, COM and INERTIA. -/
def JJoint.i6 (j : JJoint) : FMat :=
  let c := skewF j.com
  let mc := c.map (scaleV j.mass)
  let ic : FMat := [[atV j.inertia 0, atV j.inertia 3, atV j.inertia 4], [atV j.inertia 3, atV j.inertia 1, atV j.inertia 5],
                    [atV j.inertia 4, atV j.inertia 5, atV j.inertia 2]]
  blocks (addM ic (mulMM mc (trM c))) mc (trM mc) (eye3.map (scaleV j.mass))

/-- An element of a list of vectors. -/
def vAt (l : List FVec) (i : Nat) : FVec := (l[i]?).getD zero6

/-- What the parent has, or the base's value. -/
def ofParent (j : JJoint) (l : List FVec) (base : FVec) : FVec := match j.parent with
  | some p => vAt l p
  | none => base

/-- The forward pass of ID (R558): v, a and c = v × S qd of every body. -/
def JModel.forward (m : JModel) (xs : List FMat) (qd qdd : FVec) (grav : Bool) : List FVec × List FVec × List FVec :=
  let a0 := if grav then zero3 ++ m.gravity.map negF else zero6
  (List.range m.nj).foldl (fun (r : List FVec × List FVec × List FVec) i =>
    let j := m.j i
    let x := (xs[i]?).getD []
    let sq := scaleV (m.dofVal qd i) j.s
    let v := addV (mulMV x (ofParent j r.1 zero6)) sq
    let c := crossMM v sq
    let a := addV (addV (mulMV x (ofParent j r.2.1 a0)) (scaleV (m.dofVal qdd i) j.s)) c
    (r.1 ++ [v], r.2.1 ++ [a], r.2.2 ++ [c])) ([], [], [])

/-- The joints at which a value is not finite. -/
def badAt (ls : List (List FVec)) (n : Nat) : List Nat := (List.range n).filter (fun i => ls.any (fun l => !finV (vAt l i)))

/-- ID (R558): τ by DOF, and the joints where a value was not finite. -/
def JModel.id (m : JModel) (q qd qdd : FVec) : FVec × List Nat :=
  let xs := (List.range m.nj).map (fun i => (m.j i).x (m.dofVal q i))
  let r := m.forward xs qd qdd true
  let f0 := (List.range m.nj).map (fun i =>
    let i6 := (m.j i).i6
    addV (mulMV i6 (vAt r.2.1 i)) (crossMF (vAt r.1 i) (mulMV i6 (vAt r.1 i))))
  let b := (List.range m.nj).reverse.foldl (fun (b : List FVec × List (Nat × Lane)) i =>
    let j := m.j i
    let f := vAt b.1 i
    let t := if j.ty = 0 then b.2 else (i, fAdd (fAdd (dotF j.s f) (fMul j.arm (m.dofVal qdd i))) (fMul j.damp (m.dofVal qd i))) :: b.2
    match j.parent with
    | some p => (b.1.set p (addV (vAt b.1 p) (mulMV (trM ((xs[i]?).getD [])) f)), t)
    | none => (b.1, t)) (f0, [])
  (b.2.map Prod.snd, badAt [r.1, r.2.1, b.1] m.nj ++ (b.2.filter (fun e => !finF e.2)).map Prod.fst)

/-- The backward pass of FD so far: I^A and p^A; U, D and u by joint; the joint whose pivot is not positive and finite. -/
structure AbaSt where
  ia : List FMat
  pa : List FVec
  u : SMap (FVec × Lane × Lane)
  sing : Option Nat
  bad : List Nat
  deriving DecidableEq, Repr

/-- One joint of the backward pass of FD (R559). -/
def JModel.abaBack (m : JModel) (xs : List FMat) (c : List FVec) (qd tau : FVec) (b : AbaSt) (i : Nat) : AbaSt :=
  if b.sing.isSome then b
  else
    let j := m.j i
    let ia := (b.ia[i]?).getD []
    let pa := vAt b.pa i
    let uu := mulMV ia j.s
    let d := fAdd (dotF j.s uu) j.arm
    if j.ty ≠ 0 ∧ (ltF 0 d && finF d) = false then { b with sing := some i, bad := if finV uu && finF d then b.bad else i :: b.bad }
    else
      let u := fSub (fSub (m.dofVal tau i) (fMul j.damp (m.dofVal qd i))) (dotF j.s pa)
      let iA := if j.ty = 0 then ia else subM ia (uu.map (fun x => uu.map (fun y => fDiv (fMul x y) d)))
      let p1 := addV pa (mulMV iA (vAt c i))
      let pA := if j.ty = 0 then p1 else addV p1 (uu.map (fun x => fDiv (fMul x u) d))
      let b := if j.ty = 0 then b else { b with u := SMap.put b.u i (uu, d, u) }
      let b := if finM iA && finV pA && finV uu && finF u then b else { b with bad := i :: b.bad }
      match j.parent with
      | none => b
      | some p =>
        let x := (xs[i]?).getD []
        { b with ia := b.ia.set p (addM ((b.ia[p]?).getD []) (mulMM (mulMM (trM x) iA) x)),
                 pa := b.pa.set p (addV (vAt b.pa p) (mulMV (trM x) pA)) }

/-- FD (R559): qdd by DOF, the singular joint if any, and the joints where a value was not finite. -/
def JModel.fd (m : JModel) (xs : List FMat) (qd tau : FVec) (grav : Bool) : FVec × Option Nat × List Nat :=
  let r := m.forward xs qd (List.replicate m.n 0) grav
  let b0 : AbaSt :=
    { ia := m.joints.map JJoint.i6,
      pa := (List.range m.nj).map (fun i => crossMF (vAt r.1 i) (mulMV (m.j i).i6 (vAt r.1 i))), u := [], sing := none, bad := badAt [r.1, r.2.2] m.nj }
  let b := (List.range m.nj).reverse.foldl (m.abaBack xs r.2.2 qd tau) b0
  if b.sing.isSome then ([], b.sing, b.bad)
  else
    let a0 := if grav then zero3 ++ m.gravity.map negF else zero6
    let o := (List.range m.nj).foldl (fun (o : List FVec × FVec) i =>
      let j := m.j i
      let a := addV (mulMV ((xs[i]?).getD []) (ofParent j o.1 a0)) (vAt r.2.2 i)
      match SMap.find b.u i with
      | none => (o.1 ++ [a], o.2)
      | some (uu, d, u) =>
        let z := fDiv (fSub u (dotF uu a)) d
        (o.1 ++ [addV a (scaleV z j.s)], o.2 ++ [z])) ([], [])
    (o.2, none, b.bad ++ badAt [o.1] m.nj)

/-- FK (R558): rotation and place of every body's frame in the base frame. -/
def JModel.fk (m : JModel) (q : FVec) : List (FMat × FVec) :=
  (List.range m.nj).foldl (fun (r : List (FMat × FVec)) i =>
    let e := (m.j i).rel (m.dofVal q i)
    r ++ [match (m.j i).parent with
      | none => e
      | some p =>
        let b := (r[p]?).getD (eye3, zero3)
        (mulMM b.1 e.1, addV b.2 (mulMV b.1 e.2))]) []

/-- The joints from the base to a body, itself included, in index order. -/
def JModel.path (m : JModel) : Nat → Nat → List Nat
  | 0, _ => []
  | f + 1, i => match (m.j i).parent with
    | none => [i]
    | some p => JModel.path m f p ++ [i]

/-- The motion column of a joint in the base frame, its linear rows shifted to a point (R558). -/
def JJoint.column (j : JJoint) (b : FMat × FVec) (pt : FVec) : FVec :=
  let w := mulMV b.1 (j.s.take 3)
  let v := addV (crossF b.2 w) (mulMV b.1 (j.s.drop 3))
  w ++ addV v (crossF w pt)

/-- The columns, in DOF order, of the motion of a point of a body: +0 off the path (R556). -/
def JModel.jac (m : JModel) (fk : List (FMat × FVec)) (body : Nat) (point : FVec) : List FVec :=
  let b := (fk[body]?).getD (eye3, zero3)
  let pt := addV b.2 (mulMV b.1 point)
  let path := m.path (body + 1) body
  ((List.range m.nj).filter (fun i => decide ((m.j i).ty ≠ 0))).map (fun i =>
    if path.contains i then (m.j i).column ((fk[i]?).getD (eye3, zero3)) pt else zero6)

/-- What is found wrong with a tree: flags of the status word, joints and contacts implicated, sweeps. -/
structure JWrong where
  flags : Nat
  joints : List Nat
  contacts : List Nat
  iter : Nat
  deriving DecidableEq, Repr

/-- Nothing wrong. -/
def JWrong.clean : JWrong := ⟨0, [], [], 0⟩

/-- A flag set, with the joints and contacts it implicates. -/
def JWrong.add (w : JWrong) (c : Bool) (flag : Nat) (js cs : List Nat) : JWrong :=
  if c then { w with flags := w.flags ||| flag, joints := w.joints ++ js, contacts := w.contacts ++ cs } else w

/-- The lowest number of a list. -/
def lowest (l : List Nat) : Option Nat := l.foldl (fun (m : Option Nat) x => some (match m with | some y => min x y | none => x)) none

/-- The tree status word (R562). CONTACT_IX is 0 where no flag of bits 0 to 3 and 6 is set, as the worked case and R563 have it, else the first
contact or 0xFF. DEDUCED (log 47). -/
def JWrong.word (w : JWrong) (psn : Bool) : Nat :=
  let ill := decide (w.flags &&& 0x4F ≠ 0)
  let j := match lowest w.joints with | some j => j * 2 ^ 17 + 2 ^ 23 | none => 0
  let c := match lowest w.contacts with | some c => c | none => 0xFF
  (w.flags ||| (if psn then 0x20 else 0)) + w.iter * 2 ^ 8 + (if ill then j + c * 2 ^ 24 else 0)

/-- Values of a joint's record that are not finite: with `dyn` those of its dynamics too (R562). -/
def JJoint.bad (j : JJoint) (dyn : Bool) : Bool :=
  !((decide (j.ty = 0) || finV j.axis) && finM j.rot && finV j.trans)
    || (dyn && !(finF j.mass && finV j.com && finV j.inertia && (decide (j.ty = 0) || (finF j.arm && finF j.damp))))

/-- The joints that MODEL implicates: a value used is not finite, or MASS is negative; GRAVITY implicates none. -/
def JModel.badJoints (m : JModel) (used : List Nat) (dyn : Bool) : List Nat :=
  (List.range m.nj).filter (fun i => (used.contains i && (m.j i).bad dyn) || ltF (m.j i).mass 0)

/-- The joints whose value in a vector in DOF order is not finite. -/
def JModel.badVals (m : JModel) (used : List Nat) (v : FVec) : List Nat := used.filter (fun i => decide ((m.j i).ty ≠ 0) && !finF (atV v (m.dofs i)))

/-- The canonical NaN, n times. -/
def nans (n : Nat) : FVec := List.replicate n nanF

/-- FK of one tree: output words and what is wrong; a body's 12 words are NaN if its computation met a value that is not finite (R563). -/
def JModel.runFk (m : JModel) (q : FVec) : FVec × JWrong :=
  let all := List.range m.nj
  let fk := m.fk q
  let bad := all.filter (fun i => (m.path (i + 1) i).any (fun k =>
    (m.j k).bad false || !finF (m.dofVal q k) || !(match fk[k]? with | some e => finM e.1 && finV e.2 | none => true)))
  let mb := m.badJoints all false
  let nb := m.badVals all q
  let ov := all.filter (fun i => !(match fk[i]? with | some e => finM e.1 && finV e.2 | none => true))
  let w := (JWrong.clean.add (!nb.isEmpty) 1 nb []).add (!mb.isEmpty) 4 mb []
  let w := w.add (nb.isEmpty && !(all.any (fun i => (m.j i).bad false)) && !ov.isEmpty) 0x40 ov []
  (all.flatMap (fun i => if bad.contains i then nans 12 else match fk[i]? with | some e => e.1.flatten ++ e.2 | none => nans 12), w)

/-- JAC of one tree. -/
def JModel.runJac (m : JModel) (q : FVec) (body : Nat) (point : FVec) : FVec × JWrong :=
  let path := m.path (body + 1) body
  let cols := m.jac (m.fk q) body point
  let mb := m.badJoints path false
  let nb := m.badVals path q
  let used := path.any (fun i => (m.j i).bad false)
  let ov := (path.filter (fun i => decide ((m.j i).ty ≠ 0) && !finV (vAt cols (m.dofs i))))
  let w := (JWrong.clean.add (!nb.isEmpty || !finV point) 1 nb []).add (!mb.isEmpty) 4 mb []
  let w := w.add (nb.isEmpty && finV point && !used && !ov.isEmpty) 0x40 ov []
  if !nb.isEmpty || !finV point || used || !ov.isEmpty then (nans (6 * m.n), w)
  else ((List.range 6).flatMap (fun r => cols.map (fun c => atV c r)), w)

/-- What the dynamics operations find wrong with the model and with vectors of their input. -/
def JModel.wrongDyn (m : JModel) (vs : List FVec) : JWrong :=
  let all := List.range m.nj
  let nb := vs.flatMap (fun v => m.badVals all v)
  let mb := m.badJoints all true
  (JWrong.clean.add (!nb.isEmpty) 1 nb []).add (!mb.isEmpty || !finV m.gravity) 4 mb []

/-- OVERFLOW (R562): a value that is not finite arose from finite inputs. -/
def JWrong.overflow (w : JWrong) (js cs : List Nat) (other : Bool) : JWrong :=
  w.add (decide (w.flags &&& 5 = 0) && (!js.isEmpty || !cs.isEmpty || other)) 0x40 js cs

/-- The output words: all NaN where a flag of bits 0 to 3 or 6 is set (R563). -/
def JWrong.finish (w : JWrong) (l : FVec) (n : Nat) : FVec × JWrong := (if w.flags &&& 0x4F ≠ 0 then nans n else l, w)

/-- ID of one tree. -/
def JModel.runId (m : JModel) (q qd qdd : FVec) : FVec × JWrong :=
  let r := m.id q qd qdd
  ((m.wrongDyn [q, qd, qdd]).overflow r.2 [] false).finish r.1 m.n

/-- FD of one tree. -/
def JModel.runFd (m : JModel) (q qd tau : FVec) : FVec × JWrong :=
  let xs := (List.range m.nj).map (fun i => (m.j i).x (m.dofVal q i))
  let r := m.fd xs qd tau true
  (((m.wrongDyn [q, qd, tau]).add r.2.1.isSome 2 r.2.1.toList []).overflow r.2.2 [] false).finish r.1 m.n

/-- A contact record (R556). -/
structure JContact where
  body : Nat
  point : FVec
  normal : FVec
  mu : Lane
  depth : Lane
  lam0 : FVec
  deriving DecidableEq, Repr

/-- The contact record at a byte of a list. -/
def contactAt (l : List Byte) (o : Nat) : JContact := ⟨leAt l o 4, lanesOf l (o + 4) 3, lanesOf l (o + 16) 3, laneAt l (o + 28), laneAt l (o + 32), lanesOf l (o + 36) 3⟩

/-- The parameters of STEP (R565). -/
structure JParam where
  warm : Bool
  iter : Nat
  tol : Lane
  dt : Lane
  erp : Lane
  deriving DecidableEq, Repr

/-- The rows n, t1 and t2 of a contact (R560). -/
def JContact.rows (c : JContact) : List FVec :=
  let n := c.normal
  let a := absF (atV n 0)
  let b := absF (atV n 1)
  let z := absF (atV n 2)
  let e : FVec := if !ltF b a && !ltF z a then [oneF, 0, 0] else if !ltF z b then [0, oneF, 0] else [0, 0, oneF]
  let x := crossF n e
  let len := (sqrtF (dotF x x)).1
  let t1 := x.map (fun y => fDiv y len)
  [n, t1, crossF n t1]

/-- CONTACT (R562) from the record alone. -/
def JContact.bad (c : JContact) (nj : Nat) : Bool :=
  decide (nj ≤ c.body) || ltF c.mu 0 || !finF c.mu || !finV c.normal || c.normal.all (fun x => decide (x.toNat % 2 ^ 31 = 0))

/-- An input value of a contact that is used is not finite. -/
def JContact.nonfin (c : JContact) (warm : Bool) : Bool :=
  !(finV c.point && finV c.normal && finF c.mu && finF c.depth && (!warm || finV c.lam0))

/-- A row of the sweep: its contact, its place among n, t1, t2, its Jacobian row, M⁻¹ Jᵀ, b, and whether it is active. -/
structure JRow where
  k : Nat
  t : Nat
  j : FVec
  mj : FVec
  b : Lane
  act : Bool
  deriving DecidableEq, Repr

/-- Project a row's value (R560). -/
def project (t : Nat) (mu ln x : Lane) : Lane :=
  if t = 0 then maxF x 0 else let h := fMul mu ln; minF (maxF x (negF h)) h

/-- One sweep over the rows: λ and the largest change (R560). -/
def sweep (rows : List JRow) (w : List FVec) (mu : Nat → Lane) (lam : FVec) : FVec × Lane :=
  (List.range rows.length).foldl (fun (r : FVec × Lane) i => match rows[i]? with
    | none => r
    | some q =>
      if q.act = false then r
      else
        let wi := (w[i]?).getD []
        let act := (List.range rows.length).filter (fun m => match rows[m]? with | some y => y.act | none => false)
        let sum := sumF (act.map (fun m => fMul (atV wi m) (atV r.1 m)))
        let x := fSub (atV r.1 i) (fDiv (fAdd q.b sum) (atV wi i))
        let x := project q.t (mu q.k) (atV r.1 (3 * q.k)) x
        (r.1.set i x, maxF r.2 (absF (fSub x (atV r.1 i))))) (lam, 0)

/-- Sweeps until the largest change is at most TOL or ITER_MAX have run: λ, the sweeps run, whether it converged (R561). -/
def sweeps (rows : List JRow) (w : List FVec) (mu : Nat → Lane) (tol : Lane) (mx : Nat) : Nat → FVec → FVec × Nat × Bool
  | 0, lam => (lam, mx, false)
  | f + 1, lam =>
    let r := sweep rows w mu lam
    if !ltF tol r.2 && finF r.2 then (r.1, mx - f, true) else sweeps rows w mu tol mx f r.1

/-- The rows of the contacts (R560): J by the motion of POINT, M⁻¹Jᵀ by a unit solve with qd = 0 and gravity off. -/
def JModel.rows (m : JModel) (q vfree : FVec) (p : JParam) (cs : List JContact) : List JRow × Bool :=
  let xs := (List.range m.nj).map (fun i => (m.j i).x (m.dofVal q i))
  let fk := m.fk q
  let z := List.replicate m.n 0
  let l := (cs.zipIdx).flatMap (fun e =>
    let cols := m.jac fk e.1.body e.1.point
    (e.1.rows.zipIdx).map (fun r =>
      let j := cols.map (fun c => dotF r.1 (c.drop 3))
      let act := j.any (fun x => decide (x.toNat % 2 ^ 31 ≠ 0))
      let s := if act then m.fd xs z j false else (z, none, [])
      let jb := dotF j vfree
      let b := if r.2 = 0 then fSub jb (fDiv (fMul p.erp (maxF e.1.depth 0)) p.dt) else jb
      ((⟨e.2, r.2, j, s.1, b, act⟩ : JRow), s.2.1.isNone && s.2.2.isEmpty && finV j && finF b)))
  (l.map Prod.fst, l.all Prod.snd)

/-- STEP of one tree (R560): C contacts have room in the output record, `nc` is the record's NC. -/
def JModel.runStep (m : JModel) (q qd tau : FVec) (p : JParam) (c nc : Nat) (cs : List JContact) : FVec × JWrong :=
  let size := 2 * m.n + 3 * c
  let w := m.wrongDyn [q, qd, tau]
  let w := w.add (decide (c < nc)) 8 [] []
  let cs := if c < nc then [] else cs.take nc
  let nf := (cs.zipIdx.filter (fun e => e.1.nonfin p.warm)).map Prod.snd
  let cb := cs.zipIdx.filter (fun e => e.1.bad m.nj)
  let w := w.add (!nf.isEmpty) 1 [] nf
  let w := w.add (!cb.isEmpty) 8 ((cb.map (fun e => e.1.body)).filter (fun b => decide (b < m.nj))) (cb.map Prod.snd)
  let xs := (List.range m.nj).map (fun i => (m.j i).x (m.dofVal q i))
  let r := m.fd xs qd tau true
  let w := (w.add r.2.1.isSome 2 r.2.1.toList []).overflow r.2.2 [] false
  if w.flags ≠ 0 then w.finish [] size
  else
    let vf := addV qd (scaleV p.dt r.1)
    let rr := m.rows q vf p cs
    let rows := rr.1
    let wm := rows.map (fun a => rows.map (fun b => if a.act && b.act then dotF a.j b.mj else 0))
    let bad := (rows.zipIdx.filter (fun e => e.1.act && !(ltF 0 (atV ((wm[e.2]?).getD []) e.2) && finF (atV ((wm[e.2]?).getD []) e.2)))).map (fun e => e.1.k)
    let w := (w.add (!bad.isEmpty) 8 [] bad).overflow [] [] (!(finV vf && rr.2 && finM wm))
    if w.flags ≠ 0 then w.finish [] size
    else
      let mu (k : Nat) : Lane := match cs[k]? with | some x => x.mu | none => 0
      let lam0 := rows.foldl (fun (l : FVec) a =>
        let x : Lane := if p.warm then atV ((cs[a.k]?.map JContact.lam0).getD zero3) a.t else 0
        l ++ [if a.act then project a.t (mu a.k) (atV l (3 * a.k)) x else 0]) []
      let z := if cs.isEmpty then ([], 0, true) else sweeps rows wm mu p.tol p.iter p.iter lam0
      let qdn := (List.range m.n).map (fun d => fAdd (atV vf d)
        (sumF ((rows.zipIdx.filter (fun e => e.1.act)).map (fun e => fMul (atV e.1.mj d) (atV z.1 e.2)))))
      let qn := addV q (scaleV p.dt qdn)
      let lb := (z.1.zipIdx.filter (fun e => !finF e.1)).map (fun e => e.2 / 3)
      let jb := ((List.range m.nj).filter (fun i => decide ((m.j i).ty ≠ 0) && !(finF (atV qdn (m.dofs i)) && finF (atV qn (m.dofs i)))))
      let w := ({ w with iter := z.2.1 }.add (!z.2.2) 0x10 [] []).overflow jb lb false
      w.finish (qn ++ qdn ++ z.1 ++ List.replicate (3 * (c - cs.length)) 0) size

/-- One tree (R556, R562): the operation of a batch descriptor on a model and an input record: output words and what is wrong. -/
def runTree (d model inp : List Byte) : FVec × JWrong :=
  let m := modelOf model
  let n := m.n
  let op := leAt d 0 1
  let q := lanesOf inp 0 n
  let qd := lanesOf inp (4 * n) n
  let t := lanesOf inp (8 * n) n
  if op = 0 then m.runFk q
  else if op = 1 then m.runJac q (leAt d 74 1) (lanesOf d 76 3)
  else if op = 2 then m.runId q qd t
  else if op = 3 then m.runFd q qd t
  else
    let pr := bitAt (leAt d 1 1) 1
    let p : JParam :=
      { warm := bitAt (leAt d 1 1) 0, iter := if pr then leAt d 56 4 else 32, tol := if pr then laneAt d 60 else 0x358637BD, dt := laneAt d 64,
        erp := if pr then laneAt d 68 else 0x3E4CCCCD }
    let c := leAt d 72 2
    let nc := leAt inp (12 * n) 4
    m.runStep q qd t p c nc ((List.range (min c nc)).map (fun k => contactAt inp (12 * n + 16 + 48 * k)))

end Sys2Proof.Machine
end

