-- ==== Sys2Proof/Machine/Jasper.lean ====
section
/-! DEFINITION. Machine/Jasper.lean: Jasper's batches: acceptance, blocks, completion, and what resets, holds and answers do to them (R552, R564 to
R575). -/

namespace Sys2Proof.Machine

/-- Jasper changed. -/
def State.modJ (s : State) (f : JasperSt → JasperSt) : State := { s with jasper := f s.jasper }

/-- Fields of a batch descriptor (R564). -/
def bOp (d : List Byte) : Nat := leAt d 0 1
/-- COUNT. -/
def bCount (d : List Byte) : Nat := leAt d 4 4
/-- PARAM. -/
def bParam (d : List Byte) : Bool := bitAt (leAt d 1 1) 1
/-- NCMAX. -/
def bNc (d : List Byte) : Nat := leAt d 72 2
/-- The address of tree t's input record. -/
def bIn (d : List Byte) (t : Nat) : Nat := leAt d 16 8 + t * leAt d 24 4
/-- The address of tree t's output record. -/
def bOut (d : List Byte) (t : Nat) : Nat := leAt d 32 8 + t * leAt d 28 4
/-- The address of tree t's status word. -/
def bStat (d : List Byte) (t : Nat) : Nat := leAt d 40 8 + 4 * t

/-- The least bytes of an input record (R556). -/
def minIn (op n c : Nat) : Nat := if op ≤ 1 then 4 * n else if op ≤ 3 then 12 * n else 12 * n + 16 + 48 * c
/-- The least bytes of an output record (R556). -/
def minOut (op nj n c : Nat) : Nat := if op = 0 then 48 * nj else if op = 1 then 24 * n else if op ≤ 3 then 4 * n else 8 * n + 12 * c

/-- A binary32 value that is finite and at least 0. -/
def nonnegF (x : Lane) : Bool := finF x && !ltF x 0

/-- A reserved field of the descriptor is nonzero (check 2 of R566). -/
def batchRes (d : List Byte) : Bool :=
  decide (3 < leAt d 1 1) || decide (leAt d 2 2 ≠ 0) || decide (leAt d 75 1 ≠ 0) || decide (leAt d 88 40 ≠ 0)

/-- A field breaks the descriptor table (check 2 of R566). -/
def batchBad (d : List Byte) : Bool :=
  let op := bOp d
  let p := bParam d
  let step := decide (op = 4)
  let jac := decide (op = 1)
  decide (4 < op) || decide (4096 < bCount d) || decide (leAt d 8 8 % 64 ≠ 0) || decide (leAt d 16 8 % 16 ≠ 0) || decide (leAt d 32 8 % 16 ≠ 0)
    || decide (leAt d 24 4 % 16 ≠ 0) || decide (leAt d 28 4 % 16 ≠ 0) || decide (leAt d 40 8 % 4 ≠ 0) || !nameOk (leAt d 48 8)
    || (bitAt (leAt d 1 1) 0 && !step)
    || (if p then decide (leAt d 56 4 < 1 ∨ 256 < leAt d 56 4) || !nonnegF (laneAt d 60) || !nonnegF (laneAt d 68) || ltF oneF (laneAt d 68)
        else decide (leAt d 56 8 ≠ 0) || decide (leAt d 68 4 ≠ 0))
    || (if step then !finF (laneAt d 64) || !ltF 0 (laneAt d 64) || decide (32 < bNc d) else decide (leAt d 64 4 ≠ 0) || decide (bNc d ≠ 0))
    || (!jac && (decide (leAt d 74 1 ≠ 0) || decide (leAt d 76 12 ≠ 0)))

/-- Two ranges of fabric addresses meet. -/
def State.meets (s : State) (a n b m : Nat) : Bool :=
  let a := s.rgnBase a
  let b := s.rgnBase b
  decide (n ≠ 0 ∧ m ≠ 0 ∧ a < b + m ∧ b < a + n)

/-- A range of COUNT records: from the first byte to the last that the batch touches. -/
def recBytes (count stride len : Nat) : Nat := if count = 0 ∨ len = 0 then 0 else (count - 1) * stride + len

/-- The strides and ranges of a batch fail (check 2 of R566), with the model's NJ and n. -/
def State.batchRanges (s : State) (d : List Byte) (nj n : Nat) : Bool :=
  let op := bOp d
  let mi := minIn op n (bNc d)
  let mo := minOut op nj n (bNc d)
  let li := recBytes (bCount d) (leAt d 24 4) mi
  let lo := recBytes (bCount d) (leAt d 28 4) mo
  let ls := 4 * bCount d
  decide (leAt d 24 4 < mi) || decide (leAt d 28 4 < mo) || s.meets (leAt d 16 8) li (leAt d 32 8) lo || s.meets (leAt d 16 8) li (leAt d 40 8) ls
    || s.meets (leAt d 32 8) lo (leAt d 40 8) ls

/-- A model's bytes break R554 (check 5 of R566). -/
def modelBad (l : List Byte) : Bool :=
  let nj := leAt l 0 1
  decide (nj < 1 ∨ 64 < nj) || decide (leAt l 1 3 ≠ 0) || decide (leAt l 16 48 ≠ 0) || (List.range nj).any (fun i =>
    let o := 64 + 128 * i
    let p := leAt l o 1
    (decide (i ≤ p) && decide (p ≠ 0xFF)) || decide (2 < leAt l (o + 1) 1) || decide (leAt l (o + 2) 2 ≠ 0) || decide (leAt l (o + 112) 16 ≠ 0))

/-- Read n bytes of the model: from this device's memory, or as the other device answers them with the command (log 42). -/
def State.modelRead (s : State) (p : Nat) (addr n : Nat) (f : FarRead) : State × Nat × List MByte :=
  if s.idCode (addr / 2 ^ 48) ≠ 0 then (s, s.idCode (addr / 2 ^ 48), [])
  else if s.isFar addr then (s, f.code, f.data.take n)
  else s.readSpan (reqPart p) false addr n

/-- The model read once at acceptance: its code (check 5 of R566), its bytes. -/
def State.modelGet (s : State) (p : Nat) (d : List Byte) (f : FarRead) : State × Nat × List Byte :=
  let h := s.modelRead p (leAt d 8 8) 64 f
  if h.2.1 ≠ 0 then (h.1, h.2.1, [])
  else if anyPsn h.2.2 then (h.1, Code.poison 1, [])
  else
    let nj := leAt (plain h.2.2) 0 1
    if nj < 1 ∨ 64 < nj then (h.1, Code.format 0x19, [])
    else
      let r := h.1.modelRead p (leAt d 8 8) (64 + 128 * nj) f
      if r.2.1 ≠ 0 then (r.1, r.2.1, [])
      else if anyPsn r.2.2 then (r.1, Code.poison 1, [])
      else (r.1, if modelBad (plain r.2.2) then Code.format 0x19 else 0, plain r.2.2)

/-- The batches accepted and not completed. -/
def JasperSt.places (j : JasperSt) : Nat := j.waiting.length + j.run.toList.length

/-- The checks of R566 on a batch whose COUNT is not 0, from the strides on, given what reading the model brought. -/
def State.batchCode (s : State) (p : Nat) (d : List Byte) (mc : Nat) (l : List Byte) : Nat :=
  let m := modelOf l
  let far (a : Nat) : Bool := s.isFar a
  let op := bOp d
  let cnt := bCount d
  let ri := recBytes cnt (leAt d 24 4) (minIn op m.n (bNc d))
  let ro := recBytes cnt (leAt d 28 4) (minOut op m.nj m.n (bNc d))
  if mc = 0 ∧ s.batchRanges d m.nj m.n = true then Code.format 0x18
  else if bParam d = true ∧ s.partExpert p = false then Code.perm 2
  else if mc ≠ 0 then mc
  else if op = 1 ∧ m.nj ≤ leAt d 74 1 then Code.format 0x18
  else if (far (leAt d 16 8) = false ∧ s.fabCode (reqPart p) false (leAt d 16 8) ri ≠ 0)
    ∨ (far (leAt d 32 8) = false ∧ s.fabCode (reqPart p) true (leAt d 32 8) ro ≠ 0)
    ∨ (far (leAt d 40 8) = false ∧ s.fabCode (reqPart p) true (leAt d 40 8) (4 * cnt) ≠ 0) ∨ s.nameOutside p (leAt d 48 8) = true then Code.perm 3
  else if 5 ≤ s.jasper.places then Code.busy 0x60
  else 0

/-- A count of JSP_PART raised, for a requester that is a partition. -/
def State.jspBump (s : State) (f : Fld) (n p : Nat) : State := if p < 16 then s.bump f n p else s

/-- RUN and UNT.JCMD after their carrier's checks (R566). -/
def State.jasperSubmit (s : State) (t : Tell) (p : Nat) (d : List Byte) (f : FarRead) : State :=
  if batchRes d then s.tell t (Code.format 2) 0
  else if batchBad d then s.tell t (Code.format 0x18) 0
  else if bCount d = 0 then
    (if bParam d = true ∧ s.partExpert p = false then s.tell t (Code.perm 2) 0
     else (s.tell t 0 0).unitSignal (.jasper s.jasper.nextJob 0 0 2) p (leAt d 48 8))
  else
    let r := s.modelGet p d f
    let s := r.1
    let c := s.batchCode p d r.2.1 r.2.2
    if c ≠ 0 then ((if c = Code.busy 0x60 then s.jspBump F.JSP_PART_REFUSED 1 p else s)).tell t c 0
    else
      (s.jspBump F.JSP_PART_ACCEPTED 1 p).modJ (fun j =>
        { j with waiting := j.waiting ++ [⟨j.nextJob, p, d, r.2.2, t⟩], nextJob := j.nextJob + 1 })

/-- A Jasper command: absent or failed unit first (R552, R631). -/
def State.jasperCmd (s : State) (t : Tell) (p : Nat) (d : List Byte) (f : FarRead) : State :=
  if s.jasperPres = false then s.tell t Code.unitAbsent 0
  else if s.islFailed 294 then s.tell t (Code.busy 0x49) 0
  else s.jasperSubmit t p d f

/-- RUN (R564). -/
def execJasperRun (id : Nat) (d : List Byte) (model : FarRead) (s : State) : Host.Outcome State Fault Refusal :=
  .next (s.hostCmd id 0x60 (fun s c => s.jasperCmd (.host id) c.part d model))

/-- UNT.JCMD (R168, R564): on a variant without the unit UNIT_ABSENT, whatever the form and the other fields; then the precise checks; everything else goes to the status word. -/
def execUntJcmd (x : Iss) (ra rb : Fin 64) (imm : BitVec 24) (model : FarRead) (s : State) : Host.Outcome State Fault Refusal :=
  let i := imm.toNat
  let here := s.jasperPres
  let x := { x with res := here && (x.res || decide (i % 64 ≠ 0 ∨ 2 ^ 13 ≤ i)) }
  .next (s.issueAfter x (if here && !x.long then Code.format 1 else 0) (fun s =>
    let k := s.cl x.c
    let off := (k.gr ra).toNat
    let st := (k.gr rb).toNat
    let e := s.unitDescCode x.c off st
    if here = false then s.fault x Code.unitAbsent
    else if e.1 ≠ 0 then s.fault x e.1 e.2
    else
      let t := Tell.clu x.c st (bitsAt i 6 6) (bitAt i 12)
      (s.pass x).jasperCmd t ((s.cluPart x.c).getD 16) (s.memL (sramAt x.c off) 128) model))

/-- The running batch changed. -/
def State.modRun (s : State) (f : JRun → JRun) : State := s.modJ (fun j => { j with run := j.run.map f })

/-- The blocks of a batch: 32 consecutive trees each. -/
def JBatch.blocks (b : JBatch) : Nat := (bCount b.d + 31) / 32

/-- The trees of a block. -/
def JBatch.trees (b : JBatch) (k : Nat) : List Nat := (List.range 32).filterMap (fun t => if 32 * k + t < bCount b.d then some (32 * k + t) else none)

/-- The first code stands. -/
def JRun.note (r : JRun) (code : Nat) : JRun := { r with code := if r.code = 0 then code else r.code }

/-- A block of the running batch changed. -/
def State.modBlock (s : State) (k : Nat) (f : JBlock → JBlock) : State :=
  s.modRun (fun r => match SMap.find r.blocks k with | some b => { r with blocks := SMap.put r.blocks k (f b) } | none => r)

/-- Start a block: its input records on another device are read; those of this device are read when it computes (R570). -/
def State.startBlock (s : State) (r : JRun) (k : Nat) : State :=
  let s := s.modRun (fun r => { r with blocks := SMap.put r.blocks k ⟨0, [], false⟩, next := k + 1 })
  let m := modelOf r.b.model
  if s.isFar (leAt r.b.d 16 8) = false then s
  else (r.b.trees k).foldl (fun (s : State) t =>
    let q := s.unitRead (fun o _ => .jasper r.b.job k (4096 * (t - 32 * k) + o) 0) r.b.part (bIn r.b.d t) (minIn (bOp r.b.d) m.n (bNc r.b.d))
    (q.1.modRun (fun r => r.note q.2.1)).modBlock k (fun b => { b with out := b.out + q.2.2.2 })) s

/-- Further blocks start while the eight pipelines, each with a block and its next one, have room, and no code ends the batch (R570, R575). -/
def State.fillBlocks : Nat → State → State
  | 0, s => s
  | f + 1, s => match s.jasper.run with
    | none => s
    | some r => if r.code = 0 ∧ r.next < r.b.blocks ∧ r.blocks.length < 16 then State.fillBlocks f (s.startBlock r r.next) else s

/-- JASPER_BATCH_START (R567, R573, R574): the first waiting batch whose partition Flint does not hold. -/
def execJasperBatchStart (s : State) : Host.Outcome State Fault Refusal :=
  if s.jasper.run.isSome ∨ s.islResetting 294 = true then .next s
  else match s.jasper.waiting.find? (fun b => !s.flag F.FLT_ALONE_QUIESCED b.part) with
    | none => .next s
    | some b =>
      .next (State.fillBlocks 16 (s.modJ (fun j => { j with run := some ⟨b, [], 0, [], 0⟩, waiting := j.waiting.filter (fun w => decide (w.job ≠ b.job)) })))

/-- A block ends: `ok` that all its outputs and status words are written; further blocks start. -/
def State.blockEnd (s : State) (k : Nat) (ok : Bool) : State :=
  match s.jasper.run with
  | none => s
  | some r =>
    let s := s.modRun (fun r => { r with blocks := SMap.del r.blocks k, fin := SMap.put r.fin k ok })
    State.fillBlocks 16 (if ok then s.jspBump F.JSP_PART_TREES (r.b.trees k).length r.b.part else s)

/-- The input record of a tree: the code, the bytes. -/
def State.treeIn (s : State) (r : JRun) (b : JBlock) (t n : Nat) : Nat × List MByte :=
  if n = 0 then (0, [])
  else if s.idCode (bIn r.b.d t / 2 ^ 48) ≠ 0 then (s.idCode (bIn r.b.d t / 2 ^ 48), [])
  else if s.isFar (bIn r.b.d t) then (0, (b.inp.filter (fun e => decide (e.1 / 4096 = t % 32))).flatMap Prod.snd)
  else
    let q := s.readSpan (reqPart r.b.part) false (bIn r.b.d t) n
    (q.2.1, q.2.2)

/-- Write n bytes of a tree's results. -/
def State.treeWrite (s : State) (r : JRun) (k off addr : Nat) (l : List MByte) : State :=
  let q := s.unitWrite (fun o _ => .jasper r.b.job k (off + o) 1) r.b.part addr l
  (q.1.modRun (fun r => r.note q.2.1)).modBlock k (fun b => { b with out := b.out + q.2.2.2 })

/-- One tree of a block: computed, its outputs and its status word written (R562, R563, R568). -/
def State.doTree (s : State) (r : JRun) (k t : Nat) (inp : List MByte) : State :=
  let x := runTree r.b.d r.b.model (plain inp)
  let psn := anyPsn inp
  let out := x.1.flatMap (fun v => (leM 4 v.toNat).map (fun b => (b.1, psn)))
  let s := if x.2.flags &&& 0x4F ≠ 0 then s.jspBump F.JSP_PART_ILL_TREES 1 r.b.part else s
  (s.treeWrite r k (8192 * (t - 32 * k)) (bOut r.b.d t) out).treeWrite r k (8192 * (t - 32 * k) + 4096) (bStat r.b.d t) (leM 4 (x.2.word psn))

/-- JASPER_BLOCK_DONE (R568, R570, R575): a block whose input has come is computed and its results go out. -/
def execJasperBlockDone (b : Fin 128) (s : State) : Host.Outcome State Fault Refusal :=
  let k := (b : Nat)
  match s.jasper.run with
  | none => .next s
  | some r => match SMap.find r.blocks k with
    | none => .next s
    | some bl =>
      if bl.out ≠ 0 ∨ bl.wrote = true then .next s
      else
        let m := modelOf r.b.model
        let ins := (r.b.trees k).map (fun t => (t, s.treeIn r bl t (minIn (bOp r.b.d) m.n (bNc r.b.d))))
        match ins.find? (fun e => decide (e.2.1 ≠ 0)) with
        | some e => .next ((s.modRun (fun r => r.note e.2.1)).blockEnd k false)
        | none =>
          let s := s.modBlock k (fun b => { b with wrote := true })
          let s := ins.foldl (fun (s : State) e => s.doTree r k e.1 e.2.2) s
          match s.jasper.run with
          | none => .next s
          | some r => match SMap.find r.blocks k with
            | none => .next s
            | some bl => .next (if bl.out = 0 then s.blockEnd k (decide (r.code = 0)) else s)

/-- Leading trees completed (R568): of the leading blocks that are written whole. -/
def JRun.leading (r : JRun) : Nat :=
  min (bCount r.b.d) (32 * ((List.range r.b.blocks).takeWhile (fun k => SMap.get r.fin false k)).length)

/-- The running batch ends with a code (R568): the completion, then SIGNAME, then SEM with the completion. -/
def State.batchEnd (s : State) (r : JRun) (code : Nat) : State :=
  let s := (s.modJ (fun j => { j with run := none })).jspBump F.JSP_PART_DONE 1 r.b.part
  (s.tell r.b.tell code r.leading).unitSignal (.jasper r.b.job 0 0 2) r.b.part (leAt r.b.d 48 8)

/-- JASPER_BATCH_DONE (R568, R575): every block that started has ended, and none is left or a code ends the batch. -/
def execJasperBatchDone (s : State) : Host.Outcome State Fault Refusal :=
  match s.jasper.run with
  | none => .next s
  | some r => .next (if r.blocks.isEmpty && (decide (r.b.blocks ≤ r.next) || decide (r.code ≠ 0)) then s.batchEnd r r.code else s)

/-- A packet of a batch is answered (R575): `k` 0 for an input read with its bytes, 1 for a write, 2 for a signal. -/
def State.jasperAnswered (s : State) (job blk off k code : Nat) (l : List MByte) : State :=
  match s.jasper.run with
  | none => s
  | some r => match SMap.find r.blocks blk with
    | none => s
    | some b =>
      if r.b.job ≠ job ∨ k = 2 ∨ b.out = 0 then s
      else
        let b := { b with out := b.out - 1, inp := if k = 0 then SMap.put b.inp off l else b.inp }
        let s := s.modRun (fun r => { (if code = 0 then r else r.note code) with blocks := SMap.put r.blocks blk b })
        if b.out ≠ 0 then s
        else if b.wrote then s.blockEnd blk (decide (code = 0) && decide (r.code = 0))
        else if code ≠ 0 ∨ r.code ≠ 0 then s.blockEnd blk false
        else s

/-- A partition's reset ends its running batch and discards its waiting ones without completion (R572). -/
def State.jasperPartReset (s : State) (p : Nat) : State :=
  s.modJ (fun j => { j with run := j.run.filter (fun r => decide (r.b.part ≠ p)), waiting := j.waiting.filter (fun b => decide (b.part ≠ p)) })

/-- FLT_QUIESCE_T stops a partition: its running batch ends with TIMEOUT 0x05 (R573). -/
def State.jasperStop (s : State) (p : Nat) : State := match s.jasper.run with
  | some r => if r.b.part = p then s.batchEnd r (Code.timeout 5) else s
  | none => s

/-- An island reset of island 294 (R574). -/
def State.jasperIslandReset (s : State) : State := match s.jasper.run with
  | some r => (s.batchEnd r (Code.busy 0x61)).logE 0x0D01 294 2 [r.b.part]
  | none => s

/-- A module reset discards every batch (R574). -/
def State.jasperClear (s : State) : State := s.modJ (fun j => { j with run := none, waiting := [] })

/-- A running batch of a partition (R573). -/
def State.jasperRuns (s : State) (p : Nat) : Bool := s.jasper.run.any (fun r => decide (r.b.part = p))

/-- One nanosecond of waiting (QWAIT_NS). -/
def State.jasperTick (s : State) : State := s.jasper.waiting.foldl (fun (s : State) b => s.jspBump F.JSP_PART_QWAIT_NS 1 b.part) s

end Sys2Proof.Machine
end

