-- ==== Sys2Proof/Machine/Port.lean ====
section
/-! DEFINITION. Machine/Port.lean: the byte books and flow control of a port's queues, packets that a lost port gives back, and the port that
goes down or restarts (R138, R344, R358 to R361, R374 to R376). -/

namespace Sys2Proof.Machine

/-- A port. -/
def State.pt (s : State) (n : Nat) : PortSt := SMap.get s.ports PortSt.init n

/-- A port changed. -/
def State.modPt (s : State) (n : Nat) (f : PortSt → PortSt) : State := { s with ports := SMap.set s.ports PortSt.init n (f (s.pt n)) }

/-- Quartz changed. -/
def State.modQ (s : State) (f : QuartzSt → QuartzSt) : State := { s with quartz := f s.quartz }

/-- Active lanes of a direction (R307). -/
def laneCount (n : Nat) : Nat := if n = 16 then 8 else 4

/-- Physical lanes of a direction; the last one is the spare (R307). -/
def physCount (n : Nat) : Nat := laneCount n + 1

/-- The replay store in blocks: 128 a stripe (R316). -/
def replayCap (n : Nat) : Nat := if n = 16 then 256 else 128

/-- The queues of a port: VC6 exists on Agate only (R358). -/
def portQueues (n : Nat) : List Nat := if n = 16 then List.range 9 else [0, 1, 2, 3, 4, 5, 6, 8]

/-- The cap of a queue in bytes (R358). -/
def queueCap (q : Nat) : Nat := 1024 * (if 3 ≤ q ∧ q ≤ 6 then 768 else if q = 7 then 2048 else 256)

/-- G of R359: 102.02 or 204.04 bytes a nanosecond over the round trip, 3,000 ns before it is measured. -/
def State.fcGuard (s : State) (n : Nat) : Nat :=
  let r := if s.rd F.QTZ_PORT_STAT_RTT_NS n = 0 then 3000 else s.rd F.QTZ_PORT_STAT_RTT_NS n
  (r * (if n = 16 then 20404 else 10202) + 99) / 100 + 2 * 2624 + 4160

/-- The bytes of a queue that lie in its private area. -/
def PortSt.privOf (p : PortSt) (q : Nat) : Nat := SMap.get p.priv 0 q

/-- The free bytes of the shared area (R358). -/
def State.sharedFree (s : State) (n : Nat) : Nat :=
  let qs := portQueues n
  let used := qs.foldl (fun u q => u + (s.rd F.QTZ_Q_OCC n q - (s.pt n).privOf q)) 0
  (if n = 16 then 4 * 2 ^ 20 else 2 * 2 ^ 20) - 16384 * qs.length - used

/-- The on/off state of every queue of a port (R359). -/
def State.fcUpdate (s : State) (n : Nat) : State :=
  let sf := s.sharedFree n
  let g := s.fcGuard n
  (portQueues n).foldl (fun s q =>
    let a := 16384 - (s.pt n).privOf q + (sf - g)
    let o := s.rd F.QTZ_Q_OCC n q
    if a < 4160 ∨ queueCap q < o + 4160 then s.wb F.QTZ_Q_OFF_TX true n q
    else if 20544 ≤ a ∧ o + 20544 ≤ queueCap q then s.wb F.QTZ_Q_OFF_TX false n q
    else s) s

/-- The queue of a packet. -/
def pktQueue (p : Pkt) : Nat := queueOf p.vc p.cls

/-- A packet's tail is accepted at a port: ACC and OCC (R361), in the private area if it fits there whole (R359). -/
def State.accept (s : State) (n : Nat) (p : Pkt) : State × TxEnt :=
  let q := pktQueue p
  let pr := decide ((s.pt n).privOf q + p.size ≤ 16384)
  let s := (s.wr F.QTZ_Q_ACC (s.rd F.QTZ_Q_ACC n q + p.size) n q).wr F.QTZ_Q_OCC (s.rd F.QTZ_Q_OCC n q + p.size) n q
  let s := if pr then s.modPt n (fun t => { t with priv := SMap.set t.priv 0 q (t.privOf q + p.size) }) else s
  (s.fcUpdate n, { pkt := p, src := n, at_ := s.now, inq := q, priv := pr })

/-- A packet leaves the queue that counts it: OCC to FWD (R361). An entry whose queue a reset has emptied (inq from 9 on) only enters FWD. -/
def State.leave (s : State) (e : TxEnt) : State :=
  if 17 ≤ e.src then s
  else
    let q := e.inq % 9
    let s := s.wr F.QTZ_Q_FWD (s.rd F.QTZ_Q_FWD e.src q + e.pkt.size) e.src q
    if 9 ≤ e.inq then s
    else
      let s := s.wr F.QTZ_Q_OCC (s.rd F.QTZ_Q_OCC e.src q - e.pkt.size) e.src q
      let s := if e.priv then s.modPt e.src (fun t => { t with priv := SMap.set t.priv 0 q (t.privOf q - e.pkt.size) }) else s
      s.fcUpdate e.src

/-- The context of a request that this device issued. -/
def State.ownCtx (s : State) (p : Pkt) : Option (Nat × Ctx) :=
  match SMap.find s.quartz.ctx p.ctx with
  | some c => if c.gen = p.gen ∧ p.src = s.rd F.QTZ_ID_DEVID ∧ c.pkt.opc = p.opc then some (p.ctx, c) else none
  | none => none

/-- A packet that can take no port (R375, R376): an own request waits to resend, another device's is answered with BUSY 0x10, a response or a
management packet is discarded and counted. -/
def State.unroutable (s : State) (e : TxEnt) : State :=
  let s := s.leave e
  let o := e.pkt.opc
  if o = 3 ∨ ((o = 1 ∨ o = 2 ∨ o = 4 ∨ o = 5) ∧ s.ownCtx e.pkt = none) then s.answer e.pkt e.src (Code.busy 0x10) 0
  else match s.ownCtx e.pkt with
    | some (i, c) => s.modQ (fun q => { q with ctx := SMap.put q.ctx i { c with retry := some s.now } })
    | none => s.bump F.QTZ_DROP_NO_ROUTE

/-- Route a packet that is to leave the device, with what happens when no port takes it. -/
def State.send (s : State) (e : TxEnt) : State :=
  match s.routeOut e with
  | .done t => t
  | .noRoute t => t.unroutable e

/-- A packet that a lost port gives back (R374): looked up again, but for what cannot travel elsewhere; an AMO or SIG that was sent is never
offered again. -/
def State.offerAgain (s : State) (sent : Bool) (e : TxEnt) : State :=
  let o := e.pkt.opc
  if opcLocal o || opcFlood o || (decide (0x18 ≤ o) && decide (o ≤ 0x1A)) then s.leave e
  else if sent && (o = 4 || o = 5) then s.leave e
  else if opcPath o then (s.leave e).bump F.QTZ_DROP_RT_ERR
  else if opcTwin o then s.unroutable e
  else s.send e

/-- Every packet queued for a port and every unacknowledged one is offered to the remaining ports (R138, R374). -/
def State.reoffer (s : State) (n : Nat) : State :=
  let sent := SMap.get s.quartz.unacked [] n
  let waiting := s.txOf n
  let s := s.modQ (fun q => { q with txq := SMap.del q.txq n, unacked := SMap.del q.unacked n })
  let s := s.modPt n (fun p => { p with sending := [], store := [], resend := [] })
  let s := sent.foldl (fun s e => s.offerAgain true e) s
  waiting.foldl (fun s e => s.offerAgain false e) s

/-- Mark a port down for route selection, or unmark it; the event's reason has no stated coding: a free value (R374, R377, log 28). -/
def State.markDown (s : State) (n : Nat) (b : Bool) : State :=
  if s.bit F.QTZ_NBR_DOWN n = b then s
  else
    let d := [n, Config.freeNat s.free]
    (((s.wb F.QTZ_NBR_DOWN b n).logE 0x0804 (portIsland n) 2 d).trap 0x0804 (portIsland n) d).drawn

/-- The registers that a link reset gives their reset values, and the neighbour entry (the L column of R307's and R362's tables). -/
def linkResetFields : List Fld := (allPortFields).filter (fun f => bitAt f.kinds 3)
where
  /-- The fields of the port windows. -/
  allPortFields : List Fld := (F.listB ++ F.listC ++ F.listA).filter (fun f => decide (f.ix = .port))

/-- The lane state and link state of a port as a link reset leaves them; packets received before keep only their FWD to come. -/
def State.clearLink (s : State) (n : Nat) : State :=
  let s := linkResetFields.foldl (fun s f => (List.range f.n2).foldl (fun s j => s.wr f (f.dflt n j) n j) s) s
  let old (l : List TxEnt) : List TxEnt := l.map (fun e => if e.src = n ∧ e.inq < 9 then { e with inq := e.inq + 9 } else e)
  let s := s.modQ (fun q => { q with txq := q.txq.map (fun e => (e.1, old e.2)), unacked := q.unacked.map (fun e => (e.1, old e.2)),
                                     stuck := old q.stuck })
  s.modPt n (fun p => { PortSt.init with fails := p.fails, stored := p.stored, ctlUnknown := p.ctlUnknown })

/-- Bring-up restarts from DETECT, seeded or as a full adaptation (R320, R322, R344). -/
def State.startBringup (s : State) (n : Nat) (seeded : Bool) : State :=
  let s := (s.clearLink n).modPt n (fun p => { p with seeded := seeded })
  ((s.wr F.QTZ_PORT_STAT_STATE (if s.pwr.refclk then 1 else 0) n).wr F.QTZ_PORT_STAT_SPARE_RX 15 n).wr F.QTZ_PORT_STAT_SPARE_TX 15 n

/-- A port goes down (R344, R374): marked down, its records and packets cleared away, an automatic link reset. How the event codes the cause is not
stated: a free value. -/
def State.portDown (s : State) (n : Nat) : State :=
  if s.portUp n = false ∧ (s.pt n).restExit = false then s
  else
    let s := ((s.markDown n true).logE 0x0707 (portIsland n) 3 [n, Config.freeNat s.free]).drawn
    let s := (s.bump F.QTZ_PORT_RPL_LINK_RST 1 n).clxEdgeDown n
    let s := s.wr F.QTZ_PORT_STAT_STATE 0 n
    let s := s.modPt n (fun p => { p with restExit := false })
    ((s.reoffer n).startBringup n true).clxGo

/-- A control symbol to be sent. -/
def PortSt.say (p : PortSt) (kind arg : Nat) : PortSt := if p.ctl.contains (kind, arg) then p else { p with ctl := p.ctl ++ [(kind, arg)] }

/-- A control symbol that need not be sent any more. -/
def PortSt.unsay (p : PortSt) (kind : Nat) : PortSt := { p with ctl := p.ctl.filter (fun c => c.1 ≠ kind) }

end Sys2Proof.Machine
end

