-- ==== Sys2Proof/Machine/FabTime.lean ====
section
/-! DEFINITION. Machine/FabTime.lean: fabric time: PPS and ELECT modes, corrections, lock and holdover (R126 to R131, R156), and the passing of one
nanosecond. -/

namespace Sys2Proof.Machine

/-- Fabric time changed. -/
def State.modT (s : State) (f : TimeSt → TimeSt) : State := { s with time := f s.time }

/-- Whether the device uses PPS mode (R127): MODE 1, or AUTO once three consecutive valid edges have been seen. -/
def State.ppsMode (s : State) : Bool :=
  decide (s.rd F.FT_CFG_MODE = 1) || (decide (s.rd F.FT_CFG_MODE = 0) && decide (3 ≤ s.time.ppsRun))

/-- The DATA of a lock event: mode and source ID (R158). -/
def State.ftData (s : State) : List Nat := [(!s.ppsMode).toNat, s.rd F.FT_STAT_GM_ID]

/-- LOCK clears, and the loss is logged (R126, R131). -/
def State.ftUnlock (s : State) : State :=
  if s.bit F.FT_STAT_LOCK then (s.wb F.FT_STAT_LOCK false).logE 0x0511 0xF040 2 s.ftData else s

/-- LOCK is set; HOLDOVER clears; the first lock sets FT_OK (R118, R129 to R131). -/
def State.ftLock (s : State) : State :=
  let was := s.bit F.FT_STAT_LOCK
  let s := ((s.wb F.FT_STAT_LOCK true).wb F.FT_STAT_HOLDOVER false).modT (fun t => { t with locked1 := true, holdSince := none })
  let s := if was then s else s.logE 0x0510 0xF040 1 s.ftData
  (s.wb F.DEV_START_FT_OK true).startUp

/-- Correct the counter by an offset, counter minus reference (R126): a step before the first lock; then above 1 µs LOCK clears, and a counter that
is ahead runs at half rate while one that is behind steps forward; a smaller offset is slewed. -/
def State.ftCorrect (s : State) (off : Int) : State :=
  let stepped (t : TimeSt) : TimeSt := { t with ft := (((t.ft : Int) - off) % (2 ^ 64 : Int)).toNat, slew := 0, lead := 0 }
  if s.time.locked1 = false then s.modT stepped
  else if 1000 < off then s.ftUnlock.modT (fun t => { t with lead := off.toNat, slew := 0 })
  else if off < -1000 then s.ftUnlock.modT stepped
  else s.modT (fun t => { t with slew := -off, lead := 0 })

/-- OFFSET, the trim of the counter's rate and the correction (R129). By how much the rate is trimmed is not stated: a free value (log 32). -/
def State.ftMeasure (s : State) (off : Int) : State :=
  let o := if off < -32768 then -32768 else if 32767 < off then 32767 else off
  (((s.wr F.FT_STAT_OFFSET (ofSigned 16 o)).modT (fun t => { t with trim := Config.freeInt s.free })).drawn).ftCorrect off

/-- An offset within ±10 ns (R129, R130). -/
def nearOff (off : Int) : Bool := decide (-10 ≤ off) && decide (off ≤ 10)

/-- The source is lost: HOLDOVER, from now on (R131). -/
def State.ftLose (s : State) : State :=
  if s.bit F.FT_STAT_HOLDOVER then s else (s.wb F.FT_STAT_HOLDOVER true).modT (fun t => { t with holdSince := some s.now })

/-- The comparison of offers (R130): lowest source rank, then fewest hops, then lowest source ID. -/
def offerLt (a b : Nat × Nat × Nat) : Bool :=
  decide (a.1 < b.1) || (decide (a.1 = b.1) && (decide (a.2.1 < b.2.1) || (decide (a.2.1 = b.2.1) && decide (a.2.2 < b.2.2))))

/-- The offers to choose from (R130): those of neighbours not older than 10 ms, one hop further, and the device's own when it is eligible (port 31).
An offer of this device's own time is none. -/
def State.ftOffers (s : State) : List (Nat × (Nat × Nat × Nat)) :=
  let own := s.rd F.QTZ_ID_DEVID
  (if s.bit F.FT_CFG_GM_ELIG && s.bit F.QTZ_ID_ID_OK then [(31, (1, 0, own))] else [])
    ++ (s.time.offers.filterMap (fun e =>
      if s.now ≤ e.2.2.2.2 + 10000000 ∧ e.2.1 ≤ 1 ∧ e.2.2.2.1 ≠ own then some (e.1, (e.2.1, e.2.2.1 + 1, e.2.2.2.1)) else none))

/-- The best offer. Of the devices that offer themselves as elected only the lowest ID counts (R130). -/
def bestOffer (l : List (Nat × (Nat × Nat × Nat))) : Option (Nat × (Nat × Nat × Nat)) :=
  let low := l.foldl (fun m o => if o.2.1 = 1 then min m o.2.2.2 else m) 0x10000
  (l.filter (fun o => decide (o.2.1 = 0) || decide (o.2.2.2 = low))).foldl (fun b o => match b with
    | none => some o
    | some c => if offerLt o.2 c.2 then some o else some c) none

/-- Choose the source in ELECT mode (R130): FT_STAT shows it; a change of the followed port restarts the count of exchanges. -/
def State.ftElect (s : State) : State :=
  if s.ppsMode then s
  else
    let s := s.wr F.FT_STAT_SRC 1
    match bestOffer s.ftOffers with
    | none => s.wb F.FT_STAT_IS_GM false
    | some (n, (_, hops, id)) =>
      let s := ((s.wb F.FT_STAT_IS_GM (decide (n = 31))).wr F.FT_STAT_GM_ID id).wr F.FT_STAT_HOPS (satAt 8 hops)
      if s.time.follow = some n then s else s.modT (fun t => { t with follow := some n, lockRun := 0 })

/-- The time that a PPS edge stands for: the previous edge's plus 1,000,000,000 for each second passed (R129). -/
def State.ppsNext (s : State) : Nat :=
  match s.time.ppsLast with
  | some t => s.time.ppsFt + (s.now - t + 500000000) / 1000000000 * 1000000000
  | none => s.time.ppsFt

/-- An edge that is valid, in PPS mode (R129): load FT_NEXT, or compare and correct; LOCK within ±10 ns. -/
def State.ppsUse (s : State) : State :=
  let s := (s.wr F.FT_STAT_SRC 0).wb F.FT_STAT_IS_GM false
  if s.bit F.FT_CFG_NEXT_ARM then
    let x := s.rd F.FT_NEXT_TIME
    let s := (s.wb F.FT_CFG_NEXT_ARM false).ftCorrect ((s.time.ft : Int) - x)
    s.modT (fun t => { t with loaded := true, ppsFt := x })
  else if s.time.loaded then
    let off : Int := (s.time.ft : Int) - s.ppsNext
    let s := (s.modT (fun t => { t with ppsFt := s.ppsNext })).ftMeasure off
    if nearOff off then (((s.wr F.FT_STAT_GM_ID (s.rd F.QTZ_ID_DEVID)).wr F.FT_STAT_HOPS 0)).ftLock else s
  else s

/-- PPS_EDGE (R127 to R129): ignored before DIE_INIT and in module reset (R145); the first edge and the first after 3 s are references only; an edge 1 s ±
100 µs after the previous valid one is valid; any other is counted and ignored. -/
def execPpsEdge (s : State) : Host.Outcome State Fault Refusal :=
  if s.time.run = false ∨ s.start.rstOn = true then .next s
  else
    let refEdge := s.modT (fun t => { t with ppsLast := some s.now, ppsRun := 0, ppsFt := s.ppsNext })
    match s.time.ppsLast with
    | none => .next refEdge
    | some t =>
      if t + 3000000000 ≤ s.now then .next refEdge
      else if s.now < t + 999900000 ∨ t + 1000100000 < s.now then .next (s.bump F.FT_STAT_PPS_BAD)
      else
        let s := s.modT (fun x => { x with ppsRun := x.ppsRun + 1 })
        let s := if s.ppsMode then s.ppsUse else s
        .next (s.modT (fun x => { x with ppsLast := some s.now }))

/-- PPS_SOURCE_LOST (R131): 3 s without a valid edge: in PPS mode HOLDOVER and the event; AUTO goes on in ELECT mode. -/
def execPpsSourceLost (s : State) : Host.Outcome State Fault Refusal :=
  match s.time.ppsLast with
  | none => .next s
  | some t =>
    if s.now < t + 3000000000 then .next s
    else
      let s' := if s.ppsMode then s.ftLose.logE 0x0512 0xF040 2 [] else s
      .next (s'.modT (fun x => { x with ppsRun := 0 })).ftElect

/-- The payload of a sync message: R348 leaves its layout to a section that the spec does not hold: free bytes (log 31). -/
def State.syncPkt (s : State) (opc : Nat) : Pkt :=
  s.mkPkt opc 0 0 0xFFFF 0 0 0 ((List.range 64).map (fun k => Config.freeByte (64 * s.free + k)))

/-- FT_SYNC_SEND (R130): a sync request on each up port, in ELECT mode. An elected device counts the period as an exchange with its own source
(DEDUCED, log 33). -/
def execFtSyncSend (s : State) : Host.Outcome State Fault Refusal :=
  if s.ppsMode ∨ s.time.run = false ∨ s.start.rstOn = true then .next s
  else
    let s := s.ftElect
    let s := (List.range 17).foldl (fun (s : State) n =>
      if s.portUp n then
        ((s.enqueue n { pkt := s.syncPkt 6, src := 31, at_ := s.now }).modT (fun t => { t with sent := SMap.put t.sent n s.time.ft })).drawn
      else s) s
    if s.bit F.FT_STAT_IS_GM then
      let s := s.modT (fun t => { t with lockRun := t.lockRun + 1 })
      if 16 ≤ s.time.lockRun then .next s.ftLock else .next s
    else .next s

/-- A packet's tail at a port: nothing while the port is not UP, discarded for its header, else accepted and handed on (R349, R361). -/
def State.intake (s : State) (n : Nat) (p : Pkt) (f : State → TxEnt → State) : State :=
  if s.portUp n = false then s
  else if p.badHdr (decide (n = 16)) then s.bump F.QTZ_DROP_BAD_HDR
  else f (s.accept n p).1 (s.accept n p).2

/-- Record a neighbour's offer (R130). -/
def State.ftOffer (s : State) (n rank hops id : Nat) : State :=
  s.modT (fun t => { t with offers := SMap.put t.offers n (rank, hops, id, s.now) })

/-- SYNC_REQ (R130, R348): the offer is recorded and SYNC_RSP goes back on the port. -/
def execSyncReq (n : Port) (p : Pkt) (rank hops src : BitVec 16) (s : State) : Host.Outcome State Fault Refusal :=
  if p.opc ≠ 6 then .next s
  else .next (s.intake n p (fun s e =>
    let s := ((s.leave e).ftOffer n rank.toNat hops.toNat src.toNat).ftElect
    (s.enqueue n { pkt := s.syncPkt 7, src := 31, at_ := s.now }).drawn))

/-- SYNC_RSP (R130): the offer is recorded; from the followed neighbour half of (T1 − T2) + (T4 − T3) is the offset; 16 exchanges in a row within ±10 ns
set LOCK. The formula is the usual one of a two-way exchange (PRESUMED, log 34). -/
def execSyncRsp (n : Port) (p : Pkt) (rank hops src : BitVec 16) (t2 t3 : BitVec 64) (s : State) : Host.Outcome State Fault Refusal :=
  if p.opc ≠ 7 then .next s
  else .next (s.intake n p (fun s e =>
    let s := ((s.leave e).ftOffer n rank.toNat hops.toNat src.toNat).ftElect
    match SMap.find s.time.sent n with
    | none => s
    | some t1 =>
      let s := s.modT (fun t => { t with sent := SMap.del t.sent n })
      if s.ppsMode || decide (s.time.follow ≠ some (n : Nat)) then s
      else
        let off : Int := (((t1 : Int) - t2.toNat) + ((s.time.ft : Int) - t3.toNat)) / 2
        let s := s.ftMeasure off
        let s := s.modT (fun t => { t with lockRun := if nearOff off then t.lockRun + 1 else 0 })
        if 16 ≤ s.time.lockRun then s.ftLock else s))

/-- ELECT_SOURCE_LOST (R131): 10 ms without a sync message from the followed neighbour: HOLDOVER, and the election starts again. -/
def execElectSourceLost (s : State) : Host.Outcome State Fault Refusal :=
  if s.ppsMode then .next s
  else match s.time.follow with
    | none => .next s
    | some n =>
      let old := match SMap.find s.time.offers n with | some o => decide (o.2.2.2 + 10000000 ≤ s.now) | none => decide (n ≠ 31)
      if old then .next (s.ftLose.modT (fun t => { t with follow := none, lockRun := 0, offers := SMap.del t.offers n })).ftElect else .next s

/-- HOLDOVER_EXPIRY (R131): LOCK clears after 1 s of holdover. -/
def execHoldoverExpiry (s : State) : Host.Outcome State Fault Refusal :=
  match s.time.holdSince with
  | some t => if s.bit F.FT_STAT_HOLDOVER && decide (t + 1000000000 ≤ s.now) then .next s.ftUnlock else .next s
  | none => .next s

/-- A write of FT_CFG (R127): by the host physical function only; MODE 3 is discarded. -/
def State.ftCfgWrite (s : State) (src : Src) (size v : Nat) : State :=
  if src ≠ .pf then s.bump F.FLT_WR_REJ_COUNT
  else
    let m := s.rd F.FT_CFG_MODE
    let s := (writeFields s src size F.FT_CFG_MODE.addr v).1
    (if s.rd F.FT_CFG_MODE = 3 then s.wr F.FT_CFG_MODE m else s).ftElect

/-- FT_CFG_WRITE (R127). -/
def execFtCfgWrite (src : Src) (v : BitVec 64) (s : State) : Host.Outcome State Fault Refusal := .next (s.ftCfgWrite src.host 8 v.toNat)

/-- FT_NEXT_ARM (R129). -/
def execFtNextArm (src : Src) (s : State) : Host.Outcome State Fault Refusal :=
  if src.host ≠ .pf then .next (s.bump F.FLT_WR_REJ_COUNT) else .next (s.wb F.FT_CFG_NEXT_ARM true)

/-- How far the fabric-time counter moves in one nanosecond (R126): at half rate while it is ahead, one more or less as the trim accumulates, and one
nanosecond of slewing in 10 µs; never back. -/
def TimeSt.tick (t : TimeSt) : TimeSt :=
  if t.run = false then t
  else
    let k := t.tickNo + 1
    let f := t.frac + t.trim
    let c : Int := if 1000000000 ≤ f then 1 else if f ≤ -1000000000 then -1 else 0
    let half := decide (0 < t.lead) && decide (k % 2 = 0)
    let sl : Int := if k % 10000 ≠ 0 then 0 else if 0 < t.slew then 1 else if t.slew < 0 then -1 else 0
    let d : Int := (if half then 0 else 1) + c + sl
    { t with ft := (t.ft + d.toNat) % 2 ^ 64, tickNo := k, frac := f - c * 1000000000, slew := t.slew - sl, lead := if half then t.lead - 1 else t.lead }

end Sys2Proof.Machine
end

