-- ==== Sys2Proof/Machine/Stepper.lean ====
section
/-! DEFINITION. Machine/Stepper.lean: the stepper channels (R602 to R629). -/

namespace Sys2Proof.Machine

/-- A stepper channel. -/
def State.smCh (s : State) (k : Nat) : SmCh := SMap.get s.sm SmCh.init k

/-- A stepper channel replaced. -/
def State.setSm (s : State) (k : Nat) (c : SmCh) : State := { s with sm := SMap.put s.sm k c }

/-- The number of a channel state (SM_STAT.STATE). -/
def SmState.num : SmState → Nat
  | .disabled => 0 | .idle => 1 | .moving => 2 | .dwell => 3 | .stopping => 4 | .stopped => 5 | .homing => 6 | .fault => 7

/-- A fault is latched. -/
def SmCh.faulted (c : SmCh) : Bool := c.fShort || c.fStall || c.fSupply

/-- The loop channel that owns a stepper channel: its OUT is 7 + k and its mode is not OFF (R616). -/
def State.smOwned (s : State) (k : Nat) : Bool :=
  (List.range 16).any (fun c => s.rd F.LP_CTL_OUT c = 7 + k && s.rd F.LP_CTL_MODE c ≠ 0)

/-- The target of the running motion: the loop target, the queue's head, or POS (SM_POS.TGT). -/
def SmCh.target (c : SmCh) : Int :=
  match c.loopTgt, c.q with
  | some t, _ => t
  | none, m :: _ => m.tgt
  | none, [] => c.pos

/-- Where the queue ends: the end of the last accepted move still queued or running, or else POS (R604). -/
def SmCh.queueEnd (c : SmCh) : Int :=
  match c.q.getLast? with
  | some m => m.tgt
  | none => c.pos

/-- A port does not bar a latch release: absent, or quiesced (R619). -/
def State.portQuiet (s : State) (n : Nat) : Bool := !s.portPres n || s.rd F.QTZ_PORT_STAT_QSTATE n = 2

/-- The ports of a latch channel that are not quiesced, as a mask (R619). -/
def State.latchBlock (s : State) (k : Nat) : Nat :=
  (List.range 16).foldl (fun m n => if s.flag F.SM_CTL_LATCH_MASK n k && !s.portQuiet n then m + 2 ^ n else m) 0

/-- A move from one position to another loosens the cartridge of a latch channel whose ports are not all quiesced (R605 check 5, R619). -/
def State.releaseBarred (s : State) (k : Nat) (src dst : Int) : Bool :=
  decide (s.rd F.SM_CTL_LATCH_MASK k ≠ 0) && (if s.bit F.SM_CTL_RELEASE_DIR k then decide (dst < src) else decide (src < dst))
    && decide (s.latchBlock k ≠ 0)

/-- A refused command: LAST_CODE and REJ (R605). -/
def State.smRefuse (s : State) (k code : Nat) : State := (s.wr F.SM_STAT_LAST_CODE code k).wb F.SM_STAT_REJ true k

/-- The whole steps an accumulator has passed, toward positive or negative positions. -/
def wholeSteps (neg : Bool) (p : Int) : Int := if neg then -((-p) / 4294967296) else p / 4294967296

/-- A channel brought to rest at POS. -/
def SmCh.rest (c : SmCh) : SmCh := { c with v := 0, acc := 0, p := c.pos * 4294967296 }

/-- The parameters a motion latches at its start: the move's overrides or the channel's values (R607, R621). -/
def State.smLatch (s : State) (k : Nat) (c : SmCh) (a d j : Nat) : SmCh :=
  { c with la := if a = 0 then s.rd F.SM_ACC_AMAX k else a, ld := if d = 0 then s.rd F.SM_ACC_DMAX k else d,
           lj := if j = 0 then s.rd F.SM_JERK_JMAX k else j, lvmin := s.rd F.SM_VEL_VMIN k, ljerk := s.bit F.SM_CTL_PROFILE k,
           dirInv := s.bit F.SM_CTL_DIR_INV k }

/-- Discard the queue of a latch channel that may not release, with BUSY 0x7D (R619). -/
def State.smDiscard (s : State) (k : Nat) : State :=
  let c := s.smCh k
  let s := s.setSm k { c.rest with st := .idle, q := [], started := false, dwellLeft := 0, holding := false }
  (s.wr F.SM_STAT_LAST_CODE (Code.busy 0x7D) k).logE 0x0F06 (0xF050 + k) 2 [k, s.latchBlock k]

/-- Start the queue's head, and end at once every zero-distance move without dwell (R606, R619). -/
def State.smStart (k : Nat) : Nat → State → State
  | 0, s => s
  | n + 1, s =>
    let c := s.smCh k
    match c.q with
    | [] => s.setSm k { c with st := .idle, started := false, v := 0, acc := 0, holding := false }
    | m :: t =>
      if s.releaseBarred k c.pos m.tgt then s.smDiscard k
      else if m.tgt = c.pos then
        if m.dwell = 0 then
          let s := s.setSm k { c with q := t, started := false, v := 0, acc := 0 }
          State.smStart k n ((s.bump F.SM_CNT_MOVES_DONE 1 k).wr F.SM_STAT_DONE_TAG m.tag k)
        else s.setSm k { c with st := .dwell, started := true, dwellLeft := m.dwell, v := 0, acc := 0, holding := false }
      else s.setSm k { s.smLatch k c m.a m.d m.j with st := .moving, started := true, neg := decide (m.tgt < c.pos), holding := false }

/-- End the running move: MOVES_DONE and DONE_TAG, then start the next (R606). A blended joint keeps the velocity. -/
def State.smEnd (s : State) (k : Nat) : State :=
  let c := s.smCh k
  match c.q with
  | [] => s.setSm k { c with st := .idle, started := false }
  | m :: t =>
    let s := s.setSm k { c with q := t, started := false }
    State.smStart k (t.length + 1) ((s.bump F.SM_CNT_MOVES_DONE 1 k).wr F.SM_STAT_DONE_TAG m.tag k)

/-- The junction velocity of the running move, in microsteps/s: nonzero only when it blends with the next (R609). -/
def State.smJunction (s : State) (k : Nat) (c : SmCh) : Nat :=
  match c.loopTgt, c.q with
  | none, m :: n :: _ =>
    let same := if c.neg then decide (n.tgt < m.tgt) else decide (m.tgt < n.tgt)
    let vm (x : SmMove) : Nat := if x.vmax = 0 then s.rd F.SM_VEL_VMAX k else x.vmax
    if m.dwell = 0 ∧ m.noblend = false ∧ same = true ∧ m.tgt ≠ c.pos then min (min (vm m) (vm n)) c.vder else 0
  | _, _ => 0

/-- The velocity limit of the running motion, in microsteps/s (R607). -/
def State.smLimit (s : State) (k : Nat) (c : SmCh) : Nat :=
  let vm := match c.loopTgt, c.q with
    | none, m :: _ => if m.vmax = 0 then s.rd F.SM_VEL_VMAX k else m.vmax
    | _, _ => s.rd F.SM_VEL_VMAX k
  min vm c.vder

/-- The change of velocity of a constant acceleration over one update, in 2⁻¹⁶ microstep/s, truncated (R607). -/
def dvUpd (a : Nat) : Nat := a * 65536 / 100000

/-- d ≤ dstop(v, vj) of R607, decided exactly: d in 2⁻³² microstep, v and vj in 2⁻¹⁶ microstep/s. DEDUCED (log 14). -/
def withinStop (c : SmCh) (d v vj : Nat) : Bool :=
  let dv := v - vj
  if c.ld * c.ld * 65536 ≤ dv * c.lj then
    decide (2 * d * c.ld * c.lj ≤ (v + vj) * (dv * c.lj + c.ld * c.ld * 65536))
  else decide (d * d * c.lj * 65536 ≤ (v + vj) * (v + vj) * dv * 4294967296)

/-- One update of velocity and acceleration toward a target at distance d (R607). `stopGoal` makes the generator decelerate to 0 (R610). -/
def smVelocity (c : SmCh) (d vlim vj : Nat) (stopGoal : Bool) : SmCh :=
  let floorV := if stopGoal then 0 else max vj (c.lvmin * 65536)
  if !c.ljerk then
    if stopGoal || decide (2 * c.ld * d ≤ c.v * c.v - vj * vj ∧ vj ≤ c.v) then { c with v := max (c.v - dvUpd c.ld) floorV }
    else { c with v := min (c.v + dvUpd c.la) vlim }
  else
    let goal : Int := if stopGoal || withinStop c d c.v vj then -(c.ld * 100000 : Int) else if c.v < vlim then (c.la * 100000 : Int) else 0
    let step : Int := c.lj
    let a : Int := if goal < c.acc then max goal (c.acc - step) else min goal (c.acc + step)
    let v : Int := c.v + (a * 65536).tdiv 10000000000
    let lo : Int := if goal < 0 then floorV else 0
    { c with acc := a, v := (min (max v lo) vlim).toNat }

/-- Advance the position accumulator by one update and issue the whole microsteps passed, toward the target and never beyond it (R607). -/
def State.smAdvance (s : State) (k : Nat) (c : SmCh) (t : Int) : State :=
  let dp : Int := (c.v * 65536 / 100000 : Nat)
  let p := if c.neg then max (c.p - dp) (t * 4294967296) else min (c.p + dp) (t * 4294967296)
  let pos := wholeSteps c.neg p
  let n := (pos - c.pos).natAbs
  (s.setSm k { c with p := p, pos := pos, homeSteps := c.homeSteps + n }).bump F.SM_STEPS_STEPS n k

/-- Homing has found its reference (R612, R613). -/
def State.smHomed (s : State) (k : Nat) : State :=
  let c := s.smCh k
  let hp := s.rdS F.SM_HOME_HOME_POS k
  let c := { c with pos := hp, p := hp * 4294967296, v := 0, acc := 0, uncertain := false, homed := true, homeAin := none,
                    st := if c.q = [] then .idle else .stopped, holding := false }
  (s.setSm k c).logE 0x0F05 (0xF050 + k) 1 [k, 0]

/-- Homing has failed: TIMEOUT 0x06 and MOTOR (R612). -/
def State.smHomeFail (s : State) (k : Nat) : State :=
  let c := s.smCh k
  let s := s.setSm k { c.rest with st := if c.q = [] then .idle else .stopped, homeAin := none }
  ((s.wr F.SM_STAT_LAST_CODE (Code.timeout 6) k).alert .motor).logE 0x0F05 (0xF050 + k) 3 [k, Code.timeout 6]

/-- One update while homing (R612). -/
def State.smHoming (s : State) (k : Nat) : State :=
  let c := s.smCh k
  let src := s.rd F.SM_CTL_HOME_SRC k
  let ain := s.rd F.FLT_AIN_CODE (src - 1)
  let th := s.rd F.SM_CUR_HOME_TH k
  let crossed := decide (src ≠ 0) && (match c.homeAin with | some a => decide ((a < th) ≠ (ain < th)) | none => false)
  let c := { c with homeAin := if src = 0 then none else some ain }
  if crossed then (s.setSm k c).smHomed k
  else
    let far : Int := if c.neg then c.pos - 4294967296 else c.pos + 4294967296
    let c := smVelocity c (4294967296 * 4294967296) (s.rd F.SM_VEL_HOME_V k * 65536) 0 false
    let s := s.smAdvance k c far
    if s.rd F.SM_HOME_HOME_MAX k < (s.smCh k).homeSteps then s.smHomeFail k else s

/-- The motion of a loop-owned channel toward its latest target: a target behind decelerates it to 0 and then reverses it; a target equal to
POS makes it IDLE once stopped (R616). -/
def State.smFollow (s : State) (k : Nat) (t : Int) : State :=
  let c := s.smCh k
  let behind := if c.neg then decide (c.pos < t) else decide (t < c.pos)
  if c.v = 0 ∧ t = c.pos then s.setSm k { c.rest with st := .idle, loopTgt := none, holding := false }
  else if c.v = 0 ∧ behind = true then s.setSm k { s.smLatch k c 0 0 0 with neg := !c.neg, acc := 0, p := c.pos * 4294967296 }
  else if behind = true ∨ t = c.pos then
    let c := smVelocity c 0 (s.smLimit k c * 65536) 0 true
    s.smAdvance k c (if c.neg then c.pos - 4294967296 else c.pos + 4294967296)
  else
    let d := (t * 4294967296 - c.p).natAbs
    let c := smVelocity c d (s.smLimit k c * 65536) 0 false
    let s := s.smAdvance k c t
    let c := s.smCh k
    if c.pos = t then s.setSm k { c.rest with st := .idle, loopTgt := none, holding := false } else s

/-- One update of a queued move (R607, R609). -/
def State.smMoving (s : State) (k : Nat) (m : SmMove) : State :=
  let c := s.smCh k
  let vj := s.smJunction k c * 65536
  let d := (m.tgt * 4294967296 - c.p).natAbs
  let c := smVelocity c d (s.smLimit k c * 65536) vj false
  let s := s.smAdvance k c m.tgt
  let c := s.smCh k
  if c.pos ≠ m.tgt then s
  else if m.dwell ≠ 0 then s.setSm k { c.rest with st := .dwell, dwellLeft := if c.dwellLeft ≠ 0 then c.dwellLeft else m.dwell }
  else if vj = 0 then (s.setSm k c.rest).smEnd k
  else s.smEnd k

/-- PROFILE_UPDATE: one 10 µs update of a channel (R606, R607, R609, R610, R612, R616). -/
def smUpdate (s : State) (k : Nat) : State :=
  let c := s.smCh k
  match c.st with
  | .moving =>
    match c.loopTgt, c.q with
    | some t, _ => s.smFollow k t
    | none, m :: _ => s.smMoving k m
    | none, [] => s
  | .dwell =>
    if c.dwellLeft ≤ 10 then (s.setSm k { c with dwellLeft := 0 }).smEnd k else s.setSm k { c with dwellLeft := c.dwellLeft - 10 }
  | .stopping =>
    let c := smVelocity c 0 (s.smLimit k c * 65536) 0 true
    let s := s.smAdvance k c c.target
    let c := s.smCh k
    if c.v = 0 ∨ c.pos = c.target then s.setSm k { c.rest with st := .stopped } else s
  | .homing => s.smHoming k
  | .disabled | .idle | .stopped | .fault => s

def execProfileUpdate (k : Fin 4) (s : State) : Host.Outcome State Fault Refusal := .next (smUpdate s k)

/-- The override ranges of R608; 0 means the channel's value. -/
def overrideOk (a d j : Nat) : Bool :=
  (a = 0 || (1000 ≤ a && a ≤ 16000000)) && (d = 0 || (1000 ≤ d && d ≤ 16000000)) && (j = 0 || (10000 ≤ j && j ≤ 4000000000))

/-- The first check of R605 that the staged move fails, as its code; 0 when it passes. -/
def State.smCheck (s : State) (k : Nat) (tgt : Int) : Nat :=
  let c := s.smCh k
  let a := s.rd F.MV_ACC_A k
  let d := s.rd F.MV_ACC_D k
  let j := s.rd F.MV_JERK_J k
  if 200000 < s.rd F.MV_PAR_VMAX k ∨ 10000000 < s.rd F.MV_PAR_DWELL k ∨ tgt < -2147483648 ∨ 2147483647 < tgt ∨ overrideOk a d j = false
  then Code.format 0x1B
  else if (a ≠ 0 ∨ d ≠ 0 ∨ j ≠ 0) ∧ s.bit F.FLT_EXPERT_EN_EN = false then Code.perm 2
  else if s.smOwned k then Code.busy 0x7A
  else if c.st = .disabled ∨ c.faulted = true ∨ c.uncertain = true then Code.busy 0x79
  else if s.releaseBarred k c.queueEnd tgt then Code.busy 0x7D
  else if 8 ≤ c.q.length then Code.busy 0x78
  else 0

/-- SM_GO: push the staged move (R604, R605, R606, R622). -/
def execSmGo (k : Fin 4) (s : State) : Host.Outcome State Fault Refusal :=
  let k : Nat := k
  let c := s.smCh k
  let t := s.rdS F.MV_TGT_TGT k
  let tgt := if s.bit F.MV_TGT_REL k then c.queueEnd + t else t
  let code := s.smCheck k tgt
  if code ≠ 0 then
    let r := s.smRefuse k code
    .next (if code = Code.busy 0x7D then r.logE 0x0F06 (0xF050 + k) 2 [k, s.latchBlock k] else r)
  else
    let m : SmMove := { tgt := tgt, vmax := s.rd F.MV_PAR_VMAX k, dwell := s.rd F.MV_PAR_DWELL k, noblend := s.bit F.MV_TGT_NOBLEND k,
                        tag := s.rd F.MV_TGT_TAG k, a := s.rd F.MV_ACC_A k, d := s.rd F.MV_ACC_D k, j := s.rd F.MV_JERK_J k }
    let s := s.setSm k { c with q := c.q ++ [m] }
    .next (if c.st = .idle then State.smStart k (c.q.length + 2) s else s)

/-- STOP (R610, R617, R622, R623). -/
def execSmStop (k : Fin 4) (s : State) : Host.Outcome State Fault Refusal :=
  let c := s.smCh k
  match c.st with
  | .moving => .next (s.setSm k { c with st := if c.v = 0 then .stopped else .stopping })
  | .dwell => .next (s.setSm k { c with st := .stopped })
  | .homing => .next (s.setSm k { c.rest with st := c.preHome, homeAin := none })
  | .idle => .next (if s.smOwned k then s.setSm k { c with st := .stopped } else s)
  | .disabled | .stopping | .stopped | .fault => .next s

/-- Continue a STOPPED channel: the dwell's unexpired part, or the move from POS with a full profile after the latch check (R610, R619). -/
def State.smResumeMove (s : State) (k : Nat) : State :=
  let c := s.smCh k
  match c.loopTgt, c.q with
  | some t, _ => s.setSm k { s.smLatch k c 0 0 0 with st := .moving, neg := decide (t < c.pos), q := [], started := false, dwellLeft := 0, holding := false }
  | none, [] => s.setSm k { c with st := .idle, holding := false }
  | none, m :: _ =>
    if c.started = true ∧ c.dwellLeft ≠ 0 ∧ m.tgt = c.pos then s.setSm k { c with st := .dwell, holding := false }
    else State.smStart k (c.q.length + 1) s

/-- RESUME: in STOPPED only, else BUSY 0x7B (R610); refused while a fault is latched or the position uncertain (R628). -/
def execSmResume (k : Fin 4) (s : State) : Host.Outcome State Fault Refusal :=
  let c := s.smCh k
  if c.st ≠ .stopped then .next (s.smRefuse k (Code.busy 0x7B))
  else if c.faulted = true ∨ c.uncertain = true then .next (s.smRefuse k (Code.busy 0x79))
  else .next (s.smResumeMove k)

/-- FLUSH: the moves that have not started; in STOPPED the running one too, and the channel becomes IDLE (R611); with nothing queued no effect (R622). -/
def execSmFlush (k : Fin 4) (s : State) : Host.Outcome State Fault Refusal :=
  let c := s.smCh k
  if c.q = [] then .next s
  else if c.st = .stopped then
    .next (s.setSm k { c.rest with q := [], started := false, dwellLeft := 0, st := .idle, holding := false, loopTgt := none })
  else .next (s.setSm k { c with q := if c.started then c.q.take 1 else [] })

/-- Start homing (R612, R613). -/
def State.smHomeStart (s : State) (k : Nat) : State :=
  let c := s.smCh k
  s.setSm k { s.smLatch k c.rest 0 0 0 with st := .homing, preHome := c.st, homeAin := none, homeSteps := 0,
                                            neg := s.bit F.SM_CTL_HOME_DIR k, holding := false }

/-- HOME: refused with BUSY 0x79 while a fault is latched, and with 0x7C while the channel moves or is DISABLED (R613). -/
def execSmHome (k : Fin 4) (s : State) : Host.Outcome State Fault Refusal :=
  let c := s.smCh k
  if c.faulted then .next (s.smRefuse k (Code.busy 0x79))
  else if c.st = .idle ∨ c.st = .stopped then .next (s.smHomeStart k)
  else .next (s.smRefuse k (Code.busy 0x7C))

/-- CLEAR in FAULT (R628): `trips` says that a leg trips again within 100 µs of the bridge's re-enabling, `low` that V12AUX is below 9.0 V. -/
def execSmClear (k : Fin 4) (trips low : Bool) (s : State) : Host.Outcome State Fault Refusal :=
  let c := s.smCh k
  if c.st ≠ .fault then .next s
  else
    let keepShort := c.fShort && trips
    let keepSupply := c.fSupply && low
    let c := { c with fShort := keepShort, fStall := false, fSupply := keepSupply }
    if keepShort || keepSupply then .next ((s.setSm k c).smRefuse k (Code.busy 0x79))
    else .next (s.setSm k { c with st := if c.q = [] then .idle else .stopped, holding := true })

/-- SETPOS, expert: POS and the target become TGT of MV_TGT and POS_UNCERTAIN clears; only in IDLE or STOPPED with no fault latched, else
BUSY 0x7C (R620). Without FLT_EXPERT_EN the action bit is discarded and counted (R694). A running move's target becomes TGT too. -/
def execSmSetpos (k : Fin 4) (s : State) : Host.Outcome State Fault Refusal :=
  let c := s.smCh k
  let t := s.rdS F.MV_TGT_TGT k
  if s.bit F.FLT_EXPERT_EN_EN = false then .next (s.bump F.FLT_WR_REJ_COUNT)
  else if (c.st = .idle ∨ c.st = .stopped) ∧ c.faulted = false then
    let q := match c.q with | m :: r => { m with tgt := t } :: r | [] => []
    .next (s.setSm k { c with pos := t, p := t * 4294967296, v := 0, acc := 0, uncertain := false, q := q, loopTgt := none })
  else .next (s.smRefuse k (Code.busy 0x7C))

/-- Release the bridges of a channel: POS_UNCERTAIN (R603). -/
def SmCh.release (c : SmCh) : SmCh := { c.rest with uncertain := true, holding := false }

/-- SM_CTL_WRITE: the fields of SM_CTL; EN enables the bridges at I_HOLD or releases them (R603, R620, R621, R624). -/
def execSmCtlWrite (k : Fin 4) (src : Src) (v : BitVec 64) (s : State) : Host.Outcome State Fault Refusal :=
  match src.host with
  | .pf | .mb _ =>
    let was := s.bit F.SM_CTL_EN k
    let s := (writeFields s src.host 8 (F.SM_CTL_EN.regAddr k 0) v.toNat).1
    let c := s.smCh k
    if was = true ∧ s.bit F.SM_CTL_EN k = false then .next (s.setSm k { c.release with st := .disabled })
    else if was = false ∧ s.bit F.SM_CTL_EN k = true then
      .next (s.setSm k { c with st := if c.faulted then .fault else if c.q = [] then .idle else .stopped, holding := !(c.fShort || c.fSupply) })
    else .next s
  | _ => .next (s.bump F.FLT_WR_REJ_COUNT)

/-- HOLD_DELAY_EXPIRE: a channel that stands still drops to I_HOLD (R602). -/
def execHoldDelayExpire (k : Fin 4) (s : State) : Host.Outcome State Fault Refusal :=
  let c := s.smCh k
  match c.st with
  | .idle | .stopped => .next (s.setSm k { c with holding := true })
  | _ => .next s

/-- LOW_HEADROOM: flagged, counted and logged; with DERATE_EN the limit falls by one eighth, not below VMIN (R615). -/
def execLowHeadroom (k : Fin 4) (s : State) : Host.Outcome State Fault Refusal :=
  let c := s.smCh k
  if c.st = .disabled then .next s
  else
    let vd := if s.bit F.SM_CTL_DERATE_EN k then max (s.rd F.SM_VEL_VMIN k) (c.vder * 7 / 8) else c.vder
    let s := ((s.setSm k { c with vder := vd }).wb F.SM_STAT_LOW_HEADROOM true k).bump F.SM_CNT_LOWHR_CNT 1 k
    .next (s.logE 0x0F04 (0xF050 + k) 1 [k, vd])

/-- VDER_RECOVER: 1 s without LOW_HEADROOM raises the limit by 8/7, to at most 200,000 (R615). -/
def execVderRecover (k : Fin 4) (s : State) : Host.Outcome State Fault Refusal :=
  let c := s.smCh k
  if s.bit F.SM_CTL_DERATE_EN k then .next (s.setSm k { c with vder := min 200000 (c.vder * 8 / 7) }) else .next s

/-- What a latched fault does beside its own flag: steps stop, target and queue stay, POS_UNCERTAIN, MOTOR, the event, FAULT (R625, R626). -/
def State.smFault (s : State) (k : Nat) (c : SmCh) (event : Nat) (data : List Nat) : State :=
  let s := s.setSm k { c.rest with st := .fault, uncertain := true, homeAin := none }
  ((s.bump F.SM_CNT_FAULT_CNT 1 k).alert .motor).logE event (0xF050 + k) 3 data

/-- FAULT_SHORT: a leg above 3.0 A disables the bridge (R625). -/
def execFaultShort (k : Fin 4) (leg : Fin 8) (s : State) : Host.Outcome State Fault Refusal :=
  let c := s.smCh k
  if c.st = .disabled then .next s
  else .next (s.smFault k { c with fShort := true, holding := false } 0x0F01 [k, leg, ofSigned 32 c.pos, ofSigned 32 c.target])

/-- FAULT_STALL: four low back-EMF steps while STALL_EN is set and v is at least STALL_VMIN; in homing it is the reference with HOME_SRC 0 and else nothing
(R612, R626). -/
def execFaultStall (k : Fin 4) (s : State) : Host.Outcome State Fault Refusal :=
  let c := s.smCh k
  if s.bit F.SM_CTL_STALL_EN k = false ∨ c.v < s.rd F.SM_STALL_STALL_VMIN k * 65536 then .next s
  else match c.st with
    | .homing => .next (if s.rd F.SM_CTL_HOME_SRC k = 0 then s.smHomed k else s)
    | .moving | .stopping =>
      .next (s.smFault k { c with fStall := true, holding := true } 0x0F02 [k, ofSigned 32 c.pos, ofSigned 32 c.target])
    | _ => .next s

/-- FAULT_SUPPLY: V12AUX below 9.0 V for 10 µs releases the bridge of every enabled channel (R627). -/
def execFaultSupply (s : State) : Host.Outcome State Fault Refusal :=
  let on := (List.range 4).filter (fun k => (s.smCh k).st ≠ .disabled)
  let mask := on.foldl (fun m k => m + 2 ^ k) 0
  let s := on.foldl (fun s k =>
    let c := s.smCh k
    let s := s.setSm k { c.release with st := .fault, fSupply := true, homeAin := none }
    (s.bump F.SM_CNT_FAULT_CNT 1 k).alert .motor) s
  .next (if mask = 0 then s else s.logE 0x0F03 0xF001 3 [mask])

/-- A loop channel passes a target to the stepper channel it owns (R616, R617), which has no queue. -/
def State.smLoopTarget (s : State) (k : Nat) (t : Int) : State :=
  let c := s.smCh k
  if c.faulted then s
  else match c.st with
    | .disabled | .stopping | .fault => s
    | .stopped => s.setSm k { c with loopTgt := some t }
    | .homing => s
    | .idle | .moving | .dwell =>
      if c.uncertain then s.smHomeStart k
      else if c.st = .idle ∧ t = c.pos then s
      else
        let c := { c with loopTgt := some t, q := [], started := false, dwellLeft := 0 }
        if c.st = .moving then s.setSm k c
        else s.setSm k { s.smLatch k c.rest 0 0 0 with st := .moving, neg := decide (t < c.pos), holding := false }

end Sys2Proof.Machine
end

