-- ==== Sys2Proof/Machine/Flint.lean ====
section
/-! DEFINITION. Machine/Flint.lean: Flint's watches, the management buses, boundary scan, the firmware banks and the event log
(R80 to R117). -/

namespace Sys2Proof.Machine

/-- The bytes of a number, little-endian. -/
def leBytes : Nat → Nat → List Nat
  | 0, _ => []
  | n + 1, v => v % 256 :: leBytes n (v / 256)

/-- A value of a list replaced. -/
def setAt {α : Type} : List α → Nat → α → List α
  | [], _, _ => []
  | _ :: t, 0, x => x :: t
  | h :: t, n + 1, x => h :: setAt t n x

/-- DEV_CAP0 of the variant (R4). -/
def State.cap0 (s : State) : Nat :=
  if s.variant = 1 then 0x000F2100FFFFFFF1 else if s.variant = 2 then 0x000F2100FFFFFFE2 else 0x000F210000FF0FD3

/-- The response of a management bus (R95): status and payload, not yet readable (R96). -/
def State.respond (s : State) (bus : Bool) (status : Nat) (payload : List Nat := []) : State :=
  let r : MbResp := { status := status, payload := payload, ready := false }
  if bus then { s with flint := { s.flint with mb1 := some r } } else { s with flint := { s.flint with mb0 := some r } }

/-- The response of a bus, if a command is in progress or its response unread. -/
def State.mbResp (s : State) (bus : Bool) : Option MbResp := if bus then s.flint.mb1 else s.flint.mb0

/-- Commands Aqgen serves now: all in operation, the five of R103 in recovery mode, none during a live exchange (R105). -/
def State.mbServed (s : State) (cmd : Nat) : Bool :=
  !s.fw.exchanging && (!s.fw.recovery || cmd = 1 || cmd = 2 || cmd = 0x10 || cmd = 0x11 || cmd = 0x14)

/-- The management command numbers (R97). -/
def mbKnown (cmd : Nat) : Bool := (1 ≤ cmd && cmd ≤ 0x0B) || (0x10 ≤ cmd && cmd ≤ 0x14)

/-- Whether a request's payload has the length of its command (R97). -/
def mbLenOk (cmd len : Nat) : Bool :=
  if cmd = 3 ∨ cmd = 6 then len = 4 else if cmd = 4 then len = 12 else if cmd = 5 then len = 5 else if cmd = 7 then len = 2
  else if cmd = 0x0B then len = 8 else if cmd = 0x10 then decide (6 ≤ len) && decide (len ≤ 245) else if cmd = 0x11 ∨ cmd = 0x14 then len = 1 else len = 0

/-- What a request on an idle bus is answered at once (R97, R103, R105): an unknown CMD, or a payload of another length, gives FORMAT; BUSY while Aqgen
does not serve it. -/
def State.mbFirst (s : State) (cmd len : Nat) : Nat :=
  if mbKnown cmd = false ∨ mbLenOk cmd len = false then Code.format 0 else if s.mbServed cmd = false then Code.busy 0 else 0

/-- MB_REQUEST: a whole request (R95, R96, R97): a wrong PEC or LEN discards it; one that arrives while a command is in progress gets BUSY
and is not executed; an unknown CMD gives FORMAT; else its command is in progress until its response is ready. -/
def execMbRequest (bus : Bool) (cmd len : BitVec 8) (sent : Nat) (pecOk : Bool) (s : State) : Host.Outcome State Fault Refusal :=
  if s.flint.on = false then .next s
  else if pecOk = false ∨ len.toNat ≠ sent ∨ 250 < len.toNat then .next (s.bump F.FLT_MB_ERR_COUNT)
  else match s.mbResp bus with
    | some r => if r.ready = false then .next (s.respond bus (Code.busy 0)) else .next (s.respond bus (s.mbFirst cmd.toNat len.toNat))
    | none => .next (s.respond bus (s.mbFirst cmd.toNat len.toNat))

/-- MB_RESPONSE_READY: the response becomes readable; on MB0 the in-band interrupt is raised (R96). -/
def execMbResponseReady (bus : Bool) (s : State) : Host.Outcome State Fault Refusal :=
  match s.mbResp bus with
  | none => .next s
  | some r =>
    if bus then .next { s with flint := { s.flint with mb1 := some { r with ready := true } } }
    else .next { s with flint := { s.flint with mb0 := some { r with ready := true }, ibi := true } }

/-- Run a management command that Aqgen serves; else its response is BUSY (R103, R105). -/
def State.served (s : State) (bus : Bool) (cmd : Nat) (r : State) : State :=
  if s.flint.on = false then s else if s.mbServed cmd then r else s.respond bus (Code.busy 0)

/-- GET_ID (R97). -/
def execGetId (bus : Bool) (s : State) : Host.Outcome State Fault Refusal :=
  .next (s.served bus 1 (s.respond bus 0 (leBytes 8 s.cap0 ++ leBytes 8 s.flint.serial ++ leBytes 4 s.fw.a.version ++ leBytes 4 s.fw.b.version)))

/-- FLT_STAT as read. -/
def State.fltStat (s : State) : Nat :=
  s.rd F.FLT_STAT_DIE_OK + s.rd F.FLT_STAT_DIE_ERR * 2 ^ 5 + s.rd F.FLT_STAT_TWIN_RX * 2 ^ 10 + s.rd F.FLT_STAT_TWIN_ST * 2 ^ 12
    + s.rd F.FLT_STAT_HOST_SIL * 2 ^ 14 + s.rd F.FLT_STAT_PKG_FAIL * 2 ^ 15

/-- FLT_ALONE as read. -/
def State.fltAlone (s : State) : Nat :=
  s.rd F.FLT_ALONE_ACTIVE + s.rd F.FLT_ALONE_QUIESCED * 2 + s.rd F.FLT_ALONE_LAST_BY * 2 ^ 18

/-- GET_STATUS (R97). -/
def execGetStatus (bus : Bool) (s : State) : Host.Outcome State Fault Refusal :=
  .next (s.served bus 2 (s.respond bus 0 (leBytes 8 s.fltStat ++ leBytes 8 (s.rd F.FLT_ALERT_STAT_CAUSE) ++ leBytes 8 s.fltAlone)))

/-- The 12 DATA bytes of a log entry: of event 0x0201 the 32-bit words of the die's record; else a free value of what the event names (log 58). -/
def LogEntry.dataBytes (e : LogEntry) : List Nat :=
  if e.code = 0x0201 then ((e.data.flatMap (leBytes 4)) ++ List.replicate 12 0).take 12
  else (List.range 12).map (fun k => Config.dataByte e.code e.data k % 256)

/-- The 32 bytes of a log entry (the log entry layout of R108). -/
def LogEntry.bytes (e : LogEntry) : List Nat :=
  leBytes 8 e.time ++ leBytes 4 e.seq ++ leBytes 2 e.code ++ leBytes 2 e.source
    ++ [e.sev + e.tbase.toNat * 16 + e.persist.toNat * 32 + e.ovf.toNat * 64, 0] ++ leBytes 2 e.count ++ e.dataBytes

/-- LOG_READ: 1 to 7 entries from a SEQ, in the ring or in the persistent area (R97); one that is no longer held is left out (DESIGN CHOICE, log 59). -/
def execLogRead (bus : Bool) (seq : BitVec 32) (n : BitVec 8) (s : State) : Host.Outcome State Fault Refusal :=
  if n.toNat = 0 ∨ 7 < n.toNat then .next (s.served bus 5 (s.respond bus (Code.format 0)))
  else
    let es := (List.range n.toNat).filterMap (fun k => (s.log.ring ++ s.log.flash).find? (fun e => decide (e.seq = seq.toNat + k)))
    .next (s.served bus 5 (s.respond bus 0 (es.flatMap LogEntry.bytes)))

/-- Acknowledge persistent entries up to a SEQ; a lower one than the current has no effect (R109). -/
def State.logAck (s : State) (seq : Nat) : State :=
  if seq < s.rd F.FLT_LOG_ACK_SEQ then s else s.wr F.FLT_LOG_ACK_SEQ seq

/-- LOG_ACK (R97, R109). -/
def execLogAck (bus : Bool) (seq : BitVec 32) (s : State) : Host.Outcome State Fault Refusal :=
  .next (s.served bus 6 ((s.logAck seq.toNat).respond bus 0))

/-- FLT_LOG_ACK_WRITE: by the host physical function or a management bus (R109). -/
def execFltLogAckWrite (src : Src) (seq : BitVec 32) (s : State) : Host.Outcome State Fault Refusal :=
  match src.host with
  | .pf | .mb _ => .next (s.logAck seq.toNat)
  | _ => .next (s.bump F.FLT_WR_REJ_COUNT)

/-- PWR_CAP_SET: as a write of ISL_PWR_CAP (R56, R97). -/
def execPwrCapSet (bus : Bool) (w : BitVec 16) (s : State) : Host.Outcome State Fault Refusal :=
  .next (s.served bus 7 ((s.writeCap (.mb bus) w.toNat).respond bus 0))

/-- POWER_ON: the sequence of R46 from step 2; no effect while the rails are up (R97). -/
def execPowerOn (bus : Bool) (s : State) : Host.Outcome State Fault Refusal :=
  if s.pwr.step ≠ 0 then .next (s.served bus 8 (s.respond bus 0))
  else .next (s.served bus 8 ({ s with pwr := { s.pwr with off := false, fails := 0, retry := false } }.respond bus 0))

/-- Clear sticky alert causes; ALONE stays while Flint acts alone (R89). -/
def State.alertClear (s : State) (mask : Nat) : State :=
  let m := mask % 2048
  let m := if s.bit F.FLT_ALONE_ACTIVE then m - (m &&& 64) else m
  s.wr F.FLT_ALERT_STAT_CAUSE (s.rd F.FLT_ALERT_STAT_CAUSE - (s.rd F.FLT_ALERT_STAT_CAUSE &&& m))

/-- ALERT_CLEAR (R89, R97). -/
def execAlertClear (bus : Bool) (mask : BitVec 64) (s : State) : Host.Outcome State Fault Refusal :=
  .next (s.served bus 0x0B ((s.alertClear mask.toNat).respond bus 0))

/-- FLT_ALERT_STAT_WRITE: W1C (R89). -/
def execFltAlertStatWrite (src : Src) (mask : BitVec 64) (s : State) : Host.Outcome State Fault Refusal :=
  match src.host with
  | .pf | .mb _ => .next (s.alertClear mask.toNat)
  | _ => .next (s.bump F.FLT_WR_REJ_COUNT)

/-- FLT_ALERT_MASK_WRITE (R88). -/
def execFltAlertMaskWrite (src : Src) (mask : BitVec 64) (s : State) : Host.Outcome State Fault Refusal :=
  match src.host with
  | .pf | .mb _ => .next (s.wr F.FLT_ALERT_MASK_CAUSE mask.toNat)
  | _ => .next (s.bump F.FLT_WR_REJ_COUNT)

/-- Log the source of a write of FLT_SILENCE_T that would change it, unless it is discarded for want of the expert level (R97, R110). -/
def State.logSilence (s : State) (old v : Nat) (src : Src) : State :=
  if v = old ∨ s.bit F.FLT_EXPERT_EN_EN = false then s else s.logE 0x0240 (srcCode src) 1 [0x08, srcCode src, v]

/-- The timing fields of FLT_HB_CFG with their ranges (R110). -/
def hbRanges : List (Fld × Nat × Nat) :=
  [(F.FLT_HB_CFG_DIE_HB_T, 5, 100), (F.FLT_HB_CFG_HOST_T, 3, 1000), (F.FLT_HB_CFG_SILENCE_T, 50, 6000), (F.FLT_HB_CFG_QUIESCE_T, 1, 600)]

/-- FLT_HB_CFG_WRITE: expert timing fields in their ranges, else FMT_REJ; without FLT_EXPERT_EN each field the write would change is
discarded and counted; FMT_REJ is W1C (R110, R112, R694). -/
def execFltHbCfgWrite (src : Src) (v : BitVec 64) (s : State) : Host.Outcome State Fault Refusal :=
  match src.host with
  | .pf | .mb _ =>
    let old := s.rd F.FLT_HB_CFG_SILENCE_T
    let s := if v.getLsbD 40 then s.wb F.FLT_HB_CFG_FMT_REJ false else s
    let ex := s.bit F.FLT_EXPERT_EN_EN
    let s := hbRanges.foldl (fun s r =>
      let x := bitsAt v.toNat r.1.lo r.1.w
      if x = s.rd r.1 then s
      else if ex = false then s.bump F.FLT_WR_REJ_COUNT
      else if r.2.1 ≤ x ∧ x ≤ r.2.2 then s.wr r.1 x
      else s.wb F.FLT_HB_CFG_FMT_REJ true) s
    .next (s.logSilence old (bitsAt v.toNat 17 13) src.host)
  | _ => .next (s.bump F.FLT_WR_REJ_COUNT)

/-- FLT_EXPERT_EN_WRITE: by the host physical function or a management bus; the source is logged (R15, R97). -/
def execFltExpertEnWrite (src : Src) (en : Bool) (s : State) : Host.Outcome State Fault Refusal :=
  match src.host with
  | .pf | .mb _ => .next ((s.wb F.FLT_EXPERT_EN_EN en).logE 0x0240 (srcCode src.host) 1 [0x30, srcCode src.host, en.toNat])
  | _ => .next (s.bump F.FLT_WR_REJ_COUNT)

/-- FLT_SCAN_WRITE: only over the management buses (R101). -/
def execFltScanWrite (src : Src) (en : Bool) (s : State) : Host.Outcome State Fault Refusal :=
  match src.host with
  | .mb _ => .next (s.wb F.FLT_SCAN_SCAN_EN en)
  | _ => .next (s.bump F.FLT_WR_REJ_COUNT)

/-- The boundary-scan instructions (R99). -/
def tapTestMode (ins : TapIns) : Bool := match ins with | .extest | .extestPulse | .extestTrain | .clamp | .highz => true | _ => false

/-- The number of an instruction in State.flint.tap; 255 is BYPASS. -/
def tapNum : TapIns → Nat
  | .bypass => 255 | .idcode => 1 | .sample => 2 | .extest => 3 | .clamp => 4 | .highz => 5 | .extestPulse => 6 | .extestTrain => 7

/-- TAP_INSTRUCTION: device 0 is Flint, 1 the base die, 2 to 5 the compute chiplets. The chain holds Flint alone unless SCAN_EN is set and
the package rails are up (R98); a test-mode instruction acts as BYPASS unless SCAN_EN is set and the package is in module reset, and the
1149.6 instructions exist on the base die only (R99, R101). -/
def execTapInstruction (dev : Fin 6) (ins : TapIns) (s : State) : Host.Outcome State Fault Refusal :=
  let chain := decide ((dev : Nat) = 0) || (s.bit F.FLT_SCAN_SCAN_EN && s.pwr.step = 6)
  let ac := match ins with | .extestPulse | .extestTrain => decide ((dev : Nat) ≠ 1) | _ => false
  let eff := if (tapTestMode ins && !(s.bit F.FLT_SCAN_SCAN_EN && s.start.rstOn)) || ac then 255 else tapNum ins
  if chain then .next { s with flint := { s.flint with tap := setAt s.flint.tap dev eff } } else .next s

/-- Boot a firmware bank. -/
def State.bootBank (s : State) (b : Nat) : State := { s with fw := { s.fw with run := b, recovery := false, trial := false, exchanging := false } }

/-- The firmware banks by number. -/
def FwSt.bank (f : FwSt) (b : Nat) : FwBank := if b = 0 then f.a else f.b

/-- A bank replaced. -/
def FwSt.setBank (f : FwSt) (b : Nat) (x : FwBank) : FwSt := if b = 0 then { f with a := x } else { f with b := x }

/-- Recovery mode: rails off, loop channels unconfigured, stepper bridges at high impedance, FW raised (R103, R602). -/
def State.recovery (s : State) : State :=
  let s := s.railsOff
  let s := { s with fw := { s.fw with recovery := true, trial := false, exchanging := false } }
  let s := { s with sm := s.sm.map (fun (kc : Nat × SmCh) => (kc.1, { kc.2.release with st := .disabled })) }
  let s := (List.range 16).foldl (fun (s : State) c => s.lpEnter c 0) s
  let s := (List.range 4).foldl (fun s k => s.wb F.SM_CTL_EN false k) s
  s.alert .fw

/-- FLINT_BOOT: the active bank if it is valid, else the other with a logged failure, else recovery mode; then STANDBY (R102, R103, R118). -/
def execFlintBoot (s : State) : Host.Outcome State Fault Refusal :=
  if s.stage ≠ 1 then .next s
  else
    let act := s.fw.act
    if (s.fw.bank act).valid then .next ((s.bootBank act).wr F.FLT_START_STAGE 2)
    else if (s.fw.bank (1 - act)).valid then
      .next ((((s.bootBank (1 - act)).logE 0x0303 304 3 [act]).alert .fw).wr F.FLT_START_STAGE 2)
    else .next (s.recovery)

/-- FLINT_BOOT_TIMEOUT: 250 ms passed; the other bank, or recovery mode (R118). -/
def execFlintBootTimeout (s : State) : Host.Outcome State Fault Refusal :=
  if s.stage ≠ 1 then .next s
  else
    let o := 1 - s.fw.act
    let s := s.logE 0x0303 304 3 [s.fw.act]
    if (s.fw.bank o).valid then .next (((s.bootBank o).alert .fw).wr F.FLT_START_STAGE 2) else .next s.recovery

/-- A bank is inactive: Flint does not run from it, and no trial holds it; both are in recovery mode (R104). -/
def State.bankInactive (s : State) (b : Nat) : Bool := s.fw.recovery || (b ≠ s.fw.run && !s.fw.trial)

/-- The refusal of a firmware command on a bank: FORMAT for another operand, PERM 0x0D for a bank that is not inactive, BUSY for another
source's session (R104); 0 when it may run. -/
def State.fwCheck (s : State) (bus : Bool) (b : Nat) : Nat :=
  if 1 < b then Code.format 0
  else if s.bankInactive b = false then Code.perm 0x0D
  else match s.fw.session with
    | some (_, o) => if o = .mb bus then 0 else Code.busy 0
    | none => 0

/-- FW_STAGE: write an image block into the inactive bank; the first opens the session (R104). -/
def execFwStage (bus : Bool) (bank : BitVec 8) (off : BitVec 32) (data : List Byte) (s : State) : Host.Outcome State Fault Refusal :=
  let b := bank.toNat
  let c := s.fwCheck bus b
  if c ≠ 0 then .next (s.served bus 0x10 (s.respond bus c))
  else
    let old := s.fw.bank b
    let fresh := s.fw.session = none
    let nb : FwBank := { valid := false, version := old.version,
                         staged := (off.toNat, data.map BitVec.toNat) :: (if fresh then [] else old.staged) }
    .next (s.served bus 0x10 ({ s with fw := { s.fw.setBank b nb with session := some (b, .mb bus) } }.respond bus 0))

/-- FW_COMMIT: `ok` says that the staged image meets R102, `ver` is its version; an invalid image gives FORMAT (R104). The session ends. -/
def execFwCommit (bus : Bool) (bank : BitVec 8) (ok : Bool) (ver : BitVec 32) (s : State) : Host.Outcome State Fault Refusal :=
  let b := bank.toNat
  let c := s.fwCheck bus b
  if c ≠ 0 then .next (s.served bus 0x11 (s.respond bus c))
  else if ok then
    let nb : FwBank := { valid := true, version := ver.toNat, staged := (s.fw.bank b).staged }
    .next (s.served bus 0x11 (({ s with fw := { s.fw.setBank b nb with session := none } }.logE 0x0301 304 1 [b]).respond bus 0))
  else .next (s.served bus 0x11 ({ s with fw := { s.fw with session := none } }.respond bus (Code.format 0)))

/-- FW_ABORT: discard a staging session (R104). -/
def execFwAbort (bus : Bool) (bank : BitVec 8) (s : State) : Host.Outcome State Fault Refusal :=
  let b := bank.toNat
  let c := s.fwCheck bus b
  if c ≠ 0 then .next (s.served bus 0x14 (s.respond bus c))
  else
    let nb : FwBank := { s.fw.bank b with staged := [] }
    .next (s.served bus 0x14 ({ s with fw := { s.fw.setBank b nb with session := none } }.respond bus 0))

/-- FW_SWAP is refused while Flint acts alone, while a takeover or re-silvering runs, during the rail sequence and during a trial (R114).
The pair states are those of AGT_STAT (R446): 4 TAKING_OVER, 6 RESILVERING. -/
def State.swapBusy (s : State) : Bool :=
  s.bit F.FLT_ALONE_ACTIVE || s.rd F.AGT_STAT_STATE = 4 || s.rd F.AGT_STAT_STATE = 6
    || (decide (3 ≤ s.pwr.step) && decide (s.pwr.step < 6)) || s.fw.trial || s.fw.exchanging

/-- FW_SWAP: start the committed image of the other bank (R105). No valid image there: FORMAT. -/
def execFwSwap (bus : Bool) (s : State) : Host.Outcome State Fault Refusal :=
  if s.swapBusy then .next (s.respond bus (Code.busy 0))
  else if (s.fw.bank (1 - s.fw.run)).valid = false then .next (s.served bus 0x12 (s.respond bus (Code.format 0)))
  else .next (s.served bus 0x12 ({ s with fw := { s.fw with exchanging := true } }.respond bus 0))

/-- Move the FIFO's entries into the log, in order (R105). -/
def State.drainFifo (s : State) : State :=
  let es := s.log.fifo
  let s := { s with log := { s.log with fifo := [] } }
  es.foldl (fun s e => s.logPut e) s

/-- FW_SWAP_READY: the new image takes the state block, drains the FIFO and runs in trial (R105). -/
def execFwSwapReady (s : State) : Host.Outcome State Fault Refusal :=
  if s.fw.exchanging = false then .next s
  else
    let s := { s with fw := { s.fw with exchanging := false, run := 1 - s.fw.run, trial := true } }
    .next (s.drainFifo.logE 0x0302 304 1 [s.fw.run])

/-- FW_CONFIRM: the new bank becomes active and the trial ends (R105). -/
def execFwConfirm (bus : Bool) (s : State) : Host.Outcome State Fault Refusal :=
  if s.fw.trial then .next (s.served bus 0x13 ({ s with fw := { s.fw with trial := false, act := s.fw.run } }.respond bus 0))
  else .next (s.served bus 0x13 (s.respond bus 0))

/-- Restart the previous bank with its state block, log it and raise FW (R106). -/
def State.rollback (s : State) : State :=
  let prev := if s.fw.trial then 1 - s.fw.run else s.fw.run
  let s := { s with fw := { s.fw with exchanging := false, trial := false, run := prev } }
  (s.drainFifo.logE 0x0303 304 3 [prev]).alert .fw

/-- FW_ROLLBACK: the new image missed its limit, rejected the state block, or got no confirm (R106). -/
def execFwRollback (s : State) : Host.Outcome State Fault Refusal :=
  if s.fw.exchanging = true ∨ s.fw.trial = true then .next s.rollback else .next s

/-- DIE_HEARTBEAT_TOGGLE: die 0 is the base die, 1 to 4 are CC0 to CC3; the first toggle after step 6 arms the watch and sets DIE_OK (R81). -/
def execDieHeartbeatToggle (d : Fin 5) (s : State) : Host.Outcome State Fault Refusal :=
  if s.pwr.step ≠ 6 then .next s
  else .next ((s.wflag F.FLT_STAT_DIE_OK d true |> fun s => { s with flint := { s.flint with hbArmed := setAt s.flint.hbArmed d true } }))

/-- The twin is in contact: Agate beats arrive or TWIN_HB_I is HEALTHY, or the watch is disarmed (R85). -/
def State.twinContact (s : State) : Bool := !s.flint.twinArmed || s.flint.beatSeen || s.rd F.FLT_STAT_TWIN_RX = 0

/-- Note since when the twin has been silent (R85, R90). -/
def State.noteTwin (s : State) : State :=
  let since := if s.twinContact then none else match s.flint.twinSince with | some t => some t | none => some s.now
  { s with flint := { s.flint with twinSince := since } }

/-- Pair states of AGT_STAT.STATE (R446). -/
def pairBound : Nat := 2

/-- A twin link fault: TWIN_ST 3, TWIN raised, logged; the pair returns to BOUND with LINK_FAULT (R84, R462). -/
def State.twinLinkFault (s : State) : State :=
  let s := { s with flint := { s.flint with window := none, windowHealthy := false } }
  let s := ((s.wr F.FLT_STAT_TWIN_ST 3).alert .twin).logE 0x0212 0xF011 3 []
  let s := if 2 ≤ s.rd F.AGT_STAT_STATE ∧ s.rd F.AGT_STAT_STATE ≤ 8 then s.wb F.AGT_STAT_LINK_FAULT true else s
  if s.rd F.AGT_STAT_STATE = 3 then s.setPair pairBound else s

/-- TWIN_HB_CLASSIFY: an interval of `us` µs that ended in an edge or ran out (R83); a HEALTHY one in the window is a link fault (R84). -/
def execTwinHbClassify (us : BitVec 16) (edge : Bool) (s : State) : Host.Outcome State Fault Refusal :=
  let u := us.toNat
  let cls := if edge = false then (if 500 ≤ u then 2 else s.rd F.FLT_STAT_TWIN_RX)
    else if u ≤ 50 then 0 else if 100 ≤ u ∧ u ≤ 400 then 1 else s.rd F.FLT_STAT_TWIN_RX
  let s := (s.wr F.FLT_STAT_TWIN_RX cls).noteTwin
  if cls = 0 ∧ edge = true ∧ s.flint.window ≠ none then .next s.twinLinkFault else .next s

/-- TWIN_SUSPECT: 8 beats missed; Flint opens its 500 µs window and a bound pair enters SUSPECT (R84, R462). The watch must be armed (R85). -/
def execTwinSuspect (s : State) : Host.Outcome State Fault Refusal :=
  if s.flint.twinArmed = false ∨ s.flint.window ≠ none then .next s
  else
    let s := { s with flint := { s.flint with window := some (s.now + 500000), windowHealthy := false, beatSeen := false } }
    let s := ((s.wr F.FLT_STAT_TWIN_ST 1).logE 0x0210 0xF011 2 []).noteTwin
    .next (if s.rd F.AGT_STAT_STATE = pairBound then s.setPair 3 else s)

/-- FLT_HOST_HB_WRITE: the word changes; the first write arms the watch; a function's or cluster's write is discarded and counted (R86, R87). -/
def execFltHostHbWrite (src : Src) (w : BitVec 32) (s : State) : Host.Outcome State Fault Refusal :=
  match src.host with
  | .pf =>
    let first := s.bit F.FLT_HOST_HB_ARMED = false
    let s := (s.wr F.FLT_HOST_HB_WORD w.toNat).wb F.FLT_HOST_HB_ARMED true
    .next (if first then { s with flint := { s.flint with hostAt := s.now } } else s)
  | _ => .next (s.bump F.FLT_WR_REJ_COUNT)

/-- HOST_WATCH_DISARM: the host counts as not silent (R87). -/
def execHostWatchDisarm (src : Src) (s : State) : Host.Outcome State Fault Refusal :=
  match src.host with
  | .pf => .next ({ (s.wb F.FLT_HOST_HB_ARMED false).wb F.FLT_STAT_HOST_SIL false with flint := { s.flint with hostSince := none } })
  | _ => .next (s.bump F.FLT_WR_REJ_COUNT)

/-- The partitions that exist, as a mask. -/
def State.partMask (s : State) : Nat := (List.range 16).foldl (fun m p => if s.bit F.HST_PART_CTL_EXISTS p then m + 2 ^ p else m) 0

/-- A takeover is under way (R113): the pair is TAKING_OVER. -/
def State.takingOver (s : State) : Bool := s.rd F.AGT_STAT_STATE = 4

/-- Request quiescence of every partition (R90, R91); a partition with nothing to hold is not listed. -/
def State.quiesceAll (s : State) : State := { s with flint := { s.flint with quiesceReq := s.partMask, quiesceAt := s.now } }

/-- Enter the acting-alone state (R90); while a takeover is under way the partitions are quiesced after it (R113). -/
def State.aloneEnter (s : State) : State :=
  let s := (s.wb F.FLT_ALONE_ACTIVE true).setFltCeil
  let s := if s.takingOver then s else s.quiesceAll
  (s.alert .alone).logE 0x0230 304 4 []

/-- Leave it: the ceiling and the cap return, the exit and the party are logged, the quiescence stays (R92). -/
def State.aloneExit (s : State) (by_ : Nat) : State :=
  let s := ((s.wb F.FLT_ALONE_ACTIVE false).wr F.FLT_ALONE_LAST_BY by_).setFltCeil
  s.logE 0x0231 304 2 [by_]

/-- Judge the host at a sample: changed word, then silent or back (R86). Answers whether the host is back at this sample. -/
def State.judgeHost (s : State) : State × Bool :=
  let w := s.rd F.FLT_HOST_HB_WORD
  let changed := decide (w ≠ s.flint.hostWord)
  let s := if changed then { s with flint := { s.flint with hostWord := w, hostAt := s.now } } else s
  let link := s.bit F.HST_STAT_LINK_UP
  let armed := s.bit F.FLT_HOST_HB_ARMED
  let sil := s.bit F.FLT_STAT_HOST_SIL
  let back := changed && link
  let silent := armed && (!link || decide (s.rd F.FLT_HB_CFG_HOST_T * 10000000 ≤ s.now - s.flint.hostAt))
  if sil && back then
    (({ s with flint := { s.flint with hostSince := none } }.wb F.FLT_STAT_HOST_SIL false).logE 0x0221 0xF010 1 [], true)
  else if !sil && silent then
    ((({ s with flint := { s.flint with hostSince := some s.now } }.wb F.FLT_STAT_HOST_SIL true).alert .host).logE 0x0220 0xF010 3 [], false)
  else (s, back)

/-- Entry to or exit from acting alone at a sample (R90, R92); `back` says that the host is back. -/
def State.aloneJudge (s : State) (back : Bool) : State :=
  if s.bit F.FLT_ALONE_ACTIVE then
    if back || !s.bit F.FLT_STAT_HOST_SIL then s.aloneExit 1 else if s.twinContact then s.aloneExit 2 else s
  else match s.flint.hostSince, s.flint.twinSince with
    | some h, some t => if s.rd F.FLT_HB_CFG_SILENCE_T * 10000000 < s.now - max h t then s.aloneEnter else s
    | _, _ => s

/-- HOST_SAMPLE: the 10 ms sample: judge the host, then entry to or exit from acting alone (R86, R90, R92, R112). -/
def execHostSample (s : State) : Host.Outcome State Fault Refusal :=
  let r := s.judgeHost
  let s' := r.1.noteTwin
  if s.flint.on = false then .next s
  else .next (s'.aloneJudge r.2)

/-- Every quiesced partition resumes (R92); a release while Flint acts alone also ends that state, by the party that sends it. -/
def State.aloneRelease (s : State) (by_ : Nat) : State :=
  let s := if s.bit F.FLT_ALONE_ACTIVE then s.aloneExit by_ else s
  { s.wr F.FLT_ALONE_QUIESCED 0 with flint := { s.flint with quiesceReq := 0 } }

/-- FLT_ALONE_RELEASE: by the host physical function only; a management write completes with PERM (R92, R93). -/
def execFltAloneRelease (src : Src) (s : State) : Host.Outcome State Fault Refusal :=
  match src.host with
  | .pf => .next (s.aloneRelease 1)
  | .mb b => .next (s.respond b (Code.perm 0))
  | _ => .next (s.bump F.FLT_WR_REJ_COUNT)

end Sys2Proof.Machine
end

