-- ==== Sys2Proof/Machine/Twin.lean ====
section
/-! DEFINITION. Machine/Twin.lean: the twin pairing: heartbeats, binding and unbinding, mirror ranges and epochs, the partner's directory, adoption and
re-silvering (R446 to R482). What a twin request does when it is answered is at the end; the takeover, which completes other units' contexts, is in
Machine/Takeover.lean. -/

namespace Sys2Proof.Machine

/-- The twin changed. -/
def State.modTw (s : State) (f : TwinSt → TwinSt) : State := { s with twin := f s.twin }

/-- The pair state (R446). -/
def State.pairSt (s : State) : Nat := s.rd F.AGT_STAT_STATE

/-- This module's device ID. -/
def State.ownId (s : State) : Nat := s.rd F.QTZ_ID_DEVID

/-- A payload of one unit. -/
def unit64 (l : List MByte) : List Byte := plain l ++ List.replicate (64 - l.length) 0

/-- A twin request on Agate with a context of the mirror reserve (R382, R451). -/
def State.twinReq (s : State) (o : Owner) (opc vc part w1 w2 w3 : Nat) (data : List Byte) : State :=
  s.remote o ctxAgate (s.rd F.AGT_STAT_PEER_ID) true (s.mkPkt opc vc part (s.rd F.AGT_STAT_PEER_ID) w1 w2 w3 data)

/-- Whether a twin request of some kind waits or is outstanding. -/
def State.twinOut (s : State) (f : Owner → Bool) : Bool := s.quartz.ctx.any (fun e => f e.2.owner) || s.quartz.qwait.any (fun w => f w.owner)

/-- TW_BEAT_SEND (R452): the beat word on VC0, while Agate is UP. -/
def execTwBeatSend (s : State) : Host.Outcome State Fault Refusal :=
  if s.portUp 16 then
    let w := s.ownId + s.rd F.QTZ_ID_ASSUMED * 2 ^ 16 + s.rd F.AGT_STAT_OWN_INC * 2 ^ 32 + s.pairSt * 2 ^ 48
    .next (s.enqueue 16 { pkt := s.mkPkt 0x21 0 0 (s.rd F.AGT_STAT_PEER_ID) 0 0 w [], src := 31, at_ := s.now })
  else .next s

/-- TW_BEAT (R84, R452, R462): contact is refreshed and LINK_FAULT clears; while bound the partner's ID and INC are kept; in the window the suspicion is
withdrawn. -/
def execTwBeat (p : Pkt) (s : State) : Host.Outcome State Fault Refusal :=
  if p.opc ≠ 0x21 then .next s
  else .next (s.intake 16 p (fun (s : State) e =>
    let s : State := (s.leave e).modTw (fun t => { t with beat := p.w3.toNat, lastBeat := s.now })
    let s := { s with flint := { s.flint with beatSeen := true } }
    let s := (s.wb F.AGT_STAT_LINK_FAULT false).noteTwin
    let s := if s.pairIsBound then (s.wr F.AGT_STAT_PEER_ID (bitsAt p.w3.toNat 0 16)).wr F.AGT_STAT_PEER_INC (bitsAt p.w3.toNat 32 16) else s
    let s : State := if s.flint.window = none then s
      else { s.wr F.FLT_STAT_TWIN_ST 0 with flint := { s.flint with window := none, windowHealthy := false } }
    if s.pairSt = 3 then s.setPair 2 else s))

/-- TWIN_LOSS_CONFIRM (R84): the window has ended with no HEALTHY interval and no beat; whether TWIN_HB_I was DOWN is kept for R464. -/
def execTwinLossConfirm (s : State) : Host.Outcome State Fault Refusal :=
  match s.flint.window with
  | none => .next s
  | some t =>
    if s.now < t ∨ s.flint.beatSeen = true then .next s
    else if s.rd F.FLT_STAT_TWIN_RX = 0 then .next s.twinLinkFault
    else
      let s := { s with flint := { s.flint with window := none } }
      let s := ((s.wr F.FLT_STAT_TWIN_ST 2).alert .twin).logE 0x0211 0xF011 4 []
      .next (s.modTw (fun x => { x with confirmed := some s.now, confirmDown := decide (s.rd F.FLT_STAT_TWIN_RX = 1), probes := 0 }))

/-- The valid mirror ranges of a partition in index order (R453). -/
def State.rangesOf (s : State) (p : Nat) : List Nat :=
  (List.range 64).filter (fun r => s.bit F.AGT_MR_VALID r && decide (s.rd F.AGT_MR_PART r = p))

/-- The copies that a range takes in the partner's mirror region: one of a STATIC, two of an EPOCH range (R455). -/
def State.rangeFoot (s : State) (r : Nat) : Nat := s.rd F.AGT_MR_LEN r * (1 + s.rd F.AGT_MR_KIND r)

/-- Lay the valid ranges out in index order behind the two image slots, and show the footprint (R455). -/
def State.mirrorLayout (s : State) : State :=
  let r := (List.range 64).foldl (fun (x : State × Nat) r =>
    if x.1.bit F.AGT_MR_VALID r then (x.1.wr F.AGT_MR_MOFF x.2 r, x.2 + x.1.rangeFoot r) else x) (s, 2 * 2 ^ 20)
  r.1.wr F.AGT_FOOT_FOOT_MIB (r.2 / 2 ^ 20)

/-- The epochs of a partition. -/
def State.epAt (s : State) (p : Nat) : EpochSt := SMap.get s.twin.epochs EpochSt.init p

/-- They replaced, with RUN, PEND and the books of R460 shown. -/
def State.setEp (s : State) (p : Nat) (x : EpochSt) : State :=
  let s := ((s.modTw (fun t => { t with epochs := SMap.set t.epochs EpochSt.init p x })).wb F.AGT_EPOCH_RUN x.run.isSome p).wb F.AGT_EPOCH_PEND
    x.pend.isSome p
  match x.run with
  | some e => ((s.wr F.AGT_EPOCH_LEFT_BYTES (4096 * e.left.length) p).wr F.AGT_EPOCH_ACK_BYTES (e.ackB / 4096) p).wr F.AGT_EPOCH_OUT_BYTES (e.outB / 4096) p
  | none => s

/-- The next epoch of a partition runs FULL (R453). -/
def State.needFull (s : State) (p : Nat) : State := s.setEp p { s.epAt p with needFull := true }

/-- An epoch of a partition runs or is pending. -/
def State.epBusy (s : State) (p : Nat) : Bool := (s.epAt p).run.isSome || (s.epAt p).pend.isSome

/-- The 4 KiB blocks of an epoch: the STATIC ranges with FULL, then the EPOCH ranges into bank n mod 2, in index order, each as (local address, offset in
the partner's mirror region) (R455, R458). -/
def State.epochBlocks (s : State) (p n : Nat) (full : Bool) : List (Nat × Nat) :=
  let blocks (r off : Nat) : List (Nat × Nat) :=
    (List.range (s.rd F.AGT_MR_LEN r / 4096)).map (fun k => (s.rd F.AGT_MR_LBASE r + 4096 * k, off + 4096 * k))
  let st := if full then (s.rangesOf p).filter (fun r => decide (s.rd F.AGT_MR_KIND r = 0)) else []
  let ep := (s.rangesOf p).filter (fun r => decide (s.rd F.AGT_MR_KIND r = 1))
  st.flatMap (fun r => blocks r (s.rd F.AGT_MR_MOFF r)) ++ ep.flatMap (fun r => blocks r (s.rd F.AGT_MR_MOFF r + n % 2 * s.rd F.AGT_MR_LEN r))

/-- An epoch is accepted and runs (R457, R458): its number is the last accepted plus 1. -/
def State.epAccept (s : State) (p : Nat) (full : Bool) (cmd : Option Nat) : State :=
  let x := s.epAt p
  let n := x.last + 1
  let f := full || x.needFull
  s.setEp p { x with last := n, pend := none,
                     run := some { n := n, full := f, left := s.epochBlocks p n f, outB := 0, ackB := 0, started := false, opened := false,
                                   closed := false, code := 0, cmd := cmd } }

/-- A request for an epoch ends with a code: CODE of the partition and the host command that waits (R457). -/
def State.epTell (s : State) (p code value : Nat) (cmd : Option Nat) : State :=
  let s := s.wr F.AGT_EPOCH_CODE code p
  match cmd with
  | some i => s.cmdDoneId i code value
  | none => s

/-- Submit a request for an epoch (R457, R462): BUSY 0x30 while the pair is not bound, done at once without ranges; else it runs, or becomes pending and
displaces an earlier one. The pair is bound for epochs in BOUND, RESILVER and REPLACEMENT (R449, R471). -/
def State.epSubmit (s : State) (p : Nat) (full : Bool) (cmd : Option Nat) : State :=
  let st := s.pairSt
  let ok := decide (st = 2 ∨ st = 6 ∨ st = 8) && !(s.bit F.AGT_STAT_LINK_FAULT && !s.portUp 16)
  if ok = false then s.epTell p (Code.busy 0x30) 0 cmd
  else if s.rangesOf p = [] then s.epTell p 0 (s.rd F.AGT_EPOCH_LAST_DONE p) cmd
  else
    let x := s.epAt p
    match x.run with
    | none => s.epAccept p full cmd
    | some _ =>
      let s := match x.pend with
        | some o => s.epTell p (Code.superseded 0) 0 o.2
        | none => s
      s.setEp p { s.epAt p with pend := some (full, cmd) }

/-- No epoch runs or is pending. -/
def State.epochsIdle (s : State) : Bool := (List.range 16).all (fun p => !s.epBusy p)

/-- Enter UNBOUND (R450): the twin watch is disarmed, the directories are invalid, TWIN_OK is gone and the change is logged (R125). -/
def State.unbound (s : State) : State :=
  let s := { s with flint := { s.flint with twinArmed := false, window := none } }
  let s := (s.noteTwin.wb F.DEV_START_TWIN_OK false).modTw (fun t => { t with dir := [], unbinding := false, req := none, hostBind := false, bindSince := none })
  let s := (List.range 16).foldl (fun (s : State) p => (((s.wr F.AGT_DIR_LAST 0 p).wr F.AGT_DIR_BANK 0 p).wb F.AGT_DIR_TORN false p).wr F.AGT_DIR_RX_BYTES 0 p) s
  (s.logE 0x0A01 0xF011 1 [s.rd F.AGT_PEER_SERIAL_SERIAL, 0]).setPair 0

/-- What waits for the last running epoch: an unbind, or the fence of a yield (R450, R473). -/
def State.afterEpochs (s : State) : State :=
  if (List.range 16).any (fun p => (s.epAt p).run.isSome) then s
  else if s.twin.unbinding then s.unbound
  else if s.twin.yielding && decide (s.pairSt = 2) then (s.modTw (fun t => { t with fence := true })).setPair 7
  else s

/-- A running epoch ends with a code (R458 step 6): LAST_DONE, CODE and the epoch boundary; the pending one runs. -/
def State.epEnd (s : State) (p code : Nat) : State :=
  let x := s.epAt p
  match x.run with
  | none => s
  | some e =>
    let s := s.setEp p { x with run := none, needFull := if code = 0 && e.full then false else x.needFull }
    let s := if code = 0 then s.wr F.AGT_EPOCH_LAST_DONE e.n p else s.logE 0x0A03 0xF011 2 [p, e.n, code]
    let s := s.epTell p code e.n e.cmd
    let s := match (s.epAt p).pend with
      | some o => s.epAccept p o.1 o.2
      | none => s
    s.afterEpochs

/-- A TW_EPOCH message (R451). -/
def State.sendEpoch (s : State) (p : Nat) (e : EpochRun) (close : Bool) (bytes : Nat) : State :=
  s.twinReq (.epoch p e.n close) 0x23 6 p 0 ((e.n % 65536) * 2 ^ 32 + (close.toNat + e.full.toNat * 2) * 2 ^ 48) 0
    (unit64 (leM 4 p ++ leM 4 e.n ++ leM 8 bytes))

/-- Send MIR_WR blocks while the mirror reserve has contexts (R382, R458 step 3): each block is read as it is sent. -/
def State.epochPump (p : Nat) : Nat → State → State
  | 0, s => s
  | k + 1, s =>
    match (s.epAt p).run with
    | none => s
    | some e => match e.left with
      | [] => s
      | (a, off) :: t =>
        if e.started = false ∨ 4096 ≤ (s.ctxCnt ctxAgate).1 then s
        else
          let l := s.hbmRead a 4096
          let s := s.setEp p { s.epAt p with run := some { e with left := t, outB := e.outB + 4096 } }
          State.epochPump p k (s.twinReq (.mirror p e.n off 4096) 0x20 6 p off (4096 * 2 ^ 17 + e.n % 65536 * 2 ^ 32) (pmaskOf l) (plain l))

/-- Step 4 of R458: when OPEN and every MIR_WR are answered, CLOSE is sent; a nonzero code ends the epoch. -/
def State.epStep (s : State) (p : Nat) : State :=
  match (s.epAt p).run with
  | none => s
  | some e =>
    if e.started = false ∨ e.outB ≠ 0 ∨ e.closed = true then s
    else if e.code ≠ 0 then s.epEnd p e.code
    else if e.opened ∧ e.left = [] then
      (s.setEp p { s.epAt p with run := some { e with closed := true } }).sendEpoch p e true e.ackB
    else s

/-- EPOCH_START (R455, R458): OPEN is sent and the ranges are read and sent; ranges beyond the partner's mirror region fail with BUSY 0x32. -/
def execEpochStart (part : Part) (s : State) : Host.Outcome State Fault Refusal :=
  let p : Nat := part
  match (s.epAt p).run with
  | none => .next s
  | some e =>
    if e.started then .next s
    else if (s.rangesOf p).any (fun r => decide (s.rd F.AGT_FOOT_PEER_SIZE * 2 ^ 30 < s.rd F.AGT_MR_MOFF r + s.rangeFoot r)) then
      .next (s.epEnd p (Code.busy 0x32))
    else .next (State.epochPump p 4096 ((s.setEp p { s.epAt p with run := some { e with started := true } }).sendEpoch p e false 0))

/-- AGT_EPOCH_GO (R457): by the host physical function or the partition's own virtual function. -/
def State.epochWrite (s : State) (src : Src) (p : Nat) (go full : Bool) : State :=
  let own := match src with | .pf => true | .mg => true | .vf q => decide ((q : Nat) = p) | _ => false
  if own = false then s.bump F.FLT_WR_REJ_COUNT
  else
    let s := s.wb F.AGT_EPOCH_FULL full p
    if go then s.epSubmit p full none else s

/-- AGT_EPOCH_GO. -/
def execAgtEpochGo (part : Part) (src : Src) (full : Bool) (s : State) : Host.Outcome State Fault Refusal := .next (s.epochWrite src.host part true full)

/-- Pages of a range that are all granted to a partition (R453). -/
def State.grantedTo (s : State) (p base len : Nat) : Bool :=
  (List.range (len / 4096)).all (fun k => match s.grantAt (base + 4096 * k) with
    | some g => if g.ro then bitAt g.parts p else decide (g.home = p)
    | none => false)

/-- The code that refuses a valid range r as the registers now hold it (R453). -/
def State.rangeCode (s : State) (r : Nat) : Nat :=
  let b := s.rd F.AGT_MR_LBASE r
  let n := s.rd F.AGT_MR_LEN r
  let inHbm := decide (hbmBase ≤ b) && decide (b + n ≤ hbmBase + s.hbmCap)
  let laps := (List.range 64).any (fun q => decide (q ≠ r) && s.bit F.AGT_MR_VALID q && decide (s.rd F.AGT_MR_LBASE q < b + n)
    && decide (b < s.rd F.AGT_MR_LBASE q + s.rd F.AGT_MR_LEN q))
  if inHbm = false ∨ n = 0 ∨ b % 2 ^ 21 ≠ 0 ∨ n % 2 ^ 21 ≠ 0 ∨ laps then Code.format 0x0F
  else if s.grantedTo (s.rd F.AGT_MR_PART r) b n then 0 else Code.perm 3

/-- A write of one register of AGT_MR (R453): the base, the length or the control of range r. A write that would leave a valid range broken, or that concerns a
partition with an epoch running or pending, is discarded with MR_REJ; an accepted one makes the next epoch FULL. -/
def State.rangeWrite (s : State) (src : Src) (size a v r : Nat) : State :=
  if hostOrMgmt src = false then s.bump F.FLT_WR_REJ_COUNT
  else
    let t := (writeFields s src size a v).1
    let was := s.bit F.AGT_MR_VALID r
    let is := t.bit F.AGT_MR_VALID r
    let code := if is then t.rangeCode r else 0
    let busy := (was && s.epBusy (s.rd F.AGT_MR_PART r)) || (is && s.epBusy (t.rd F.AGT_MR_PART r))
    let code := if code = 0 ∧ busy then Code.busy 0x34 else code
    if code ≠ 0 then (s.wr F.AGT_FOOT_MR_CODE code).wb F.AGT_FOOT_MR_REJ true
    else
      let t := t.mirrorLayout
      let t := if was then t.needFull (s.rd F.AGT_MR_PART r) else t
      if is then t.needFull (t.rd F.AGT_MR_PART r) else t

/-- AGT_MR_WRITE: register 0 BASE, 1 LEN, 2 CTL. -/
def execAgtMrWrite (r : Fin 64) (reg : Fin 3) (src : Src) (v : BitVec 64) (s : State) : Host.Outcome State Fault Refusal :=
  .next (s.rangeWrite src.host 8 (F.AGT_MR_LBASE.regAddr r 0 + 8 * (reg : Nat)) v.toNat r)

/-- Clear the valid ranges for which a test of base and length holds (R454): pending epochs of their partitions end with BUSY 0x33, MR_REJ shows it, the next
epoch runs FULL, and event 0x0A0A is logged. -/
def State.clearRanges (s : State) (f : Nat → Bool) : State :=
  (List.range 64).foldl (fun (s : State) r =>
    if s.bit F.AGT_MR_VALID r && f r then
      let p := s.rd F.AGT_MR_PART r
      let s := match (s.epAt p).pend with
        | some o => (s.setEp p { s.epAt p with pend := none }).epTell p (Code.busy 0x33) 0 o.2
        | none => s
      let s := ((s.wb F.AGT_MR_VALID false r).wr F.AGT_FOOT_MR_CODE (Code.busy 0x33)).wb F.AGT_FOOT_MR_REJ true
      ((s.needFull p).logE 0x0A0A 0xF011 2 [r, p]).mirrorLayout
    else s) s

/-- A range that overlaps memory of a grant. -/
def State.rangeIn (s : State) (g : Grant) (r : Nat) : Bool :=
  decide (s.rd F.AGT_MR_LBASE r < g.base + 4096 * g.pages) && decide (g.base < s.rd F.AGT_MR_LBASE r + s.rd F.AGT_MR_LEN r)

/-- The neighbour on Agate has a higher serial number than this module (R447). -/
def State.bindsFirst (s : State) : Bool := decide (s.flint.serial < s.rd F.QTZ_NBR_SERIAL 16)

/-- TW_BIND_SEND (R447): by the module with the lower serial number, once HELLO has been received; after 100 ms without an answer event 0x0A02. -/
def execTwBindSend (s : State) : Host.Outcome State Fault Refusal :=
  let st := s.pairSt
  if s.portUp 16 = false ∨ (SMap.find s.quartz.hello 16).isNone ∨ s.bindsFirst = false ∨ ¬ (st = 0 ∨ st = 1 ∨ st = 5) then .next s
  else
    let s := if st = 0 then s.setPair 1 else s
    let since := s.twin.bindSince.getD s.now
    let late := decide (since + 100000000 ≤ s.now) && !s.twin.bindLogged
    let s := s.modTw (fun t => { t with bindSince := some since, bindLogged := t.bindLogged || late })
    let s := if late then s.logE 0x0A02 0xF011 2 [0] else s
    .next (s.twinReq .bind 0x22 0 0 0 0 0 (unit64 (leM 8 s.flint.serial ++ leM 2 s.ownId ++ leM 2 (s.rd F.QTZ_ID_ASSUMED)
      ++ leM 2 (s.rd F.AGT_STAT_OWN_INC) ++ leM 1 (decide (st = 5)).toNat ++ leM 1 (s.rd F.HBM_MIRROR_SIZE_GIB) ++ leM 2 (s.hbmCap / 2 ^ 30))))

/-- Copy every adopted range again from the start (R471): the first pass. -/
def State.resilverStart (s : State) : State :=
  let all := s.twin.adopts.flatMap (fun r => (List.range (r.len / 4096)).map (fun k => (r.at_ + 4096 * k) / 4096))
  let s := s.modTw (fun t => { t with todo := all, dirty := [], sentB := 0 })
  (s.wr F.AGT_RSV_PASS 1).wb F.AGT_RSV_CONVERGED false

/-- The adopted range that holds an address of the mirror region, and the lost module's address of it. -/
def State.adoptOrigin (s : State) (a : Nat) : Option Nat :=
  (s.twin.adopts.find? (fun r => decide (r.at_ ≤ a) && decide (a < r.at_ + r.len))).map (fun r => r.base + (a - r.at_))

/-- Send TW_RESTORE blocks while the mirror reserve has contexts (R471). -/
def State.restorePump : Nat → State → State
  | 0, s => s
  | k + 1, s => match s.twin.todo with
    | [] => s
    | b :: t =>
      if 4096 ≤ (s.ctxCnt ctxAgate).1 then s
      else
        let a := 4096 * b
        let s := s.modTw (fun x => { x with todo := t })
        match s.adoptOrigin a with
        | none => State.restorePump k s
        | some o =>
          let l := s.hbmReadRaw a 4096
          State.restorePump k (s.twinReq (.restore a 4096) 0x27 6 0 o (4096 * 2 ^ 17) (pmaskOf l) (plain l))

/-- Whether a TW_RESTORE is on its way. -/
def State.restoring (s : State) : Bool := s.twinOut (fun o => match o with | .restore _ _ => true | _ => false)

/-- The pair binds (R449): TWIN_OK, the twin watch armed, the partner's figures, a fresh directory but for adopted data, and a FULL epoch of every partition
with ranges; a survivor re-silvers its partner. -/
def State.pairBind (s : State) (serial id inc size : Nat) (peerSurvives : Bool) (assumed : Nat) : State :=
  let surv := decide (s.pairSt = 5)
  let s := { s with flint := { s.flint with twinArmed := true, window := none, beatSeen := true } }
  let s := (s.noteTwin.wb F.DEV_START_TWIN_OK true).wr F.FLT_STAT_TWIN_ST 0
  let s := (((s.wr F.AGT_PEER_SERIAL_SERIAL serial).wr F.AGT_STAT_PEER_ID id).wr F.AGT_STAT_PEER_INC inc).wr F.AGT_FOOT_PEER_SIZE size
  let s := s.modTw (fun t => { t with req := none, hostBind := false, bindSince := none, bindLogged := false, confirmed := none, rxB := 0,
                                      dir := if surv then t.dir else [], epochs := [], imgRun := false, imgPend := false })
  let s := if surv then s else
    (List.range 16).foldl (fun (s : State) p => (((s.wr F.AGT_DIR_LAST 0 p).wr F.AGT_DIR_BANK 0 p).wb F.AGT_DIR_TORN false p).wr F.AGT_DIR_RX_BYTES 0 p) s
  let s := s.setPair (if surv then 6 else if peerSurvives then 8 else 2)
  let s := s.logE 0x0A01 0xF011 1 [serial, s.pairSt]
  let s := if peerSurvives && decide (s.ownId ≠ 0xFFFF) && decide (s.ownId = assumed) then s.wb F.AGT_STAT_HELD true else s
  let s := (List.range 16).foldl (fun (s : State) p => if s.rangesOf p = [] then s else s.epAccept p true none) s
  let s := if surv then State.restorePump 4096 s.resilverStart else s
  s.startUp

/-- IDs that fit a pair (R366): members 2k and 2k + 1 of one region, when both are assigned. -/
def pairIds (a b : Nat) : Bool := decide (a = 0xFFFF) || decide (b = 0xFFFF) || (decide (a / 2 = b / 2) && decide (a ≠ b))

/-- The code with which a bind request is refused (R448); 0 when the pair may bind. -/
def State.bindCode (s : State) (q : BindReq) : Nat :=
  let st := s.pairSt
  let other := decide (st = 1) && (match s.twin.req with | some r => decide (r.serial ≠ q.serial) | none => false)
  if (decide (st ≠ 0 ∧ st ≠ 1 ∧ st ≠ 5)) || other then Code.busy 0x30
  else if pairIds s.ownId q.devid = false then Code.format 0x0A
  else if st = 5 then
    (if q.role = 0 ∧ (q.devid = 0xFFFF ∨ q.devid = s.rd F.QTZ_ID_ASSUMED) then 0 else Code.format 0x0A)
  else if q.role ≠ 0 then (if s.ownId = 0xFFFF ∨ s.ownId = q.assumed then 0 else Code.format 0x0A)
  else 0

/-- Answer a twin request on Agate. -/
def State.twinAnswer (s : State) (p : Pkt) (code : Nat) : State := s.answer p 16 code 0

/-- TW_BIND (R448, R449): refused, held with BUSY 0x38 while the host must release it, or bound. A request held again is a repeat. -/
def execTwBind (p : Pkt) (s : State) : Host.Outcome State Fault Refusal :=
  if p.opc ≠ 0x22 then .next s
  else .next (s.intake 16 p (fun s e =>
    let s := s.leave e
    let q : BindReq := ⟨p.num 0 8, p.num 8 2, p.num 10 2, p.num 12 2, p.num 14 1, p.num 15 1, p.num 16 2⟩
    let c := s.bindCode q
    if c ≠ 0 then (s.logE 0x0A02 0xF011 2 [c]).twinAnswer p c
    else if s.bit F.AGT_CFG_AUTO_BIND || s.twin.hostBind then
      (s.twinAnswer p 0).pairBind q.serial q.devid q.inc q.size (decide (q.role ≠ 0)) q.assumed
    else
      let s := if s.pairSt = 0 then s.setPair 1 else s
      (s.modTw (fun t => { t with req := some q, reqAt := s.now })).twinAnswer p (Code.busy 0x38)))

/-- BIND_TIMEOUT (R448): a receiver BINDING for 2 s without a repeat. -/
def execBindTimeout (s : State) : Host.Outcome State Fault Refusal :=
  if s.twin.req = none ∨ s.now < s.twin.reqAt + 2000000000 then .next s
  else
    let s := s.modTw (fun t => { t with req := none, hostBind := false })
    .next (if s.pairSt = 1 then s.setPair 0 else s)

/-- Refuse a command of AGT_CFG. -/
def State.agtRej (s : State) : State := s.wb F.AGT_CFG_REJ true

/-- BIND (R448): the host releases a held answer. -/
def State.bindCmd (s : State) : State := s.modTw (fun t => { t with hostBind := true })

/-- Both sides of an unbind (R450): pending epochs end with BUSY 0x31, a running one completes, then UNBOUND. -/
def State.unbindBoth (s : State) : State :=
  let s := (List.range 16).foldl (fun (s : State) p => match (s.epAt p).pend with
    | some o => (s.setEp p { s.epAt p with pend := none }).epTell p (Code.busy 0x31) 0 o.2
    | none => s) s
  (s.modTw (fun t => { t with unbinding := true })).afterEpochs

/-- UNBIND (R450): refused in SERVING_BOTH, RESILVER and HANDBACK; without a pair it changes nothing. -/
def State.unbindCmd (s : State) : State :=
  let st := s.pairSt
  if st = 5 ∨ st = 6 ∨ st = 7 then s.agtRej
  else if s.pairIsBound = false then s
  else (s.twinReq .unbind 0x25 0 0 0 0 0 []).unbindBoth

/-- RELEASE_PEER (R479). -/
def State.releaseCmd (s : State) : State := if s.pairIsBound then s.twinReq .release 0x24 0 0 0 0 0 [] else s.agtRej

/-- A Mica stream of a partition has frames in flight, or Jasper runs its batch: running commands (R549, R573). -/
def State.unitsRun (s : State) (p : Nat) : Bool :=
  s.mica.streams.any (fun e => decide (e.2.part = p)
      && (e.2.queue.any (fun q => match q with | .unit _ _ _ _ _ _ => true | _ => false) || e.2.frames.any (fun f => !f.refOnly)))
    || s.jasper.run.any (fun r => decide (r.b.part = p))

/-- Whether a partition has nothing that runs (R91, R473): no cluster of it runs, no unit works for it, none of its host commands waits; or Flint
holds it. -/
def State.partQuiet (s : State) (p : Nat) : Bool :=
  s.flag F.FLT_ALONE_QUIESCED p
    || (s.clu.all (fun e => !e.2.run || decide (s.cluPart e.1 ≠ some p)) && !s.unitsRun p && s.host.cmds.all (fun c => decide (c.part ≠ p)))

/-- YIELD (R473): FULL epochs of every partition with ranges, then the fence. Partitions must be quiet: BUSY 0x37. -/
def State.yieldCmd (s : State) : State × Nat :=
  if s.pairSt ≠ 2 ∨ s.twin.yielding then (s.agtRej, 0)
  else if (List.range 16).all (fun p => !s.partExists p || s.partQuiet p) = false then (s.agtRej, Code.busy 0x37)
  else
    let s := s.modTw (fun t => { t with yielding := true })
    ((List.range 16).foldl (fun (s : State) p => if s.rangesOf p = [] then s else s.epSubmit p true none) s |>.afterEpochs, 0)

/-- HANDBACK (R472, R480): the survivor fences X once the copy has converged. -/
def State.handbackCmd (s : State) : State :=
  if s.pairSt = 6 ∧ s.bit F.AGT_RSV_CONVERGED then (s.modTw (fun t => { t with fence := true, hb := 0 })).setPair 7 else s.agtRej

/-- BIND: by the host physical function. -/
def execAgtBind (src : Src) (s : State) : Host.Outcome State Fault Refusal := if src.host = .pf then .next s.bindCmd else .next (s.bump F.FLT_WR_REJ_COUNT)
/-- UNBIND: by the host physical function. -/
def execAgtUnbind (src : Src) (s : State) : Host.Outcome State Fault Refusal := if src.host = .pf then .next s.unbindCmd else .next (s.bump F.FLT_WR_REJ_COUNT)
/-- RELEASE_PEER: by the host physical function. -/
def execReleasePeer (src : Src) (s : State) : Host.Outcome State Fault Refusal := if src.host = .pf then .next s.releaseCmd else .next (s.bump F.FLT_WR_REJ_COUNT)
/-- YIELD: by the host physical function. -/
def execAgtYield (src : Src) (s : State) : Host.Outcome State Fault Refusal := if src.host = .pf then .next s.yieldCmd.1 else .next (s.bump F.FLT_WR_REJ_COUNT)
/-- HANDBACK: by the host physical function. -/
def execAgtHandback (src : Src) (s : State) : Host.Outcome State Fault Refusal := if src.host = .pf then .next s.handbackCmd else .next (s.bump F.FLT_WR_REJ_COUNT)

/-- TW_UNBIND (R450): answered, then as the sender. A module that would refuse UNBIND refuses it with BUSY 0x30 (DEDUCED, log 36). -/
def execTwUnbind (p : Pkt) (s : State) : Host.Outcome State Fault Refusal :=
  if p.opc ≠ 0x25 then .next s
  else .next (s.intake 16 p (fun s e =>
    let s := s.leave e
    let st := s.pairSt
    if st = 5 ∨ st = 6 ∨ st = 7 then s.twinAnswer p (Code.busy 0x30)
    else if s.pairIsBound then (s.twinAnswer p 0).unbindBoth else s.twinAnswer p 0))

/-- TW_RELEASE (R92, R479): the quiesced partitions resume. -/
def execTwRelease (p : Pkt) (s : State) : Host.Outcome State Fault Refusal :=
  if p.opc ≠ 0x24 then .next s else .next (s.intake 16 p (fun s e => ((s.leave e).aloneRelease 2).twinAnswer p 0))

/-- The partner's data of one partition. -/
def State.dirAt (s : State) (p : Nat) : DirSt := SMap.get s.twin.dir ⟨none, none, none⟩ p

/-- It replaced, with LAST and BANK: the newest epoch that a bank holds complete. -/
def State.setDir (s : State) (p : Nat) (d : DirSt) : State :=
  let s := s.modTw (fun t => { t with dir := SMap.set t.dir ⟨none, none, none⟩ p d })
  let l := max (d.bank0.getD 0) (d.bank1.getD 0)
  (s.wr F.AGT_DIR_LAST l p).wr F.AGT_DIR_BANK (decide (d.bank0 ≠ some l)).toNat p

/-- TW_EPOCH (R458 steps 2 and 5): OPEN invalidates the bank and with FULL marks STATIC torn; CLOSE compares the bytes and completes the bank. -/
def execTwEpoch (p : Pkt) (s : State) : Host.Outcome State Fault Refusal :=
  if p.opc ≠ 0x23 then .next s
  else .next (s.intake 16 p (fun s e =>
    let s := s.leave e
    let q := p.num 0 1 % 16
    let n := p.num 4 4
    let d := s.dirAt q
    let setBank (d : DirSt) (x : Option Nat) : DirSt := if n % 2 = 0 then { d with bank0 := x } else { d with bank1 := x }
    if bitAt p.aux 0 = false then
      let s := (s.setDir q { setBank d none with openN := some (n, bitAt p.aux 1) }).wr F.AGT_DIR_RX_BYTES 0 q
      (if bitAt p.aux 1 then s.wb F.AGT_DIR_TORN true q else s).twinAnswer p 0
    else match d.openN with
      | some (m, full) =>
        if m = n ∧ s.rd F.AGT_DIR_RX_BYTES q = p.num 8 8 then
          let s := s.setDir q { setBank d (some n) with openN := none }
          (if full then s.wb F.AGT_DIR_TORN false q else s).twinAnswer p 0
        else (s.setDir q { d with openN := none }).twinAnswer p (Code.size 2)
      | none => s.twinAnswer p (Code.size 2)))

/-- MIR_WR (R250, R350, R458): stored in the mirror region, directly, and counted for the open epoch; PMASK makes no code. Beyond the region: ADDR 0x01
(DEDUCED, log 37). -/
def execMirWr (p : Pkt) (s : State) : Host.Outcome State Fault Refusal :=
  if p.opc ≠ 0x20 then .next s
  else .next (s.intake 16 p (fun s e =>
    let s := s.leave e
    if s.rd F.HBM_MIRROR_SIZE_GIB * 2 ^ 30 < p.addr + p.bytes then s.twinAnswer p (Code.addr 1)
    else
      let r := s.hbmWriteRaw (s.mirrorBase + p.addr) p.marked
      let open_ := match (s.dirAt p.part).openN with | some (n, _) => decide (n % 65536 = p.code) | none => false
      let s := if open_ then r.1.wr F.AGT_DIR_RX_BYTES (r.1.rd F.AGT_DIR_RX_BYTES p.part + p.bytes) p.part else r.1
      s.twinAnswer p r.2))

/-- Write the table image to the older slot (R456): a 64-byte header with the sequence, then contents whose layout the spec leaves open: free bytes. Blocks of
4 KiB, as many as a free length takes (log 38). -/
def State.imageSend (s : State) : State :=
  let q := s.twin.imgSeq + 1
  let n := 1 + Config.freeNat s.free % 256
  let base := q % 2 * 2 ^ 20
  let s := s.modTw (fun t => { t with imgSeq := q, imgRun := true, imgPend := false })
  ((List.range n).foldl (fun (s : State) k =>
    let body := (List.range 4096).map (fun i => Config.freeByte (4096 * (s.free + k) + i))
    let l := if k = 0 then plain (leM 8 q) ++ body.drop 8 else body
    s.twinReq (.mirror 16 q (base + 4096 * k) 4096) 0x20 6 0 (base + 4096 * k) (4096 * 2 ^ 17) 0 l) s).drawn

/-- TABLE_IMAGE_WRITE (R456): one image write runs and at most one is pending. -/
def execTableImageWrite (s : State) : Host.Outcome State Fault Refusal :=
  let st := s.pairSt
  if ¬ (st = 2 ∨ st = 6 ∨ st = 8) then .next s
  else if s.twin.imgRun then .next (s.modTw (fun t => { t with imgPend := true })) else .next s.imageSend

/-- Flood a packet of ID_MOVED or ID_RETURN on the UP Esyel ports but one (R378). -/
def State.floodOut (s : State) (p : Pkt) (skip : Nat) : State :=
  (List.range 16).foldl (fun (s : State) n => if s.portUp n && decide (n ≠ skip) then s.enqueue n { pkt := p, src := 31, at_ := s.now } else s) s

/-- Originate a flood for ID x, now answered for by this device (R378, R465, R472). -/
def State.flood (s : State) (opc x : Nat) : State :=
  let q := s.quartz.floodSeq + 1
  let s := s.modQ (fun t => { t with floodSeq := q, floods := ((s.ownId, q) :: t.floods).take 64 })
  s.floodOut (s.mkPkt opc 7 0 0xFFFF 0 0 0 (unit64 (leM 2 x ++ leM 2 s.ownId ++ leM 4 q))) 31

/-- Assume the partner's identity (R465): ASSUMED, the newest good image slot, one flood, a trap, the event, SERVING_BOTH; quiescence that waited for the
takeover follows (R113). -/
def State.assume (s : State) (img0 img1 : Bool) : State :=
  let x := s.rd F.AGT_STAT_PEER_ID
  let seq (k : Nat) : Nat := numL (s.hbmReadRaw (s.mirrorBase + k * 2 ^ 20) 8)
  let slot := if img0 && (!img1 || decide (seq 1 ≤ seq 0)) then 0 else 1
  let dt := s.now - s.twin.confirmed.getD s.now
  let s := (s.wr F.QTZ_ID_ASSUMED x).wb F.AGT_STAT_IMG_OK (img0 || img1)
  let s := s.modTw (fun t => { t with imgSlot := slot, confirmed := none })
  let s := if x = 0xFFFF then s else s.flood 0x36 x
  let s := ((s.logE 0x0A04 0xF011 3 [x, dt]).trap 0x0A04 0xF011 [x, dt]).setPair 5
  if s.bit F.FLT_ALONE_ACTIVE then s.quiesceAll else s

/-- TAKEOVER_PROBE (R464): with TWIN_HB_I SILENT, an MG_REQ for X's QTZ_ID every 2 ms, ten in 20 ms, routed by the tables. -/
def execTakeoverProbe (s : State) : Host.Outcome State Fault Refusal :=
  if s.pairSt ≠ 4 ∨ s.twin.confirmDown = true ∨ 10 ≤ s.twin.probes then .next s
  else
    let x := s.rd F.AGT_STAT_PEER_ID
    let i := s.twin.probes
    let s := s.modTw (fun t => { t with probes := i + 1 })
    .next (s.sendPlain (s.mkPkt 0x30 7 0 x 0 0 0
      (unit64 (leM 4 (s.rd F.QTZ_MGMT_MKEY) ++ leM 2 (0xFF00 + i) ++ leM 1 1 ++ leM 1 1 ++ leM 8 F.QTZ_ID_DEVID.addr))))

/-- The probe was answered (R464): the takeover is abandoned. -/
def State.takeoverAbandon (s : State) : State :=
  ((((s.wb F.AGT_STAT_LINK_FAULT true).modTw (fun t => { t with confirmed := none })).logE 0x0A05 0xF011 3 []).trap 0x0A05 0xF011 []).setPair 2

/-- TAKEOVER_ASSUME (R464, R465): after 20 ms of probes without an answer, or at once when the partner's Flint had said DOWN. The operands say which image slots
have a good CRC. -/
def execTakeoverAssume (img0 img1 : Bool) (s : State) : Host.Outcome State Fault Refusal :=
  if s.pairSt = 4 ∧ (s.twin.confirmDown = true ∨ 10 ≤ s.twin.probes) then .next (s.assume img0 img1) else .next s

/-- The code of an adoption (R467). -/
def State.adoptCode (s : State) (p : Nat) (rs : List MirRange) : Nat :=
  let d := s.dirAt p
  if s.pairSt ≠ 5 then Code.busy 0x30
  else if s.partExists p = false then Code.format 0x10
  else if d.bank0 = none ∧ d.bank1 = none then Code.busy 0x35
  else if s.bit F.AGT_DIR_TORN p ∧ rs.any (fun r => !r.epoch) then Code.busy 0x36
  else 0

/-- Adopt partition p of the lost module (R467, R482): the bank of its last complete epoch, and STATIC unless torn, served at X's addresses. How the survivor
knows the ranges of X is not stated: they come with the command (log 39). -/
def State.adoptPart (s : State) (p : Nat) (rs : List MirRange) : State :=
  let c := s.adoptCode p rs
  let n := s.rd F.AGT_DIR_LAST p
  let s := s.wr F.AGT_ADOPT_CODE c
  if c = 0 ∨ c = Code.busy 0x36 then
    let use := rs.filter (fun r => r.epoch || decide (c = 0))
    let bank := s.rd F.AGT_DIR_BANK p
    let at_ (r : MirRange) : Nat := s.mirrorBase + r.moff + (if r.epoch then bank * r.len else 0)
    let s := s.modTw (fun t => { t with adopts := t.adopts ++ use.map (fun r => ⟨p, r.base, r.len, at_ r⟩),
                                        dir := SMap.set t.dir ⟨none, none, none⟩ p ⟨none, none, none⟩ })
    (((s.wr F.AGT_ADOPT_EPOCH n).wb F.AGT_DIR_ADOPTED true p).logE 0x0A06 0xF011 2 [p, n, c])
  else s.logE 0x0A06 0xF011 2 [p, n, c]

/-- AGT_ADOPT (R467): PART and GO by the host physical function. -/
def execAgtAdopt (src : Src) (part : Part) (rs : List MirRange) (s : State) : Host.Outcome State Fault Refusal :=
  if src.host ≠ .pf then .next (s.bump F.FLT_WR_REJ_COUNT) else .next ((s.wr F.AGT_ADOPT_PART part).adoptPart part rs)

/-- TW_RESTORE (R350, R451, R471): a block at X's original address, in REPLACEMENT only. -/
def execTwRestore (p : Pkt) (s : State) : Host.Outcome State Fault Refusal :=
  if p.opc ≠ 0x27 then .next s
  else .next (s.intake 16 p (fun s e =>
    let s := s.leave e
    if s.pairSt ≠ 8 then s.twinAnswer p (Code.perm 7)
    else if p.addr < hbmBase ∨ hbmBase + s.hbmCap < p.addr + p.bytes then s.twinAnswer p (Code.addr 1)
    else
      let r := s.hbmWrite none false p.addr p.marked
      (r.1.modTw (fun t => { t with rxB := t.rxB + p.bytes })).twinAnswer p r.2))

/-- The re-silver ends with a code (R471): event 0x0A07 with the code and the passes. -/
def State.resilverEnd (s : State) (code : Nat) : State :=
  (s.wr F.AGT_RSV_CODE code).logE 0x0A07 0xF011 2 [code, s.rd F.AGT_RSV_PASS]

/-- RESILVER_PASS_END (R471): converged at DIRTY_LIM granules or after PASS_MAX passes; else the next pass copies the dirty granules. -/
def execResilverPassEnd (s : State) : Host.Outcome State Fault Refusal :=
  if s.pairSt ≠ 6 ∨ s.twin.todo ≠ [] ∨ s.restoring = true ∨ s.bit F.AGT_RSV_CONVERGED = true then .next s
  else
    let d := s.twin.dirty
    let s := s.wr F.AGT_RSV_DIRTY (satAt 16 d.length)
    if d.length ≤ s.rd F.AGT_CFG_DIRTY_LIM ∨ s.rd F.AGT_CFG_PASS_MAX ≤ s.rd F.AGT_RSV_PASS then
      .next ((s.wb F.AGT_RSV_CONVERGED true).resilverEnd 0)
    else
      let s := s.modTw (fun t => { t with todo := d.flatMap (fun e => (List.range 16).map (fun k => 16 * e.1 + k)), dirty := [] })
      .next (State.restorePump 4096 (s.wr F.AGT_RSV_PASS (s.rd F.AGT_RSV_PASS + 1)))

/-- When the copy of the dirty granules is answered, TW_HANDBACK goes out (R472 step 3, R473). -/
def State.handbackStep (s : State) : State :=
  if s.pairSt = 7 ∧ s.twin.hb = 1 ∧ s.twin.todo = [] ∧ s.restoring = false then
    let y := s.twin.yielding
    let x := if y then s.ownId else s.rd F.QTZ_ID_ASSUMED
    (s.modTw (fun t => { t with hb := 2 })).twinReq .handback 0x26 0 0 0 0 0
      (unit64 (leM 2 x ++ leM 1 y.toNat ++ leM 5 0 ++ leM 8 s.twin.sentB))
  else s

/-- HANDBACK_DRAIN_DONE (R472 steps 2 and 3): the remaining dirty granules are copied and TW_HANDBACK is sent. -/
def execHandbackDrainDone (s : State) : Host.Outcome State Fault Refusal :=
  if s.pairSt ≠ 7 ∨ s.twin.hb ≠ 0 then .next s
  else
    let d := s.twin.dirty
    let s := s.modTw (fun t => { t with todo := t.todo ++ d.flatMap (fun e => (List.range 16).map (fun k => 16 * e.1 + k)), dirty := [], hb := 1 })
    .next (State.restorePump 4096 s).handbackStep

/-- TW_HANDBACK (R472 step 4, R473): on a handback the replacement compares the bytes, clears HELD and floods ID_RETURN; on a yield the partner assumes the
identity at once and its watch is disarmed. In any other state: BUSY 0x30. No image slot is known good on a yield. -/
def execTwHandback (p : Pkt) (s : State) : Host.Outcome State Fault Refusal :=
  if p.opc ≠ 0x26 then .next s
  else .next (s.intake 16 p (fun s e =>
    let s := s.leave e
    let x := p.num 0 2
    if p.num 2 1 = 0 then
      if s.pairSt ≠ 8 ∨ s.bit F.AGT_STAT_HELD = false ∨ x ≠ s.ownId then s.twinAnswer p (Code.busy 0x30)
      else if p.num 8 8 ≠ s.twin.rxB then (s.modTw (fun t => { t with rxB := 0 })).twinAnswer p (Code.size 3)
      else (((((s.wb F.AGT_STAT_HELD false).twinAnswer p 0).flood 0x37 x).logE 0x0A08 0xF011 2 [x]).setPair 2)
    else if s.pairSt ≠ 2 then s.twinAnswer p (Code.busy 0x30)
    else
      let s := s.twinAnswer p 0
      let s := { s with flint := { s.flint with twinArmed := false, window := none } }
      ((s.noteTwin.modTw (fun t => { t with confirmed := none })).logE 0x0A08 0xF011 2 [x]).assume false false))

/-- A request to bind is answered (R448, R449): code 0 binds; BUSY 0x38 is no answer; any other is a refusal. The partner's mirror size does not come with the
answer: a free value (log 35). Whether the partner survives is what its last beat said. -/
def State.bindAnswered (s : State) (code : Nat) : State :=
  let st := s.pairSt
  if ¬ (st = 0 ∨ st = 1 ∨ st = 5) then s
  else if code = 0 then
    let b := s.twin.beat
    (s.drawn).pairBind (s.rd F.QTZ_NBR_SERIAL 16) (s.rd F.QTZ_NBR_NID 16) (bitsAt b 32 16) (Config.freeNat s.free % 64)
      (decide (bitsAt b 48 4 = 5)) (bitsAt b 16 16)
  else if code = Code.busy 0x38 then s
  else (s.logE 0x0A02 0xF011 2 [code]).modTw (fun t => { t with bindSince := none, bindLogged := false })

/-- TW_HANDBACK is answered (R472 step 5, R473): the survivor gives X up and both are BOUND; a yielding module drops its ID and holds itself in module reset,
whose cause has no code: a free value (log 40). A refusal ends the fence, and a new pass starts. -/
def State.handbackAnswered (s : State) (code : Nat) : State :=
  if s.pairSt ≠ 7 then s
  else if s.twin.yielding then
    if code = 0 then
      let x := s.ownId
      let s := ((s.wr F.QTZ_ID_DEVID 0xFFFF).wb F.QTZ_ID_ID_OK false).wb F.DEV_START_ID_OK false
      let s := s.modTw (fun t => { t with fence := false, yielding := false, hb := 0 })
      let s := { s with flint := { s.flint with twinArmed := false, window := none } }
      ((s.noteTwin.logE 0x0A08 0xF011 2 [x]).setPair 9).drawn.moduleReset (Config.freeNat s.free % 16)
    else ((s.modTw (fun t => { t with fence := false, yielding := false, hb := 0 })).setPair 2).wr F.AGT_RSV_CODE code
  else if code = 0 then
    let x := s.rd F.QTZ_ID_ASSUMED
    let s := (s.wr F.QTZ_ID_ASSUMED 0xFFFF).modTw (fun t => { t with fence := false, hb := 0, adopts := [], dir := [], dirty := [], todo := [] })
    let s := (List.range 16).foldl (fun (s : State) p => ((((s.wr F.AGT_DIR_LAST 0 p).wr F.AGT_DIR_BANK 0 p).wb F.AGT_DIR_TORN false p).wr
      F.AGT_DIR_RX_BYTES 0 p).wb F.AGT_DIR_ADOPTED false p) s
    (((s.wr F.AGT_RSV_CODE 0).wb F.AGT_STAT_IMG_OK false).logE 0x0A08 0xF011 2 [x]).setPair 2
  else
    let s := ((s.modTw (fun t => { t with fence := false, hb := 0 })).setPair 6).wr F.AGT_RSV_CODE code
    State.restorePump 4096 s.resilverStart

/-- A TW_RESTORE is answered (R471): a refusal ends the re-silver, and the survivor serves both. -/
def State.restoreAnswered (s : State) (bytes code : Nat) : State :=
  if code = 0 then (State.restorePump 4096 (s.modTw (fun t => { t with sentB := t.sentB + bytes }))).handbackStep
  else if s.pairSt = 6 ∨ s.pairSt = 7 then
    ((s.modTw (fun t => { t with todo := [], fence := false, hb := 0 })).setPair 5).resilverEnd code
  else s

/-- A block of an epoch or of the table image is answered (R456, R458). -/
def State.mirrorAnswered (s : State) (p n bytes code : Nat) : State :=
  if p = 16 then
    if s.twinOut (fun o => match o with | .mirror q _ _ _ => decide (q = 16) | _ => false) then s
    else
      let s := s.modTw (fun t => { t with imgRun := false })
      if s.twin.imgPend then s.imageSend else s
  else match (s.epAt p).run with
    | none => s
    | some e =>
      if e.n ≠ n then s
      else
        let e := { e with outB := e.outB - bytes, ackB := if code = 0 then e.ackB + bytes else e.ackB,
                          code := if e.code = 0 then code else e.code, left := if code = 0 then e.left else [] }
        (State.epochPump p 4096 (s.setEp p { s.epAt p with run := some e })).epStep p

/-- OPEN or CLOSE is answered (R458). -/
def State.epochAnswered (s : State) (p n : Nat) (close : Bool) (code : Nat) : State :=
  match (s.epAt p).run with
  | none => s
  | some e =>
    if e.n ≠ n then s
    else if close then s.epEnd p code
    else
      let e := { e with opened := true, code := if e.code = 0 then code else e.code, left := if code = 0 then e.left else [] }
      (s.setEp p { s.epAt p with run := some e }).epStep p

end Sys2Proof.Machine
end

