-- ==== Sys2Proof/Machine/PartReset.lean ====
section
/-! DEFINITION. Machine/PartReset.lean: the partition reset and the quiescence of partitions (R91, R132, R133, R135, R141, R142, R152 to R154, R194,
R273, R392, R477, R514, R550, R572). -/

namespace Sys2Proof.Machine

/-- The fields of a list that hold their reset value again, where a test of field and instance says so. -/
def State.clearRegs (s : State) (sel : Fld → Nat → Nat → Bool) : State :=
  { s with regs := s.regs.filter (fun e => !(allFields.any (fun f => match f.inst e.1 with | some (i, j) => sel f i j | none => false))) }

/-- The clusters of a partition. -/
def State.clusOf (s : State) (p : Nat) : List Nat := (List.range 256).filter (fun c => decide (s.cluPart c = some p))

/-- Whether a partition's reset gives a field instance its reset value (the P column of the register tables): p's own registers, those of its clusters and
islands, ENABLE of its rings. -/
def State.partField (s : State) (p : Nat) (f : Fld) (i : Nat) : Bool :=
  bitAt f.kinds 1 && (match f.ix with
    | .part => decide (i = p)
    | .clu => decide (s.cluPart i = some p)
    | .isl => decide (s.islPart i = some p)
    | .ring => decide (s.rd F.HST_RING_OWNER i = p)
    | _ => false)

/-- A sequencer is cleared as a reset of its cluster clears it (R133, R161). -/
def State.cluClear (s : State) (c : Nat) : State := (s.launchLeave c).setCl c ClusterSt.init

/-- Whether a host command belongs to a partition: of its rings, or for it from a ring of the physical function. -/
def State.cmdOf (s : State) (p : Nat) (c : HostCmd) : Bool := decide (s.rd F.HST_RING_OWNER c.ring = p) || (decide (c.part = p) && !admin c.opc)

/-- A partition's host commands go without completion, with their copies and launches; its rings are empty (R133, R514). -/
def State.partCmdsGone (s : State) (p : Nat) : State :=
  let gone := (s.host.cmds.filter (s.cmdOf p)).map HostCmd.id
  let h := s.host
  let s := { s with host := { h with cmds := h.cmds.filter (fun c => !gone.contains c.id), copies := h.copies.filter (fun c => !gone.contains c.id),
                                     launches := h.launches.filter (fun c => !gone.contains c.id),
                                     rings := h.rings.filter (fun e => decide (s.rd F.HST_RING_OWNER e.1 ≠ p)) } }
  (List.range 256).foldl (fun (s : State) r =>
    if s.rd F.HST_RING_OWNER r = p then s.wr F.HST_RING_SQ_HEAD (s.rd F.HST_RING_SQ_TAIL r) r else s) s

/-- The contexts of a partition that await a response become orphans, to be freed after 100 ms; requests that wait for quota go (R135, R392). The
mirror's requests are the pair's own (R477). -/
def State.orphanPart (s : State) (p : Nat) : State :=
  s.modQ (fun q => { q with ctx := q.ctx.map (fun e => if e.2.part = p then (e.1, { e.2 with orphan := true, since := s.now, retry := none }) else e),
                            qwait := q.qwait.filter (fun w => decide (w.part ≠ p)),
                            sigs := q.sigs.filter (fun m => decide (s.cluPart m.src ≠ some p)) })

/-- The slices of a partition: LOCAL lines dropped without write-back, REMOTE lines dropped, scratch zeroed (R133). -/
def State.partSlices (s : State) (p : Nat) : State :=
  let own := s.slicesAll p
  let s := s.slate.lines.foldl (fun (s : State) e => if own.contains e.2.slice then s.dropLine (128 * e.1) else s) s
  let s := s.modSl (fun t => { t.dropRemote (fun sl _ => own.contains sl) with fills := t.fills.filter (fun f => !own.contains f.slice),
                                                                               waits := t.waits.filter (fun w => !own.contains w.slice) })
  own.foldl (fun (s : State) k => if (SMap.get s.slate.slices (0, 0) k).1 = 3 then s.zeroMem (0x100000000 + k * 0x4000000) 0x4000000 else s) s

/-- A partition's region operations and assignment changes go without status (R273). A host command that waits for a change completes with BUSY 0x41;
the spec gives it no code. DESIGN CHOICE (log 48). -/
def State.partRegion (s : State) (p : Nat) : State :=
  let x := s.asgAt p
  let cmds := ((x.run.toList ++ x.pend.toList).filterMap AsgOne.cmd)
  let s := x.slices.foldl (fun (s : State) k => s.wb F.SLT_SLICE_BUSY false k) s
  let s := (List.range 16).foldl (fun (s : State) q => if q ≠ p ∧ x.run.isSome = true ∧ (s.asgAt q).run = x.run
    then s.setAsg q { s.asgAt q with run := none, slices := [] } else s) s
  let s := (s.setAsg p ⟨none, [], none⟩).modSl (fun t => { t with rgn := t.rgn.filter (fun e => decide (e.1 / 8 ≠ p)) })
  cmds.foldl (fun (s : State) i => s.cmdDoneId i (Code.busy 0x41) 0) s

/-- The work of a partition reset (R133, R135). -/
def State.partClear (s : State) (p : Nat) : State :=
  let clus := s.clusOf p
  let s := s.clxPartGone p
  let s := clus.foldl (fun (s : State) c => s.clxMemberGone c) s
  let s := ((s.partRegion p).partSlices p).partCmdsGone p
  let s := ((s.orphanPart p).micaPartReset p).jasperPartReset p
  let s := s.clearRegs (fun f i _ => s.partField p f i)
  let s := clus.foldl (fun (s : State) c => (s.cluClear c).zeroMem (sramAt c 0) 0x400000) s
  let s := s.setEp p { s.epAt p with pend := none }
  let n := s.ctxCnt p
  let s := s.modQ (fun q => { q with cnt := SMap.set q.cnt (0, 0, 0) p (n.1, n.1, 0) })
  let s := s.wr F.ISL_PSTATE_PART (putBits (s.rd F.ISL_PSTATE_PART) (2 * p) 2 1)
  ((s.wflag F.FLT_ALONE_QUIESCED p false).requestAll.msi (p + 1) 31).clxGo

/-- A partition reset starts (R135, R152, R153): discarded before HOST_READY, absorbed while it runs or a module reset is due. -/
def State.partReset (s : State) (p : Nat) : State :=
  if s.flag F.DEV_RST_PART_BUSY p ∨ s.start.rstPend.isSome = true ∨ s.start.rstOn = true then s
  else (s.partClear p).wflag F.DEV_RST_PART_BUSY p true

/-- PART_GO (R141, R153): of the host physical function; a partition that does not exist, or a time before HOST_READY, sets REJ. -/
def State.partGo (s : State) (src : Src) (p : Nat) : State :=
  if src ≠ .pf then s.rstReject
  else if s.partExists p = false ∨ s.stage < 6 then s.wb F.DEV_RST_REJ true
  else s.partReset p

/-- PART_GO. -/
def execPartGo (p : Part) (src : Src) (s : State) : Host.Outcome State Fault Refusal := .next (s.partGo src.host p)

/-- FLR_VF (R142): a Function Level Reset of the virtual function is a reset of its partition. -/
def execFlrVf (p : Part) (s : State) : Host.Outcome State Fault Refusal :=
  if s.partExists p = false ∨ s.stage < 6 then .next s else .next (s.partReset p)

/-- PARTITION_RESET_DONE (R135, R158). -/
def execPartitionResetDone (p : Part) (s : State) : Host.Outcome State Fault Refusal :=
  if s.flag F.DEV_RST_PART_BUSY p = false then .next s
  else .next ((s.wflag F.DEV_RST_PART_BUSY p false).logE 0x0503 (0xF100 + p) 1 [p])

/-- ORPHAN_CONTEXT_EXPIRY (R135): 100 ms after the reset, a context of the partition is free again. -/
def execOrphanContextExpiry (i : Fin 131072) (s : State) : Host.Outcome State Fault Refusal :=
  match SMap.find s.quartz.ctx i with
  | some c => if c.orphan = true ∧ c.since + 100000000 ≤ s.now then .next (s.freeCtxAt i c) else .next s
  | none => .next s

/-- PARTITION_QUIESCED (R91): a partition asked to quiesce is at an epoch boundary, if it has mirror epochs, or its commands have completed; Flint
holds it. -/
def execPartitionQuiesced (p : Part) (s : State) : Host.Outcome State Fault Refusal :=
  if bitAt s.flint.quiesceReq p = true ∧ s.flag F.FLT_ALONE_QUIESCED p = false
    ∧ ((s.rangesOf p ≠ [] ∧ (s.epAt p).run.isNone = true) ∨ s.partQuiet p = true) then .next (s.wflag F.FLT_ALONE_QUIESCED p true)
  else .next s

end Sys2Proof.Machine
end

