-- ==== Sys2Proof/Machine/HostRing.lean ====
section
/-! DEFINITION. Machine/HostRing.lean: the host port's link, rings, doorbells, fetching of submission entries, the apertures (R483 to R490, R500 to
R504, R510 to R518). -/

namespace Sys2Proof.Machine

/-- BAR accesses are served: the link is up and the stage is at least HOST_READY (R122, R125). -/
def State.barServed (s : State) : Bool := s.bit F.HST_STAT_LINK_UP && decide (6 ≤ s.stage)

/-- A ring's ERR. -/
def State.ringErr (s : State) (r : Nat) : State := s.wb F.HST_RING_ERR true r

/-- A function may ring a ring's doorbells (R487): the physical function any, a virtual function those its partition owns. -/
def State.mayRing (s : State) (src : Src) (r : Nat) : Bool := match src with
  | .pf => true
  | .vf p => decide (s.rd F.HST_RING_OWNER r = p) && s.partExists p
  | _ => false

/-- SQ_DOORBELL (R487, R501). -/
def execSqDoorbell (src : Src) (r : Fin 256) (v : BitVec 32) (s : State) : Host.Outcome State Fault Refusal :=
  let r := (r : Nat)
  if s.barServed = false then .next s
  else if s.mayRing src.host r = false then .next (s.bump F.FLT_WR_REJ_COUNT)
  else if s.bit F.HST_RING_ENABLE r = false ∨ s.ringSize r ≤ v.toNat then .next (s.ringErr r)
  else .next (s.wr F.HST_RING_SQ_TAIL v.toNat r)

/-- CQ_DOORBELL (R487, R501, R503): the new head frees completion entries, and those that waited are written; a head beyond the tail is discarded. -/
def execCqDoorbell (src : Src) (r : Fin 256) (v : BitVec 32) (s : State) : Host.Outcome State Fault Refusal :=
  let r := (r : Nat)
  let n := s.ringSize r
  let h := (s.ringSt r).cqHead
  if s.barServed = false then .next s
  else if s.mayRing src.host r = false then .next (s.bump F.FLT_WR_REJ_COUNT)
  else if s.bit F.HST_RING_ENABLE r = false ∨ n ≤ v.toNat ∨ (s.rd F.HST_RING_CQ_TAIL r + n - h) % n < (v.toNat + n - h) % n then .next (s.ringErr r)
  else .next (State.cqDrain (s.ringSt r).waiting.length (s.setRing r { s.ringSt r with cqHead := v.toNat }) r)

/-- MSIX_TIMER (R504): the oldest entry not yet signalled has waited TIME_US. -/
def execMsixTimer (r : Fin 256) (s : State) : Host.Outcome State Fault Refusal :=
  let x := s.ringSt r
  if x.unsig ≠ 0 ∧ x.since + 1000 * s.rd F.HST_RING_TIME_US r ≤ s.now ∧ s.ringLive r = true then .next (s.ringSignal r) else .next s

/-- The EXPERT_EN that WEIGHT above 1 needs (R513). -/
def State.ringExpert (s : State) (owner : Nat) : Bool := if owner < 16 then s.bit F.HST_PART_CTL_EXPERT_EN owner else s.bit F.FLT_EXPERT_EN_EN

/-- A write of HST_RING_CFG (R500, R513, R694): while ENABLE is 1 it is discarded and sets ERR, as is one with SIZE_LOG2 outside 4 to 16 or another field
outside its range. WEIGHT above 1 without the enable leaves WEIGHT as it is and sets ERR. ENABLE sets every index to 0 and PHASE to 1. DEDUCED (log
49). -/
def State.ringCfgWrite (s : State) (src : Src) (size v r : Nat) : State :=
  if src ≠ .pf then s.bump F.FLT_WR_REJ_COUNT
  else if s.bit F.HST_RING_ENABLE r then s.ringErr r
  else
    let a := F.HST_RING_ENABLE.regAddr r 0
    let t := (writeFields s .pf size a v).1
    let own := t.rd F.HST_RING_OWNER r
    let w := newBits size a F.HST_RING_WEIGHT (s.rd F.HST_RING_WEIGHT r) v
    let wOk := !covers size a F.HST_RING_WEIGHT || decide (w ≤ 1) || s.ringExpert own
    let t := if covers size a F.HST_RING_WEIGHT && wOk then t.wr F.HST_RING_WEIGHT w r else t.wr F.HST_RING_WEIGHT (s.rd F.HST_RING_WEIGHT r) r
    let z := t.rd F.HST_RING_SIZE_LOG2 r
    if z < 4 ∨ 16 < z ∨ (15 < own ∧ own ≠ 31) ∨ t.rd F.HST_RING_CNT_TH r = 0 ∨ t.rd F.HST_RING_WEIGHT r = 0
      ∨ (if own = 31 then 255 else 30) < t.rd F.HST_RING_VEC r then s.ringErr r
    else
      let t := if wOk then t else t.ringErr r
      if t.bit F.HST_RING_ENABLE r then
        ((((t.wr F.HST_RING_SQ_HEAD 0 r).wr F.HST_RING_SQ_TAIL 0 r).wr F.HST_RING_CQ_TAIL 0 r).wr F.HST_RING_PHASE 1 r).setRing r RingSt.init
      else t

/-- HST_RING_CFG_WRITE: an 8-byte write. -/
def execHstRingCfgWrite (r : Fin 256) (src : Src) (v : BitVec 64) (s : State) : Host.Outcome State Fault Refusal := .next (s.ringCfgWrite src.host 8 v.toNat r)

/-- A write of HST_PART_CTL (R494): EXPERT_EN and APER_BASE, by the host physical function only. -/
def State.partCtlWrite (s : State) (src : Src) (size a v : Nat) : State :=
  if src ≠ .pf then s.bump F.FLT_WR_REJ_COUNT else (writeFields s .pf size a v).1

/-- HST_PART_CTL_WRITE: an 8-byte write. -/
def execHstPartCtlWrite (p : Part) (src : Src) (v : BitVec 64) (s : State) : Host.Outcome State Fault Refusal :=
  .next (s.partCtlWrite src.host 8 (F.HST_PART_CTL_EXPERT_EN.regAddr p 0) v.toNat)

/-- The address of an aperture access and its requester (R486, R488); none where the function has no such aperture. -/
def State.aperAt (s : State) (src : Src) (off n : Nat) : Option (Nat × Option Nat) := match src with
  | .pf => if off + n ≤ 64 * 2 ^ 30 then some (s.rd F.HST_APER_PF_BASE * 2 ^ 30 + off, none) else none
  | .vf p => if off + n ≤ 16 * 2 ^ 30 ∧ s.partExists p = true then some (s.rd F.HST_PART_CTL_APER_BASE p * 2 ^ 30 + off, some p) else none
  | _ => none

/-- The result of an aperture access: 1 data, 2 Unsupported Request, 3 a poisoned completion. -/
def State.aperSet (s : State) (st : Nat) (l : List Byte) : State := { s with host := { s.host with aper := (st, l) } }

/-- An Unsupported Request, counted (R488). -/
def State.aperRej (s : State) : State := (s.bump F.HST_STAT_APER_REJ).aperSet 2 []

/-- The own device ID's fabric address of a local address. -/
def State.localAddr (a : Nat) : Nat := 0xFFFE * 2 ^ 48 + a

/-- APERTURE_READ (R488). -/
def execApertureRead (src : Src) (off n : Nat) (s : State) : Host.Outcome State Fault Refusal :=
  if s.barServed = false then .next s
  else match s.aperAt src off n with
    | none => .next s.aperRej
    | some (a, part) =>
      if State.spanCode 1024 s part false a n ≠ 0 then .next s.aperRej
      else
        let r := s.readSpan part false (State.localAddr a) n
        if r.2.1 ≠ 0 then .next r.1.aperRej else .next (r.1.aperSet (if anyPsn r.2.2 then 3 else 1) (plain r.2.2))

/-- APERTURE_WRITE (R488): a refused write is discarded; poisoned words are written as poisoned. -/
def execApertureWrite (src : Src) (off : Nat) (d : List (Byte × Bool)) (s : State) : Host.Outcome State Fault Refusal :=
  if s.barServed = false then .next s
  else match s.aperAt src off d.length with
    | none => .next (s.bump F.HST_STAT_APER_REJ)
    | some (a, part) =>
      if State.spanCode 1024 s part true a d.length ≠ 0 then .next (s.bump F.HST_STAT_APER_REJ)
      else .next (s.writeSpan part false (State.localAddr a) d).1

/-- Every ring has ENABLE 0, and what waited is lost (R510, R511). -/
def State.ringsOff (s : State) : State :=
  (List.range 256).foldl (fun (s : State) r =>
    let s := s.bump F.HST_STAT_CQ_LOST (s.ringSt r).waiting.length
    (s.setRing r { s.ringSt r with waiting := [], unsig := 0 }).wb F.HST_RING_ENABLE false r) s

/-- Copies end with BUSY 0x40, those that run and those that wait (R510). -/
def State.copiesDown (s : State) : State :=
  s.host.copies.foldl (fun (s : State) c => s.cmdDoneId c.id (Code.busy 0x40) c.done) { s with host := { s.host with copies := [] } }

/-- The host link goes: its state, the copies, the rings (R510, R511). -/
def State.linkGone (s : State) : State :=
  let s := ((s.wb F.HST_STAT_LINK_UP false).wr F.HST_STAT_RATE 0).wr F.HST_STAT_WIDTH 0
  ((s.wb F.HST_STAT_FLIT false).wb F.HST_STAT_DEGRADED false).copiesDown.ringsOff

/-- HOST_LINK_DOWN (R510): a surprise down. -/
def execHostLinkDown (s : State) : Host.Outcome State Fault Refusal :=
  if s.bit F.HST_STAT_LINK_UP = false then .next s else .next ((s.linkGone.wb F.HST_STAT_SDOWN true).logE 0x0B02 0xF010 3)

/-- HOST_LINK_UP (R485, R511, R122): the link trains from the end of RAILS on, while the host port is not held in reset. -/
def execHostLinkUp (rate : Fin 4) (width : Fin 32) (flit : Bool) (s : State) : Host.Outcome State Fault Refusal :=
  if s.bit F.HST_STAT_LINK_UP = true ∨ s.stage < 4 ∨ s.start.rstOn = true ∨ s.start.perst = false ∨ s.islResetting 303 = true then .next s
  else
    let s := ((s.ringsOff.wb F.HST_STAT_LINK_UP true).wr F.HST_STAT_RATE rate).wr F.HST_STAT_WIDTH width
    let deg := decide ((rate : Nat) < 3 ∨ (width : Nat) < 16)
    let s := ((s.wb F.HST_STAT_FLIT flit).wb F.HST_STAT_DEGRADED deg).logE 0x0B01 0xF010 1 [rate, width, flit.toNat]
    .next (if deg then s.logE 0x0B03 0xF010 2 [rate, width] else s)

/-- A ring from which an entry may be fetched (R91, R502, R503). -/
def State.fetchable (s : State) (r : Nat) : Bool :=
  s.ringLive r && decide (s.rd F.HST_RING_SQ_HEAD r ≠ s.rd F.HST_RING_SQ_TAIL r) && !s.ringFull r && (s.ringSt r).waiting.isEmpty
    && !(decide (s.rd F.HST_RING_OWNER r < 16) && s.flag F.FLT_ALONE_QUIESCED (s.rd F.HST_RING_OWNER r))

/-- The ring that fetches next (R502, R513): the one whose turn it is while its WEIGHT lasts, else the next in ascending order. -/
def State.fetchRing (s : State) : Option Nat :=
  let t := s.host.turn
  if s.fetchable t && decide ((s.ringSt t).turn ≠ 0) then some t
  else (List.range 256).find? (fun k => s.fetchable ((t + 1 + k) % 256)) |>.map (fun k => (t + 1 + k) % 256)

/-- An opcode is defined (the command table of ch. 14). -/
def opcodeKnown (o : Nat) : Bool := decide (o ≤ 3) || decide (8 ≤ o ∧ o ≤ 12) || decide (o = 0x10 ∨ o = 0x11) || decide (0x40 ≤ o ∧ o ≤ 0x45) || decide (o = 0x60)

/-- A nonzero operand byte that the command's operands leave out: a reserved field (note (a) under the command table). DEDUCED (log 64). -/
def opsReserved (o : Nat) (e : List Byte) : Bool :=
  let rest (k : Nat) : Bool := decide (leAt e k (64 - k) ≠ 0)
  if o = 1 then rest 57 else if o = 2 then rest 37 else if o = 3 then decide (1 < leAt e 16 1) || rest 17
  else if o = 8 ∨ o = 0x11 then rest 24 else if o = 9 then rest 16 else if 10 ≤ o ∧ o ≤ 12 then decide (leAt e 29 1 ≠ 0) || rest 33
  else if o = 0x10 then rest 26 else false

/-- The code that a fetched entry completes with before it becomes a command, or 0 (the notes under the command table; R7, R552). -/
def State.entryCode (s : State) (r : Nat) (e : List Byte) : Nat :=
  let o := leAt e 0 1
  let vf := decide (s.rd F.HST_RING_OWNER r < 16)
  let p := leAt e 8 1
  let needs := o = 1 || o = 3 || (0x40 ≤ o && o ≤ 0x45) || o = 0x60
  if 0x40 ≤ o ∧ o < 0x60 ∧ s.micaPres = false then Code.unitAbsent
  else if 0x60 ≤ o ∧ o < 0x80 ∧ s.jasperPres = false then Code.unitAbsent
  else if opcodeKnown o = false ∨ 3 < leAt e 1 1 ∨ leAt e 2 2 ≠ 0 ∨ leAt e 9 7 ≠ 0 ∨ (vf = true ∧ p ≠ 0) ∨ opsReserved o e = true then Code.format 0x11
  else if (admin o || o = 0x10 || o = 0x11) && vf then Code.perm 8
  else if (o = 0x10 ∨ o = 0x11) ∧ s.bit F.HST_RING_MGMT r = false then Code.format 0x11
  else if vf = false ∧ needs = true ∧ s.partExists p = false then Code.format 0x11
  else if vf = false ∧ o = 2 ∧ p ≠ 0xFF ∧ s.partExists p = false then Code.format 0x11
  else if o = 9 ∧ 15 < p then Code.format 0x11
  else 0

/-- The command that an entry makes. -/
def State.entryCmd (s : State) (r : Nat) (e : List Byte) : HostCmd :=
  let vf := decide (s.rd F.HST_RING_OWNER r < 16)
  let p := leAt e 8 1
  { id := s.host.nextId, ring := r, tag := leAt e 4 4, opc := leAt e 0 1, part := if vf then s.rd F.HST_RING_OWNER r else if p < 16 then p else 16,
    noirq := bitAt (leAt e 1 1) 1, ops := ((e.drop 16).take 48).map BitVec.toNat, fence := bitAt (leAt e 1 1) 0, started := false }

/-- SQ_FETCH (R502, R513, R518): one submission entry of 64 bytes; a fetch that fails stops its ring. -/
def execSqFetch (e : List Byte) (err : Bool) (s : State) : Host.Outcome State Fault Refusal :=
  if s.barServed = false then .next s
  else match s.fetchRing with
    | none => .next s
    | some r =>
      let x := s.ringSt r
      let left := if r = s.host.turn ∧ x.turn ≠ 0 then x.turn - 1 else s.rd F.HST_RING_WEIGHT r - 1
      let s : State := { s.setRing r { x with turn := left } with host := { (s.setRing r { x with turn := left }).host with turn := r } }
      if err then .next (((s.wb F.HST_RING_ENABLE false r).ringErr r).logE 0x0B04 0xF010 2 [r])
      else
        let s := s.wr F.HST_RING_SQ_HEAD ((s.rd F.HST_RING_SQ_HEAD r + 1) % s.ringSize r) r
        let c := s.entryCmd r e
        let s : State := { s with host := { s.host with nextId := s.host.nextId + 1 } }
        let code := s.entryCode r e
        if code ≠ 0 then .next (s.cmdDone c code 0)
        else .next { s with host := { s.host with cmds := s.host.cmds ++ [c] } }

end Sys2Proof.Machine
end

