-- ==== Sys2Proof/Machine/HostCmd.lean ====
section
/-! DEFINITION. Machine/HostCmd.lean: the commands that a ring carries, but for Mica's, Jasper's and the management queue's (R491 to R499, R505 to R508,
R516). -/

namespace Sys2Proof.Machine

/-- NOP. -/
def execHostNop (id : Nat) (s : State) : Host.Outcome State Fault Refusal := .next (s.hostCmd id 0 (fun s c => s.cmdDone c 0 0))

/-- EPOCH (R457): OPS[0] bit 0 is FULL. -/
def execHostEpoch (id : Nat) (s : State) : Host.Outcome State Fault Refusal :=
  .next (s.hostCmd id 3 (fun s c => s.epSubmit c.part (bitAt (c.op 16 1) 0) (some id)))

/-- The clusters of a mask. -/
def maskClus (m : BitVec 256) : List Nat := (List.range 256).filter (fun c => bitAt m.toNat c)

/-- The checks of R505, R513, R644 and R658 on a launch. -/
def State.launchCode (s : State) (c : HostCmd) (cs : List Nat) : Nat :=
  let il := c.op 24 4
  let cb := c.op 28 4
  let lim := c.op 32 4
  let en := c.op 36 4
  let fl := c.op 56 1
  if 3 < fl then Code.format 0x11
  else if il % 4 ≠ 0 ∨ cb % 4 ≠ 0 ∨ lim % 4 ≠ 0 ∨ en % 4 ≠ 0 ∨ 0x400000 < lim ∨ lim ≤ cb ∨ lim - cb < il ∨ en < cb ∨ lim ≤ en then Code.format 0x13
  else if bitAt fl 1 = true ∧ s.ringExpert (s.rd F.HST_RING_OWNER c.ring) = false then Code.perm 2
  else if cs = [] then 0
  else if cs.any (fun k => decide (s.cluPart k ≠ some c.part) || s.flag F.ERR_CLU_FAIL_FAIL (k % 64) (k / 64)) then Code.perm 9
  else if cs.any (fun k => s.err.mapping.any (fun e => decide (e.2.logical = k))) then Code.busy 0x48
  else if cs.any (fun k => s.islFailed (s.cluIsland k)) then Code.busy 0x49
  else if cs.any (fun k => (s.cl k).run) then Code.busy 0x42
  else if bitAt fl 0 = false ∧ s.isFar (c.op 16 8) = false ∧ s.fabCode (reqPart c.part) false (c.op 16 8) il ≠ 0 then Code.perm 3
  else 0

/-- LAUNCH (R505 to R507): accepted, RUN and the new code range are set in every masked cluster at once; `mask` is what the host holds at MASK. -/
def execHostLaunch (id : Nat) (mask : BitVec 256) (s : State) : Host.Outcome State Fault Refusal :=
  .next (s.hostCmd id 1 (fun s c =>
    let cs := maskClus mask
    let code := s.launchCode c cs
    if code ≠ 0 ∨ cs = [] then s.cmdDone c code 0
    else
      let l : LaunchSt :=
        { id := id, ring := c.ring, tag := c.tag, part := c.part, clusters := cs, host := bitAt (c.op 56 1) 0, image := c.op 16 8, ilen := c.op 24 4,
          base := c.op 28 4, lim := c.op 32 4, entry := c.op 36 4, arg := c.op 40 8, slateNa := bitAt (c.op 56 1) 1, img := none }
      let s := cs.foldl (fun (s : State) k => s.modCl k (fun x =>
        { x with run := true, starting := true, cmd := some id, halted := false, faulted := false, codeBase := l.base, codeLim := l.lim })) s
      { s with host := { s.host with launches := s.host.launches ++ [l] } }))

/-- What a cluster's previous program left running has completed (R506). -/
def State.launchIdle (s : State) (c : Nat) : Bool :=
  let k := s.cl c
  k.slotsIdle && decide (k.sigOut = 0) && (List.range 8).all (fun n => !(k.clxAt n).busy) && k.tnsAll.isEmpty && !s.unitBusy c

/-- The image of a launch, read once (R506): from this device's memory, or as the host or another device answers with the command (log 42). -/
def State.launchImage (s : State) (l : LaunchSt) (img : List (Byte × Bool)) : State × List (Byte × Bool) :=
  match l.img with
  | some b => (s, b)
  | none =>
    let r : State × List (Byte × Bool) :=
      if l.host ∨ s.isFar l.image = true then (s, (img ++ List.replicate l.ilen (0, false)).take l.ilen)
      else
        let q := s.readSpan (reqPart l.part) l.slateNa l.image l.ilen
        (q.1, (q.2.2 ++ List.replicate l.ilen (0, true)).take l.ilen)
    ({ r.1 with host := { r.1.host with launches := r.1.host.launches.map (fun (m : LaunchSt) => if m.id = l.id then { m with img := some r.2 } else m) } }, r.2)

/-- LAUNCH_CLUSTER_START (R506): the image is written at CODE_BASE, the rest of the code range zeroed, and the cluster starts with the state of R161; its
vector registers, accumulators, tile configurations and near cache are not part of that state. A poisoned image word faults it before it starts; a read
that fails in between counts as poisoned. -/
def execLaunchClusterStart (c : Clu) (img : List (Byte × Bool)) (s : State) : Host.Outcome State Fault Refusal :=
  let n := (c : Nat)
  match s.host.launches.find? (fun l => l.clusters.contains n) with
  | none => .next s
  | some l =>
    if s.launchIdle n = false ∨ s.cluHeld n = true then .next s
    else
      let r := s.launchImage l img
      let s := r.1.sramWrite (sramAt n l.base) (r.2 ++ List.replicate (l.lim - l.base - l.ilen) (0, false))
      let old := s.cl n
      let k : ClusterSt :=
        { ClusterSt.init with run := true, cmd := some l.id, pc := l.entry, g := SMap.set [] 0 1 (BitVec.ofNat 64 l.arg), codeBase := l.base,
                              codeLim := l.lim, tag := l.tag, ring := l.ring, v := old.v, vpsn := old.vpsn, ta := old.ta, tapsn := old.tapsn,
                              taInt := old.taInt, cfg := old.cfg, near := old.near, fills := old.fills }
      let s := s.setCl n k
      let ls := (s.host.launches.map (fun (m : LaunchSt) => if m.id = l.id then { m with clusters := m.clusters.filter (fun x => decide (x ≠ n)) } else m)).filter
        (fun (m : LaunchSt) => !m.clusters.isEmpty)
      let s : State := { s with host := { s.host with launches := ls } }
      match r.2.findIdx? (fun b => b.2) with
      | some i => .next (s.deliver n false (Code.poison 1) (l.base + i) 0)
      | none => .next s

/-- A copy by its command. -/
def State.copyOf (s : State) (id : Nat) : Option CopySt := s.host.copies.find? (fun c => decide (c.id = id))

/-- A copy changed. -/
def State.modCopy (s : State) (id : Nat) (f : CopySt → CopySt) : State :=
  { s with host := { s.host with copies := s.host.copies.map (fun c => if c.id = id then f c else c) } }

/-- What a write of a copy brought. -/
def CopySt.wrote (c : CopySt) (r : Nat × Nat × Nat) : CopySt :=
  { c with code := if c.code = 0 then r.1 else c.code, done := c.done + r.2.1, out := c.out + r.2.2 }

/-- Bytes of a copy's source reach its destination (R508): to host memory up to the first poisoned byte, with POISON; to a device with their marks. -/
def State.copyPut (s : State) (c : CopySt) (off : Nat) (l : List MByte) : State :=
  if c.dir = 1 then
    let g := l.takeWhile (fun b => !b.2)
    let s : State := if g.isEmpty then s else { s with host := { s.host with writes := (c.host + off, plain g) :: s.host.writes } }
    s.modCopy c.id (fun c => c.wrote (if g.length < l.length then Code.poison 1 else 0, g.length, 0))
  else
    let r := s.unitWrite (fun o n => .copy c.id (off + o) n) c.part (c.dev + off) l
    r.1.modCopy c.id (fun c => c.wrote r.2)

/-- A copy starts (R508): its source is read, the part on this device at once. DIR 2 copies from the address in HOST to DEV. DEDUCED (log 50). -/
def State.copyStart (s : State) (c : CopySt) : State :=
  let s := s.modCopy c.id (fun c => { c with run := true })
  if c.dir = 0 then s.copyPut c 0 ((c.data ++ List.replicate c.len (0, false)).take c.len)
  else
    let r := s.unitRead (fun o n => .copy c.id o n) c.part (if c.dir = 1 then c.dev else c.host) c.len
    let s := r.1.modCopy c.id (fun c => c.wrote (r.2.1, 0, r.2.2.2))
    if r.2.2.1.isEmpty then s else s.copyPut c 0 r.2.2.1

/-- Copies start in fetch order, at most 16 at once (R508). -/
def State.copyGo : Nat → State → State
  | 0, s => s
  | f + 1, s =>
    if 16 ≤ (s.host.copies.filter (fun c => c.run)).length then s
    else match s.host.copies.find? (fun c => !c.run) with
      | none => s
      | some c => State.copyGo f (s.copyStart c)

/-- The code that a copy is refused with before a byte moves (R508). -/
def State.copyCode (s : State) (part dir host dev len : Nat) : Nat :=
  let a := if dir = 0 then 0 else s.fabCode (reqPart part) false (if dir = 1 then dev else host) len
  if a ≠ 0 then a else if dir = 1 then 0 else s.fabCode (reqPart part) true dev len

/-- COPY (R508): `d` holds the host's bytes. -/
def execHostCopy (id : Nat) (d : List (Byte × Bool)) (s : State) : Host.Outcome State Fault Refusal :=
  .next (s.hostCmd id 2 (fun s c =>
    let len := c.op 32 4
    let dir := c.op 36 1
    let code := s.copyCode c.part dir (c.op 16 8) (c.op 24 8) len
    if 2 < dir then s.cmdDone c (Code.format 0x11) 0
    else if len = 0 then s.cmdDone c 0 0
    else if code ≠ 0 then s.cmdDone c code 0
    else if s.bit F.HST_STAT_LINK_UP = false then s.cmdDone c (Code.busy 0x40) 0
    else
      let x : CopySt := { id := id, dir := dir, host := c.op 16 8, dev := c.op 24 8, len := len, done := 0, out := 0, run := false, code := 0,
                          part := c.part, data := d }
      State.copyGo 16 { s with host := { s.host with copies := s.host.copies ++ [x] } }))

/-- COPY_DONE (R508): every packet is answered; the copies that wait go on. -/
def execCopyDone (id : Nat) (s : State) : Host.Outcome State Fault Refusal :=
  match s.copyOf id with
  | none => .next s
  | some c =>
    if c.run = false ∨ c.out ≠ 0 then .next s
    else
      let s : State := { s with host := { s.host with copies := s.host.copies.filter (fun x => decide (x.id ≠ id)) } }
      .next (State.copyGo 16 (s.cmdDoneId id c.code c.done))

/-- A packet of a copy is answered: `l` holds the bytes of a read, none for a write. -/
def State.copyAnswered (s : State) (id off bytes code : Nat) (l : Option (List MByte)) : State :=
  match s.copyOf id with
  | none => s
  | some c =>
    if c.out = 0 then s
    else
      let s := s.modCopy id (fun c => { c with out := c.out - 1, code := if c.code = 0 then code else c.code })
      match l with
      | some b => if code = 0 ∧ c.code = 0 then s.copyPut c off b else s
      | none => if code = 0 then s.modCopy id (fun c => { c with done := c.done + bytes }) else s

/-- The checks of R491 on a partition descriptor. -/
def State.partCreateCode (s : State) (d : List Byte) : Nat :=
  let p := leAt d 0 1
  let mask := leAt d 32 32
  let cs := (List.range 256).filter (fun c => bitAt mask c)
  let quota := (List.range 16).foldl (fun n q => n + s.rd F.QTZ_PART_QUOTA q) 0
  let a := (s.wb F.HST_PART_CTL_EXISTS true p).asgCode p (.whole (leAt d 1 1) (leAt d 2 1) (leAt d 3 1))
  if (List.range 23).any (fun k => decide (leAt d (9 + k) 1 ≠ 0)) ∨ 15 < p ∨ leAt d 8 1 = 0 ∨ 16 < leAt d 1 1 ∨ 16 < leAt d 2 1 ∨ 16 < leAt d 3 1 then
    Code.format 0x12
  else if s.partExists p then Code.busy 0x44
  else if cs.any (fun c => (s.cluPart c).isSome || s.flag F.DEV_START_CC_FAIL (c / 64) || s.flag F.ERR_CLU_FAIL_FAIL (c % 64) (c / 64)) then Code.busy 0x45
  else if 126976 < quota + leAt d 4 4 then Code.busy 0x46
  else a

/-- REQ_CODE and RECOV_HOLD of a partition's islands return to their basic values as they are reassigned (R60). -/
def State.freqsOff (s : State) (p : Nat) : State :=
  ((List.range 288).foldl (fun (s : State) i => if s.islPart i = some p then (s.wr F.ISL_FREQ_REQ_CODE 0 i).wr F.ISL_STR_CFG_RECOV_HOLD 2 i else s) s).requestAll

/-- PART_CREATE (R491): `d` is the descriptor; the command completes with the slice assignment. -/
def execPartCreate (id : Nat) (d : List Byte) (s : State) : Host.Outcome State Fault Refusal :=
  .next (s.hostCmd id 8 (fun s c =>
    let p := leAt d 0 1
    let code := s.partCreateCode d
    if code ≠ 0 then s.cmdDone c code 0
    else
      let s := (List.range 4).foldl (fun (s : State) k => s.wr F.HST_PART_CTL_CLU (leAt d (32 + 8 * k) 8) p k) s
      let s := ((s.wb F.HST_PART_CTL_EXISTS true p).wb F.HST_PART_CTL_EXPERT_EN false p).wr F.QTZ_PART_QUOTA (leAt d 4 4) p
      let s := ((s.wr F.QTZ_PART_WEIGHT (leAt d 8 1) p).freqsOff p).logE 0x0B05 (0xF100 + p) 1 [p]
      (s.msi 0 259).asgSubmit p ⟨.whole (leAt d 1 1) (leAt d 2 1) (leAt d 3 1), some id⟩))

/-- The addresses of a grant. -/
def Grant.has (g : Grant) (a : Nat) : Bool := decide (g.base ≤ a) && decide (a < g.base + 4096 * g.pages)

/-- The valid mirror ranges that a grant's loss for a set of partitions leaves uncovered (R454). -/
def State.losing (s : State) (g : Grant) (lost : Nat → Bool) (r : Nat) : Bool :=
  s.bit F.AGT_MR_VALID r && s.rangeIn g r && lost (s.rd F.AGT_MR_PART r)

/-- An epoch runs of a partition whose ranges are concerned (R454): the command waits for it. -/
def State.epochHolds (s : State) (f : Nat → Bool) : Bool :=
  (List.range 64).any (fun r => f r && (s.epAt (s.rd F.AGT_MR_PART r)).run.isSome)

/-- The partitions of a grant. -/
def Grant.holders (g : Grant) : List Nat := (List.range 16).filter (fun p => decide (p = g.home) || (g.ro && bitAt g.parts p))

/-- LOCAL lines of a partition over a grant's range are written back and dropped (R497, R498). -/
def State.flushGrant (s : State) (g : Grant) (p : Nat) : State :=
  let own := s.slicesOf p 1
  s.flushLines (fun sl a => own.contains sl && g.has a)

/-- A revoked grant goes (R498): FLUSH in the home's LOCAL slices, NCINV in every partition of the entry. -/
def State.grantGone (s : State) (n : Nat) (g : Grant) : State :=
  let s := s.flushGrant g g.home
  let d := s.rd F.QTZ_ID_DEVID * 2 ^ 48 + g.base
  let s := g.holders.foldl (fun (s : State) p => (s.nearDropPart p d (4096 * g.pages)).nearDropPart p (State.localAddr g.base) (4096 * g.pages)) s
  { s with host := { s.host with grants := SMap.del s.host.grants n } }

/-- Commands of a partition that have not completed when it is removed (R493): they complete with BUSY 0x41. -/
def State.partCmdsBusy (s : State) (p id : Nat) : State :=
  (s.host.cmds.filter (fun c => s.cmdOf p c && decide (c.id ≠ id))).foldl (fun (s : State) c => s.cmdDone c (Code.busy 0x41) 0) s

/-- The steps of PART_DESTROY (R493). -/
def State.partDestroy (s : State) (p id : Nat) : State :=
  let s := (s.partCmdsBusy p id).partClear p
  let s := (s.slicesAll p).foldl (fun (s : State) k => (s.sliceRelease k).sliceJoin k 0 0) (s.freqsOff p)
  let s := (List.range 4).foldl (fun (s : State) k => s.wr F.HST_PART_CTL_CLU 0 p k) s
  let s := s.clearRanges (fun r => decide (s.rd F.AGT_MR_PART r = p))
  let s := s.host.grants.foldl (fun (s : State) e =>
    if e.2.home = p then
      (s.clearRanges (fun r => s.rangeIn e.2 r && e.2.holders.contains (s.rd F.AGT_MR_PART r))).grantGone e.1 e.2
    else { s with host := { s.host with grants := SMap.put s.host.grants e.1 { e.2 with parts := putBits e.2.parts p 1 0 } } }) s
  let s := (List.range 256).foldl (fun (s : State) r =>
    if s.rd F.HST_RING_OWNER r = p then (s.wb F.HST_RING_ENABLE false r).wr F.HST_RING_OWNER 31 r else s) s.clxGo
  let s := ((s.wr F.QTZ_PART_QUOTA 0 p).wb F.HST_PART_CTL_EXPERT_EN false p).wb F.HST_PART_CTL_EXISTS false p
  (s.requestAll.logE 0x0B05 (0xF100 + p) 1 [p]).msi 0 259

/-- A command that waits for running epochs: it starts once none holds it (R454). -/
def State.afterEpoch (s : State) (id opc : Nat) (hold : HostCmd → Bool) (f : State → HostCmd → State) : State :=
  match s.cmdReady id opc with
  | none => s
  | some c => if hold c then s else s.hostCmd id opc f

/-- PART_DESTROY (R493). -/
def execPartDestroy (id : Nat) (s : State) : Host.Outcome State Fault Refusal :=
  .next (s.afterEpoch id 9 (fun c => s.partExists c.part && s.epochHolds (fun r => s.bit F.AGT_MR_VALID r && decide (s.rd F.AGT_MR_PART r = c.part)))
    (fun s c => if s.partExists c.part = false then s.cmdDone c 0 0 else (s.partDestroy c.part id).cmdDoneId id 0 0))

/-- The grant that a command's operands describe. -/
def HostCmd.grant (c : HostCmd) : Grant :=
  { base := c.op 16 8, pages := c.op 24 4, ro := decide (c.op 28 1 = 1), parts := c.op 30 2, home := c.op 32 1, live := false, cmd := some c.id }

/-- A field of a GRANT is illegal (check 1 of R496). -/
def State.grantBad (s : State) (c : HostCmd) : Bool :=
  let g := c.grant
  decide (g.base % 4096 ≠ 0 ∨ g.base < hbmBase ∨ 2 ^ 48 ≤ g.base ∨ 2 ^ 26 ≤ g.pages) || decide (1 < c.op 28 1) || decide (15 < g.home)
    || !bitAt g.parts g.home || (!g.ro && decide (g.parts ≠ 2 ^ g.home)) || (List.range 16).any (fun p => bitAt g.parts p && !s.partExists p)

/-- The lowest free entry. DESIGN CHOICE (log 51): R496 does not say which entry a GRANT takes. -/
def freeGrant : Nat → SMap Grant → Nat
  | n, [] => n
  | n, (k, _) :: t => if k = n then freeGrant (n + 1) t else n

/-- GRANT (R496). -/
def execGrant (id : Nat) (s : State) : Host.Outcome State Fault Refusal :=
  .next (s.hostCmd id 0x0A (fun s c =>
    let g := c.grant
    let e := g.base + 4096 * g.pages
    if s.grantBad c then s.cmdDone c (Code.format 0x12) 0
    else if g.pages = 0 then s.cmdDone c 0 0
    else if hbmBase + s.hbmCap < e then s.cmdDone c (Code.addr 1) 0
    else if s.mirrorBase < e then s.cmdDone c (Code.addr 7) 0
    else if s.host.grants.any (fun h => decide (h.2.base < e ∧ g.base < h.2.base + 4096 * h.2.pages)) then s.cmdDone c (Code.busy 0x43) 0
    else if 4096 ≤ s.host.grants.length then s.cmdDone c (Code.busy 0x47) 0
    else { s with host := { s.host with grants := SMap.put s.host.grants (freeGrant 0 s.host.grants) g } }))

/-- A grant entry whose command of an opcode runs. -/
def State.grantFor (s : State) (n opc : Nat) : Option (Grant × HostCmd) :=
  match SMap.find s.host.grants n with
  | none => none
  | some g => match s.host.cmds.find? (fun c => decide (g.cmd = some c.id)) with
    | some c => if c.opc = opc ∧ g.live = false then some (g, c) else none
    | none => none

/-- GRANT_FILL_DONE (R496): the range is zero, and the entry takes effect. -/
def execGrantFillDone (g : Fin 4096) (s : State) : Host.Outcome State Fault Refusal :=
  match s.grantFor g 0x0A with
  | none => .next s
  | some (x, c) =>
    let s := s.zeroMem x.base (4096 * x.pages)
    .next (({ s with host := { s.host with grants := SMap.put s.host.grants g { x with live := true, cmd := none } } } : State).cmdDone c 0 0)

/-- The entry in effect that a command names whole. -/
def State.grantNamed (s : State) (g : Grant) : Option (Nat × Grant) :=
  s.host.grants.find? (fun e => decide (e.2.base = g.base ∧ e.2.pages = g.pages) && e.2.live)

/-- A change of an entry only narrows it (R497). -/
def narrows (o g : Grant) : Bool :=
  bitAt g.parts g.home && (if o.ro then g.ro && decide (g.parts &&& o.parts = g.parts)
    else (g.ro && decide (g.parts = 2 ^ o.home)) || (!g.ro && decide (g.parts = o.parts) && decide (g.home = o.home)))

/-- GRANT_MOD (R497). -/
def execGrantMod (id : Nat) (s : State) : Host.Outcome State Fault Refusal :=
  let lost (o g : Grant) (p : Nat) : Bool := o.holders.contains p && !g.holders.contains p
  .next (s.afterEpoch id 0x0B (fun c => match s.grantNamed c.grant with
      | some (_, o) => narrows o c.grant && s.epochHolds (fun r => s.losing o (lost o c.grant) r)
      | none => false)
    (fun s c => match s.grantNamed c.grant with
      | none => s.cmdDone c (Code.format 0x12) 0
      | some (n, o) =>
        let g := c.grant
        if 1 < c.op 28 1 ∨ 15 < g.home ∨ narrows o g = false then s.cmdDone c (Code.format 0x12) 0
        else
          let s := s.clearRanges (fun r => s.rangeIn o r && lost o g (s.rd F.AGT_MR_PART r))
          let s := if g.home ≠ o.home then s.flushGrant o o.home else s
          ({ s with host := { s.host with grants := SMap.put s.host.grants n { g with live := true, cmd := none } } } : State).cmdDone c 0 0))

/-- REVOKE (R498): from acceptance on the range is refused; REVOKE_DONE ends it. -/
def execRevoke (id : Nat) (s : State) : Host.Outcome State Fault Refusal :=
  .next (s.afterEpoch id 0x0C (fun c => match s.grantNamed c.grant with
      | some (_, o) => s.epochHolds (fun r => s.losing o (fun p => o.holders.contains p) r)
      | none => false)
    (fun s c => match s.grantNamed c.grant with
      | none => s.cmdDone c (Code.format 0x12) 0
      | some (n, o) =>
        let s := s.clearRanges (fun r => s.rangeIn o r && o.holders.contains (s.rd F.AGT_MR_PART r))
        { s with host := { s.host with grants := SMap.put s.host.grants n { o with live := false, cmd := some id } } }))

/-- REVOKE_DONE (R498). -/
def execRevokeDone (g : Fin 4096) (s : State) : Host.Outcome State Fault Refusal :=
  match s.grantFor g 0x0C with
  | none => .next s
  | some (x, c) => .next ((s.grantGone g x).cmdDone c 0 0)

end Sys2Proof.Machine
end

