-- ==== Sys2Proof/Machine/Complete.lean ====
section
/-! DEFINITION. Machine/Complete.lean: transaction contexts: what the end of a request does to its requester, and how contexts are granted, resent and
timed out (R376, R382 to R386). -/

namespace Sys2Proof.Machine

/-- A request of an owner ends with a code (R386): `old` is the value an atomic returns, `data` the bytes that a read pushed to its requester. -/
def State.ownerDone (s : State) (q : Pkt) (o : Owner) (code old : Nat) (data : List MByte) : State :=
  match o with
  | .dma c slot _ => s.dmaAnswered c slot code
  | .dmaSig c slot => if ((s.cl c).slotAt slot).signalling then s.slotEnd c slot code else s
  | .dmaPsn c => s.sigResolved c code
  | .sig c => s.sigResolved c code
  | .amo c => match (s.cl c).wait with
    | some (.amo rd n) =>
      if code = 0 then (s.modCl c (fun k => k.setG rd (BitVec.ofNat 64 (old % 2 ^ (8 * n))))).finish c
      else s.faultWait c code (q.dst * 2 ^ 48 + q.addr) 0
    | _ => s
  | .copy id off bytes => s.copyAnswered id off bytes code (if q.opc = 2 then some data else none)
  | .near c line => if code = 0 then s else s.nearFill c line code ⟨line, [], 0⟩
  | .fill line =>
    if code = 0 then s
    else
      let s := (s.modSl (fun t => { t with fills := t.fills.filter (fun f => !(f.remote && decide (f.line = line))) })).prefetchFailed line code
      (s.clu.map Prod.fst).foldl (fun (s : State) c => s.nearFill c line code ⟨line, [], 0⟩) s
  | .mirror p n _ bytes => s.mirrorAnswered p n bytes code
  | .epoch p n close => s.epochAnswered p n close code
  | .bind => s.bindAnswered code
  | .unbind | .release => s
  | .handback => s.handbackAnswered code
  | .restore _ bytes => s.restoreAnswered bytes code
  | .mica st seq k => s.micaAnswered st seq k (if code = 0 ∧ anyPsn data = true then Code.poison 1 else code)
  | .jasper job blk off k => s.jasperAnswered job blk off k code data

/-- A context ends (R384 to R386): it is free again, and its owner learns the code; an orphan's owner is gone (R135). -/
def State.ctxEnd (s : State) (i : Nat) (c : Ctx) (code old : Nat) (data : List MByte) : State :=
  let s := s.freeCtxAt i c
  if c.orphan then s else s.ownerDone c.pkt c.owner code old data

/-- Count a QUOTA (false) or TIMEOUT (true) completion of a partition, also toward event 0x0808 of this second. -/
def State.countEnd (s : State) (p : Nat) (timeout : Bool) : State :=
  if 16 ≤ p then s
  else
    let s := if timeout then s.bump F.QTZ_PART_TIMEOUT_N 1 p else s.bump F.QTZ_PART_QUOTA_N 1 p
    s.modQ (fun q =>
      let n := SMap.get q.sec (0, 0) p
      { q with sec := SMap.put q.sec p (if timeout then (n.1, n.2 + 1) else (n.1 + 1, n.2)) })

/-- A context that travels on Agate while the partner is suspected is held, not completed (R462). -/
def State.ctxHeld (s : State) (c : Ctx) : Bool := decide (s.pairSt = 3) && (decide (c.part = ctxAgate) || decide (c.dst = s.rd F.AGT_STAT_PEER_ID))

/-- CTX_T of a partition in ns; 100 ms for the others (R384). -/
def State.ctxT (s : State) (p : Nat) : Nat := 1000000 * (if p < 16 then s.rd F.QTZ_PART_CTX_T p else 100)

/-- CTX_TIMEOUT (R384). -/
def execCtxTimeout (i : Fin 131072) (s : State) : Host.Outcome State Fault Refusal :=
  match SMap.find s.quartz.ctx i with
  | none => .next s
  | some c =>
    if c.orphan = true ∨ s.now < c.since + s.ctxT c.part ∨ s.ctxHeld c = true then .next s
    else .next ((s.countEnd c.part true).ctxEnd i c (Code.timeout 1) 0 [])

/-- The oldest request that waits for a context of a holder. -/
def State.firstWait (s : State) (p : Nat) : Option QWait := s.quartz.qwait.find? (fun w => w.part = p)

/-- A request leaves the wait; its time is counted (R383). -/
def State.waitOver (s : State) (w : QWait) : State :=
  let s := s.modQ (fun q => { q with qwait := q.qwait.erase w })
  if w.part < 16 then s.wr F.QTZ_PART_QSTALL_NS (s.rd F.QTZ_PART_QSTALL_NS w.part + (s.now - w.since)) w.part else s

/-- QUOTA_CONTEXT_GRANTED (R382, R383): the oldest request of a holder takes a context, if its quota has one to spare. -/
def execQuotaContextGranted (part : Fin 18) (s : State) : Host.Outcome State Fault Refusal :=
  match s.firstWait part with
  | none => .next s
  | some w =>
    if (s.ctxCnt part).1 < s.ctxLimit part then .next ((s.waitOver w).sendCtx w.owner part w.dst (decide ((part : Nat) = ctxAgate)) w.pkt) else .next s

/-- QUOTA_WAIT_TIMEOUT (R383): nothing is sent; the Agate reserve is waited for without limit. -/
def execQuotaWaitTimeout (part : Fin 18) (s : State) : Host.Outcome State Fault Refusal :=
  match s.firstWait part with
  | none => .next s
  | some w =>
    let t := 1000000 * (if (part : Nat) < 16 then s.rd F.QTZ_PART_QUOTA_WAIT part else 10)
    if (part : Nat) = ctxAgate ∨ (s.ctxCnt part).1 < s.ctxLimit part ∨ s.now < w.since + t then .next s
    else .next (((s.waitOver w).countEnd part false).ownerDone w.pkt w.owner (Code.quota 1) 0 [])

/-- BUSY_RESEND (R376): a request refused with BUSY 0x10 or 0x11 is sent again 2 µs later. -/
def execBusyResend (i : Fin 131072) (s : State) : Host.Outcome State Fault Refusal :=
  match SMap.find s.quartz.ctx i with
  | none => .next s
  | some c => match c.retry with
    | none => .next s
    | some t =>
      if c.orphan = true ∨ s.now < t + 2000 then .next s
      else
        let s := if c.part < 16 then s.bump F.QTZ_PART_RETRY 1 c.part else s
        let put (s : State) (r : Option Nat) : State := s.modQ (fun q => { q with ctx := SMap.put q.ctx i { c with retry := r } })
        match s.routeOut { pkt := c.pkt, src := 31, at_ := s.now } with
        | .done s => .next (put s none)
        | .noRoute s => .next (put s (some s.now))

/-- A response met a context (R376, R384): late on a free context or another generation; BUSY 0x10 and 0x11 are tried again. -/
def State.ctxAnswer (s : State) (p : Pkt) (data : List MByte) (code : Nat) : State :=
  match SMap.find s.quartz.ctx p.ctx with
  | none => s.bump F.QTZ_PART_LATE 1 p.part
  | some c =>
    if c.gen ≠ p.gen then s.bump F.QTZ_PART_LATE 1 p.part
    else if c.orphan then s
    else if (code = Code.busy 0x10 ∨ code = Code.busy 0x11) ∧ c.part ≠ ctxAgate then
      s.modQ (fun q => { q with ctx := SMap.put q.ctx p.ctx { c with retry := some s.now } })
    else s.ctxEnd p.ctx c code p.w3.toNat data

end Sys2Proof.Machine
end

