-- ==== Sys2Proof/Machine/Lanes.lean ====
section
/-! DEFINITION. Machine/Lanes.lean: the link of a port: blocks and replay, bring-up, the figure of merit, the spare lane, doze and rest, quiescing,
and the service of an output (R307 to R346, R380, R381). -/

namespace Sys2Proof.Machine

/-- STATE of a port (R320). -/
def State.pstate (s : State) (n : Nat) : Nat := s.rd F.QTZ_PORT_STAT_STATE n

/-- The control symbols that need an answer and are repeated until it comes (R313). -/
def ctlRepeats (k : Nat) : Bool := k = 1 || k = 6 || k = 8

/-- The FC_STATE argument of a port: one bit a queue, 1 is OFF (R360). -/
def State.fcArg (s : State) (n : Nat) : Nat := (portQueues n).foldl (fun a q => a + s.rd F.QTZ_Q_OFF_TX n q * 2 ^ q) 0

/-- Fill the 41 units of a block from the packets being sent (R311): what is left, units used, FIRST, packets that end. -/
def fillUnits : Nat → List (Nat × Bool) → Nat → Nat → Nat → List (Nat × Bool) × Nat × Nat × Nat
  | 0, l, u, f, e => (l, u, f, e)
  | _ + 1, [], u, f, e => ([], u, f, e)
  | k + 1, (n, begun) :: t, u, f0, e =>
    let f := if begun ∨ f0 ≠ 63 then f0 else u
    if u = 41 then ((n, begun) :: t, u, f0, e)
    else if n ≤ 41 - u then fillUnits k t (u + n) f (e + 1)
    else ((n - (41 - u), true) :: t, 41, f, e)

/-- A block leaves (R311 to R313, R316, R318): its header with ACK and NAK, FC_STATE in CS0, up to seven waiting control symbols. -/
def State.blockOut (s : State) (n ty seq units first time echo : Nat) : State :=
  let p := s.pt n
  let now7 := p.ctl.take 7
  let b : LinkBlk := { ty := ty, seq := seq, ack := p.rxSeq.getD 0, ackV := p.rxSeq.isSome, nak := p.nakDue, units := units, first := first,
                       time := time, echo := echo, cs := (0x10, s.fcArg n) :: now7 }
  s.modPt n (fun p => { p with last := some b, nakDue := false, ackDue := false, sinceAlign := if ty = 3 then 0 else p.sinceAlign + 1,
                               ctl := (now7.filter (fun c => ctlRepeats c.1)) ++ p.ctl.drop 7 })

/-- LINK_BLOCK_TX (R311, R312, R316, R318, R343): ALIGN after 4,095 other blocks; a block to be resent; a new DATA block while the replay store
has room; else IDLE. -/
def execLinkBlockTx (n : Port) (s : State) : Host.Outcome State Fault Refusal :=
  let p := s.pt n
  let st := s.pstate n
  if st < 5 ∨ 7 < st ∨ s.rd F.QTZ_PORT_STAT_TX_PWR n ≠ 0 then .next s
  else if 4095 ≤ p.sinceAlign then
    let echo := match p.echo with | some (t, a) => (t + (s.now - a)) % 2 ^ 32 | none => 0
    .next (s.blockOut n 3 0 0 63 (s.now % 2 ^ 32) echo)
  else if st ≠ 7 ∨ p.swapRx.any (fun w => w.los) then .next (s.blockOut n 2 0 0 63 0 0)
  else match p.resend with
    | q :: t =>
      match p.store.find? (fun b => b.1 = q) with
      | some b => .next ((s.modPt n (fun p => { p with resend := t })).blockOut n 1 q b.2.1 b.2.2.1 0 0)
      | none => .next ((s.modPt n (fun p => { p with resend := t })).blockOut n 2 0 0 63 0 0)
    | [] =>
      if p.sending.isEmpty || decide (replayCap n ≤ p.store.length) then .next (s.blockOut n 2 0 0 63 0 0)
      else
        let f := fillUnits 64 p.sending 0 63 0
        let q := p.txSeq
        let s := s.modPt n (fun p => { p with sending := f.1, txSeq := (q + 1) % 65536, store := p.store ++ [(q, f.2.1, f.2.2.1, f.2.2.2)],
                                              idleSince := s.now })
        .next (s.blockOut n 1 q f.2.1 f.2.2.1 0 0)

/-- The blocks an ACK covers leave the replay store, and the packets that end in them leave this device (R316, R361). -/
def State.ackTo (s : State) (n ack : Nat) : State :=
  let st := (s.pt n).store
  if st.any (fun b => b.1 = ack) = false then s
  else
    let gone := st.takeWhile (fun b => b.1 ≠ ack) ++ (st.filter (fun b => b.1 = ack))
    let k := gone.foldl (fun k b => k + b.2.2.2) 0
    let un := SMap.get s.quartz.unacked [] n
    let s := s.modPt n (fun p => { p with store := st.drop gone.length, resend := p.resend.filter (fun q => gone.all (fun b => b.1 ≠ q)) })
    let s := s.modQ (fun q => { q with unacked := SMap.set q.unacked [] n (un.drop k) })
    (un.take k).foldl (fun s e => s.leave e) s

/-- LINK_BLOCK_RX (R313, R315, R316, R344, R346): `bad` says that a codeword cannot be corrected, `crc` that the CRC fails after correction. -/
def execLinkBlockRx (n : Port) (b : LinkBlk) (bad crc : Bool) (s : State) : Host.Outcome State Fault Refusal :=
  let st := s.pstate n
  if st < 5 ∨ 7 < st then .next s
  else if bad || crc then
    let s := s.bump F.QTZ_PORT_FEC_UNCORR_BLK 1 n
    let s := if bad then s else s.bump F.QTZ_PORT_FEC_CRC_FAIL 1 n
    let s := s.modPt n (fun p => { p with uncorr := p.uncorr + 1, nakDue := p.nakDue || !p.gap, gap := true })
    if st = 7 ∧ 8 ≤ (s.pt n).uncorr ∧ (s.pt n).swapRx.any (fun w => w.los) = false then .next (s.portDown n) else .next s
  else if b.ty = 0 ∨ 3 < b.ty then .next s
  else
    let s := if s.rd F.QTZ_PORT_STAT_RX_PWR n = 1 then s.wr F.QTZ_PORT_STAT_RX_PWR 0 n else s
    let unk := (b.cs.filter (fun c => decide (c.1 ≠ 0 ∧ ¬(c.1 ≤ 9) ∧ c.1 ≠ 0x10))).length
    let s := s.modPt n (fun p => { p with uncorr := 0, dozed := none, ctlUnknown := p.ctlUnknown + unk })
    let s := if b.ackV then s.ackTo n b.ack else s
    let s := if b.nak then
        (s.bump F.QTZ_PORT_RPL_REPLAYS 1 n).modPt n (fun p =>
          { p with resend := p.store.map Prod.fst, nakRun := if p.nakRun ≠ 0 ∧ p.nakAck = b.ack then p.nakRun + 1 else 1, nakAck := b.ack })
      else s
    if st = 7 ∧ 8 ≤ (s.pt n).nakRun ∧ b.nak = true then .next (s.portDown n)
    else if b.ty ≠ 1 ∨ st ≠ 7 then .next s
    else
      let want := match (s.pt n).rxSeq with | some q => (q + 1) % 65536 | none => 0
      if b.seq = want then .next (s.modPt n (fun p => { p with rxSeq := some want, gap := false, ackDue := true }))
      else if 32768 ≤ (b.seq + 65536 - want) % 65536 then .next (s.modPt n (fun p => { p with ackDue := true }))
      else .next (s.modPt n (fun p => { p with nakDue := p.nakDue || !p.gap, gap := true }))

/-- The physical lane that carries a logical lane, if one does. -/
def State.physOf (s : State) (n k : Nat) : Option Nat := (List.range (physCount n)).find? (fun l => s.rd F.QTZ_LANE_RX_LOGICAL n l = k)

/-- A spare switch ends with success at the receiver (R328, R329): the spare carries the lane, the old lane stays unused. -/
def State.swapTaken (s : State) (n : Nat) (w : SwapRx) : State :=
  let spare := s.physOf n 15
  let s := match s.physOf n w.lane with
    | some l => (s.wr F.QTZ_LANE_RX_LOGICAL 15 n l).wr F.QTZ_LANE_RX_CLASS 2 n l
    | none => s
  let s := match spare with
    | some l => s.wr F.QTZ_LANE_RX_LOGICAL w.lane n l
    | none => s
  let s := (s.wr F.QTZ_PORT_STAT_SPARE_RX w.lane n).modPt n (fun p => { (p.say 3 w.lane) with swapRx := none, uncorr := if w.los then 0 else p.uncorr })
  s.logE 0x0705 (portIsland n) 2 [n, 0, w.lane]

/-- A bring-up stage fails (R324): both ends squelch for 10 µs; the fourth failure in a row enters DOWN_HOLD, logged once. -/
def State.stageFail (s : State) (n cause : Nat) : State :=
  let st := s.pstate n
  let rest := (s.pt n).restExit
  let s := if rest then (s.markDown n true).clxEdgeDown n else s
  let s := (s.wr F.QTZ_PORT_STAT_FAIL_STAGE st n).wr F.QTZ_PORT_STAT_FAIL_CAUSE cause n
  let k := (s.pt n).fails + 1
  let s := s.modPt n (fun p => { p with restExit := false, hold := decide (k < 4), fails := if k < 4 then k else 0, peerReady := false })
  let s := s.logE 0x0702 (portIsland n) (if k < 4 then 2 else 3) [n, st, cause]
  let s := s.wr F.QTZ_PORT_STAT_STATE (if k < 4 then 0 else 8) n
  if rest then (s.reoffer n).clxGo else s

/-- ALIGN_BLOCK (R318, R323, R328): deskew and the round trip, without the block processing; a switch that waits for it takes the lane. -/
def execAlignBlock (n : Port) (time echo : BitVec 32) (hasEcho : Bool) (proc skew : BitVec 12) (s : State) : Host.Outcome State Fault Refusal :=
  let st := s.pstate n
  if st < 5 ∨ 7 < st then .next s
  else
    let s := s.modPt n (fun p => { p with echo := some (time.toNat, s.now) })
    let rtt := (s.now + 2 ^ 32 - echo.toNat) % 2 ^ 32 - proc.toNat
    if st = 5 ∧ 32 < skew.toNat then .next (s.stageFail n 3)
    else if st = 5 ∧ hasEcho = true ∧ 3000 < rtt then .next (s.stageFail n 4)
    else
      let s := if hasEcho then (s.wr F.QTZ_PORT_STAT_RTT_NS (satAt 12 rtt) n).fcUpdate n else s
      match (s.pt n).swapRx with
      | some w => if w.phase = 2 ∧ st = 7 then .next (s.swapTaken n w) else .next s
      | none => .next s

/-- FC_STATE (R360). -/
def execFcState (n : Port) (arg : BitVec 9) (s : State) : Host.Outcome State Fault Refusal :=
  if s.portPres n = false then .next s
  else .next ((portQueues n).foldl (fun s q => s.wb F.QTZ_Q_OFF_RX (bitAt arg.toNat q) n q) s)

/-- TRAINING_FRAME_RX (R319 to R322, R346): MARKER, polarity, PLANE, the preset that the partner asks for, READY, and SPARE_USE, taken to name the
lane the frame came on (log 29). -/
def execTrainingFrameRx (n : Port) (lane : Fin 9) (f : TrainFrame) (s : State) : Host.Outcome State Fault Refusal :=
  let st := s.pstate n
  let l : Nat := lane
  if s.portPres n = false ∨ st = 0 ∨ 4 < st ∨ physCount n ≤ l then .next s
  else if st = 3 ∧ f.nlane.toNat ≠ physCount n then .next (s.stageFail n 5)
  else
    let s := s.modPt n (fun p => { p with seen := putBits p.seen l 1 1, planes := SMap.put p.planes l f.plane.toNat,
                                          peerReady := f.ready && decide (f.stage.toNat = st) })
    let s := if st ≤ 2 then s.wb F.QTZ_LANE_RX_POL_INV f.inverted n l else s
    if st = 4 then
      let s := if s.bit F.QTZ_LANE_TX_OVR_EN n l then s else s.wr F.QTZ_LANE_TX_PRESET (f.req.toNat % 16) n l
      .next (if f.spareUse then s.wr F.QTZ_PORT_STAT_SPARE_TX (s.rd F.QTZ_LANE_RX_LOGICAL n l) n else s)
    else .next s

/-- The lanes whose MARKER was seen. -/
def State.seenLanes (s : State) (n : Nat) : List Nat := (List.range (physCount n)).filter (fun l => bitAt (s.pt n).seen l)

/-- Every lane seen sees the PLANE that an order gives it (R321). -/
def State.inOrder (s : State) (n : Nat) (rev : Bool) : Bool :=
  (s.seenLanes n).all (fun l => SMap.get (s.pt n).planes 255 l = (if rev then physCount n - 1 - l else l))

/-- ORDER's end (R321): direct or reversed, at most one lane without a marker. -/
def State.orderDone (s : State) (n : Nat) : State :=
  let rev := !s.inOrder n false && s.inOrder n true
  if (!s.inOrder n false && !rev) || decide ((s.seenLanes n).length < laneCount n) then s.stageFail n 5
  else
    let s := s.wb F.QTZ_PORT_STAT_REVERSED rev n
    let s := (List.range (physCount n)).foldl (fun (s : State) l =>
      let k := if rev then physCount n - 1 - l else l
      let s := s.wr F.QTZ_LANE_RX_LOGICAL (if k < laneCount n then k else 15) n l
      if s.bit F.QTZ_LANE_TX_OVR_EN n l then s.wr F.QTZ_LANE_TX_PRESET (s.rd F.QTZ_LANE_TX_OVR_PRESET n l) n l else s) s
    s.wr F.QTZ_PORT_STAT_STATE 4 n

/-- The active lanes: physical lanes that carry a logical one. -/
def State.activeLanes (s : State) (n : Nat) : List Nat := (List.range (physCount n)).filter (fun l => s.rd F.QTZ_LANE_RX_LOGICAL n l ≠ 15)

/-- A lane is measured and has at least FOM 64. -/
def State.laneGood (s : State) (n l : Nat) : Bool := decide (s.rd F.QTZ_LANE_RX_CLASS n l ≠ 3) && decide (64 ≤ s.rd F.QTZ_LANE_RX_FOM n l)

/-- ADAPT's end (R322): one lane below 64 is replaced by the spare, else the stage fails. A lane that shows no marker counts as below 64. -/
def State.adaptDone (s : State) (n : Nat) : State :=
  let bad := (s.activeLanes n).filter (fun l => !s.laneGood n l)
  let go (s : State) : State := (s.wr F.QTZ_PORT_STAT_STATE 5 n).modPt n (fun p => { p with sinceAlign := 4095 })
  if ((s.activeLanes n).filter (fun l => bitAt (s.pt n).seen l)).any (fun l => s.rd F.QTZ_LANE_RX_CLASS n l = 3) && !(s.pt n).restExit then s
  else match bad, s.physOf n 15 with
    | [], _ => go s
    | [l], some sp =>
      if s.laneGood n sp ∧ s.rd F.QTZ_PORT_STAT_SPARE_RX n = 15 then
        let k := s.rd F.QTZ_LANE_RX_LOGICAL n l
        go (((s.wr F.QTZ_LANE_RX_LOGICAL 15 n l).wr F.QTZ_LANE_RX_LOGICAL k n sp).wr F.QTZ_PORT_STAT_SPARE_RX k n)
      else s.stageFail n 2
    | _, _ => s.stageFail n 2

/-- BRINGUP_STAGE_DONE (R320 to R323): the next stage; UP is logged, the results are stored, and start-up may go on. -/
def execBringupStageDone (n : Port) (s : State) : Host.Outcome State Fault Refusal :=
  let p := s.pt n
  let next (k : Nat) : State := (s.wr F.QTZ_PORT_STAT_STATE k n).modPt n (fun p => { p with peerReady := false })
  if s.portPres n = false then .next s
  else match s.pstate n with
    | 1 => if (s.seenLanes n).length < laneCount n ∨ p.peerReady = false then .next s else .next (next 2)
    | 2 => if p.peerReady then .next (next 3) else .next s
    | 3 => if p.peerReady then .next ((s.modPt n (fun p => { p with peerReady := false })).orderDone n) else .next s
    | 4 => if p.peerReady ∨ p.restExit then .next ((s.modPt n (fun p => { p with peerReady := false })).adaptDone n) else .next s
    | 5 => .next (next 6)
    | 6 =>
      let s := (next 7).modPt n (fun p => { p with fails := 0, stored := true, restExit := false })
      let d := [(n : Nat), s.rd F.QTZ_PORT_STAT_RTT_NS n, s.rd F.QTZ_PORT_STAT_REVERSED n]
        ++ (List.range (physCount n)).map (fun l => s.rd F.QTZ_LANE_RX_LOGICAL n l)
      .next ((s.logE 0x0701 (portIsland n) 1 d).startUp)
    | _ => .next s

/-- The cause that the stage table gives a stage; ALIGN has two (R320). -/
def stageCause (st cause : Nat) : Nat :=
  if st = 3 then 5 else if st = 4 then 2 else if st = 5 then (if cause = 4 then 4 else 3) else 1

/-- BRINGUP_STAGE_TIMEOUT (R320, R324): DETECT has no limit. -/
def execBringupStageTimeout (n : Port) (cause : Fin 7) (s : State) : Host.Outcome State Fault Refusal :=
  let st := s.pstate n
  if s.portPres n = false ∨ st < 2 ∨ 6 < st then .next s else .next (s.stageFail n (stageCause st cause))

/-- BRINGUP_RESTART (R324): the 10 µs squelch ends. -/
def execBringupRestart (n : Port) (s : State) : Host.Outcome State Fault Refusal :=
  if (s.pt n).hold then .next (s.startBringup n (s.pt n).seeded) else .next s

/-- DOWN_HOLD_END (R324). -/
def execDownHoldEnd (n : Port) (s : State) : Host.Outcome State Fault Refusal :=
  if s.pstate n = 8 then .next (s.startBringup n (s.pt n).seeded) else .next s

/-- The figure of merit of E errors in a window of N slots (R325): the largest k up to 255 with 10^k × E³² ≤ N³². -/
def fomOf (e n : Nat) : Nat :=
  if e = 0 then 255 else (List.range 256).foldl (fun m k => if 10 ^ k * e ^ 32 ≤ n ^ 32 then k else m) 0

/-- The class of a figure of merit (R326). -/
def fomClass (f : Nat) : Nat := if 96 ≤ f then 0 else if 64 ≤ f then 1 else 2

/-- A lane needs the spare and there is none to have (R338): SERVICE is set and logged. -/
def State.noSpare (s : State) (n l fom : Nat) : State :=
  if s.bit F.QTZ_PORT_STAT_SERVICE n then s
  else State.noteService s ((s.wb F.QTZ_PORT_STAT_SERVICE true n).logE 0x0704 (portIsland n) 3 [n, l, fom])

/-- The receiver starts a switch of a logical lane (R328), taking over a check's wake (R339). -/
def State.startSwap (s : State) (n k fom : Nat) (los : Bool) : State :=
  s.modPt n (fun p => { ((p.unsay 1).say 1 k) with swapRx := some ⟨k, 0, los, fom, s.now⟩, checking := false })

/-- A BAD window of an active lane (R326, R338): the switch, of the worse lane when two are BAD in the same window. -/
def State.laneBad (s : State) (n l fom : Nat) (los : Bool) : State :=
  let k := s.rd F.QTZ_LANE_RX_LOGICAL n l
  let s := if los then s else s.logE 0x0704 (portIsland n) 2 [n, l, fom]
  match (s.pt n).swapRx with
  | some w =>
    if w.lane = k then (if los then s.modPt n (fun p => { p with swapRx := some { w with los := true } }) else s)
    else if w.at_ = s.now ∧ w.phase = 0 ∧ w.los = false ∧ (fom < w.fom ∨ (fom = w.fom ∧ k < w.lane)) then s.startSwap n k fom los
    else s.noSpare n l fom
  | none =>
    if s.rd F.QTZ_PORT_STAT_SPARE_RX n ≠ 15 ∨ s.bit F.QTZ_PORT_STAT_SPARE_BAD n then s.noSpare n l fom
    else s.startSwap n k fom los

/-- SPARE_BAD is set and logged (R327, R328). -/
def State.spareBad (s : State) (n : Nat) : State := (s.wb F.QTZ_PORT_STAT_SPARE_BAD true n).logE 0x0706 (portIsland n) 2 [n, 0]

/-- A switch fails at the receiver (R328, R343, R344): after a loss of signal the port goes down. -/
def State.swapFailed (s : State) (n : Nat) (w : SwapRx) : State :=
  let s := (s.modPt n (fun p => { (p.unsay 1) with swapRx := none })).logE 0x0705 (portIsland n) 3 [n, 0, w.lane]
  if w.los then s.portDown n else s

/-- FOM_WINDOW_END (R325 to R328, R333, R338). -/
def execFomWindowEnd (n : Port) (lane : Fin 9) (errors : BitVec 28) (short : Bool) (s : State) : Host.Outcome State Fault Refusal :=
  let l : Nat := lane
  let st := s.pstate n
  let k := s.rd F.QTZ_LANE_RX_LOGICAL n l
  let p := s.pt n
  let measured := st = 4 || (st = 7 && (decide (k ≠ 15) || p.checking || p.swapRx.any (fun w => w.phase = 1)))
  if s.portPres n = false ∨ physCount n ≤ l ∨ measured = false then .next s
  else
    let fom := fomOf errors.toNat (if short then 2 ^ 20 else 2 ^ 27)
    let old := s.rd F.QTZ_LANE_RX_CLASS n l
    let s := ((s.wr F.QTZ_LANE_RX_FOM fom n l).wr F.QTZ_LANE_RX_FOM_MIN (min fom (s.rd F.QTZ_LANE_RX_FOM_MIN n l)) n l)
    let s := (s.wr F.QTZ_LANE_RX_ERR_SYM errors.toNat n l).wr F.QTZ_LANE_RX_CLASS (fomClass fom) n l
    if st = 4 then
      .next (if p.restExit ∧ k ≠ 15 ∧ fom < 96 then s.logE 0x0709 (portIsland n) 1 [n, l, fom] else s)
    else if k ≠ 15 then
      if fomClass fom = 2 then .next (s.laneBad n l fom false)
      else if fomClass fom = 1 ∧ old = 0 then .next (s.logE 0x0703 (portIsland n) 1 [n, l, fom])
      else .next s
    else match p.swapRx with
      | some w =>
        if w.phase ≠ 1 then .next s
        else if 64 ≤ fom then .next (s.modPt n (fun p => { p with swapRx := some { w with phase := 2 } }))
        else .next (((s.spareBad n).modPt n (fun p => p.say 4 w.lane)).swapFailed n w)
      | none =>
        let s := s.modPt n (fun p => { p with checking := false })
        if 64 ≤ fom then .next (s.wb F.QTZ_PORT_STAT_SPARE_BAD false n)
        else if s.bit F.QTZ_PORT_STAT_SPARE_BAD n then .next s else .next (s.spareBad n)

/-- SPARE_CHECK (R327): the unused spare is woken for one short window. -/
def execSpareCheck (n : Port) (s : State) : Host.Outcome State Fault Refusal :=
  if s.pstate n = 7 ∧ s.rd F.QTZ_PORT_STAT_SPARE_RX n = 15 ∧ (s.pt n).swapRx = none then .next (s.modPt n (fun p => { p with checking := true }))
  else .next s

/-- SWAP_REQ (R328, R329). -/
def execSwapReq (n : Port) (k : Fin 8) (s : State) : Host.Outcome State Fault Refusal :=
  let p := s.pt n
  if s.pstate n ≠ 7 ∨ p.swapTx = some (k : Nat) then .next s
  else if laneCount n ≤ (k : Nat) ∨ s.rd F.QTZ_PORT_STAT_SPARE_TX n ≠ 15 ∨ p.swapTx ≠ none then .next (s.modPt n (fun p => p.say 4 k))
  else .next (s.modPt n (fun p => { (p.say 2 k) with swapTx := some (k : Nat) }))

/-- SWAP_RDY (R328): the receiver measures the spare. -/
def execSwapRdy (n : Port) (k : Fin 8) (s : State) : Host.Outcome State Fault Refusal :=
  match (s.pt n).swapRx with
  | some w => if w.lane = (k : Nat) ∧ w.phase = 0 then .next (s.modPt n (fun p => { (p.unsay 1) with swapRx := some { w with phase := 1 } })) else .next s
  | none => .next s

/-- SWAP_DONE (R328): the transmitter squelches the old lane. -/
def execSwapDone (n : Port) (k : Fin 8) (s : State) : Host.Outcome State Fault Refusal :=
  if (s.pt n).swapTx = some (k : Nat) then .next ((s.wr F.QTZ_PORT_STAT_SPARE_TX k n).modPt n (fun p => { p with swapTx := none })) else .next s

/-- SWAP_FAIL (R328, R329): the answer to an own SWAP_REQ, or the receiver's word that the spare returns to rest. -/
def execSwapFail (n : Port) (k : Fin 8) (s : State) : Host.Outcome State Fault Refusal :=
  let p := s.pt n
  match p.swapRx with
  | some w =>
    if w.lane = (k : Nat) ∧ w.phase = 0 then .next (s.swapFailed n w)
    else if p.swapTx = some (k : Nat) then .next (s.modPt n (fun p => { p with swapTx := none })) else .next s
  | none => if p.swapTx = some (k : Nat) then .next (s.modPt n (fun p => { p with swapTx := none })) else .next s

/-- Both directions doze from now on (R333). -/
def State.noteDoze (s : State) (n : Nat) : State :=
  if s.rd F.QTZ_PORT_STAT_TX_PWR n = 1 ∧ s.rd F.QTZ_PORT_STAT_RX_PWR n = 1 then s.modPt n (fun p => { p with dozed := some s.now }) else s

/-- DOZE_ENTER (R330, R331): one IDLE block that carries DOZE, then beacons only. -/
def execDozeEnter (n : Port) (s : State) : Host.Outcome State Fault Refusal :=
  let p := s.pt n
  if (n : Nat) = 16 ∨ s.pstate n ≠ 7 ∨ s.rd F.QTZ_PORT_STAT_TX_PWR n ≠ 0 ∨ s.bit F.QTZ_PORT_PWR_DOZE_EN n = false ∨ s.txOf n ≠ []
      ∨ p.sending ≠ [] ∨ p.store ≠ [] ∨ p.ctl ≠ [] ∨ p.nakDue = true then .next s
  else .next ((((s.modPt n (fun p => p.say 5 0)).blockOut n 2 0 0 63 0 0).wr F.QTZ_PORT_STAT_TX_PWR 1 n).noteDoze n)

/-- DOZE (R331): the receiver holds its loops. -/
def execLinkDoze (n : Port) (s : State) : Host.Outcome State Fault Refusal :=
  if s.pstate n = 7 ∧ (n : Nat) ≠ 16 then .next ((s.wr F.QTZ_PORT_STAT_RX_PWR 1 n).noteDoze n) else .next s

/-- The rest exit (R333): a seeded bring-up from ADAPT on that keeps the lane map; the active lanes are measured again. -/
def State.restExit (s : State) (n : Nat) : State :=
  let s := ((s.wr F.QTZ_PORT_STAT_STATE 4 n).wr F.QTZ_PORT_STAT_TX_PWR 0 n).wr F.QTZ_PORT_STAT_RX_PWR 0 n
  let s := (s.activeLanes n).foldl (fun s l => s.wr F.QTZ_LANE_RX_CLASS 3 n l) s
  s.modPt n (fun p => { p with restExit := true, seeded := true, dozed := none, restSent := false, peerReady := false })

/-- A direction has something to send (R332). -/
def State.hasToSend (s : State) (n : Nat) : Bool :=
  let p := s.pt n
  !(s.txOf n).isEmpty || !p.sending.isEmpty || !p.ctl.isEmpty || p.nakDue || p.ackDue || !p.resend.isEmpty

/-- DOZE_WAKE (R332, R333): a dozing direction resumes blocks; a resting port leaves rest. -/
def execDozeWake (n : Port) (s : State) : Host.Outcome State Fault Refusal :=
  if s.hasToSend n = false ∨ s.pstate n ≠ 7 then .next s
  else if s.rd F.QTZ_PORT_STAT_TX_PWR n = 1 then .next ((s.wr F.QTZ_PORT_STAT_TX_PWR 0 n).modPt n (fun p => { p with dozed := none }))
  else if s.rd F.QTZ_PORT_STAT_TX_PWR n = 2 then .next (s.restExit n)
  else .next s

/-- REST_ENTER (R333): the end that first sees REST_IDLE wakes its direction and sends REST_REQ. -/
def execRestEnter (n : Port) (s : State) : Host.Outcome State Fault Refusal :=
  if (n : Nat) = 16 ∨ s.pstate n ≠ 7 ∨ (s.pt n).dozed = none ∨ s.bit F.QTZ_PORT_PWR_REST_EN n = false then .next s
  else .next ((s.wr F.QTZ_PORT_STAT_TX_PWR 0 n).modPt n (fun p => { (p.say 6 0) with restSent := true }))

/-- Both ends turn their loops off (R333). -/
def State.toRest (s : State) (n : Nat) : State :=
  ((s.wr F.QTZ_PORT_STAT_TX_PWR 2 n).wr F.QTZ_PORT_STAT_RX_PWR 2 n).modPt n (fun p => { (p.unsay 6) with restSent := false })

/-- REST_REQ (R333): answered, or taken as the acknowledgement of an own REST_REQ. -/
def execRestReq (n : Port) (s : State) : Host.Outcome State Fault Refusal :=
  if (n : Nat) = 16 ∨ s.pstate n ≠ 7 then .next s
  else if (s.pt n).restSent then .next (s.toRest n)
  else .next (((s.modPt n (fun p => p.say 7 0)).blockOut n 2 0 0 63 0 0).toRest n)

/-- REST_ACK (R333). -/
def execRestAck (n : Port) (s : State) : Host.Outcome State Fault Refusal :=
  if (s.pt n).restSent ∧ s.pstate n = 7 then .next (s.toRest n) else .next s

/-- WAKE_BEACON (R333): the partner leaves rest. -/
def execWakeBeacon (n : Port) (s : State) : Host.Outcome State Fault Refusal :=
  if s.pstate n = 7 ∧ s.rd F.QTZ_PORT_STAT_RX_PWR n = 2 then .next (s.restExit n) else .next s

/-- LOS_DECLARE (R310, R343, R344): not on a lane whose partner announced its squelch; one active lane is a BAD window, two take the port down. -/
def execLosDeclare (n : Port) (lane : Fin 9) (s : State) : Host.Outcome State Fault Refusal :=
  let l : Nat := lane
  let k := s.rd F.QTZ_LANE_RX_LOGICAL n l
  if s.portPres n = false ∨ physCount n ≤ l ∨ (s.pt n).silent = true ∨ s.rd F.QTZ_PORT_STAT_QSTATE n = 2 ∨ s.pstate n < 4 ∨ 7 < s.pstate n
      ∨ (k = 15 ∧ s.rd F.QTZ_PORT_STAT_SPARE_RX n ≠ 15) then .next s
  else
    let s := (s.wb F.QTZ_LANE_RX_LOS true n l).bump F.QTZ_PORT_RPL_LOS_EVT 1 n
    if k = 15 ∨ s.pstate n ≠ 7 then .next s
    else if 2 ≤ ((s.activeLanes n).filter (fun m => s.bit F.QTZ_LANE_RX_LOS n m)).length then .next (s.portDown n)
    else .next (s.laneBad n l 0 true)

/-- A port is quiesced (R334): both ends squelch, announced. -/
def State.quiesced (s : State) (n : Nat) : State :=
  let s := (s.wr F.QTZ_PORT_STAT_QSTATE 2 n).wr F.QTZ_PORT_STAT_STATE 9 n
  let s := (s.markDown n true).reoffer n
  let s := s.modPt n (fun p => { p with silent := true, restExit := false, hold := false, swapRx := none, swapTx := none, ctl := [] })
  s.logE 0x0708 (portIsland n) 1 [n]

/-- A port starts to drain (R334): marked down, QUIESCE sent; tree edges over it break (R423). -/
def State.drainPort (s : State) (n : Nat) : State :=
  let s := ((s.markDown n true).wr F.QTZ_PORT_STAT_QSTATE 1 n).modPt n (fun p => { (p.say 8 0) with qsent := true })
  (s.clxEdgeDown n).clxGo

/-- A write of QREQ = 1 by the host physical function (R334, R341). -/
def State.qreqOn (s : State) (n : Nat) : State :=
  if n = 16 ∨ s.portPres n = false ∨ s.bit F.QTZ_PORT_CTRL_QREQ n then s
  else
    let s := s.wb F.QTZ_PORT_CTRL_QREQ true n
    if s.rd F.QTZ_PORT_STAT_QSTATE n ≠ 0 then s
    else if s.pstate n = 7 then s.drainPort n else s.quiesced n

/-- A write of QREQ = 0 (R335): from DETECT with a full adaptation. -/
def State.qreqOff (s : State) (n : Nat) : State :=
  if n = 16 ∨ s.portPres n = false then s
  else
    let s := s.wb F.QTZ_PORT_CTRL_QREQ false n
    if s.rd F.QTZ_PORT_STAT_QSTATE n = 0 then s
    else (((s.wr F.QTZ_PORT_STAT_QSTATE 0 n).logE 0x0708 (portIsland n) 1 [n]).reoffer n).startBringup n false

/-- QREQ_QUIESCE (R334, R341). -/
def execQreqQuiesce (n : Port) (src : Src) (s : State) : Host.Outcome State Fault Refusal :=
  match src.host with
  | .pf => .next (s.qreqOn n)
  | _ => .next (s.bump F.FLT_WR_REJ_COUNT)

/-- QUIESCE (R334): the neighbour quiesces its direction and answers. -/
def execLinkQuiesce (n : Port) (s : State) : Host.Outcome State Fault Refusal :=
  if s.pstate n ≠ 7 then .next s
  else
    let s := if s.rd F.QTZ_PORT_STAT_QSTATE n = 0 then s.drainPort n else s
    .next (s.modPt n (fun p => { (p.say 9 0) with qpeer := true }))

/-- QUIESCE_ACK (R334). -/
def execQuiesceAck (n : Port) (s : State) : Host.Outcome State Fault Refusal :=
  if (s.pt n).qsent then .next (s.modPt n (fun p => { (p.unsay 8) with qack := true })) else .next s

/-- QUIESCE_DRAIN_END (R334, R341): a switch completes first. -/
def execQuiesceDrainEnd (n : Port) (s : State) : Host.Outcome State Fault Refusal :=
  if s.rd F.QTZ_PORT_STAT_QSTATE n ≠ 1 ∨ (s.pt n).swapRx ≠ none ∨ (s.pt n).swapTx ≠ none then .next s else .next (s.quiesced n)

/-- QREQ_RESUME (R335). -/
def execQreqResume (n : Port) (src : Src) (s : State) : Host.Outcome State Fault Refusal :=
  match src.host with
  | .pf => .next (s.qreqOff n)
  | _ => .next (s.bump F.FLT_WR_REJ_COUNT)

/-- FORCE_SWAP written (R336): a switch of the named lane whatever its FOM. -/
def State.forceSwap (s : State) (n k : Nat) : State :=
  if s.pstate n = 7 ∧ k < laneCount n ∧ (s.pt n).swapRx = none then s.startSwap n k 255 false else s

/-- FORCE_SWAP (R336). -/
def execForceSwap (n : Port) (src : Src) (k : Fin 8) (s : State) : Host.Outcome State Fault Refusal :=
  if s.portPres n = false then .next s
  else if src.host ≠ .pf ∨ s.bit F.FLT_EXPERT_EN_EN = false then .next (s.bump F.FLT_WR_REJ_COUNT)
  else .next ((s.wr F.QTZ_PORT_CTRL_SWAP_LANE k n).forceSwap n k)

/-- TEST_EN and LOOPBACK written (R337): accepted only while the port is quiesced. -/
def State.testMode (s : State) (n : Nat) (test loop : Bool) : State :=
  if test = s.bit F.QTZ_PORT_CTRL_TEST_EN n ∧ loop = s.bit F.QTZ_PORT_CTRL_LOOPBACK n then s
  else if s.rd F.QTZ_PORT_STAT_QSTATE n = 2 then (s.wb F.QTZ_PORT_CTRL_TEST_EN test n).wb F.QTZ_PORT_CTRL_LOOPBACK loop n
  else s.wb F.QTZ_PORT_CTRL_REJ true n

/-- PORT_TEST_MODE (R336, R337). -/
def execPortTestMode (n : Port) (src : Src) (test loop : Bool) (s : State) : Host.Outcome State Fault Refusal :=
  if s.portPres n = false then .next s
  else if src.host ≠ .pf ∨ s.bit F.FLT_EXPERT_EN_EN = false then .next (s.bump F.FLT_WR_REJ_COUNT)
  else .next (s.testMode n test loop)

/-- A write of QTZ_PORT_PWR (R336): the Agate window implements SPARE_CHK and FMT_REJ only. -/
def State.portPwrWrite (s : State) (src : Src) (size a n v : Nat) : State :=
  if s.portPres n = false then s
  else if src ≠ .pf then s.bump F.FLT_WR_REJ_COUNT
  else (((fieldsAt (F.QTZ_PORT_PWR_DOZE_EN.regAddr n 0)).filter (fun t => decide (n ≠ 16) || decide (26 ≤ t.1.lo))).foldl
    (writeField src size a v) (s, 0)).1

/-- QTZ_PORT_PWR_WRITE. -/
def execQtzPortPwrWrite (n : Port) (src : Src) (v : BitVec 64) (s : State) : Host.Outcome State Fault Refusal :=
  .next (s.portPwrWrite src.host 8 (F.QTZ_PORT_PWR_DOZE_EN.regAddr n 0) n v.toNat)

/-- FOM_MIN_CLR. -/
def execFomMinClr (n : Port) (lane : Fin 9) (src : Src) (s : State) : Host.Outcome State Fault Refusal :=
  if s.portPres n = false ∨ physCount n ≤ (lane : Nat) then .next s
  else if src.host ≠ .pf then .next (s.bump F.FLT_WR_REJ_COUNT)
  else .next (s.wr F.QTZ_LANE_RX_FOM_MIN 255 n lane)

/-- A link reset of a port (R138, R153, R341): a quiesced port discards it and sets REJ. -/
def State.linkReset (s : State) (n : Nat) : State :=
  if s.portPres n = false then s
  else if s.rd F.QTZ_PORT_STAT_QSTATE n = 2 then s.wb F.QTZ_PORT_CTRL_REJ true n
  else
    let up := s.portUp n || (s.pt n).restExit
    let s := s.logE 0x0505 (portIsland n) 1 [n]
    let s := if up then (s.markDown n true).clxEdgeDown n else s
    let s := (s.wr F.QTZ_PORT_STAT_STATE 0 n).modPt n (fun p => { p with restExit := false })
    ((s.reoffer n).startBringup n true).clxGo

/-- LINK_RESET (R138, R141): by the host physical function only. -/
def execLinkReset (n : Port) (src : Src) (s : State) : Host.Outcome State Fault Refusal :=
  match src.host with
  | .pf => .next (s.linkReset n)
  | _ => .next s.rstReject

/-- AGATE_LINK_RESET (R138, R141). -/
def execAgateLinkReset (src : Src) (s : State) : Host.Outcome State Fault Refusal :=
  match src.host with
  | .pf => .next (s.linkReset 16)
  | _ => .next s.rstReject

/-- The older of two packets: by arrival at this device, then the lower input port, on-die sources last (R380). -/
def olderEnt (a b : TxEnt) : TxEnt := if b.at_ < a.at_ ∨ (b.at_ = a.at_ ∧ b.src < a.src) then b else a

/-- The oldest packet of a list. -/
def oldestEnt : List TxEnt → Option TxEnt
  | [] => none
  | e :: t => match oldestEnt t with
    | none => some e
    | some f => some (olderEnt e f)

/-- Traffic that a SUSPECT pair holds back at the Agate port (R462): requests and twin messages but the heartbeats. -/
def State.suspectHeld (s : State) (n : Nat) (e : TxEnt) : Bool :=
  decide (n = 16) && decide (s.rd F.AGT_STAT_STATE = 3) && ((opcTwin e.pkt.opc && decide (e.pkt.opc ≠ 0x21)) || decide (e.pkt.opc ≤ 5))

/-- The packets that an output may serve: their downstream queue is ON (R360, R380), and SUSPECT does not hold them. -/
def State.servable (s : State) (n : Nat) : List TxEnt :=
  (s.txOf n).filter (fun e => s.queueOn n (pktQueue e.pkt) && !s.suspectHeld n e)

/-- A bulk packet. -/
def TxEnt.bulk (e : TxEnt) : Bool := decide (2 ≤ e.pkt.vc) && decide (e.pkt.vc ≤ 5)

/-- The oldest servable packet of the queues that come before bulk, in the fixed order VC0.R, VC0.Q, VC1, VC6, VC7 (R380). -/
def State.serveFixed (s : State) (n : Nat) : Option TxEnt :=
  ([1, 0, 2, 7, 8].filterMap (fun q => oldestEnt ((s.servable n).filter (fun e => pktQueue e.pkt = q)))).head?

/-- The oldest servable bulk packet of a partition (R381). -/
def State.bulkOf (s : State) (n p : Nat) : Option TxEnt := oldestEnt ((s.servable n).filter (fun e => e.bulk && decide (e.pkt.part = p)))

/-- Deficit round robin (R381): the lowest partition whose credit covers its oldest packet; when none does, a round of credit to each that waits. The
credit of a partition with nothing waiting is dropped (PRESUMED, log 30). -/
def State.serveBulk (n : Nat) : Nat → State → State × Option TxEnt
  | 0, s => (s, none)
  | k + 1, s =>
    let ps := (List.range 16).filter (fun p => (s.bulkOf n p).isSome)
    if ps.isEmpty then (s, none)
    else
      let cred (p : Nat) : Nat := SMap.get s.quartz.credit 0 (16 * n + p)
      match ps.find? (fun p => match s.bulkOf n p with | some e => decide (e.pkt.size ≤ cred p) | none => false) with
      | some p => (s, s.bulkOf n p)
      | none =>
        State.serveBulk n k (s.modQ (fun q => { q with credit := ps.foldl (fun m p =>
          SMap.set m 0 (16 * n + p) (SMap.get m 0 (16 * n + p) + s.rd F.QTZ_PART_WEIGHT p * 256)) q.credit }))

/-- Credit after a bulk packet is served; a partition with nothing left to send keeps none. -/
def State.spendCredit (s : State) (n : Nat) (e : TxEnt) : State :=
  let m := SMap.set s.quartz.credit 0 (16 * n + e.pkt.part) (SMap.get s.quartz.credit 0 (16 * n + e.pkt.part) - e.pkt.size)
  let idle := (List.range 16).filter (fun p => (s.txOf n).all (fun x => !x.bulk || decide (x.pkt.part ≠ p)))
  s.modQ (fun q => { q with credit := idle.foldl (fun m p => SMap.set m 0 (16 * n + p) 0) m })

/-- PACKET_TRANSMIT (R355, R360, R380, R381): the port gives its link the next packet, which stays with it until the link ACK. -/
def execPacketTransmit (n : Port) (s : State) : Host.Outcome State Fault Refusal :=
  if s.pstate n ≠ 7 ∨ s.rd F.QTZ_PORT_STAT_TX_PWR n ≠ 0 then .next s
  else
    let r := match s.serveFixed n with
      | some e => (s, some e)
      | none => State.serveBulk n 20 s
    match r.2 with
    | none => .next r.1
    | some e =>
      let s := r.1.modQ (fun q => { q with txq := SMap.set q.txq [] n ((r.1.txOf n).erase e),
                                           unacked := SMap.set q.unacked [] n (SMap.get q.unacked [] n ++ [e]), sent := ((n : Nat), e.pkt) :: q.sent })
      let s := s.modPt n (fun p => { p with sending := p.sending ++ [(e.pkt.len + 1, false)] })
      if e.bulk then
        .next ((s.wr F.QTZ_PART_BULK_WAIT_NS (s.rd F.QTZ_PART_BULK_WAIT_NS e.pkt.part + (s.now - e.at_)) e.pkt.part).spendCredit n e)
      else .next s

end Sys2Proof.Machine
end

