-- ==== Sys2Proof/Machine/IslReset.lean ====
section
/-! DEFINITION. Machine/IslReset.lean: the island reset: fence, drain, reset and release (R136, R137, R143, R152, R153, R194, R273, R274, R342, R550, R574). -/

namespace Sys2Proof.Machine

/-- An island reset enters a phase: 1 drain, 2 reset. -/
def State.setIslRst (s : State) (i ph : Nat) : State := { s with start := { s.start with isl := SMap.put s.start.isl i ph } }

/-- An island reset starts (R136, R152): absorbed while it runs or a module reset is due; an absent island and Flint's have none. -/
def State.resetStart (s : State) (i : Nat) : State :=
  if 304 ≤ i ∨ s.islPres i = false ∨ s.islResetting i = true ∨ s.start.rstOn = true ∨ s.start.rstPend.isSome = true then s
  else ((s.setIslRst i 1).wb F.ISL_RST_GO true i).bump F.ISL_RST_COUNT 1 i

/-- A write of ISL_RST (R141, R143, R153, R11): GO by the host physical function only, with the expert enable of the owning partition or Flint's, from
HOST_READY on; never on island 304. -/
def State.islRstWrite (s : State) (src : Src) (size a v i : Nat) : State :=
  if src ≠ .pf then s.bump F.ISL_WR_REJ_COUNT
  else
    let f (s : State) (x : Fld) : State := if covers size a x && bitAt v x.lo then s.wb x false i else s
    let s := f (f s F.ISL_RST_PERM_REJ) F.ISL_RST_FMT_REJ
    if covers size a F.ISL_RST_GO = false ∨ bitAt v 0 = false then s
    else if i = 304 then s.wb F.ISL_RST_FMT_REJ true i
    else if s.islPres i = false then s
    else
      let ok := match s.islPart i with | some p => s.bit F.HST_PART_CTL_EXPERT_EN p | none => s.bit F.FLT_EXPERT_EN_EN
      if ok = false ∨ s.stage < 6 then s.wb F.ISL_RST_PERM_REJ true i else s.resetStart i

/-- ISLAND_RESET: ISL_RST GO. -/
def execIslandReset (i : Fin 305) (src : Src) (s : State) : Host.Outcome State Fault Refusal :=
  .next (s.islRstWrite src.host 8 F.ISL_RST_GO.addr 1 i)

/-- PERST_N_ASSERT (R132, R145): PERST_N low is an island reset of island 303; HOST_READY waits for it to rise. -/
def execPerstNAssert (s : State) : Host.Outcome State Fault Refusal :=
  .next ({ s with start := { s.start with perst := false } }.resetStart 303)

/-- The cluster that a request's owner is. -/
def Owner.cluster : Owner → Option Nat
  | .dma c _ _ | .dmaSig c _ | .dmaPsn c | .sig c | .amo c | .near c _ => some c
  | _ => none

/-- The logic of a cluster's island is reset (R133, R136, R194, R274): the program goes, its remote requests have no one to tell, signals to it complete to
their senders with BUSY 0x12; SRAM is kept. -/
def State.cluIslReset (s : State) (c : Nat) : State :=
  let s := s.clxMemberGone c
  let s := s.modQ (fun q => { q with
    ctx := q.ctx.map (fun e => if e.2.owner.cluster = some c then (e.1, { e.2 with orphan := true, since := s.now, retry := none }) else e),
    qwait := q.qwait.filter (fun w => decide (w.owner.cluster ≠ some c)) })
  let tgt := s.quartz.sigs.filter (fun m => decide (m.dst = c ∧ m.src ≠ c))
  let s := s.modQ (fun q => { q with sigs := q.sigs.filter (fun m => decide (m.dst ≠ c ∧ m.src ≠ c)) })
  let s := tgt.foldl (fun (s : State) m => s.sigResolved m.src (Code.busy 0x12)) s
  ((s.cluClear c).clearRegs (fun f i _ => bitAt f.kinds 2 && decide (f.ix = .clu) && decide (i = c))).clxGo

/-- A DIRTY line that the drain phase did not reach: its words go to HBM poisoned, with a class-1 record (R136, KIND 0x10). -/
def State.poisonBack (s : State) (a : Nat) (sl : Nat) : State :=
  match s.lineAt a with
  | none => s
  | some l =>
    let s := (List.range 16).foldl (fun (s : State) w =>
      if bitsAt l.dirty (8 * w) 8 = 0 then s else s.modSl (fun t => { t with cpsn := SMap.set t.cpsn false (a + 8 * w) true })) s
    (s.lineWriteBack a).errRec 0x10 (272 + sl) 1 (Code.poison 1) a

/-- A slice drains and is reset (R133, R136, R248): its DIRTY lines are written back, as many as the 10 µs allow (a free number), the rest poisoned; every line is
invalidated; fills end with BUSY 0x12. -/
def State.slIslReset (s : State) (sl : Nat) : State :=
  let ls := (s.slate.lines.filter (fun e => decide (e.2.slice = sl))).map (fun e => 128 * e.1)
  let d := ls.filter (fun a => match s.lineAt a with | some l => decide (l.dirty ≠ 0) | none => false)
  let n := Config.freeNat s.free % (d.length + 1)
  let s := (d.take n).foldl (fun (s : State) a => s.lineWriteBack a) s.drawn
  let s := (d.drop n).foldl (fun (s : State) a => s.poisonBack a sl) s
  let s := ls.foldl (fun (s : State) a => s.dropLine a) s
  let fs := s.slate.fills.filter (fun f => decide (f.slice = sl))
  let s := s.modSl (fun t => { t.dropRemote (fun k _ => decide (k = sl)) with
    fills := t.fills.filter (fun f => decide (f.slice ≠ sl)), waits := t.waits.filter (fun w => decide (w.slice ≠ sl)) })
  fs.foldl (fun (s : State) f =>
    (s.clu.map Prod.fst).foldl (fun (s : State) c => s.nearFill c f.line (Code.busy 0x12) ⟨f.line, [], 0⟩) (s.prefetchFailed f.line (Code.busy 0x12))) s

/-- The ports of a port group's island. -/
def groupPorts (i : Nat) : List Nat := (List.range 17).filter (fun n => decide (portIsland n = i))

/-- A port squelches and stays so until bring-up is started again (R342, R631). -/
def State.squelch (s : State) (n : Nat) : State := if s.portPres n then (s.portDown n).wr F.QTZ_PORT_STAT_STATE 0 n else s

/-- The host sees a surprise down (R510). -/
def State.surpriseDown (s : State) : State :=
  if s.bit F.HST_STAT_LINK_UP = false then s else (s.linkGone.wb F.HST_STAT_SDOWN true).logE 0x0B02 0xF010 3

/-- The logic of an island is reset (R133, R136). A controller keeps what its fuses and used spares say; its trackers start again. -/
def State.islLogicReset (s : State) (i : Nat) : State :=
  if i < 272 then (match s.islandClu i with | some c => s.cluIslReset c | none => s)
  else if i < 288 then s.slIslReset (i - 272)
  else if i < 293 then (groupPorts i).foldl (fun (s : State) n => s.squelch n) s
  else if i = 293 then s.micaIslandReset
  else if i = 294 then s.jasperIslandReset
  else if i < 303 then s.modHb (i - 295) (fun x => { HbmSt.init with used := x.used })
  else s.surpriseDown

/-- ISLAND_RESET_DRAIN_END (R136): the drain phase has ended. -/
def execIslandResetDrainEnd (i : Fin 305) (s : State) : Host.Outcome State Fault Refusal :=
  if SMap.find s.start.isl i = some 1 then .next ((s.islLogicReset i).setIslRst i 2) else .next s

/-- The chiplet of an island, if it is a cluster's. -/
def islChip (i : Nat) : Option Nat := if i < 272 then some (i / 68) else none

/-- Whether an island is held in reset: its unit or its chiplet has failed, or its rail is gone (R79, R631, R632). -/
def State.islHeld (s : State) (i : Nat) : Bool :=
  s.islFailed i || !bitAt s.pwr.good (islRail i) || (match islChip i with
    | some c => s.flag F.ERR_SUMMARY_CC_FAILED c || s.flag F.DEV_START_CC_FAIL c
    | none => false)

/-- ISLAND_RESET_RELEASE (R74, R75, R136, R158): the island restarts at its requested code and at stretch level 100 %, a pinned sensor error cleared. -/
def execIslandResetRelease (i : Fin 305) (s : State) : Host.Outcome State Fault Refusal :=
  if SMap.find s.start.isl i ≠ some 2 ∨ s.islHeld i = true then .next s
  else
    let s : State := { s with start := { s.start with isl := SMap.del s.start.isl i },
                              err := { s.err with escalated := s.err.escalated.map (fun (e : Nat × Nat × Nat) =>
                                if e.2.1 = (i : Nat) then (e.1, e.2.1, s.now) else e) } }
    let s := s.clearRegs (fun (f : Fld) k _ => bitAt f.kinds 2 && decide (f.ix = .isl) && decide (k = (i : Nat)))
    let s := s.setClk i { s.islClk i with cur := s.reqCode i, run := none, pend := none, low := false, pinned := false, persist := false }
    let s := (s.wb F.ISL_RST_GO false i).logE 0x0504 i 1 [i]
    .next ((groupPorts i).foldl (fun (s : State) n => if s.portPres n && s.start.memInit then s.startBringup n false else s) s)

end Sys2Proof.Machine
end

