-- ==== Sys2Proof/Machine/Errors.lean ====
section
/-! DEFINITION. Machine/Errors.lean: failed units, chiplets and packages, spare clusters and spare rows, and crossings that stall (R25 to R29, R81, R82, R630 to
R662, R686). -/

namespace Sys2Proof.Machine

/-- The error state changed. -/
def State.modErr (s : State) (f : ErrSt → ErrSt) : State := { s with err := f s.err }

/-- The physical position of a logical cluster on its chiplet (R641). -/
def State.cluPos (s : State) (c : Nat) : Nat := s.cluIsland c % 68

/-- Whether a position of a chiplet is a free spare: no slot names it, it is not being mapped, and it has not failed (R641, R643). -/
def State.posFree (s : State) (ch p : Nat) : Bool :=
  decide (p < 68) && (List.range 64).all (fun k => decide (s.cluPos (64 * ch + k) ≠ p)) && !s.islFailed (68 * ch + p)
    && !SMap.get s.err.badPos false (68 * ch + p) && (match SMap.find s.err.mapping ch with | some m => decide (m.pos ≠ p) | none => true)

/-- The free spare positions of a chiplet, lowest first. -/
def State.freeSpares (s : State) (ch : Nat) : List Nat := (List.range 68).filter (fun p => s.posFree ch p)

/-- ERR_SPARE of a chiplet: free spares, clusters failed with no spare, a mapping that runs. -/
def State.noteSpares (s : State) (ch : Nat) : State :=
  let un := ((List.range 64).filter (fun b => s.flag F.ERR_CLU_FAIL_FAIL b ch)).length
  let free := if s.flag F.ERR_SUMMARY_CC_FAILED ch then 0 else (s.freeSpares ch).length
  ((s.wr F.ERR_SPARE_FREE free ch).wr F.ERR_SPARE_UNMAPPED un ch).wb F.ERR_SPARE_BUSY (SMap.find s.err.mapping ch).isSome ch

/-- A cluster stays failed (R644): out of its partition, its bit in ERR_CLU_FAIL, event 0x1004. -/
def State.cluLost (s : State) (c : Nat) : State :=
  let s := match s.cluPart c with | some p => s.wflag F.HST_PART_CTL_CLU (c % 64) false p (c / 64) | none => s
  let s := (s.wflag F.ERR_CLU_FAIL_FAIL (c % 64) true (c / 64)).modErr (fun e => { e with waitMap := e.waitMap.filter (fun k => k ≠ c) })
  (s.logE 0x1004 (s.cluIsland c) 3 [c, s.cluPos c]).noteSpares (c / 64)

/-- A cluster's program stops at once in halt mode with POISON 0x03, whatever CTL.FMODE holds, and posts its entry; its open collective steps abort; the host
learns the loss by vector 259 (R423, R637, R642). -/
def State.cluHalt (s : State) (c : Nat) : State :=
  let s := if (s.cl c).run then (s.modCl c (fun k => { k with fmode := 0 })).deliver c false (Code.poison 3) 0 0 else s
  let s := s.clxMemberGone c
  if (s.cluPart c).isSome then s.msi 0 259 else s

/-- A cluster fails (R631, R642, R659, R661): its record, its halt, the reset of its island, and a place among the failures that wait for a spare. -/
def State.clusterFail (s : State) (c : Nat) : State :=
  let i := s.cluIsland c
  if s.islFailed i then s
  else
    let s := ((s.cluHalt c).markFailed i 0x0C).resetStart i
    (s.modErr (fun e => { e with waitMap := e.waitMap ++ [c], rows := SMap.del e.rows i })).clxGo

/-- CLUSTER_FAIL (R642). -/
def execClusterFail (c : Clu) (s : State) : Host.Outcome State Fault Refusal := .next (State.noteService s (s.clusterFail c))

/-- A chiplet fails (R632, R644): its record, every cluster of it failed with no spare, its islands held in reset. -/
def State.chipletFail (s : State) (ch : Nat) : State :=
  if s.flag F.ERR_SUMMARY_CC_FAILED ch then s
  else
    let t := (s.wflag F.ERR_SUMMARY_CC_FAILED ch true).errRec 0x0D (0xF021 + ch) 2
    let clus := (List.range 64).map (fun k => 64 * ch + k)
    let t := clus.foldl (fun (s : State) c => s.cluHalt c) t
    let t := clus.foldl (fun (s : State) c => (s.cluIslReset c).cluLost c) t
    let t := t.modErr (fun e => { e with mapping := SMap.del e.mapping ch, waitMap := e.waitMap.filter (fun c => decide (c / 64 ≠ ch)) })
    let t := (List.range 68).foldl (fun (s : State) p => s.setIslRst (68 * ch + p) 2) t
    State.noteService s (t.noteSpares ch).clxGo

/-- The module's package is marked failed for an error of the base die (R82, R638): class 4, DIE and LOST. -/
def State.baseFail (s : State) (kind source : Nat) : State := (((s.errRec kind source 4).alert .die).packageFail)

/-- The unit of an island fails (R631, R638): its record of its own, and what the table of failed units says. -/
def State.unitFail (s : State) (i : Nat) : State :=
  if s.islPres i = false ∨ s.islFailed i = true then s
  else
    let t :=
      if i < 272 then (match s.islandClu i with
        | some c => s.clusterFail c
        | none => (s.markFailed i 0x0C).noteSpares (i / 68))
      else if i < 288 then ((s.markFailed i 0x0B).withdrawSlice (i - 272)).modErr (fun e => { e with rows := SMap.del e.rows i })
      else if i < 293 then
        let s := (s.markFailed i 0x12).setIslRst i 2
        (groupPorts i).foldl (fun (s : State) n =>
          let s := if n = 16 ∨ s.portPres n = false then s else s.wb F.QTZ_PORT_STAT_SERVICE true n
          s.squelch n) s
      else if i < 295 then s.markFailed i 0x12
      else if i < 303 then s.stackFail (i - 295)
      else if i = 303 then ((s.markFailed i 0x12).setIslRst i 2).surpriseDown
      else s.baseFail 0x0E 0xF020
    State.noteService s t

/-- BUILT_IN_TEST_FAULT (R631). -/
def execBuiltInTestFault (isl : Fin 305) (s : State) : Host.Outcome State Fault Refusal := .next (s.unitFail isl)

/-- ISLAND_RESET_TIMEOUT (R631): no release within 1 ms of GO. -/
def execIslandResetTimeout (i : Fin 305) (s : State) : Host.Outcome State Fault Refusal :=
  if s.islResetting i then .next (s.unitFail i) else .next s

/-- A class-2 error of a unit that starts an island reset of its own (R631, R662): absorbed while one runs; the third within 24 h fails the unit. -/
def State.unitReset (s : State) (i : Nat) : State :=
  if s.islResetting i ∨ s.islFailed i = true then s
  else
    let old := (SMap.get s.err.cls2 [] i).filter (fun t => decide (s.now < t + 86400000000000))
    let s := (s.modErr (fun e => { e with cls2 := SMap.put e.cls2 i (old ++ [s.now]) })).resetStart i
    if 2 ≤ old.length then s.unitFail i else s

/-- CROSSING_TRANSFER (R26 to R28): a unit is taken whole when there is room for all of it, which ends a stall of the crossing; else it stays on offer. The unit
itself is the work of the command that sends it. -/
def execCrossingTransfer (snd rcv : Fin 305) (whole room : Bool) (s : State) : Host.Outcome State Fault Refusal :=
  if whole && room then .next (s.modErr (fun e => { e with stalls := e.stalls.filter (fun x => decide (x.1 ≠ (snd : Nat) ∨ x.2.1 ≠ (rcv : Nat))) }))
  else .next s

/-- Record a class-2 error of a unit (R636, R662): while the unit's island reset runs it is absorbed, and counted in the COUNT of the unit's newest record. -/
def State.recordOrAbsorb (s : State) (kind i source2 : Nat) : State :=
  match s.err.ring.find? (fun r => decide (r.source = i ∧ r.cls = 2)) with
  | some r =>
    if s.islResetting i then (s.errCount 2).modErr (fun e => { e with ring := e.ring.map (fun q => if q.seq = r.seq then { q with count := satAt 32 (q.count + 1) } else q) })
    else s.errRec kind i 2 0 0 0xFFFF source2
  | none => s.errRec kind i 2 0 0 0xFFFF source2

/-- CROSSING_STALL (R29, R639): 1 ms without acknowledge is recorded against both islands; a second stall within 1 s of the release fails the receiver. -/
def execCrossingStall (snd rcv : Fin 305) (s : State) : Host.Outcome State Fault Refusal :=
  if s.err.stalls.any (fun x => decide (x.1 = (snd : Nat) ∧ x.2.1 = (rcv : Nat))) ∨ s.islPres snd = false ∨ s.islPres rcv = false then .next s
  else
    let again := s.err.escalated.any (fun x => decide (x.1 = (snd : Nat) ∧ x.2.1 = (rcv : Nat) ∧ s.now ≤ x.2.2 + 1000000000))
    let s := s.recordOrAbsorb 0x05 rcv snd
    let s := s.modErr (fun e => { e with stalls := e.stalls ++ [((snd : Nat), (rcv : Nat), s.now)] })
    .next (if again then s.unitFail rcv else s)

/-- CROSSING_ESCALATE (R639): stalled for CROSS_ESC, of which the first millisecond has passed before the record. -/
def execCrossingEscalate (snd rcv : Fin 305) (s : State) : Host.Outcome State Fault Refusal :=
  match s.err.stalls.find? (fun x => decide (x.1 = (snd : Nat) ∧ x.2.1 = (rcv : Nat))) with
  | none => .next s
  | some x =>
    if s.now + 1000000 < x.2.2 + 1000000 * s.rd F.ERR_CFG_CROSS_ESC then .next s
    else
      let same (y : Nat × Nat × Nat) : Bool := decide (y.1 = (snd : Nat) ∧ y.2.1 = (rcv : Nat))
      .next ((s.modErr (fun e => { e with stalls := e.stalls.filter (fun y => !same y),
                                          escalated := e.escalated.filter (fun y => !same y) ++ [((snd : Nat), (rcv : Nat), s.now)] })).unitReset rcv)

/-- A mapping runs on a chiplet (R643 steps 1 and 2). -/
def State.mapStart (s : State) (c p : Nat) : State :=
  (s.modErr (fun e => { e with mapping := SMap.put e.mapping (c / 64) ⟨c, p⟩, waitMap := e.waitMap.filter (fun k => k ≠ c) })).noteSpares (c / 64)

/-- The failure on a chiplet that is mapped next: the lowest logical cluster that no longer runs, whose partition is not being reset (R643, R658, R659). -/
def State.nextMap (s : State) (ch : Nat) : Option Nat :=
  (List.range 64).map (fun k => 64 * ch + k) |>.find? (fun c => s.err.waitMap.contains c && !(s.cl c).run
    && (match s.cluPart c with | some p => !s.flag F.DEV_RST_PART_BUSY p | none => true))

/-- SPARE_MAP_START (R643, R644): with SPARE_AUTO, the lowest free spare; with none free the cluster stays failed. -/
def execSpareMapStart (ch : Fin 4) (s : State) : Host.Outcome State Fault Refusal :=
  if s.bit F.ERR_CFG_SPARE_AUTO = false ∨ (SMap.find s.err.mapping ch).isSome = true then .next s
  else match s.nextMap ch with
    | none => .next s
    | some c => match s.freeSpares ch with
      | [] => .next (State.noteService s (s.cluLost c))
      | p :: _ => .next (s.mapStart c p)

/-- The SEQ of the newest record of a kind and source. -/
def State.recSeq (s : State) (kind source : Nat) : Nat := ((s.err.ring.find? (fun r => decide (r.kind = kind ∧ r.source = source))).map ErrRec.seq).getD 0

/-- SPARE_MAP_DONE (R643 steps 3 and 4, R659): the slot names the spare, whose SRAM and sequencer are clear; an error in the spare fails it, and the next one is
tried. -/
def execSpareMapDone (ch : Fin 4) (bad : Bool) (s : State) : Host.Outcome State Fault Refusal :=
  match SMap.find s.err.mapping ch with
  | none => .next s
  | some m =>
    let c := m.logical
    if bad then
      let t := (s.modErr (fun e => { e with mapping := SMap.del e.mapping ch })).markFailed (68 * ch + m.pos) 0x0C
      match t.freeSpares ch with
      | [] => .next (State.noteService s ((t.cluLost c).noteSpares ch))
      | p :: _ => .next (t.mapStart c p)
    else
      let old := s.cluPos c
      let s := s.wr F.ERR_MAP_POS (putBits (s.rd F.ERR_MAP_POS ch (c % 64 / 8)) (8 * (c % 8)) 8 m.pos) ch (c % 64 / 8)
      let s := ((s.cluClear c).zeroMem (sramAt c 0) 0x400000).clearRegs (fun (f : Fld) i _ =>
        decide (f.ix = .clu) && decide (i = c) && decide (f = F.CLU_ROWS_LEFT ∨ f = F.CLU_ROWS_NC_OFF ∨ bitAt f.kinds 2 = true))
      let s := (s.wflag F.ERR_CLU_FAIL_FAIL (c % 64) false ch).modErr (fun e => { e with
        mapping := SMap.del e.mapping ch, unflashed := e.unflashed ++ [(c, m.pos, old, s.recSeq 0x0C (68 * ch + old))] })
      .next (((s.logE 0x1004 (68 * ch + m.pos) 2 [c, m.pos]).noteSpares ch).requestAll)

/-- SPARE_FLASH_DONE (R643 step 5): the oldest mapping of a chiplet reaches flash; FLASHED is set in the record of the failure. -/
def execSpareFlashDone (ch : Fin 4) (s : State) : Host.Outcome State Fault Refusal :=
  match s.err.unflashed.find? (fun u => decide (u.1 / 64 = (ch : Nat))) with
  | none => .next s
  | some u =>
    let bad := s.islFailed (68 * ch + u.2.2.1)
    .next (s.modErr (fun e => { e with
      unflashed := e.unflashed.erase u, flashMap := SMap.put e.flashMap u.1 u.2.1,
      badPos := if bad then SMap.set e.badPos false (68 * ch + u.2.2.1) true else e.badPos,
      ring := e.ring.map (fun r => if r.seq = u.2.2.2 then { r with flashed := true } else r) }))

/-- The code of a request to map a named spare (R650, R658). -/
def State.spareCode (s : State) (c p : Nat) : Nat :=
  if (s.cl c).run = true ∨ s.posFree (c / 64) p = false then Code.format 0x1C
  else if (SMap.find s.err.mapping (c / 64)).isSome then Code.busy 0x48 else 0

/-- A write of ERR_SPARE_REQ with the code a management write gets (R650, R694). -/
def State.spareWrite (s : State) (src : Src) (size a v : Nat) : State × Nat :=
  if hostOrMgmt src = false then (s.bump F.FLT_WR_REJ_COUNT, 0)
  else
    let r := writeFields s src size a v
    if actionBit s src size a v F.ERR_SPARE_REQ_GO 0 = false then r
    else
      let s := r.1
      let c := s.rd F.ERR_SPARE_REQ_LOGICAL
      let code := s.spareCode c (s.rd F.ERR_SPARE_REQ_PHYS)
      let s := s.wr F.ERR_SPARE_REQ_CODE code
      (if code = 0 then s.mapStart c (s.rd F.ERR_SPARE_REQ_PHYS) else s, code)

/-- SPARE_REQ_GO (R650). -/
def execSpareReqGo (src : Src) (logical : Fin 256) (phys : Fin 128) (s : State) : Host.Outcome State Fault Refusal :=
  .next (s.spareWrite src.host 8 F.ERR_SPARE_REQ_GO.addr (logical + phys * 2 ^ 8 + 2 ^ 15)).1

/-- The row repairs of an island. -/
def State.rowsOf (s : State) (i : Nat) : RowRep := SMap.get s.err.rows ⟨[], [], []⟩ i

/-- They replaced. -/
def State.setRows (s : State) (i : Nat) (x : RowRep) : State := s.modErr (fun e => { e with rows := SMap.set e.rows ⟨[], [], []⟩ i x })

/-- Spare rows left: of a bank of a cluster, or of a slice (R645). -/
def State.rowsLeft (s : State) (i bank : Nat) : Nat :=
  if i < 272 then (match s.islandClu i with | some c => bitsAt (s.rd F.CLU_ROWS_LEFT c) (3 * bank) 3 | none => 0)
  else s.rd F.SLT_ROWS_LEFT (i - 272)

/-- One spare row less. -/
def State.takeRow (s : State) (i bank : Nat) : State :=
  if i < 272 then (match s.islandClu i with
    | some c => s.wr F.CLU_ROWS_LEFT (putBits (s.rd F.CLU_ROWS_LEFT c) (3 * bank) 3 (s.rowsLeft i bank - 1)) c
    | none => s)
  else s.wr F.SLT_ROWS_LEFT (s.rowsLeft i bank - 1) (i - 272)

/-- Whether a repair of an island may begin in a bank: one per bank of a cluster, one per slice (R646). -/
def RowRep.idle (x : RowRep) (i bank : Nat) : Bool := x.running.all (fun r => decide (i < 272) && decide (r.1 ≠ bank))

/-- SRAM_ROW_REPAIR_START (R646 to R648): a candidate row starts copying, or waits; with no spare left it stays in use, recorded, and the third uncorrectable error in
24 h fails the unit. An absent or failed unit has no candidates. -/
def execSramRowRepairStart (isl : Fin 288) (bank : Fin 16) (row : BitVec 16) (unc : Bool) (s : State) : Host.Outcome State Fault Refusal :=
  let i : Nat := isl
  let b : Nat := if i < 272 then bank else 0
  let x := s.rowsOf i
  if s.islFailed i = true ∨ (i < 272 ∧ s.islandClu i = none) then .next s
  else if s.rowsLeft i b ≤ (x.running.filter (fun r => decide (r.1 = b))).length then
    let s := (s.errRec 0x11 i 1 (if unc then Code.poison 1 else 0) 0 0xFFFF 0xFFFF [b, row.toNat]).logE 0x1005 i 2 [i, b, row.toNat]
    if unc = false then .next s
    else
      let l := x.uncorr.filter (fun t => decide (s.now < t.1 + 86400000000000)) ++ [(s.now, b)]
      let s := s.setRows i { x with uncorr := l }
      if 3 ≤ (l.filter (fun t => decide (t.2 = b))).length then .next (s.unitFail i) else .next s
  else if (x.running ++ x.waiting).contains (b, row.toNat) then .next s
  else if x.idle i b then .next (s.setRows i { x with running := x.running ++ [(b, row.toNat)] })
  else if x.waiting.length < 8 then .next (s.setRows i { x with waiting := x.waiting ++ [(b, row.toNat)] })
  else .next s

/-- SRAM_ROW_REPAIR_DONE (R646, R647): the row is switched to its spare, recorded and written to flash at once (DESIGN CHOICE, log 56); the next candidate starts. -/
def execSramRowRepairDone (isl : Fin 288) (bank : Fin 16) (s : State) : Host.Outcome State Fault Refusal :=
  let i : Nat := isl
  let b : Nat := if i < 272 then bank else 0
  let x := s.rowsOf i
  match x.running.find? (fun r => decide (r.1 = b)) with
  | none => .next s
  | some r =>
    let s := ((s.takeRow i b).errRec 0x11 i 0 0 0 0xFFFF 0xFFFF [r.1, r.2]).logE 0x1005 i 1 [i, r.1, r.2]
    let s := (s.modErr (fun e => { e with flashRows := SMap.put e.flashRows (16 * i + b) (SMap.get e.flashRows 0 (16 * i + b) + 1) })).flashRec 0x11 [r.1, r.2]
    let run := x.running.erase r
    let y : RowRep := { x with running := run }
    match x.waiting.find? (fun w => y.idle i w.1) with
    | some w => .next (s.setRows i { y with running := run ++ [w], waiting := x.waiting.erase w })
    | none => .next (s.setRows i y)

/-- The source code of a die's events (R693): the base die, CC0 to CC3. -/
def dieSource (d : Nat) : Nat := 0xF020 + d

/-- A die has failed (R81, R82, R632, R638): a chiplet is treated as failed, the base die fails the package. -/
def State.dieFail (s : State) (d : Nat) : State := if d = 0 then s.baseFail 0x0E 0xF020 else (s.alert .die).chipletFail (d - 1)

/-- DIE_HB_LOST (R81, R82): logged, DIE raised. That a chiplet's lost heartbeat fails the chiplet is DEDUCED (log 57). -/
def execDieHbLost (d : Fin 5) (s : State) : Host.Outcome State Fault Refusal :=
  if s.flint.hbArmed.getD d false = false then .next s
  else
    let s : State := { s with flint := { s.flint with hbArmed := setAt s.flint.hbArmed d false } }
    .next (((s.wflag F.FLT_STAT_DIE_OK d false).logE 0x0202 (dieSource d) 4 []).dieFail d)

/-- The error line of a die (R82): seen, logged with the first 12 bytes of the die's record, DIE raised, escalated. -/
def State.dieError (s : State) (d : Nat) (data : List Nat) : State :=
  if s.flint.errArmed.getD d false = false then s
  else
    let s : State := { s with flint := { s.flint with errArmed := setAt s.flint.errArmed d false } }
    ((s.wflag F.FLT_STAT_DIE_ERR d true).logE 0x0201 (dieSource d) 4 data).dieFail d

/-- DIE_ERROR: the record as the die answers it, in 32-bit words; none if it does not answer (R82). -/
def execDieError (d : Fin 5) (rec : List (BitVec 32)) (s : State) : Host.Outcome State Fault Refusal :=
  .next (s.dieError d ((rec.take 3).map BitVec.toNat))

/-- DIE_OVERTEMP (R686): the die asserts its error line; its record names KIND 0x0E, class 4, or KIND 0x0D, class 2 (R636, R638). -/
def execDieOvertemp (d : Fin 5) (s : State) : Host.Outcome State Fault Refusal :=
  let k := if (d : Nat) = 0 then 0x0E else 0x0D
  .next (s.dieError d [k + dieSource d * 2 ^ 16, if (d : Nat) = 0 then 4 else 2, s.rd F.ERR_HEAD_SEQ + 1])

/-- TRACKING_RAIL_LOSS (R79): the rail recorded, every island it feeds under reset. -/
def execTrackingRailLoss (r : Fin 7) (s : State) : Host.Outcome State Fault Refusal :=
  if (r : Nat) < 2 ∨ s.pwr.step ≠ 6 ∨ bitAt s.pwr.good r = false then .next s
  else
    let s : State := { s with pwr := { s.pwr with good := putBits s.pwr.good r 1 0 } }
    let s := s.errRec 0x07 (railSource r) (if (r : Nat) = 2 then 4 else 2)
    .next ((List.range 304).foldl (fun (s : State) i => if islRail i = (r : Nat) then s.resetStart i else s) s)

/-- RAIL_LOSS_DIES_FAILED (R79, R638): 10 ms later the chiplet fails, or for VBD the package. -/
def execRailLossDiesFailed (r : Fin 7) (s : State) : Host.Outcome State Fault Refusal :=
  if (r : Nat) < 2 ∨ s.pwr.step ≠ 6 ∨ bitAt s.pwr.good r = true then .next s
  else if (r : Nat) = 2 then .next ((s.alert .die).packageFail)
  else .next (s.chipletFail (r - 3))

end Sys2Proof.Machine
end

