-- ==== Sys2Proof/Machine/Loops.lean ====
section
/-! DEFINITION. Machine/Loops.lean: the loop channels: sources, ticks, control laws, the plausibility supervisor, and the writes of their registers
(R576 to R601). -/

namespace Sys2Proof.Machine

/-- The parameters of a channel that a tick latches, besides the coefficients (R581). -/
def lpParams : List Fld :=
  [F.LP_CTL_MODE, F.LP_CTL_LAW, F.LP_CTL_DIR, F.LP_CTL_OUT, F.LP_CTL_PERIOD, F.LP_SRC_SP_SRC, F.LP_SRC_FB_SRC, F.LP_SRC_CHK_SRC, F.LP_SRC_PL_EN,
   F.LP_SRC_PL_N, F.LP_PAR_SP_CONST, F.LP_PAR_SP_GAIN, F.LP_PAR_SP_OFFS, F.LP_PAR_SP_ALPHA, F.LP_PAR_SP_MIN, F.LP_PAR_SP_MAX, F.LP_PAR_SP_FAIL,
   F.LP_PAR_FB_GAIN, F.LP_PAR_FB_OFFS, F.LP_PAR_UMIN, F.LP_PAR_UMAX, F.LP_PAR_SLEW, F.LP_PAR_FAIL_OUT, F.LP_PAR_MAN_OUT, F.LP_PAR_PL_ALPHA,
   F.LP_PAR_PL_G, F.LP_PAR_PL_B, F.LP_PAR_PL_LIM, F.LP_PAR_XMAX]

/-- The values a tick latches: the parameters, then the 26 coefficients (R581); UMAX of channel 15 is the highest request (R585). -/
def State.lpLatch (s : State) (c : Nat) : List Nat :=
  lpParams.map (fun f => if f = F.LP_PAR_UMAX then (s.lpMax c).toNat else s.rd f c)
    ++ (List.range 26).map (fun k => s.rd (if k % 2 = 0 then F.LP_COEF_LO else F.LP_COEF_HI) c (k / 2))

/-- A latched parameter. -/
def LpSt.par (x : LpSt) (f : Fld) : Nat := ((lpParams.zip x.lat).find? (fun e => e.1 = f)).elim 0 Prod.snd

/-- A latched binary32 parameter. -/
def LpSt.parF (x : LpSt) (f : Fld) : Lane := BitVec.ofNat 32 (x.par f)

/-- A latched coefficient. -/
def LpSt.coef (x : LpSt) (k : Nat) : Lane := BitVec.ofNat 32 (x.lat[lpParams.length + k]?.getD 0)

/-- A value brought between two limits; a NaN stays. -/
def clampF (v lo hi : Lane) : Lane := if ltF v lo then lo else if ltF hi v then hi else v

/-- A NaN. -/
def isNanF (v : Lane) : Bool := decide (f32 v = .nan)

/-- An integer nearest to a value, ties to even (R577, R616). -/
def nearest (v : FV) : Int := match v with
  | .fin neg m e => if neg then -(roundInt false m e : Nat) else (roundInt false m e : Nat)
  | _ => 0

/-- The event source of a channel (R693). -/
def lpSource (c : Nat) : Nat := 0xF060 + c

/-- Whether a source is unavailable (R578): a lost pulse input; a die without power or held in reset; V48 below 38.0 V. -/
def State.lpNone (s : State) (src : Nat) : Bool :=
  if src = 9 ∨ src = 10 then s.flag F.FLT_LP_GLB_PLS_LOST (src - 9)
  else if 17 ≤ src ∧ src ≤ 21 then
    decide (s.pwr.step ≠ 6) || s.start.rstOn || (decide (18 ≤ src) && s.flag F.ERR_SUMMARY_CC_FAILED (src - 18))
  else if src = 22 then decide (s.rd F.ISL_V48_V48_NOW < 3800)
  else false

/-- The raw value of a source (R578); the die temperatures and the input power are the reading that the tick brings. -/
def State.lpRaw (s : State) (src : Nat) (reading : Lane) : Lane :=
  if 1 ≤ src ∧ src ≤ 8 then ratF (s.rd F.FLT_AIN_CODE (src - 1)) 4095
  else if src = 9 ∨ src = 10 then BitVec.ofNat 32 (s.rd F.FLT_PLS_DUTY (src - 9))
  else if 11 ≤ src ∧ src ≤ 16 then BitVec.ofNat 32 (s.rd F.FLT_TACH_RPM (src - 11))
  else reading

/-- A tach input's speed over the sample period, from the mean pulse interval in ns; none leaves it (R579). -/
def State.lpTach (s : State) (src : Nat) (interval : Lane) : State :=
  if 11 ≤ src ∧ src ≤ 16 ∧ interval ≠ 0 then s.wr F.FLT_TACH_RPM (ratF 60000000000 (2 * interval.toNat)).toNat (src - 11) else s

/-- Apply an output (R577): a fan's duty is LP_OUT.U itself; a louvre's target, a frequency ceiling; none of CEIL_ENV while the rails are off (R585). -/
def State.lpApply (s : State) (c out : Nat) (u : Lane) : State :=
  let s := s.wr F.LP_OUT_U u.toNat c
  if 7 ≤ out ∧ out ≤ 10 then
    let k := out - 7
    let a := s.rdS F.SM_POSLIM_CLOSED k
    let d := s.rdS F.SM_POSLIM_OPEN k - a
    let fv (x : Int) : FV := .fin (decide (x < 0)) x.natAbs 0
    s.smLoopTarget k (nearest ((fv a).add ((f32 u).mul (fv d)).1).1)
  else if out = 15 ∧ s.pwr.step = 6 then s.setCeil F.ISL_CEIL_CEIL_ENV 1 (nearest (f32 u)).toNat
  else s

/-- A plausibility fault (R592): FALLBACK with FAIL_OUT, PL_FAULT, CAUSE, LOOP, event 0x0E01. -/
def State.lpFault (s : State) (c cause : Nat) : State :=
  let x := s.lp c
  let u := BitVec.ofNat 32 (s.rd F.LP_PAR_FAIL_OUT c)
  let s := (s.lpEnter c 4).modLp c (fun x => { x with uPrev := u })
  let s := (s.lpApply c (s.rd F.LP_CTL_OUT c) u).wr F.LP_STAT_CAUSE cause c
  ((s.wb F.LP_STAT_PL_FAULT true c).alert .loop).logE 0x0E01 (lpSource c) 3 [c, cause, x.chkRaw.toNat, s.rd F.LP_OUT_M c]

/-- The error of a tick (R582). -/
def LpSt.err (x : LpSt) (sp fb : Lane) : Lane := if x.par F.LP_CTL_DIR = 1 then fSub fb sp else fSub sp fb

/-- A dot product in ascending index order (R582). -/
def lpDotF (l : List (Lane × Lane)) : Lane := match l with
  | [] => 0
  | a :: t => t.foldl (fun s e => fAdd s (fMul e.1 e.2)) (fMul a.1 a.2)

/-- The law initialised from the last output h and the first error (R584). -/
def LpSt.start (x : LpSt) (e : Lane) : LpSt :=
  let h := x.uPrev
  { x with initLaw := false, i := clampF (fSub h (fMul (x.coef 0) e)) (x.parF F.LP_PAR_UMIN) (x.parF F.LP_PAR_UMAX),
           u1 := h, u2 := h, e1 := e, e2 := e, x := [0, 0, 0, 0] }

/-- One run of the law: the new state and u before its limits (R582). TS is PERIOD × 10⁻⁶ in binary32. -/
def LpSt.law (x : LpSt) (e : Lane) : LpSt × Lane :=
  if x.par F.LP_CTL_LAW = 0 then
    let ki := fMul (fMul (x.coef 1) (ratF (x.par F.LP_CTL_PERIOD) 1000000)) e
    let i := clampF (fAdd x.i ki) (x.parF F.LP_PAR_UMIN) (x.parF F.LP_PAR_UMAX)
    ({ x with i := i }, fAdd (fMul (x.coef 0) e) i)
  else if x.par F.LP_CTL_LAW = 1 then
    let u := fSub (fSub (fAdd (fAdd (fMul (x.coef 0) e) (fMul (x.coef 1) x.e1)) (fMul (x.coef 2) x.e2)) (fMul (x.coef 3) x.u1)) (fMul (x.coef 4) x.u2)
    ({ x with e2 := x.e1, e1 := e }, u)
  else
    let u := fAdd (lpDotF ((List.range 4).map (fun k => (x.coef (20 + k), x.x[k]?.getD 0)))) (fMul (x.coef 24) e)
    let lim := x.parF F.LP_PAR_XMAX
    let row (r : Nat) : Lane :=
      clampF (fAdd (lpDotF ((List.range 4).map (fun k => (x.coef (4 * r + k), x.x[k]?.getD 0)))) (fMul (x.coef (16 + r)) e)) (lim ^^^ 0x80000000) lim
    ({ x with x := (List.range 4).map row }, u)

/-- Whether a law's state or output holds a NaN (R583). -/
def LpSt.bad (x : LpSt) (u : Lane) : Bool :=
  isNanF u || (if x.par F.LP_CTL_LAW = 0 then isNanF x.i else if x.par F.LP_CTL_LAW = 1 then [x.e1, x.e2, x.u1, x.u2].any isNanF else x.x.any isNanF)

/-- The limits and the slew about the last output (R583). -/
def LpSt.limit (x : LpSt) (u : Lane) : Lane :=
  let u := clampF u (x.parF F.LP_PAR_UMIN) (x.parF F.LP_PAR_UMAX)
  let d := x.parF F.LP_PAR_SLEW
  clampF u (fSub x.uPrev d) (fAdd x.uPrev d)

/-- The set-point of a tick (R580, R57, R598): on channel 15 the effective cap; its source joins it. That this holds for an AIN source is DEDUCED from R57
and R595 (log 52). -/
def State.lpSet (s : State) (c : Nat) (x : LpSt) : LpSt × Lane :=
  let src := x.par F.LP_SRC_SP_SRC
  let cap := natF s.capW
  if src = 0 then (x, if c = 15 then cap else x.parF F.LP_PAR_SP_CONST)
  else
    let r : LpSt × Lane :=
      if s.lpNone src then ({ x with xf := none }, x.parF F.LP_PAR_SP_FAIL)
      else
        let xf := match x.xf with
          | none => x.spRaw
          | some y => fAdd y (fMul (x.parF F.LP_PAR_SP_ALPHA) (fSub x.spRaw y))
        ({ x with xf := some xf },
          clampF (fAdd (x.parF F.LP_PAR_SP_OFFS) (fMul (x.parF F.LP_PAR_SP_GAIN) xf)) (x.parF F.LP_PAR_SP_MIN) (x.parF F.LP_PAR_SP_MAX))
    if c = 15 then (r.1, if ltF cap r.2 then cap else r.2) else r

/-- Take a tick's samples (R590): a stale or unavailable source keeps its last good value. Answers whether any is stale. -/
def State.lpSample (s : State) (x : LpSt) : LpSt × Bool :=
  let sp := x.par F.LP_SRC_SP_SRC
  let fb := x.par F.LP_SRC_FB_SRC
  let ck := x.par F.LP_SRC_CHK_SRC
  let old (src : Nat) : Bool := decide (1 ≤ src ∧ src ≤ 8) && x.stale.contains (src - 1)
  let bad (src : Nat) : Bool := old src || s.lpNone src
  ({ x with spRaw := if sp = 0 ∨ bad sp = true then x.spRaw else s.lpRaw sp 0,
            fbRaw := if bad fb then x.fbRaw else s.lpRaw fb x.fb,
            chkRaw := if ck = 0 ∨ bad ck = true then x.chkRaw else s.lpRaw ck x.chk },
    old sp || bad fb || (decide (ck ≠ 0) && bad ck))

/-- The supervisor's part of a tick (R591): the model follows the output of the previous tick; the residual is tested. -/
def State.lpModel (s : State) (c : Nat) (x : LpSt) (uOld : Lane) : State :=
  if x.par F.LP_SRC_PL_EN = 0 ∨ x.par F.LP_SRC_CHK_SRC = 0 then s
  else
    let ck := x.chkRaw
    let m0 : Lane := if x.initM then ck else BitVec.ofNat 32 (s.rd F.LP_OUT_M c)
    let n0 := if x.initM then 0 else x.n
    let m := fAdd m0 (fMul (x.parF F.LP_PAR_PL_ALPHA) (fSub (fAdd (fMul (x.parF F.LP_PAR_PL_G) uOld) (x.parF F.LP_PAR_PL_B)) m0))
    let d := fSub ck m &&& 0x7FFFFFFF
    let n := if ltF (x.parF F.LP_PAR_PL_LIM) d then n0 + 1 else 0
    let s := (s.modLp c (fun y => { y with n := n, initM := false })).wr F.LP_OUT_M m.toNat c
    if n = x.par F.LP_SRC_PL_N then s.lpFault c 0 else s

/-- The work of a tick once its samples are in (R581 steps 2 to 4, R590, R592). -/
def State.lpWork (s : State) (c : Nat) : State :=
  let r := s.lpSample (s.lp c)
  let run := if r.2 then min 3 (s.rd F.LP_STAT_STALE_RUN c + 1) else 0
  let q := s.lpSet c r.1
  let x := q.1
  let sp := q.2
  let fb := fAdd (x.parF F.LP_PAR_FB_OFFS) (fMul (x.parF F.LP_PAR_FB_GAIN) x.fbRaw)
  let s := (((s.wr F.LP_STAT_STALE_RUN run c).wr F.LP_VAL_SP sp.toNat c).wr F.LP_VAL_FB fb.toNat c).modLp c (fun _ => x)
  if run = 3 then s.lpFault c 1
  else
    let e := x.err sp fb
    let mode := x.par F.LP_CTL_MODE
    let uOld := x.uPrev
    if mode = 1 then
      let y := if x.initLaw then x.start e else x
      let l := y.law e
      if l.1.bad l.2 then (s.modLp c (fun _ => l.1)).lpFault c 2
      else
        let u := y.limit l.2
        let z := { l.1 with uPrev := u, u2 := l.1.u1, u1 := u }
        ((s.modLp c (fun _ => z)).lpApply c (x.par F.LP_CTL_OUT) u).lpModel c z uOld
    else if mode = 3 then
      let u := x.limit (x.parF F.LP_PAR_MAN_OUT)
      let z := { x with uPrev := u }
      ((s.modLp c (fun _ => z)).lpApply c (x.par F.LP_CTL_OUT) u).lpModel c z uOld
    else (s.lpApply c (x.par F.LP_CTL_OUT) uOld).lpModel c x uOld

/-- Start the lowest queued input, if the converter is free (R589). -/
def State.adcStart (s : State) : State :=
  match s.loops.adc, s.loops.adcq.min? with
  | none, some k => { s with loops := { s.loops with adc := some k, adcq := s.loops.adcq.filter (fun j => j ≠ k) } }
  | _, _ => s

/-- A trigger of an AIN input by a channel (R589): it joins a queued request; while the input converts it is ignored and counted. -/
def State.adcTrigger (s : State) (c k : Nat) : State :=
  if s.loops.adc = some k then
    (((s.wflag F.FLT_LP_GLB_OVERRUN k true).bump F.FLT_AIN_ADC_CNT 1 k).logE 0x0E04 (lpSource c) 1 [k, c]).modLp c
      (fun x => { x with stale := k :: x.stale })
  else
    let s := if s.loops.adcq.contains k then s else { s with loops := { s.loops with adcq := k :: s.loops.adcq } }
    s.modLp c (fun x => { x with waits := k :: x.waits })

/-- LOOP_TICK: a channel in RUN, HOLD or MANUAL latches, samples, and works once its samples are in (R581). `fb` and `chk` are what its feedback and
check sources read where those are a die temperature, the input power (binary32), or the mean interval of a tach (ns). -/
def execLoopTick (c : Fin 16) (fb chk : BitVec 32) (s : State) : Host.Outcome State Fault Refusal :=
  let c : Nat := c
  let mode := s.rd F.LP_CTL_MODE c
  if mode = 0 ∨ 4 ≤ mode ∨ (s.lp c).waits ≠ [] then .next s
  else
    let s := (s.lpTach (s.rd F.LP_SRC_FB_SRC c) fb).lpTach (s.rd F.LP_SRC_CHK_SRC c) chk
    let s := s.wr F.LP_TICKS_TICKS (s.rd F.LP_TICKS_TICKS c + 1) c
    let s := s.modLp c (fun x => { x with lat := s.lpLatch c, stale := [], fb := fb, chk := chk })
    let ains := ([s.rd F.LP_SRC_SP_SRC c, s.rd F.LP_SRC_FB_SRC c, s.rd F.LP_SRC_CHK_SRC c].filter (fun k => decide (1 ≤ k ∧ k ≤ 8))).eraseDups
    let s := ains.foldl (fun (s : State) k => s.adcTrigger c (k - 1)) s
    .next (if (s.lp c).waits = [] then s.lpWork c else s.adcStart)

/-- ADC_CONVERSION_DONE: the code is in; the channels that waited for this input last go on; the lowest queued input starts (R589). -/
def execAdcConversionDone (k : Fin 8) (code : BitVec 12) (s : State) : Host.Outcome State Fault Refusal :=
  let k : Nat := k
  if s.loops.adc ≠ some k then .next s
  else
    let s := { s with loops := { s.loops with adc := none } }.wr F.FLT_AIN_CODE code.toNat k
    let s := (List.range 16).foldl (fun (s : State) c =>
      let x := s.lp c
      if x.waits.contains k = false then s
      else
        let w := x.waits.filter (fun j => j ≠ k)
        let s := s.modLp c (fun x => { x with waits := w })
        if w = [] then s.lpWork c else s) s
    .next s.adcStart

/-- PULSE_PERIOD: a complete period, high time and length in ns; it is valid between 10 µs and 10 ms, and restores a lost input (R579). -/
def execPulsePeriod (k : Fin 2) (high per : BitVec 32) (s : State) : Host.Outcome State Fault Refusal :=
  let k : Nat := k
  let per := per.toNat
  if per < 10000 ∨ 10000000 < per then .next s
  else
    let lost := s.flag F.FLT_LP_GLB_PLS_LOST k
    let s := (s.wr F.FLT_PLS_DUTY (ratF high.toNat per).toNat k).wr F.FLT_PLS_PER_NS per k
    .next (if lost then (s.wflag F.FLT_LP_GLB_PLS_LOST k false).logE 0x0E03 0xF044 2 [k] else s)

/-- PULSE_INPUT_LOST: no valid period for 100 ms (R579). -/
def execPulseInputLost (k : Fin 2) (s : State) : Host.Outcome State Fault Refusal :=
  if s.flag F.FLT_LP_GLB_PLS_LOST k then .next s else .next ((s.wflag F.FLT_LP_GLB_PLS_LOST k true).logE 0x0E03 0xF044 2 [k])

/-- TACH_TIMEOUT: no edge for 200 ms: 0 rpm (R579). -/
def execTachTimeout (k : Fin 6) (s : State) : Host.Outcome State Fault Refusal := .next (s.wr F.FLT_TACH_RPM 0 k)

/-- A value out of range (R586). -/
def State.lpFmt (s : State) (c : Nat) (r : Nat) : State × Nat := (s.wb F.LP_STAT_FMT_REJ true c, if r = 0 then Code.format 0x1A else r)

/-- A write refused in the current mode (R587, R594). -/
def State.lpBusy (s : State) (c : Nat) (r : Nat) : State × Nat := (s.wb F.LP_STAT_BUSY_REJ true c, if r = 0 then Code.busy 0x70 else r)

/-- A write of an expert field or value without FLT_EXPERT_EN (R586). -/
def State.lpPerm (s : State) (r : Nat) : State × Nat := (s.bump F.FLT_WR_REJ_COUNT, if r = 0 then Code.perm 2 else r)

/-- The value an access gives a field: what it holds where it is not covered (R692). -/
def State.newVal (s : State) (size a v : Nat) (f : Fld) (i : Nat) (j : Nat := 0) : Nat :=
  if covers size a f then newBits size a f (s.rd f i j) v else s.rd f i j

/-- The mode of a write of LP_CTL (R585, R586, R588, R597). -/
def State.lpModeWrite (s : State) (c m : Nat) : State × Nat :=
  let cur := s.rd F.LP_CTL_MODE c
  if m = cur then (s, 0)
  else if m = 3 ∧ s.bit F.FLT_EXPERT_EN_EN = false then s.lpPerm 0
  else if 4 ≤ m ∨ (c = 15 ∧ m = 0) then s.lpFmt c 0
  else if cur = 4 ∧ m ≠ 2 ∧ m ≠ 0 then s.lpBusy c 0
  else (s.lpEnter c m, 0)

/-- Whether an output code may not stand in OUT, as its code (R576): FORMAT outside the table, BUSY 0x71 for an output that another channel names. -/
def State.lpOutCode (s : State) (c x : Nat) : Nat :=
  if (c = 15 ∧ x ≠ 15) ∨ (c ≠ 15 ∧ 11 ≤ x) then Code.format 0x1A
  else if x ≠ 0 ∧ (List.range 16).any (fun d => decide (d ≠ c ∧ s.rd F.LP_CTL_OUT d = x)) then Code.busy 0x71
  else 0

/-- Write one structural field of a channel (R587) whose check answers a code; a value it already has is no write. -/
def State.lpStruct (s : State) (c : Nat) (f : Fld) (x : Nat) (r : Nat) (expert : Bool) (code : State → Nat) : State × Nat :=
  if x = s.rd f c then (s, r)
  else if s.rd F.LP_CTL_MODE c = 1 then s.lpBusy c r
  else if expert && !s.bit F.FLT_EXPERT_EN_EN then s.lpPerm r
  else
    let k := code s
    if k = Code.format 0x1A then s.lpFmt c r else if k ≠ 0 then (s, if r = 0 then k else r) else (s.wr f x c, r)

/-- A write of LP_CTL (R587, R596): the mode first, then the structural fields under the new mode. -/
def State.lpCtlWrite (s : State) (size a v c : Nat) : State × Nat :=
  let nv (f : Fld) : Nat := s.newVal size a v f c
  let fmt (b : Bool) : State → Nat := fun _ => if b then 0 else Code.format 0x1A
  let r := s.lpModeWrite c (nv F.LP_CTL_MODE)
  let r := r.1.lpStruct c F.LP_CTL_LAW (nv F.LP_CTL_LAW) r.2 (decide (nv F.LP_CTL_LAW = 2)) (fmt (decide (nv F.LP_CTL_LAW ≤ 2)))
  let r := r.1.lpStruct c F.LP_CTL_DIR (nv F.LP_CTL_DIR) r.2 false (fmt true)
  let r := r.1.lpStruct c F.LP_CTL_OUT (nv F.LP_CTL_OUT) r.2 false (fun s => s.lpOutCode c (nv F.LP_CTL_OUT))
  let out := r.1.rd F.LP_CTL_OUT c
  let r := (r.1.wr F.LP_CTL_CLASS (decide ((7 ≤ out ∧ out ≤ 10) ∨ out = 15)).toNat c, r.2)
  let r := r.1.lpStruct c F.LP_CTL_PERIOD (nv F.LP_CTL_PERIOD) r.2 false (fmt (decide (20 ≤ nv F.LP_CTL_PERIOD ∧ nv F.LP_CTL_PERIOD ≤ 1000)))
  r.1.lpStruct c F.LP_CTL_PHASE (nv F.LP_CTL_PHASE) r.2 true (fmt (decide (nv F.LP_CTL_PHASE < r.1.rd F.LP_CTL_PERIOD c)))

/-- A write of LP_SRC (R580, R586 to R588): the sources are structural; the filter starts again after a write of SP_SRC. -/
def State.lpSrcWrite (s : State) (size a v c : Nat) : State × Nat :=
  let nv (f : Fld) : Nat := s.newVal size a v f c
  let fmt (b : Bool) : State → Nat := fun _ => if b then 0 else Code.format 0x1A
  let sp := nv F.LP_SRC_SP_SRC
  let r := s.lpStruct c F.LP_SRC_SP_SRC sp 0 false (fmt (decide (sp ≤ 10)))
  let r := (if covers size a F.LP_SRC_SP_SRC ∧ r.1.rd F.LP_SRC_SP_SRC c = sp ∧ s.rd F.LP_CTL_MODE c ≠ 1 then r.1.modLp c (fun x => { x with xf := none }) else r.1, r.2)
  let fb := nv F.LP_SRC_FB_SRC
  let r := r.1.lpStruct c F.LP_SRC_FB_SRC fb r.2 false (fmt (decide (1 ≤ fb ∧ fb ≤ 22)))
  let r := r.1.lpStruct c F.LP_SRC_CHK_SRC (nv F.LP_SRC_CHK_SRC) r.2 false (fmt (decide (nv F.LP_SRC_CHK_SRC ≤ 22)))
  let r := (r.1.wr F.LP_SRC_PL_EN (nv F.LP_SRC_PL_EN) c, r.2)
  let n := nv F.LP_SRC_PL_N
  if n = r.1.rd F.LP_SRC_PL_N c then r
  else if r.1.bit F.FLT_EXPERT_EN_EN = false then r.1.lpPerm r.2
  else if n = 0 then r.1.lpFmt c r.2
  else (r.1.wr F.LP_SRC_PL_N n c, r.2)

/-- A finite binary32 value (R586). -/
def finiteF (x : Nat) : Bool := decide (x % 0x80000000 < 0x7F800000)

/-- a ≤ b for finite values. -/
def leF (a b : Lane) : Bool := !ltF b a

/-- Whether a value lies in a parameter's range (R586, R588): the limits within the range of the output's u. -/
def State.lpParOk (s : State) (c : Nat) (f : Fld) (x : Nat) : Bool :=
  let v : Lane := BitVec.ofNat 32 x
  let p (g : Fld) : Lane := if g = F.LP_PAR_UMAX then s.lpMax c else BitVec.ofNat 32 (s.rd g c)
  let unit : Bool := s.rd F.LP_CTL_OUT c = 0 || (leF 0 v && leF v 0x3F800000)
  finiteF x
    && (if f = F.LP_PAR_SP_ALPHA ∨ f = F.LP_PAR_PL_ALPHA then ltF 0 v && leF v 0x3F800000
        else if f = F.LP_PAR_UMIN then ltF v (p F.LP_PAR_UMAX) && unit
        else if f = F.LP_PAR_UMAX then ltF (p F.LP_PAR_UMIN) v && unit
        else if f = F.LP_PAR_SLEW then ltF 0 v && leF v (fSub (p F.LP_PAR_UMAX) (p F.LP_PAR_UMIN))
        else if f = F.LP_PAR_XMAX then leF 0x3A83126F v && leF v 0x49742400
        else true)

/-- Whether a channel's class or mode refuses a field (R594): class B takes limits and coefficients in HOLD, MANUAL and FALLBACK only. -/
def State.lpHeld (s : State) (c : Nat) : Bool := decide (s.rd F.LP_CTL_CLASS c = 1 ∧ s.rd F.LP_CTL_MODE c < 2)

/-- Write one parameter of a channel. UMIN and UMAX of channel 15 are read-only (R585). -/
def State.lpParOne (s : State) (c : Nat) (f : Fld) (x r : Nat) : State × Nat :=
  let lim := f = F.LP_PAR_UMIN ∨ f = F.LP_PAR_UMAX ∨ f = F.LP_PAR_SLEW ∨ f = F.LP_PAR_XMAX
  if x = s.rd f c ∨ (c = 15 ∧ (f = F.LP_PAR_UMIN ∨ f = F.LP_PAR_UMAX)) then (s, r)
  else if f.ex ≠ 0 ∧ s.bit F.FLT_EXPERT_EN_EN = false then s.lpPerm r
  else if lim ∧ s.lpHeld c = true then s.lpBusy c r
  else if s.lpParOk c f x = false then s.lpFmt c r
  else (s.wr f x c, r)

/-- The fields of the ten parameter registers. -/
def lpParFields : List Fld := lpParams.filter (fun f => decide (F.LP_PAR_SP_CONST.addr ≤ f.addr))

/-- A write of LP_PAR register j (R586, R588, R594). -/
def State.lpParWrite (s : State) (size a v c j : Nat) : State × Nat :=
  (lpParFields.filter (fun f => f.addr = F.LP_PAR_SP_CONST.addr + 8 * j && covers size a f)).foldl
    (fun r f => r.1.lpParOne c f (bitsAt v f.lo f.w) r.2) (s, 0)

/-- Write one coefficient (R586, R588, R594): COEF14 to COEF24 are expert, COEF25 is reserved. -/
def State.lpCoefOne (s : State) (c j : Nat) (f : Fld) (x r : Nat) : State × Nat :=
  if x = s.rd f c j ∨ (j = 12 ∧ f = F.LP_COEF_HI) then (s, r)
  else if 7 ≤ j ∧ s.bit F.FLT_EXPERT_EN_EN = false then s.lpPerm r
  else if s.lpHeld c then s.lpBusy c r
  else if finiteF x = false then s.lpFmt c r
  else (s.wr f x c j, r)

/-- A write of LP_COEF register j. -/
def State.lpCoefWrite (s : State) (size a v c j : Nat) : State × Nat :=
  ([F.LP_COEF_LO, F.LP_COEF_HI].filter (fun f => covers size a f)).foldl (fun r f => r.1.lpCoefOne c j f (bitsAt v f.lo f.w) r.2) (s, 0)

/-- Clear a plausibility fault (R592): HOLD with FAIL_OUT held. -/
def State.lpClear (s : State) (c : Nat) : State :=
  if s.bit F.LP_STAT_PL_FAULT c = false then s
  else
    let s := s.wb F.LP_STAT_PL_FAULT false c
    let s := if s.rd F.LP_CTL_MODE c = 4 then s.lpEnter c 2 else s
    s.logE 0x0E02 (lpSource c) 1 [c]

/-- The sources that may write the loop registers; others are discarded and counted (R586). -/
def State.lpBy (s : State) (src : Src) (f : State → State × Nat) : State × Nat :=
  match src with
  | .pf | .mb _ | .mg => f s
  | _ => (s.bump F.FLT_WR_REJ_COUNT, 0)

/-- The FLT block's offset that a write names, as its address. -/
def lpAt (f : Fld) (c j : Nat) : Nat := f.regAddr c j

/-- LP_CTL_WRITE. -/
def execLpCtlWrite (c : Fin 16) (src : Src) (v : BitVec 64) (s : State) : Host.Outcome State Fault Refusal :=
  .next (s.lpBy src.host (fun s => s.lpCtlWrite 8 (lpAt F.LP_CTL_MODE c 0) v.toNat c)).1

/-- LP_SRC_WRITE. -/
def execLpSrcWrite (c : Fin 16) (src : Src) (v : BitVec 64) (s : State) : Host.Outcome State Fault Refusal :=
  .next (s.lpBy src.host (fun s => s.lpSrcWrite 8 (lpAt F.LP_SRC_SP_SRC c 0) v.toNat c)).1

/-- LP_PAR_WRITE. -/
def execLpParWrite (c : Fin 16) (j : Fin 10) (src : Src) (v : BitVec 64) (s : State) : Host.Outcome State Fault Refusal :=
  .next (s.lpBy src.host (fun s => s.lpParWrite 8 (lpAt F.LP_PAR_SP_CONST c 0 + 8 * j) v.toNat c j)).1

/-- LP_COEF_WRITE. -/
def execLpCoefWrite (c : Fin 16) (j : Fin 13) (src : Src) (v : BitVec 64) (s : State) : Host.Outcome State Fault Refusal :=
  .next (s.lpBy src.host (fun s => s.lpCoefWrite 8 (lpAt F.LP_COEF_LO c j) v.toNat c j)).1

/-- PL_FAULT_CLEAR. -/
def execPlFaultClear (c : Fin 16) (src : Src) (s : State) : Host.Outcome State Fault Refusal :=
  .next (s.lpBy src.host (fun s => (s.lpClear c, 0))).1

end Sys2Proof.Machine
end

