-- ==== Sys2Proof/Machine/PktRows.lean ====
section
/-! DEFINITION. Machine/PktRows.lean: packets as they arrive: what is forwarded, and how writes, reads, pushes, atomics, signals, responses, greetings and
collective packets are served (R347 to R377, R399 to R416). -/

namespace Sys2Proof.Machine

/-- Forward a packet that this device does not answer for (R349, R357): nothing passes through Agate; TTL falls by one. -/
def State.forward (s : State) (e : TxEnt) : State :=
  if e.src = 16 then (s.leave e).rtErr e.pkt.dst 16
  else if e.pkt.ttl ≤ 1 then
    let d := [e.pkt.src, e.pkt.dst]
    (((s.leave e).bump F.QTZ_DROP_TTL_EXP).logE 0x0803 0xF200 2 d).trap 0x0803 0xF200 d
  else s.send { e with pkt := e.pkt.put0 56 8 (e.pkt.ttl - 1) }

/-- A packet for an ID that this device holds but does not answer for (R470): TAKEOVER 0x04 while the survivor serves it. -/
def State.heldHere (s : State) (p : Pkt) : Bool :=
  s.bit F.AGT_STAT_HELD && decide (p.dst = s.rd F.QTZ_ID_DEVID) && decide (s.pairSt = 5)

/-- An ID-routed packet reaches the device: served here, answered for a held ID, or forwarded (R368). -/
def State.arrive (s : State) (n : Nat) (p : Pkt) (f : State → State) : State :=
  s.intake n p (fun s e =>
    if s.answersFor p.dst then f (s.leave e)
    else if s.heldHere p && (1 ≤ p.opc && p.opc ≤ 5) then (s.leave e).answer p n (Code.takeover 4) 0
    else s.forward e)

/-- The code of a request for bytes of this device (R351, R466, R472). -/
def State.pktCode (s : State) (p : Pkt) (wr : Bool) : Nat :=
  if s.fenced p.dst then Code.busy 0x10
  else if s.isAssumed p.dst then (if (s.adoptedAt (some p.part) p.addr p.bytes).isSome then 0 else Code.takeover 3)
  else State.spanCode 8 s (some p.part) wr p.addr p.bytes

/-- Write a WR's or PUSH's bytes with the marks of their units: POISON 0x01 when any is marked (R350, R351). -/
def State.pktStore (s : State) (p : Pkt) : State × Nat :=
  let c := s.pktCode p true
  if c ≠ 0 then (s, c)
  else
    let r := s.writeSpan (some p.part) false (p.dst * 2 ^ 48 + p.addr) p.marked
    (r.1, if r.2.1 ≠ 0 then r.2.1 else if p.w3 ≠ 0 then Code.poison 1 else 0)

/-- A WR at its destination (R348). -/
def State.takeWr (s : State) (n : Nat) (p : Pkt) : State :=
  let r := s.pktStore p
  r.1.answer p n r.2 0

/-- An RD at its source (R373): an entry of the read agent, or BUSY 0x11. -/
def State.takeRd (s : State) (n : Nat) (p : Pkt) : State :=
  let c := s.pktCode p false
  if c ≠ 0 then s.answer p n c 0
  else if 256 ≤ s.quartz.agent.length then (s.bump F.QTZ_AGENT_RD_REFUSED).answer p n (Code.busy 0x11) 0
  else s.modQ (fun q => { q with agent := q.agent ++ [⟨p, 0⟩] })

/-- A PUSH at its destination (R348, R384): with this device as requester it ends the context at once, and one whose context is gone is discarded
as late; for another requester it is written and answered to RQID. -/
def State.takePush (s : State) (n : Nat) (p : Pkt) : State :=
  if p.code ≠ s.rd F.QTZ_ID_DEVID then
    let r := s.pktStore p
    r.1.answer p n r.2 0
  else match SMap.find s.quartz.ctx p.ctx with
    | none => s.ctxAnswer p [] 0
    | some c =>
      if c.gen ≠ p.gen ∨ c.orphan = true then s.ctxAnswer p [] 0
      else match c.owner with
        | .near _ _ | .fill _ | .copy _ _ _ | .mica _ _ _ | .jasper _ _ _ _ => s.ctxAnswer p p.marked 0
        | _ =>
          let r := s.pktStore p
          r.1.ctxAnswer p [] r.2

/-- An AMO at its home (R175, R348): FORMAT 0x01 for an operation outside R175. -/
def State.takeAmo (s : State) (n : Nat) (p : Pkt) : State :=
  if 10 < p.aop ∨ (p.aop = 10 ∧ p.aw = true) then s.answer p n (Code.format 1) 0
  else
    let r := s.atomicAt (some p.part) p.dst p.addr p.aop (if p.aw then 8 else 4) (p.num 0 8) (p.num 8 8)
    r.1.answer p n r.2.1 r.2.2

/-- A SIG at its cluster (R181, R182, R348): W3 [32] sets POISON and leaves the count. -/
def State.takeSig (s : State) (n : Nat) (p : Pkt) : State :=
  let c := bitsAt p.addr 8 8
  let m := bitsAt p.addr 0 6
  let code := if s.fenced p.dst then Code.busy 0x10 else if s.isAssumed p.dst then Code.takeover 3 else s.sigCode (some p.part) c
  let s := if code ≠ 0 then s else if bitAt p.w3.toNat 32 then s.poisonSem c m else s.signalSem c m (p.w3.toNat % 2 ^ 32)
  s.answer p n code 0

/-- A context of a twin request that a response on Agate answers: such a response may carry another DST, before an ID is assigned. -/
def State.twinCtx (s : State) (n : Nat) (p : Pkt) : Bool :=
  decide (n = 16) && (match SMap.find s.quartz.ctx p.ctx with | some c => decide (c.part = ctxAgate ∧ c.gen = p.gen) | none => false)

/-- A management packet for the host (R367, R491, R499): the next posted buffer takes it, with a KIND 3 entry; without a buffer it is dropped and
counted. -/
def State.mgHost (s : State) (p : Pkt) : State :=
  match s.host.mgbuf with
  | [] => s.bump F.HST_STAT_MG_DROP
  | b :: t =>
    let s := { s with host := { s.host with mgbuf := t, mgrecv := s.host.mgrecv ++ [(b.2, p)] } }
    match s.host.cmds.find? (fun c => c.id = b.1) with
    | none => s
    | some c =>
      ({ s with host := { s.host with cmds := s.host.cmds.filter (fun d => d.id ≠ b.1) } }).cqPost c.ring
        { tag := c.tag, code := 0, kind := 3, cluster := 0xFFFF, fpc := 0, value := b.2, finfo := 0, noirq := c.noirq }

/-- Queue a management request, or drop it when 16 wait (R364). -/
def State.mgQueue (s : State) (p : Pkt) (path : Bool) : State :=
  if 16 ≤ s.quartz.mgq.length then s.bump F.QTZ_AGENT_MG_DROP
  else s.modQ (fun q => { q with mgq := q.mgq ++ [⟨p, path⟩] })

/-- A management response for this device (R364, R464): the probe's answer ends a takeover. -/
def State.takeMgRsp (s : State) (p : Pkt) : State :=
  let s := if s.pairSt = 4 ∧ p.src = s.rd F.AGT_STAT_PEER_ID then s.takeoverAbandon else s
  s.mgHost p

/-- What an ID-routed packet does at a device that answers for its DST. -/
def State.takePkt (s : State) (n : Nat) (p : Pkt) : State :=
  if p.opc = 1 then s.takeWr n p else if p.opc = 2 then s.takeRd n p else if p.opc = 3 then s.takePush n p
  else if p.opc = 4 then s.takeAmo n p else if p.opc = 5 then s.takeSig n p
  else if p.opc = 0x10 then s.ctxAnswer p [] p.code
  else if p.opc = 0x30 then s.mgQueue p false else if p.opc = 0x31 then s.takeMgRsp p
  else if p.opc = 0x35 then s.mgHost p else s

/-- The opcodes that R368 looks up by DST. -/
def opcRouted (o : Nat) : Bool := (1 ≤ o && o ≤ 5) || o = 0x10 || o = 0x30 || o = 0x31 || o = 0x35

/-- PACKET_FORWARD (R349, R357, R368): the header is checked, DST is looked up, and the packet is delivered here or sent on with TTL lowered. -/
def execPacketForward (n : Port) (p : Pkt) (s : State) : Host.Outcome State Fault Refusal :=
  .next (if opcRouted p.opc then s.arrive n p (fun s => s.takePkt n p) else s)

/-- WR (R348). -/
def execPktWr (n : Port) (p : Pkt) (s : State) : Host.Outcome State Fault Refusal :=
  .next (if p.opc = 1 then s.arrive n p (fun s => s.takeWr n p) else s)

/-- RD (R373). -/
def execPktRd (n : Port) (p : Pkt) (s : State) : Host.Outcome State Fault Refusal :=
  .next (if p.opc = 2 then s.arrive n p (fun s => s.takeRd n p) else s)

/-- PUSH (R348). -/
def execPktPush (n : Port) (p : Pkt) (s : State) : Host.Outcome State Fault Refusal :=
  .next (if p.opc = 3 then s.arrive n p (fun s => s.takePush n p) else s)

/-- AMO (R348). -/
def execPktAmo (n : Port) (p : Pkt) (s : State) : Host.Outcome State Fault Refusal :=
  .next (if p.opc = 4 then s.arrive n p (fun s => s.takeAmo n p) else s)

/-- SIG (R348). -/
def execPktSig (n : Port) (p : Pkt) (s : State) : Host.Outcome State Fault Refusal :=
  .next (if p.opc = 5 then s.arrive n p (fun s => s.takeSig n p) else s)

/-- RSP (R384, R386). -/
def execPktRsp (n : Port) (p : Pkt) (s : State) : Host.Outcome State Fault Refusal :=
  .next (if p.opc ≠ 0x10 then s
    else if s.twinCtx n p then s.intake n p (fun s e => (s.leave e).ctxAnswer p [] p.code)
    else s.arrive n p (fun s => s.ctxAnswer p [] p.code))

/-- READ_AGENT_PUSH (R348, R350, R373): the data of the agent's oldest read go to the push destination in one PUSH; a refused or unreachable one is answered
to SRC. -/
def execReadAgentPush (s : State) : Host.Outcome State Fault Refusal :=
  match s.quartz.agent with
  | [] => .next s
  | r :: t =>
    let p := r.pkt
    let s := s.modQ (fun q => { q with agent := t })
    let rd := s.readSpan (some p.part) false (p.dst * 2 ^ 48 + p.addr) p.bytes
    let s := rd.1
    let d := p.w3.toNat / 2 ^ 48
    let a := p.w3.toNat % 2 ^ 48
    if rd.2.1 ≠ 0 then .next (s.answer p 31 rd.2.1 0)
    else if s.idCode d ≠ 0 then .next (s.answer p 31 (s.idCode d) 0)
    else
      let q := (s.mkPkt 3 (bulkVc p.pair.toNat) p.part d (a + s.fixBit p.part) (p.ctx + p.bytes * 2 ^ 17 + p.src * 2 ^ 32 + p.gen * 2 ^ 56)
        (pmaskOf rd.2.2) (plain rd.2.2)).put0 23 1 p.pair.toNat
      if s.answersFor d then .next (s.takePush 31 q) else .next (s.send { pkt := q, src := 31, at_ := s.now })

/-- BULK_ROUTE_RETRY (R370): the bulk packets without an open candidate choose again. -/
def execBulkRouteRetry (s : State) : Host.Outcome State Fault Refusal :=
  .next (s.quartz.stuck.foldl (fun (s : State) e => s.send e) (s.modQ (fun q => { q with stuck := [] })))

/-- LOCAL_REPAIR_REROUTE (R374): the packets of a port that cannot be chosen are offered to the others; those held for a suspected twin stay. -/
def execLocalRepairReroute (n : Port) (s : State) : Host.Outcome State Fault Refusal :=
  if s.portUsable n ∨ ((n : Nat) = 16 ∧ s.pairSt = 3) then .next s else .next (s.reoffer n)

/-- The HELLO payload a port sends (R362). -/
def State.helloBytes (s : State) (n : Nat) : List Byte :=
  unit64 (leM 8 s.flint.serial ++ leM 8 s.cap0 ++ leM 2 (s.rd F.QTZ_ID_DEVID) ++ leM 1 n
    ++ leM 1 ((s.bit F.QTZ_ID_ID_OK).toNat + 2 * s.pairIsBound.toNat + 4 * (decide (n = 16)).toNat)
    ++ leM 8 (if s.pairIsBound then s.rd F.AGT_PEER_SERIAL_SERIAL else 0))

/-- HELLO_SEND (R362). -/
def execHelloSend (n : Port) (s : State) : Host.Outcome State Fault Refusal :=
  if s.portPres n ∧ s.portUp n then
    .next (s.enqueue n { pkt := s.mkPkt 0x34 7 0 0xFFFF 0 0 0 (s.helloBytes n), src := 31, at_ := s.now })
  else .next s

/-- The serial number in a HELLO payload. -/
def helloSerial (l : List Byte) : Nat := numL ((l.take 8).map (fun b => (b, false)))

/-- HELLO (R362, R377): recorded; the same neighbour as before unmarks the port, another keeps it marked down until the next RT_COMMIT, with a trap. -/
def execLinkHello (n : Port) (p : Pkt) (s : State) : Host.Outcome State Fault Refusal :=
  .next (if p.opc ≠ 0x34 then s else s.intake n p (fun s e =>
    let s := s.leave e
    let old := (SMap.find s.quartz.hello n).map helloSerial
    let serial := p.num 0 8
    let s := s.modQ (fun q => { q with hello := SMap.put q.hello n (p.data.take 64), helloAt := SMap.put q.helloAt n s.now })
    let s := (((s.wr F.QTZ_NBR_SERIAL serial n).wr F.QTZ_NBR_NID (p.num 16 2) n).wr F.QTZ_NBR_NPORT (p.num 18 1) n).wb F.QTZ_NBR_HELLO_OK true n
    if old = none ∨ old = some serial then (if bitAt s.quartz.changed n then s else s.markDown n false)
    else
      let s := (s.modQ (fun q => { q with changed := putBits q.changed n 1 1 })).markDown n true
      (s.logE 0x0805 (portIsland n) 2 [n, serial]).trap 0x0805 (portIsland n) [n, serial]))

/-- HELLO_TIMEOUT (R362): 1 s without a HELLO. -/
def execHelloTimeout (n : Port) (s : State) : Host.Outcome State Fault Refusal :=
  if s.portPres n ∧ s.portUp n ∧ SMap.get s.quartz.helloAt 0 n + 1000000000 ≤ s.now then
    .next ((s.wb F.QTZ_NBR_HELLO_OK false n).markDown n true)
  else .next s

/-- The path of a path-routed packet, words 1 and 2 as one number (R363). -/
def Pkt.pathV (p : Pkt) : Nat := p.w1.toNat + p.w2.toNat * 2 ^ 64

/-- A packet with its path replaced. -/
def pktWithPath (p : Pkt) (v : Nat) : Pkt := { p with w1 := BitVec.ofNat 64 (v % 2 ^ 64), w2 := BitVec.ofNat 64 (v / 2 ^ 64 % 2 ^ 64) }

/-- Send a path-routed packet on its next port (R363). -/
def State.pathSend (s : State) (e : TxEnt) : State :=
  let v := Pkt.pathV e.pkt
  let n := bitsAt v (5 * bitsAt v 115 5) 5
  if n < 17 ∧ s.portPres n = true ∧ s.portUp n = true then s.enqueue n e else (s.leave e).bump F.QTZ_DROP_RT_ERR

/-- A path-routed packet at a port (R363): it notes the port, moves on, and is consumed at its end. A PTR or PLEN outside the 23 entries names no port and
is discarded as such (DEDUCED, log 55). -/
def State.pathArrive (s : State) (n : Nat) (p : Pkt) (f : State → Pkt → State) : State :=
  s.intake n p (fun s e =>
    let v := Pkt.pathV p
    let ptr := bitsAt v 115 5
    let len := bitsAt v 120 5
    if 23 < len ∨ len < ptr then (s.leave e).bump F.QTZ_DROP_RT_ERR
    else if ptr = len then f (s.leave e) p
    else
      let q := pktWithPath p (putBits (putBits v (5 * ptr) 5 n) 115 5 (ptr + 1))
      if ptr + 1 = len then f (s.leave e) q
      else if q.ttl ≤ 1 then
        let d := [q.src, q.dst]
        (((s.leave e).bump F.QTZ_DROP_TTL_EXP).logE 0x0803 0xF200 2 d).trap 0x0803 0xF200 d
      else s.pathSend { e with pkt := q.put0 56 8 (q.ttl - 1) })

/-- MG_REQ (R364). -/
def execMgReq (n : Port) (p : Pkt) (s : State) : Host.Outcome State Fault Refusal :=
  .next (if p.opc = 0x30 then s.arrive n p (fun s => s.mgQueue p false) else s)

/-- MG_PREQ (R363). -/
def execMgPreq (n : Port) (p : Pkt) (s : State) : Host.Outcome State Fault Refusal :=
  .next (if p.opc = 0x32 then s.pathArrive n p (fun s q => s.mgQueue q true) else s)

/-- MG_RSP (R364). -/
def execMgRsp (n : Port) (p : Pkt) (s : State) : Host.Outcome State Fault Refusal :=
  .next (if p.opc = 0x31 then s.arrive n p (fun s => s.takeMgRsp p) else s)

/-- MG_PRSP (R363). -/
def execMgPrsp (n : Port) (p : Pkt) (s : State) : Host.Outcome State Fault Refusal :=
  .next (if p.opc = 0x33 then s.pathArrive n p (fun s q => s.mgHost q) else s)

/-- TRAP (R367). -/
def execMgTrap (n : Port) (p : Pkt) (s : State) : Host.Outcome State Fault Refusal :=
  .next (if p.opc = 0x35 then s.arrive n p (fun s => s.mgHost p) else s)

/-- MG_SEND (R367, R499): a complete MG_REQ or MG_PREQ of the host. -/
def execMgSend (id : Nat) (p : Pkt) (s : State) : Host.Outcome State Fault Refusal :=
  .next (s.hostCmd id 0x10 (fun s c =>
    if p.opc = 0x30 then
      let s := s.cmdDone c 0 0
      if s.answersFor p.dst then s.mgQueue p false else s.sendPlain p
    else if p.opc = 0x32 then
      let s := s.cmdDone c 0 0
      if bitsAt (Pkt.pathV p) 120 5 = 0 then s.mgQueue p true else s.pathSend { pkt := p, src := 31, at_ := s.now }
    else s.cmdDone c (Code.format 0x11) 0))

/-- MG_RECV (R499): a posted buffer; it completes when a packet fills it. -/
def execMgRecv (id : Nat) (s : State) : Host.Outcome State Fault Refusal :=
  .next (s.hostCmd id 0x11 (fun s c => { s with host := { s.host with mgbuf := s.host.mgbuf ++ [(c.id, c.op 16 8)] } }))

/-- A flood's moved ID, answering ID and sequence. -/
def floodData (p : Pkt) : Nat × Nat × Nat := (p.num 0 2, p.num 2 2, p.num 4 4)

/-- A flooded packet (R349, R378, R391, R474): a repeat is discarded; an ID_MOVED that names the device's own ID is discarded too, and only the record of a split
pair is set; another is kept, sent on with TTL lowered, and acted on. -/
def State.floodArrive (s : State) (n : Nat) (p : Pkt) (f : State → Nat → State) : State :=
  s.intake n p (fun s e =>
    let s := s.leave e
    let d := floodData p
    let data := [d.1, d.2.1, d.2.2]
    if s.quartz.floods.contains (p.src, d.2.2) then s
    else
      let s := s.modQ (fun q => { q with floods := ((p.src, d.2.2) :: q.floods).take 64 })
      let s := (s.logE 0x0806 0xF200 2 data).trap 0x0806 0xF200 data
      if p.opc = 0x36 ∧ d.1 = s.rd F.QTZ_ID_DEVID ∧ s.bit F.QTZ_ID_ID_OK = true then
        if s.bit F.AGT_STAT_SPLIT then s else (s.logE 0x0A09 0xF011 4 [p.src]).wb F.AGT_STAT_SPLIT true
      else
        let s := if p.ttl ≤ 1 then ((s.bump F.QTZ_DROP_TTL_EXP).logE 0x0803 0xF200 2 [p.src, p.dst]).trap 0x0803 0xF200 [p.src, p.dst]
          else s.floodOut (p.put0 56 8 (p.ttl - 1)) n
        f s d.1)

/-- Set or clear the MOVED bit of an ID of the own region (R378). -/
def State.setMoved (s : State) (x : Nat) (b : Bool) : State :=
  if x / 256 = s.rd F.QTZ_ID_DEVID / 256 then s.wflag F.QTZ_MOVED_MOVED (x % 64) b (x % 256 / 64) else s

/-- Every outstanding context to a moved ID ends with TAKEOVER 0x01 (R378). -/
def State.sweepMoved (s : State) (x : Nat) : State :=
  s.quartz.ctx.foldl (fun (s : State) e =>
    if e.2.dst = x ∧ e.2.orphan = false ∧ e.2.part ≠ ctxAgate then s.ctxEnd e.1 e.2 (Code.takeover 1) 0 [] else s) s

/-- ID_MOVED (R378, R391). -/
def execIdMoved (n : Port) (p : Pkt) (s : State) : Host.Outcome State Fault Refusal :=
  .next (if p.opc = 0x36 then s.floodArrive n p (fun s x => (s.setMoved x true).sweepMoved x) else s)

/-- ID_RETURN (R378). -/
def execIdReturn (n : Port) (p : Pkt) (s : State) : Host.Outcome State Fault Refusal :=
  .next (if p.opc = 0x37 then s.floodArrive n p (fun s x => s.setMoved x false) else s)

/-- GRP_ACTIVATION_MARK (R399). -/
def execGrpActivationMark (n : Port) (p : Pkt) (s : State) : Host.Outcome State Fault Refusal :=
  .next (if p.opc = 0x18 ∧ bitsAt p.w1.toNat 12 20 = 0xFFFFF then s.intake n p (fun s e => ((s.leave e).clxMark n p).clxGo) else s)

/-- CLX_CONTRIB (R404, R412, R413): a member's slot forms its next chunk, or a child's contribution arrives. -/
def execClxContrib (o : ClxSrc) (s : State) : Host.Outcome State Fault Refusal :=
  match o with
  | .slot c q => .next (s.clxContribute c q).clxGo
  | .port n p => .next (if p.opc = 0x18 then s.intake n p (fun s e => ((s.leave e).clxArrive n p).clxGo) else s)

/-- CLX_RESULT (R414). -/
def execClxResult (n : Port) (p : Pkt) (s : State) : Host.Outcome State Fault Refusal :=
  .next (if p.opc = 0x19 then s.intake n p (fun s e => ((s.leave e).clxArrive n p).clxGo) else s)

/-- CLX_ABORT (R415). -/
def execClxAbort (n : Port) (p : Pkt) (s : State) : Host.Outcome State Fault Refusal :=
  .next (if p.opc = 0x1A then s.intake n p (fun s e => ((s.leave e).clxArrive n p).clxGo) else s)

/-- TAKEOVER_START (R463, R464, R478): a confirmed loss of the partner ends what was on its way to it; the survivor begins to take over, or goes on serving
both. -/
def execTakeoverStart (s : State) : Host.Outcome State Fault Refusal :=
  if s.twin.confirmed = none then .next s else
  let st := s.pairSt
  let next := if st = 2 ∨ st = 3 ∨ st = 8 then 4 else if st = 6 ∨ st = 7 then 5 else st
  if next = st then .next s
  else
    let peer := s.rd F.AGT_STAT_PEER_ID
    let s := s.setPair next
    let s := s.modTw (fun t => { t with probes := 0, fence := false, hb := 0, imgPend := false })
    let s := (List.range 16).foldl (fun (s : State) p =>
      let x := s.epAt p
      match x.pend with
        | some o => (s.setEp p { x with pend := none }).epTell p (Code.busy 0x30) 0 o.2
        | none => s) s
    let ends := s.quartz.ctx
    let s := ends.foldl (fun (s : State) e =>
      if e.2.part = ctxAgate then s.ctxEnd e.1 e.2 (Code.takeover 2) 0 []
      else if e.2.dst = peer ∧ peer ≠ 0xFFFF ∧ e.2.orphan = false then s.ctxEnd e.1 e.2 (Code.takeover 1) 0 [] else s) s
    let w := s.quartz.qwait.filter (fun w => w.part = ctxAgate)
    let s := s.modQ (fun q => { q with qwait := q.qwait.filter (fun w => w.part ≠ ctxAgate) })
    let s := w.foldl (fun (s : State) w => s.ownerDone w.pkt w.owner (Code.takeover 2) 0 []) s
    let s := (List.range 16).foldl (fun (s : State) p => s.epEnd p (Code.takeover 2)) s
    let s := if next = 5 then (s.modTw (fun t => { t with todo := [], confirmed := none })).resilverEnd (Code.takeover 2) else s
    .next (s.reoffer 16)

end Sys2Proof.Machine
end

