-- ==== Sys2Proof/Machine/Reset.lean ====
section
/-! DEFINITION. Machine/Reset.lean: cold and module resets, the stage limits of DIE_INIT and MEM_INIT, the end of MEM_INIT, REFCLK, and the partition that does
not quiesce in time (R77, R91, R118 to R121, R132 to R134, R145, R152 to R160, R296, R301, R303, R306, R345). -/

namespace Sys2Proof.Machine

/-- COLD_RESET (R132, R133): everything starts again but fuses, straps and flash: the firmware banks, the persistent log, repair and spare records, lane results.
What has been sent to the outside stays sent. OWN_INC counts the reset (R447); the log's SEQ and
its acknowledgement come back from flash (R107). -/
def execColdReset (s : State) : Host.Outcome State Fault Refusal :=
  let r := State.reset
  let r : State := { r with
    pending := s.pending, free := s.free, msix := s.msix,
    log := { r.log with flash := s.log.flash },
    flint := { r.flint with serial := s.flint.serial, variant := s.flint.variant, strap := s.flint.strap },
    fw := { r.fw with a := { s.fw.a with staged := [] }, b := { s.fw.b with staged := [] }, act := s.fw.act, run := s.fw.act },
    hbm := { r.hbm with records := s.hbm.records },
    err := { r.err with flashMap := s.err.flashMap, flashRows := s.err.flashRows, badPos := s.err.badPos },
    ports := s.ports.map (fun e => (e.1, { PortSt.init with stored := e.2.stored })),
    host := { HostSt.init with out := s.host.out, writes := s.host.writes } }
  let r := r.wr F.AGT_STAT_OWN_INC (s.rd F.AGT_STAT_OWN_INC + 1)
  let r := r.wr F.FLT_LOG_HEAD_SEQ ((s.log.flash.head?.map LogEntry.seq).getD 0)
  .next (r.wr F.FLT_LOG_ACK_SEQ (s.rd F.FLT_LOG_ACK_SEQ))

/-- The fields that a module reset leaves alone although their table calls them reset: live readings, and the interleave until MEM_INIT sets it (R303). -/
def moduleLive : List Fld :=
  [F.ISL_CEIL_CEIL_EFF, F.ISL_CEIL_CEIL_SAG, F.ISL_CEIL_CEIL_ENV, F.ISL_CEIL_CEIL_FLT, F.ISL_CEIL_V48_LVL, F.ISL_V48_V48_NOW,
   F.HBM_STAT_B, F.HBM_STAT_G0]

/-- The islands of failed chiplets stay held in reset (R632). -/
def State.heldChiplets (s : State) : SMap Nat :=
  (List.range 272).filterMap (fun i => if s.flag F.ERR_SUMMARY_CC_FAILED (i / 68) then some (i, 2) else none)

/-- What a module reset clears of the package's state (R133): the fields whose table says so, and the units of the dies. Flint's own fields are left alone
when only the rails go. -/
def State.packageClear (s : State) (flint : Bool) : State :=
  let s := s.clearRegs (fun (f : Fld) _ _ => bitAt f.kinds 0 && !moduleLive.contains f && (flint || decide (f.addr / 2 ^ 24 ≠ 0xFF0009)))
  { s with
      start := { s.start with dieInit := false, memInit := false, linkLimit := false, isl := s.heldChiplets },
      pwr := { s.pwr with isl := [], lowered := 0 },
      flint := { s.flint with twinArmed := false, window := none, windowHealthy := false, beatSeen := false,
                              hostSince := if flint then none else s.flint.hostSince, quiesceReq := 0 },
      time := TimeSt.init, clu := [], slate := SlateSt.init, traps := [],
      hbm := { s.hbm with ctl := [], modeRun := none, modePend := none, unflashed := [], rstPart := 0 },
      ports := s.ports.map (fun e => (e.1, { PortSt.init with stored := e.2.stored })),
      quartz := QuartzSt.init, grps := [], twin := TwinSt.init,
      host := { HostSt.init with out := s.host.out, writes := s.host.writes },
      mica := ⟨[], [], [], [], 0⟩, jasper := ⟨none, [], 0⟩,
      err := { s.err with cls2 := [], failed := [], mapping := [], waitMap := [], unflashed := [], rows := [], stalls := [], escalated := [] } }

/-- The dies lose their supply outside a reset: nothing on them is kept, the mirror region included (DEDUCED, log 61). -/
def State.packageDark (s : State) : State :=
  let s := (s.railsOff.packageClear false).wr F.AGT_STAT_STATE 0
  { s with start := { s.start with rstPend := none, rstOn := false, fromLockout := false, keepMirror := false } }

/-- POWER_OFF: package rails off in reverse order; no effect while they are off (R97). The module waits in STANDBY (R118). -/
def execPowerOff (bus : Bool) (s : State) : Host.Outcome State Fault Refusal :=
  let t := if s.pwr.step = 0 then s else s.packageDark.wr F.FLT_START_STAGE 2
  .next (s.served bus 9 ({ t with pwr := { t.pwr with off := true } }.respond bus 0))

/-- AQGEN_WATCHDOG: restart the running bank; after three restarts within 10 s roll back to a valid previous bank, or enter recovery (R116). -/
def execAqgenWatchdog (s : State) : Host.Outcome State Fault Refusal :=
  if s.flint.on = false ∨ s.stage < 2 then .next s
  else
    let rs := s.now :: s.fw.restarts.filter (fun t => decide (s.now < t + 10000000000))
    let s := { s with fw := { s.fw with restarts := rs } }
    if rs.length ≤ 3 then .next (s.logE 0x0303 304 3 [s.fw.run])
    else if (s.fw.bank (1 - s.fw.run)).valid then
      let s := { s with fw := { s.fw with restarts := [], trial := false, exchanging := false, run := 1 - s.fw.run } }
      .next ((s.drainFifo.logE 0x0303 304 3 [s.fw.run]).alert .fw)
    else .next (if s.pwr.step = 0 then s else s.packageDark).recovery

/-- V3P3SB_LOSS: Flint stops, the package rails go off, the pins take their unpowered states (R117). -/
def execV3p3sbLoss (s : State) : Host.Outcome State Fault Refusal :=
  let s := s.packageDark
  .next { s.wr F.FLT_START_STAGE 0 with flint := { s.flint with on := false } }

/-- MODULE_RESET_ENTRY (R132 to R134, R139, R155, R301): the requested module reset takes effect. Memories are zeroed in DIE_INIT and MEM_INIT (R118). -/
def execModuleResetEntry (s : State) : Host.Outcome State Fault Refusal :=
  match s.start.rstPend with
  | none => .next s
  | some cause =>
    let yielded := decide (s.rd F.AGT_STAT_STATE = 9)
    let s := s.packageClear true
    let s := (s.wr F.DEV_RST_CAUSE_CAUSE cause).bump F.DEV_RST_CAUSE_COUNT
    let s := (s.wr F.AGT_STAT_OWN_INC (s.rd F.AGT_STAT_OWN_INC + 1)).wr F.AGT_STAT_STATE (if yielded then 9 else 0)
    let s := s.wr F.FLT_START_STAGE (if cause = 5 then 3 else 4)
    let s : State := { s with start := { s.start with rstPend := none, rstOn := true, fromLockout := decide (cause = 5), keepMirror := true } }
    .next (s.logE 0x0502 0xF044 2 [cause])

/-- MODULE_RESET_END (R134, R119, R82, R101, R473): no source holds the reset any more, MOD_RST_N included; it ends with entry to DIE_INIT, or to RAILS after a lockout. -/
def execModuleResetEnd (s : State) : Host.Outcome State Fault Refusal :=
  if s.start.rstOn = false ∨ s.pwr.lockout ≠ 0 ∨ s.bit F.FLT_STAT_PKG_FAIL = true ∨ s.rd F.AGT_STAT_STATE = 9 then .next s
  else
    let s : State := { s.wb F.FLT_SCAN_SCAN_EN false with start := { s.start with rstOn := false, fromLockout := false, modLow := false, modLong := false } }
    if s.pwr.step = 6 then .next (if s.rd F.FLT_START_HOLD_AT = 4 then (s.wr F.FLT_START_STAGE 3).startUp else s.enterStage 4)
    else if s.pwr.step = 0 then .next s
    else .next (s.wr F.FLT_START_STAGE 3)

/-- DIE_INIT_TIMEOUT (R81, R82, R120): a die without a heartbeat; its watch is armed from now on. The base die fails the package; a chiplet is held in reset, its
clusters failed with no spare. -/
def execDieInitTimeout (d : Fin 5) (s : State) : Host.Outcome State Fault Refusal :=
  if s.stage ≠ 4 ∨ s.start.rstOn = true ∨ s.flint.hbArmed.getD d false = true then .next s
  else
    let s := { s with flint := { s.flint with hbArmed := setAt s.flint.hbArmed d true } }
    if (d : Nat) = 0 then .next ((s.stageLimit 4 1).packageFail)
    else
      let c : Nat := d - 1
      let s := (s.wflag F.DEV_START_CC_FAIL c true).stageLimit 4 (2 ^ (d : Nat))
      let s := (List.range 64).foldl (fun (s : State) k => s.cluLost (64 * c + k)) s
      .next (State.noteService s ((List.range 68).foldl (fun (s : State) p => s.setIslRst (68 * c + p) 2) s))

/-- The interleave that a set of failed stacks leaves (R303): log₂ of the largest w for which an aligned group all trained, and the lowest such group. -/
def bestGroup (n failed : Nat) : Option (Nat × Nat) :=
  [3, 2, 1, 0].findSome? (fun b =>
    ((List.range (n / 2 ^ b)).find? (fun g => bitsAt failed (g * 2 ^ b) (2 ^ b) = 0)).map (fun g => (b, g * 2 ^ b)))

/-- Banks of a stack: 32 pseudo-channels, three stack-IDs, 16 banks (R282, R295). -/
def stackBanks : Nat := 1536

/-- The flash records are applied, as hard repairs under HARD_AT_INIT: the banks they use, and what is left (R295, R296, R298). -/
def State.applyRecords (s : State) : State :=
  let hard := s.bit F.HBM_SCRUB_HARD_AT_INIT
  let s : State := { s with hbm := { s.hbm with records := s.hbm.records.map (fun r => (r.1, r.2.1, r.2.2 || hard)) } }
  (List.range s.stacks).foldl (fun (s : State) n =>
    let used := ((s.hbm.records.filter (fun r => decide (r.1 = n))).map (fun r => (r.2.1.pc, r.2.1.sid, r.2.1.bank))).eraseDups
    (s.modHb n (fun x => { x with used := used })).wr F.HBM_ERR_RPR_LEFT (stackBanks - used.length) n) s

/-- HBM is zeroed with its marks, the kept mirror region apart; the poison tables count the marks that stay (R118, R133, R289, R634). -/
def State.zeroHbm (s : State) (keep : Bool) : State :=
  let top := hbmBase + s.hbmCap
  let hi := if keep then s.mirrorBase else top
  let s := (s.zeroMem hbmBase (hi - hbmBase)).zeroMem top (2 ^ 48 - top)
  s.psn.foldl (fun (s : State) e =>
    if hbmBase ≤ e.1 then s.wr F.HBM_PSN_USED (s.rd F.HBM_PSN_USED (s.stackOf (e.1 - hbmBase)) + 1) (s.stackOf (e.1 - hbmBase)) else s) s

/-- The end of MEM_INIT with an interleave (R118, R303): repairs applied, HBM zeroed, the host port released, bring-up begun on every present port: after a cold
reset seeded from the flash records, if the port has one, after a module reset in full (R133). -/
def State.memInitEnd (s : State) (b g : Nat) : State :=
  let b0 := s.rd F.HBM_STAT_B
  let g0 := s.rd F.HBM_STAT_G0
  let size := s.rd F.HBM_MIRROR_SIZE_GIB
  let same := decide (b0 = b ∧ g0 = g)
  let warm := s.start.keepMirror
  let s := ((s.wr F.HBM_STAT_B b).wr F.HBM_STAT_G0 g).applyRecords
  let s := s.zeroHbm (warm && same)
  let s := if warm && !same then
      let s := s.logE 0x0606 0xF044 2 [2 ^ b0, g0, 2 ^ b, g, size]
      if s.hbmCap < 2 * (size * 2 ^ 30) then (s.wr F.HBM_MIRROR_SIZE_GIB 0).wb F.HBM_MIRROR_REJ true else s
    else s
  let s : State := { s with start := { s.start with memInit := true, keepMirror := false } }
  let s := (List.range 17).foldl (fun (s : State) n => if s.portPres n then s.startBringup n (!warm && (s.pt n).stored) else s) s
  s.startUp

/-- MEM_INIT may end: the stage is on, its work is not done, no module reset. -/
def State.inMemInit (s : State) : Bool := s.stage = 5 && !s.start.memInit && !s.start.rstOn

/-- MEM_INIT_DONE (R118): every stack trained; without REFCLK none does (R159). -/
def execMemInitDone (s : State) : Host.Outcome State Fault Refusal :=
  if s.inMemInit && s.pwr.refclk then .next (s.memInitEnd (if s.variant = 3 then 2 else 3) 0) else .next s

/-- MEM_INIT_TIMEOUT (R121, R159, R303): which stacks failed is a free value, all of them without REFCLK; how DATA marks a REFCLK fault is not stated, a free
value too. With no stack left start-up stops here. -/
def execMemInitTimeout (s : State) : Host.Outcome State Fault Refusal :=
  if s.inMemInit = false then .next s
  else
    let all := 2 ^ s.stacks - 1
    let mask := if s.pwr.refclk then Config.freeNat s.free % all + 1 else all
    let mark := if s.pwr.refclk then [] else [Config.freeNat s.free]
    let t := ((s.wr F.DEV_START_TO_STAGE 5).wr F.DEV_START_HBM_FAIL mask).logE 0x0501 0xF043 3 ([5, mask] ++ mark)
    let t := t.drawn
    match bestGroup s.stacks mask with
    | none => .next t
    | some (b, g) => .next (t.memInitEnd b g)

/-- REFCLK_LOSS (R77, R306, R345): fabric time stands, every port goes down and stays squelched, HBM answers with POISON. -/
def execRefclkLoss (s : State) : Host.Outcome State Fault Refusal :=
  if s.pwr.refclk = false then .next s
  else
    let s : State := { s with pwr := { s.pwr with refclk := false }, time := { s.time with run := false } }
    if s.start.memInit = false then .next s
    else .next ((List.range 17).foldl (fun (s : State) n =>
      if s.portPres n then (((s.portDown n).wr F.QTZ_PORT_STAT_FAIL_CAUSE 6 n).wr F.QTZ_PORT_STAT_STATE 0 n).modPt n (fun p => { p with hold := false })
      else s) s)

/-- REFCLK_RETURN (R306, R345): fabric time runs again, bring-up restarts from DETECT, seeded, on every port that is not quiesced and whose group is in service; the
stacks retrain as in a mode change to the present mode (R284). -/
def execRefclkReturn (s : State) : Host.Outcome State Fault Refusal :=
  if s.pwr.refclk = true then .next s
  else
    let s : State := { s with pwr := { s.pwr with refclk := true }, time := { s.time with run := decide (4 ≤ s.stage) && !s.start.rstOn && decide (s.pwr.step = 6) } }
    if s.start.memInit = false then .next s
    else
      let s := (List.range 17).foldl (fun (s : State) n =>
        if s.portPres n && !s.islResetting (portIsland n) then s.startBringup n true else s) s
      .next (if s.hbm.modeRun.isSome || s.modeStacks.isEmpty then s else s.setModes (some (s.rd F.HBM_STAT_MODE, s.modeStacks)) s.hbm.modePend)

/-- QUIESCE_TIMEOUT (R91, R573): the partition is stopped: its contexts complete with TIMEOUT, its clusters halt at an instruction boundary, Flint holds it. -/
def execQuiesceTimeout (p : Part) (s : State) : Host.Outcome State Fault Refusal :=
  if bitAt s.flint.quiesceReq p = false ∨ s.flag F.FLT_ALONE_QUIESCED p = true
    ∨ s.now < s.flint.quiesceAt + s.rd F.FLT_HB_CFG_QUIESCE_T * 1000000000 then .next s
  else
    let s := s.wflag F.FLT_ALONE_QUIESCED p true
    let l := s.quartz.ctx.filter (fun e => decide (e.2.part = (p : Nat)) && !e.2.orphan)
    let s := l.foldl (fun (s : State) e => (s.countEnd p true).ctxEnd e.1 e.2 (Code.timeout 1) 0 []) s
    .next (s.jasperStop p)

end Sys2Proof.Machine
end

