-- ==== Sys2Proof/Machine/Views.lean ====
section
/-! DEFINITION. Machine/Views.lean: a register as it is read (R9, R16, R33, R692): the fields that State.regs holds, those that are read from the machine's own
state, and the windows of the manifest, the log, the error records and the lost partner's image. -/

namespace Sys2Proof.Machine

/-- The blocks of R33 that are present: base and size. -/
def regBlocks : List (Nat × Nat) :=
  [(0xFF0000000000, 0x10000), (0xFF0000010000, 0x1000), (0xFF0000100000, 0x100000)] ++ (List.range 10).map (fun k => (0xFF0001000000 + k * 0x1000000, 0x1000000))

/-- An address lies in a register block (R33). -/
def inRegBlock (a : Nat) : Bool := regBlocks.any (fun b => decide (b.1 ≤ a) && decide (a < b.1 + b.2))

/-- Whether the unit that a field's instance belongs to is absent (R2, R9). -/
def State.unitAbsent (s : State) (f : Fld) (i : Nat) : Bool :=
  (decide (f.ix = .isl) && !s.islPres i) || (decide (f.ix = .stk) && decide (s.stacks ≤ i)) || (decide (f.ix = .port) && !s.portPres i)
    || (decide (0xFF0006000000 ≤ f.addr ∧ f.addr < 0xFF0007000000) && !s.micaPres)
    || (decide (0xFF0007000000 ≤ f.addr ∧ f.addr < 0xFF0008000000) && !s.jasperPres)

/-- The fields of the CLU block (R201, R214, R403). How many request-cycles bank conflicts cost is timing: a free value. -/
def State.cluView (s : State) (f : Fld) (c j : Nat) : Option Nat :=
  let k := s.cl c
  if f = F.CLU_STAT_RUN then some k.run.toNat
  else if f = F.CLU_STAT_HALTED then some k.halted.toNat
  else if f = F.CLU_STAT_FAULTED then some k.faulted.toNat
  else if f = F.CLU_STAT_INH then some k.inh.toNat
  else if f = F.CLU_STAT_PC then some k.pc
  else if f = F.CLU_FAULT_FCODE then some k.fcode
  else if f = F.CLU_FAULT_FPC then some k.fpc
  else if f = F.CLU_FADDR then some k.faddr
  else if f = F.CLU_FINFO then some k.finfo
  else if f = F.CLU_DMA_BUSY then some ((List.range 64).foldl (fun m n => m + (k.slotAt n).busy.toNat * 2 ^ n) 0)
  else if f = F.CLU_DMAERR_UNREP then some ((List.range 64).foldl (fun m n => m + (k.slotAt n).unrep.toNat * 2 ^ n) 0)
  else if f = F.CLU_SLOT_STATUS then some (k.slotAt j).status
  else if f = F.CLU_SEM_COUNT then some (k.semAt j).count
  else if f = F.CLU_SEM_POISON then some (k.semAt j).psn.toNat
  else if f = F.CLU_SEM_OVF then some (k.semAt j).ovf.toNat
  else if f = F.CLU_NUMFLG_INVALID then some (k.numflg % 2)
  else if f = F.CLU_NUMFLG_OVERFLOW then some (k.numflg / 2 % 2)
  else if f = F.CLU_NUMFLG_INTSAT then some (k.numflg / 4 % 2)
  else if f = F.CLU_TNS_QDEPTH then some ((List.range 4).foldl (fun m u => m + (k.queue u).length % 8 * 8 ^ u) 0)
  else if f = F.CLU_TNS_CFG_OK then some ((List.range 4).foldl (fun m u => m + (SMap.find k.cfg u).isSome.toNat * 2 ^ u) 0)
  else if f = F.CLU_PSN_V then some k.vpsn
  else if f = F.CLU_PSN_TA then some k.tapsn
  else if f = F.CLU_BANK_STALL then some (Config.freeNat s.free)
  else if f = F.CLU_CLX_CODE then some (k.clxAt j).code
  else if f = F.CLU_CLX_BUSY then some (k.clxAt j).busy.toNat
  else if f = F.CLU_CLX_UNREP then some (k.clxAt j).unrep.toNat
  else if f = F.CLU_CLX_GRP then some (k.clxAt j).grp
  else if f = F.CLU_CLX_STEP then some (k.clxAt j).step
  else none

/-- The open step that a record shows: its oldest (R416). -/
def ClxRec.oldest (r : ClxRec) : Option ClxStep :=
  r.open_.foldl (fun o x => match o with | none => some x | some y => if x.step < y.step then some x else some y) none

/-- Inputs received for the oldest open chunk of a step. -/
def ClxStep.got (x : ClxStep) : Nat :=
  let ks := (x.parts.map ClxPart.key).filter (fun k => !x.folded.contains k)
  match ks with
  | [] => 0
  | k :: t => let m := t.foldl min k; (x.parts.filter (fun p => decide (p.key = m))).length

/-- The fields of a group record's window (R399, R416). -/
def State.recView (s : State) (f : Fld) (i : Nat) : Option Nat :=
  let get (g : ClxRec → Nat) : Nat := ((SMap.find s.grps i).map g).getD 0
  if f = F.CLX_REC_HANDLE then some (get ClxRec.handle)
  else if f = F.CLX_REC_PART then some (get ClxRec.part)
  else if f = F.CLX_REC_STATE then some (get ClxRec.state)
  else if f = F.CLX_REC_NODE then some (get ClxRec.node)
  else if f = F.CLX_REC_NIN then some (get (fun r => r.inputs.length))
  else if f = F.CLX_REC_OPEN_STEP then some (get (fun r => (r.oldest.map ClxStep.step).getD 0))
  else if f = F.CLX_REC_GOT then some (get (fun r => (r.oldest.map ClxStep.got).getD 0))
  else if f = F.CLX_REC_OPEN then some (get (fun r => r.oldest.isSome.toNat))
  else if f = F.CLX_REC_LAST_CODE then some (get ClxRec.lastCode)
  else if f = F.CLX_REC_LAST_STEP then some (get ClxRec.lastStep)
  else none

/-- The fields of a grant's window (R495). -/
def State.grantView (s : State) (f : Fld) (i : Nat) : Option Nat :=
  let get (g : Grant → Nat) : Nat := ((SMap.find s.host.grants i).map g).getD 0
  if f = F.HST_GRANT_BASE then some (get Grant.base)
  else if f = F.HST_GRANT_PAGES then some (get Grant.pages)
  else if f = F.HST_GRANT_VALID then some (get (fun _ => 1))
  else if f = F.HST_GRANT_MODE then some (get (fun g => g.ro.toNat))
  else if f = F.HST_GRANT_PARTS then some (get Grant.parts)
  else if f = F.HST_GRANT_HOME then some (get Grant.home)
  else none

/-- The fields of a Mica stream's window (R544): +0x08 to +0x30 as SNAP last latched them. -/
def State.streamView (s : State) (f : Fld) (i : Nat) : Option Nat :=
  let get (g : MStream → Nat) : Nat := ((SMap.find s.mica.streams i).map g).getD 0
  let snap (k : Nat) : Nat := get (fun x => x.snap.getD k 0)
  if f = F.MCA_STREAM_STATE then some (get (fun x => if x.closing.isSome then 2 else 1))
  else if f = F.MCA_STREAM_PART then some (get MStream.part)
  else if f = F.MCA_STREAM_LIVE then some (get (fun x => (oLive x.d).toNat))
  else if f = F.MCA_STREAM_CREDITS then some (get MStream.credits)
  else if f = F.MCA_STREAM_QUEUED then some (get (fun x => x.queue.length))
  else if f = F.MCA_STREAM_LAST_ERR then some (get MStream.lastErr)
  else if f = F.MCA_STREAM_NUMFLG then some (get MStream.numflg)
  else if f = F.MCA_STREAM_IN then some (snap 0)
  else if f = F.MCA_STREAM_DEC then some (snap 1)
  else if f = F.MCA_STREAM_STALE_START then some (snap 2)
  else if f = F.MCA_STREAM_STALE_DELIV then some (snap 2 / 2 ^ 32)
  else if f = F.MCA_STREAM_ERR then some (snap 3)
  else if f = F.MCA_STREAM_FLIGHT then some (snap 3 / 2 ^ 32)
  else if f = F.MCA_STREAM_HIT then some (snap 4)
  else if f = F.MCA_STREAM_NOOUT then some (snap 4 / 2 ^ 32)
  else if f = F.MCA_STREAM_SKIP then some (snap 5)
  else if f = F.MCA_STREAM_SEQ then some (snap 5 / 2 ^ 32)
  else if f = F.MCA_STREAM_FUTURE then some (get (fun x => satAt 16 x.future))
  else if f = F.MCA_STREAM_NOSTAMP then some (get (fun x => satAt 16 x.nostamp))
  else if f = F.MCA_STREAM_LAG_N then some (get (fun x => satAt 16 x.lagN))
  else if f = F.MCA_STREAM_PREEMPT_NS then some (get MStream.preempt)
  else none

/-- The fields of the stepper block (R602 to R629). -/
def State.smView (s : State) (f : Fld) (k : Nat) : Option Nat :=
  let c := s.smCh k
  if f = F.SM_STAT_STATE then some c.st.num
  else if f = F.SM_STAT_QLEN then some c.q.length
  else if f = F.SM_STAT_POS_UNCERTAIN then some c.uncertain.toNat
  else if f = F.SM_STAT_HOMED then some c.homed.toNat
  else if f = F.SM_STAT_FAULT_SHORT then some c.fShort.toNat
  else if f = F.SM_STAT_FAULT_STALL then some c.fStall.toNat
  else if f = F.SM_STAT_FAULT_SUPPLY then some c.fSupply.toNat
  else if f = F.SM_STAT_DERATED then some (match c.started, c.q with | true, m :: _ => (decide (c.vder < m.vmax)).toNat | _, _ => 0)
  else if f = F.SM_STAT_LOOP_OWNED then some (s.smOwned k).toNat
  else if f = F.SM_POS_POS then some (ofSigned 32 c.pos)
  else if f = F.SM_POS_TGT then some (ofSigned 32 c.target)
  else if f = F.SM_MOT_VEL then some (ofSigned 32 (if c.neg then -((c.v / 65536 : Nat) : Int) else ((c.v / 65536 : Nat) : Int)))
  else if f = F.SM_MOT_DWELL_LEFT then some c.dwellLeft
  else if f = F.FLT_SM_GLB_FAULT then some ((List.range 4).foldl (fun m n => m + (s.smCh n).faulted.toNat * 2 ^ n) 0)
  else if f = F.FLT_SM_GLB_LOWHR then some ((List.range 4).foldl (fun m n => m + s.rd F.SM_STAT_LOW_HEADROOM n * 2 ^ n) 0)
  else none

/-- The other fields that no register holds. Which pipelines of Jasper hold a block is a free value. -/
def State.unitView (s : State) (f : Fld) (i : Nat) : Option Nat :=
  if f = F.DEV_START_STAGE then some s.stage
  else if f = F.FT_NOW_TIME then some s.time.ft
  else if f = F.ISL_FREQ_EFF_CODE then some (s.progCode i)
  else if f = F.ISL_SENSE_SET_MV then some (if i = 304 then 0 else s.railSet (islRail i))
  else if f = F.FLT_FW_STAT_RUN_BANK then some s.fw.run
  else if f = F.FLT_FW_STAT_ACT_BANK then some s.fw.act
  else if f = F.FLT_FW_STAT_TRIAL then some s.fw.trial.toNat
  else if f = F.FLT_FW_STAT_RECOVERY then some s.fw.recovery.toNat
  else if f = F.FLT_FW_STAT_VALID then some (s.fw.a.valid.toNat + s.fw.b.valid.toNat * 2)
  else if f = F.QTZ_AGENT_RD_OCC then some s.quartz.agent.length
  else if f = F.MCA_STAT_RES_KS then some (s.mica.streams.foldl (fun m e => m + e.2.res) 0)
  else if f = F.MCA_STAT_CTX_USED then some s.mica.streams.length
  else if f = F.JSP_STAT_WAITING then some s.jasper.waiting.length
  else if f = F.JSP_STAT_RUN then some s.jasper.run.isSome.toNat
  else if f = F.JSP_STAT_RUN_PART then some ((s.jasper.run.map (fun r => r.b.part)).getD 0)
  else if f = F.JSP_STAT_PIPE_BUSY then some (if s.jasper.run.isSome then Config.freeNat s.free else 0)
  else if f = F.JSP_STAT_RUN_DONE then some ((s.jasper.run.map JRun.leading).getD 0)
  else if f = F.ERR_SUMMARY_SERVICE_DUE then some s.serviceDue.toNat
  else if f.addr = F.DEV_CAP0_VARIANT.addr then some (s.cap0 / 2 ^ f.lo)
  else none

/-- A field as it is read: zero of a WO field and of an absent unit, else the machine's own state or what the register holds (R9, R16). -/
def State.view (s : State) (f : Fld) (i j : Nat) : Nat :=
  if f.acc = .wo ∨ s.unitAbsent f i = true then 0
  else
    let v := (s.cluView f i j).orElse (fun _ => (s.unitView f i).orElse (fun _ => (s.smView f i).orElse (fun _ => (s.streamView f i).orElse (fun _ =>
      (s.grantView f i).orElse (fun _ => s.recView f i)))))
    match v with
    | some x => x % 2 ^ f.w
    | none => s.rd f i j

/-- The 4,096 bytes of the capability manifest (R5, R519). -/
def State.manifest (s : State) : List Nat :=
  let fw := if s.fw.run = 0 then s.fw.a.version else s.fw.b.version
  let usable := ((List.range 4).filter (fun k => !s.flag F.ERR_SUMMARY_CC_FAILED k && !s.flag F.DEV_START_CC_FAIL k)).length * 64
  let l := leBytes 4 0x4D435844 ++ leBytes 2 1 ++ leBytes 2 64 ++ leBytes 8 s.cap0 ++ leBytes 8 s.flint.serial ++ leBytes 4 fw
    ++ leBytes 2 (s.hbmW * 24) ++ leBytes 2 usable ++ leBytes 4 131072 ++ leBytes 2 256 ++ [16, 16] ++ leBytes 2 1024
    ++ leBytes 2 (if s.micaPres then 1024 else 0) ++ leBytes 2 (if s.jasperPres then 64 else 0) ++ leBytes 2 (if s.jasperPres then 4096 else 0)
    ++ [48] ++ List.replicate (4092 - 49) 0
  l ++ leBytes 4 (Config.crc32 l)

/-- The 64 bytes of an error record (R636); the places of its DATA are not stated: a free value (log 58). -/
def ErrRec.bytes (r : ErrRec) : List Nat :=
  leBytes 2 r.kind ++ leBytes 2 r.source ++ [r.cls % 256, r.ovf.toNat + r.flashed.toNat * 2] ++ leBytes 2 r.code ++ leBytes 4 r.seq ++ leBytes 4 r.count
    ++ leBytes 8 r.time ++ leBytes 8 r.addr ++ leBytes 4 r.syndrome ++ leBytes 2 r.source2 ++ leBytes 2 r.part
    ++ (List.range 24).map (fun k => if r.data = [] then 0 else Config.dataByte r.kind r.data k % 256)

/-- Eight bytes of a list as a register. -/
def wordAt (l : List Nat) (o : Nat) : Nat := (List.range 8).foldl (fun v k => v + l.getD (o + k) 0 % 256 * 256 ^ k) 0

/-- The windows (R5, R109, R468, R636). The manifest reads zero until HOST_READY, the image unless IMG_OK. -/
def State.windowRead (s : State) (a : Nat) : Option Nat :=
  if 0xFF0000010000 ≤ a ∧ a < 0xFF0000011000 then some (if s.stage < 6 then 0 else wordAt s.manifest (a - 0xFF0000010000))
  else if 0xFF0009010000 ≤ a ∧ a < 0xFF0009010000 + 4096 * 32 then
    let k := (a - 0xFF0009010000) / 32
    some (match s.log.ring.find? (fun e => (e.seq + Config.logBase) % 4096 = k) with | some e => wordAt e.bytes (a % 32) | none => 0)
  else if 0xFF000A010000 ≤ a ∧ a < 0xFF000A010000 + 1024 * 64 then
    let k := (a - 0xFF000A010000) / 64
    some (match s.err.ring.find? (fun e => (e.seq + Config.errBase) % 1024 = k) with | some e => wordAt e.bytes (a % 64) | none => 0)
  else if 0xFF0005800000 ≤ a ∧ a < 0xFF0005900000 then
    some (if s.bit F.AGT_STAT_IMG_OK then s.memN (s.mirrorBase + s.twin.imgSlot * 2 ^ 20 + (a - 0xFF0005800000)) 8 else 0)
  else none

/-- A register of the Agate port's window (R307) is instance 16 of the port registers; the Esyel windows end at port 15. -/
def regHome (a : Nat) : Option Nat :=
  if 0xFF0005010000 ≤ a ∧ a < 0xFF0005011000 then some (a - 0xFF0005010000 + 0xFF0004110000)
  else if 0xFF0004110000 ≤ a ∧ a < 0xFF0004111000 then none
  else some a

/-- A 64-bit register as the host physical function reads it; a reserved offset reads zero (R33, R692). -/
def State.regRead (s : State) (a : Nat) : Nat :=
  match s.windowRead a with
  | some v => v
  | none => match regHome a with
    | some b => (fieldsAt b).foldl (fun v t => v + s.view t.1 t.2.1 t.2.2 * 2 ^ t.1.lo) 0
    | none => 0

/-- MB_READ_REG (R97): one register of the FLT block; an address outside it or misaligned has no register (R33, R692). -/
def execMbReadReg (bus : Bool) (a : BitVec 48) (s : State) : Host.Outcome State Fault Refusal :=
  let a := a.toNat
  .next (s.served bus 3 (
    if a % 8 ≠ 0 then s.respond bus (Code.addr 2)
    else if a < 0xFF0009000000 ∨ 0xFF000A000000 ≤ a then s.respond bus (Code.addr 1)
    else s.respond bus 0 (leBytes 8 (s.regRead a))))

end Sys2Proof.Machine
end

