-- ==== Sys2Proof/Machine/RegWrite.lean ====
section
/-! DEFINITION. Machine/RegWrite.lean: a register write by address (R9, R16, R33, R97, R121, R141, R367 to R369, R382, R385, R692, R694): the registers whose
writes act go to the meaning that the row of the write has; every other register is written field by field. -/

namespace Sys2Proof.Machine

/-- What the whole register would be written with: a 4-byte write leaves an ordinary field of the other half as it is and writes no 1 to an action or flag bit
there (R692). -/
def State.merged (s : State) (size a v : Nat) : Nat :=
  (fieldsAt (a - a % 8)).foldl (fun m t =>
    let cur := s.rd t.1 t.2.1 t.2.2
    let x := if covers size a t.1 ∨ (t.1.lo < 32 ∧ 32 < t.1.lo + t.1.w) then
        (if size = 8 ∨ covers size a t.1 then newBits size a t.1 cur v else bitsAt cur 0 (32 - t.1.lo) + bitsAt v 32 (t.1.lo + t.1.w - 32) * 2 ^ (32 - t.1.lo))
      else if t.1.acc = .rw ∨ t.1.acc = .rwl then cur else 0
    m + x * 2 ^ t.1.lo) 0

/-- The state a meaning answers. -/
def outState (s : State) : Host.Outcome State Fault Refusal → State
  | .next t => t
  | _ => s

/-- A write with the code that a management write gets: PERM 0x02 when it counted a discard, FORMAT when it set the flag of a value out of range (R694). -/
def State.coded (s : State) (flag : Fld) (i : Nat) (f : State → State) : State × Nat :=
  let old := s.rd F.FLT_WR_REJ_COUNT
  let t := f ((s.wr F.FLT_WR_REJ_COUNT 0).wb flag false i)
  let n := t.rd F.FLT_WR_REJ_COUNT
  let bad := t.bit flag i
  let t := t.wr F.FLT_WR_REJ_COUNT (satAt F.FLT_WR_REJ_COUNT.w (old + n))
  (if s.bit flag i then t.wb flag true i else t, if n ≠ 0 then Code.perm 2 else if bad then fmtCode flag else 0)

/-- A write by a source without the right: discarded and counted (R694, R13, R87). -/
def State.noRight (s : State) (a : Nat) : State :=
  if 0xFF0000100000 ≤ a ∧ a < 0xFF0000200000 then s.bump F.ISL_WR_REJ_COUNT else s.bump F.FLT_WR_REJ_COUNT

/-- QTZ_PART_CFG (R381, R382, R387): a QUOTA that would raise the sum above 126,976 is discarded with REJ; the rest goes field by field. -/
def State.partCfgFields (s : State) (src : Src) (size a v p : Nat) : State × Nat :=
  let q := newBits size a F.QTZ_PART_QUOTA (s.rd F.QTZ_PART_QUOTA p) v
  let others := (List.range 16).foldl (fun m k => if k = p then m else m + s.rd F.QTZ_PART_QUOTA k) 0
  let bad := covers size a F.QTZ_PART_QUOTA && decide (126976 < others + q)
  let r := writeFields s src size a (if bad then putBits v 0 18 (s.rd F.QTZ_PART_QUOTA p) else v)
  (if bad then r.1.wb F.QTZ_PART_REJ true p else r.1, r.2)

/-- SNAP (R385): OUT, ALLOC and DONE of the partition are latched together; no sweep is ever half done here. -/
def State.partSnap (s : State) (p : Nat) : State :=
  let c := s.ctxCnt p
  (((s.wr F.QTZ_PART_OUT c.1 p).wr F.QTZ_PART_ALLOC c.2.1 p).wr F.QTZ_PART_DONE c.2.2 p).wb F.QTZ_PART_SWEEP false p

/-- A write of QTZ_PART_CFG of partition p, by the host physical function. -/
def State.partCfgWrite (s : State) (src : Src) (size a v p : Nat) : State × Nat :=
  if src ≠ .pf then (s.bump F.FLT_WR_REJ_COUNT, 0)
  else
    let r := s.partCfgFields src size a v p
    (if covers size a F.QTZ_PART_SNAP && bitAt v 54 then r.1.partSnap p else r.1, r.2)

/-- QTZ_PART_CFG_WRITE (R381, R382, R387). -/
def execQtzPartCfgWrite (p : Part) (src : Src) (v : BitVec 64) (s : State) : Host.Outcome State Fault Refusal :=
  .next (s.partCfgWrite src.host 8 (F.QTZ_PART_QUOTA.regAddr p 0) v.toNat p).1

/-- PART_SNAP (R385). -/
def execPartSnap (p : Part) (src : Src) (s : State) : Host.Outcome State Fault Refusal :=
  if src.host = .pf then .next (s.partSnap p) else .next (s.bump F.FLT_WR_REJ_COUNT)

/-- The check of one route entry (R369): UNIT_ABSENT for an absent port, FORMAT 0x0A for anything else that is wrong; an entry that is not VALID is not checked. -/
def State.rtEntryCode (s : State) (e : Nat) : Nat :=
  let ports := [bitsAt e 0 5, bitsAt e 5 5, bitsAt e 10 5, bitsAt e 15 5, bitsAt e 28 5, bitsAt e 33 5, bitsAt e 38 5, bitsAt e 43 5]
  let vcs := [bitsAt e 20 2, bitsAt e 22 2, bitsAt e 24 2, bitsAt e 26 2, bitsAt e 48 2, bitsAt e 50 2]
  if bitAt e 53 = false then 0
  else if ports.any (fun p => decide (p < 16) && !s.portPres p) then Code.unitAbsent
  else if ports.any (fun p => decide (16 ≤ p ∧ p ≤ 30)) || vcs.any (fun v => v = 3) || decide (bitsAt e 54 10 ≠ 0) then Code.format 0x0A
  else if bitAt e 52 && ports.any (fun p => p ≠ 31) then Code.format 0x0A
  else 0

/-- The code of a commit (R369): an absent port anywhere first, then the first entry that fails, region table before member table. -/
def State.rtCode (s : State) : Nat :=
  let b := 1 - s.rd F.QTZ_RT_CTRL_ACTIVE
  let cs := (List.range 256).map (fun k => s.rtEntryCode (s.rd F.RT_REGION_ENTRY b k)) ++ (List.range 256).map (fun k => s.rtEntryCode (s.rd F.RT_MEMBER_ENTRY b k))
  if cs.contains Code.unitAbsent then Code.unitAbsent else (cs.find? (fun c => c ≠ 0)).getD 0

/-- RT_COMMIT (R118, R369, R377): the shadow bank becomes active, or nothing changes and LOAD_REJ shows the code. -/
def State.rtCommit (s : State) : State × Nat :=
  let c := s.rtCode
  if c ≠ 0 then
    ((((s.wb F.QTZ_RT_CTRL_LOAD_REJ true).wr F.QTZ_RT_CTRL_REJ_CODE c).logE 0x0801 0xF200 2 [c]).trap 0x0801 0xF200 [c], c)
  else
    let ch := s.quartz.changed
    let s := (s.wr F.QTZ_RT_CTRL_ACTIVE (1 - s.rd F.QTZ_RT_CTRL_ACTIVE)).wb F.DEV_START_RT_OK true
    let s := s.modQ (fun q => { q with changed := 0 })
    let s := (List.range 17).foldl (fun (s : State) n => if bitAt ch n && s.bit F.QTZ_NBR_HELLO_OK n && s.portUp n then s.markDown n false else s) s
    (((s.logE 0x0801 0xF200 1 [0]).trap 0x0801 0xF200 [0]).startUp, 0)

/-- A write of QTZ_PORT_CTRL of port n (R334 to R337, R694). -/
def State.portCtrlWrite (s : State) (src : Src) (size a v n : Nat) : State × Nat :=
  if src ≠ .pf then (s.bump F.FLT_WR_REJ_COUNT, 0)
  else
    let c (f : Fld) : Bool := covers size a f
    let s := if c F.QTZ_PORT_CTRL_REJ && bitAt v 7 then s.wb F.QTZ_PORT_CTRL_REJ false n else s
    if c F.QTZ_PORT_CTRL_QREQ = false then (s, 0)
    else
      let ex := s.bit F.FLT_EXPERT_EN_EN
      let lane := bitsAt v 2 3
      let test := bitAt v 5
      let loop := bitAt v 6
      let d := (if bitAt v 1 then 1 else 0) + (if lane ≠ s.rd F.QTZ_PORT_CTRL_SWAP_LANE n then 1 else 0) + (if test ≠ s.bit F.QTZ_PORT_CTRL_TEST_EN n then 1 else 0)
        + (if loop ≠ s.bit F.QTZ_PORT_CTRL_LOOPBACK n then 1 else 0)
      let s := if ex then
          let s := (s.wr F.QTZ_PORT_CTRL_SWAP_LANE lane n).testMode n test loop
          if bitAt v 1 then s.forceSwap n lane else s
        else s.bump F.FLT_WR_REJ_COUNT d
      let s := if bitAt v 0 then s.qreqOn n else if s.bit F.QTZ_PORT_CTRL_QREQ n then s.qreqOff n else s
      (s, if ex = false ∧ d ≠ 0 then Code.perm 2 else 0)

/-- Writes of the ISL block. -/
def State.islWrite (s : State) (src : Src) (size a v : Nat) : Option (State × Nat) :=
  let m := BitVec.ofNat 64 (s.merged size a v)
  let r := a - a % 8
  let run (o : Host.Outcome State Fault Refusal) : Option (State × Nat) := some (outState s o, 0)
  if r = F.ISL_PSTATE_DEV.addr then run (execIslPstateWrite src m s)
  else if r = F.ISL_PWR_CAP_CAP_W.addr then run (execIslPwrCapWrite src m s)
  else if r = F.ISL_V48_V48_MIN.addr ∧ covers size a F.ISL_V48_MIN_CLR ∧ bitAt v F.ISL_V48_MIN_CLR.lo then run (execV48MinClr src s)
  else match F.ISL_FREQ_REQ_CODE.instAt r with
    | some (i, _) => if h : i < 305 then run (execIslFreqWrite ⟨i, h⟩ src m s) else none
    | none => match F.ISL_STR_CFG_RECOV_HOLD.instAt r with
      | some (i, _) => if h : i < 305 then run (execIslStrCfgWrite ⟨i, h⟩ src m s) else none
      | none => match F.ISL_RST_GO.instAt r with
        | some (i, _) => some (s.islRstWrite src size a v i, 0)
        | none => none

/-- Writes of the DEV block. -/
def State.devWrite (s : State) (src : Src) (size a v : Nat) : Option (State × Nat) :=
  let r := a - a % 8
  let act (f : Fld) : Bool := covers size a f && bitAt v f.lo
  if r = F.DEV_START_SOLO.addr then
    (if covers size a F.DEV_START_SOLO then some (outState s (execDevStartSoloWrite src (bitAt v F.DEV_START_SOLO.lo) s), 0) else some (s, 0))
  else if r = F.DEV_RST_PART.addr then
    if src ≠ .pf then some (s.rstReject, 0)
    else
      let s := (writeFields s src size a v).1
      let s := if act F.DEV_RST_MODULE then s.moduleReset 3 else s
      some (if act F.DEV_RST_PART_GO then s.partGo src (s.rd F.DEV_RST_PART) else s, 0)
  else if r = F.DEV_LINK_RST_GO.addr then
    if src ≠ .pf then some (s.rstReject, 0)
    else some ((List.range 17).foldl (fun (s : State) n => if covers size a F.DEV_LINK_RST_GO && bitAt v n then s.linkReset n else s) s, 0)
  else if r = F.FT_CFG_MODE.addr then some (s.ftCfgWrite src size v, 0)
  else none

/-- Writes of Flint's own registers. -/
def State.fltWrite (s : State) (src : Src) (size a v : Nat) : Option (State × Nat) :=
  let m := s.merged size a v
  let w := BitVec.ofNat 64 m
  let r := a - a % 8
  let c (f : Fld) : Bool := covers size a f
  let act (f : Fld) : Bool := c f && bitAt v f.lo
  let coded (flag : Fld) (f : State → Host.Outcome State Fault Refusal) : Option (State × Nat) := some (s.coded flag 0 (fun s => outState s (f s)))
  if r = F.FLT_HB_CFG_DIE_HB_T.addr then coded F.FLT_HB_CFG_FMT_REJ (execFltHbCfgWrite src w)
  else if r = F.FLT_HOST_HB_WORD.addr then
    let s := if c F.FLT_HOST_HB_WORD then outState s (execFltHostHbWrite src (BitVec.ofNat 32 m) s) else s
    some (if act F.FLT_HOST_HB_DISARM then outState s (execHostWatchDisarm src s) else s, 0)
  else if r = F.FLT_ALERT_STAT_CAUSE.addr then coded F.FLT_HB_CFG_FMT_REJ (execFltAlertStatWrite src w)
  else if r = F.FLT_ALERT_MASK_CAUSE.addr then (if c F.FLT_ALERT_MASK_CAUSE then coded F.FLT_HB_CFG_FMT_REJ (execFltAlertMaskWrite src w) else some (s, 0))
  else if r = F.FLT_ALONE_RELEASE.addr then (if act F.FLT_ALONE_RELEASE then coded F.FLT_HB_CFG_FMT_REJ (execFltAloneRelease src) else some (s, 0))
  else if r = F.FLT_EXPERT_EN_EN.addr then (if c F.FLT_EXPERT_EN_EN then coded F.FLT_HB_CFG_FMT_REJ (execFltExpertEnWrite src (bitAt m 0)) else some (s, 0))
  else if r = F.FLT_LOG_ACK_SEQ.addr then (if c F.FLT_LOG_ACK_SEQ then coded F.FLT_HB_CFG_FMT_REJ (execFltLogAckWrite src (BitVec.ofNat 32 m)) else some (s, 0))
  else if r = F.FLT_SCAN_SCAN_EN.addr then (if c F.FLT_SCAN_SCAN_EN then coded F.FLT_HB_CFG_FMT_REJ (execFltScanWrite src (bitAt m 0)) else some (s, 0))
  else if r = F.FLT_START_STAGE.addr then (if c F.FLT_START_HOLD_AT then coded F.FLT_HB_CFG_FMT_REJ (execFltStartWrite src w) else some (s, 0))
  else none

/-- Writes of the SLT and HBM blocks. -/
def State.memBlockWrite (s : State) (src : Src) (size a v : Nat) : Option (State × Nat) :=
  let r := a - a % 8
  if r = F.SLT_ASSIGN_PART.addr then some (s.assignWrite src size (if covers size a F.SLT_ASSIGN_GO then v else v - bitsAt v 19 1 * 2 ^ 19), 0)
  else if r = F.HBM_MODE_REQ.addr then (if covers size a F.HBM_MODE_REQ then some (s.modeWrite src v, 0) else some (s, 0))
  else if r = F.HBM_MIRROR_SIZE_GIB.addr then (if covers size a F.HBM_MIRROR_SIZE_GIB then some (s.mirrorWrite src v, 0) else some (s, 0))
  else if r = F.HBM_RPR_REQ_STACK.addr then some (s.rprWrite src size a v)
  else match F.SLT_SLICE_OWNER.instAt r with
    | some (i, _) => some (s.sliceWrite src size i v)
    | none => match F.SLT_RGN_BASE.instAt (r - r % 64) with
      | some (p, q) => some (s.rgnWrite src size a v p q, 0)
      | none => none

/-- Writes of the QTZ block. The active bank of the route tables is read-only. -/
def State.qtzWrite (s : State) (src : Src) (size a v : Nat) : Option (State × Nat) :=
  let r := a - a % 8
  let act (f : Fld) : Bool := covers size a f && bitAt v f.lo
  if r = F.QTZ_RT_CTRL_ACTIVE.addr then
    let t := writeFields s src size a v
    if act F.QTZ_RT_CTRL_COMMIT then some t.1.rtCommit else some t
  else match F.RT_REGION_ENTRY.instAt r, F.RT_MEMBER_ENTRY.instAt r with
    | some (b, _), _ => if b = s.rd F.QTZ_RT_CTRL_ACTIVE then some (s, 0) else none
    | none, some (b, _) => if b = s.rd F.QTZ_RT_CTRL_ACTIVE then some (s, 0) else none
    | none, none => match F.QTZ_PART_QUOTA.instAt r with
      | some (p, _) => some (s.partCfgWrite src size a v p)
      | none => match F.QTZ_PORT_CTRL_QREQ.instAt r with
        | some (n, _) => some (s.portCtrlWrite src size a v n)
        | none => match F.QTZ_PORT_PWR_DOZE_EN.instAt r with
          | some (n, _) => some (s.coded F.QTZ_PORT_PWR_FMT_REJ n (fun s => s.portPwrWrite src size a n v))
          | none => match F.QTZ_LANE_RX_MIN_CLR.instAt r with
            | some (n, l) =>
              let t := writeFields s src size a v
              some (if act F.QTZ_LANE_RX_MIN_CLR then t.1.wr F.QTZ_LANE_RX_FOM_MIN 255 n l else t.1, t.2)
            | none => none

/-- Writes of the AGT block: BIND, UNBIND, YIELD, RELEASE_PEER, HANDBACK, GO of AGT_ADOPT and AGT_EPOCH, the ranges. -/
def State.agtWrite (s : State) (src : Src) (size a v : Nat) : Option (State × Nat) :=
  let r := a - a % 8
  let act (f : Fld) : Bool := covers size a f && bitAt v f.lo && decide (src = .pf)
  if r = F.AGT_CFG_AUTO_BIND.addr then
    let t := writeFields s src size a v
    let s := t.1
    let s := if act F.AGT_CFG_BIND then s.bindCmd else s
    let s := if act F.AGT_CFG_UNBIND then s.unbindCmd else s
    let y := if act F.AGT_CFG_YIELD then s.yieldCmd else (s, 0)
    some (if act F.AGT_CFG_RELEASE_PEER then y.1.releaseCmd else y.1, if t.2 = 0 then y.2 else t.2)
  else if r = F.AGT_ADOPT_PART.addr then
    let t := writeFields s src size a v
    if act F.AGT_ADOPT_GO then
      let p := t.1.rd F.AGT_ADOPT_PART
      some ((t.1.adoptPart p (Config.lostRanges t.1.free p)).drawn, t.2)
    else some t
  else if r = F.AGT_RSV_HANDBACK.addr then
    let t := writeFields s src size a v
    some (if act F.AGT_RSV_HANDBACK then t.1.handbackCmd else t.1, t.2)
  else match F.AGT_EPOCH_GO.instAt r with
    | some (p, _) => if covers size a F.AGT_EPOCH_GO then some (s.epochWrite src p (bitAt v 0) (bitAt v 1), 0) else some (s, 0)
    | none => match F.AGT_MR_LBASE.instAt (r - r % 32) with
      | some (i, _) => if r % 32 < 24 then some (s.rangeWrite src size a v i, 0) else some (s, 0)
      | none => none

/-- Writes of the MCA, HST and ERR blocks. -/
def State.hostBlockWrite (s : State) (src : Src) (size a v : Nat) : Option (State × Nat) :=
  let r := a - a % 8
  if r = F.ERR_SPARE_REQ_LOGICAL.addr then some (s.spareWrite src size a v)
  else match F.MCA_STREAM_SNAP.instAt r with
    | some (i, _) => if covers size a F.MCA_STREAM_SNAP && bitAt v 7 then some (s.micaSnapWrite src i, 0) else some (s, 0)
    | none => match F.HST_RING_ENABLE.instAt r with
      | some (i, _) => some (s.ringCfgWrite src size v i, 0)
      | none => match F.HST_PART_CTL_EXPERT_EN.instAt r with
        | some _ => some (s.partCtlWrite src size a v, 0)
        | none => none

/-- Writes of the loop channels (R580 to R594). -/
def State.lpWrite (s : State) (src : Src) (size a v : Nat) : Option (State × Nat) :=
  let r := a - a % 8
  match F.LP_CTL_MODE.instAt r with
  | some (c, _) => some (s.lpBy src (fun s => s.lpCtlWrite size a v c))
  | none => match F.LP_SRC_SP_SRC.instAt r with
    | some (c, _) => some (s.lpBy src (fun s => s.lpSrcWrite size a v c))
    | none => match F.LP_COEF_LO.instAt r with
      | some (c, j) => some (s.lpBy src (fun s => s.lpCoefWrite size a v c j))
      | none => match F.LP_STAT_PL_FAULT.instAt r with
        | some (c, _) =>
          some (s.lpBy src (fun s =>
            let clear := covers size a F.LP_STAT_PL_FAULT && bitAt v 0
            let t := writeFields s src size a (if bitAt v 0 then v - 1 else v)
            (if clear then t.1.lpClear c else t.1, t.2)))
        | none => match lpParFields.findSome? (fun f => (f.instAt r).map (fun e => (f, e.1))) with
          | some (f, c) => some (s.lpBy src (fun s => s.lpParWrite size a v c ((f.addr - F.LP_PAR_SP_CONST.addr) / 8)))
          | none => none

/-- The command of a stepper channel, with the code of a refusal; several command bits are refused with FORMAT 0x1B (R605 to R613, R620, R621, R628). Whether a leg trips again and whether
V12AUX is low, for CLEAR, are free values. -/
def State.smCommands (s : State) (k : Fin 4) (v : Nat) : State × Nat :=
  let go (t : State × Nat) (b : Nat) (f : State → State) : State × Nat :=
    if bitAt v b = false then t
    else
      let u := f ((t.1.wr F.SM_STAT_LAST_CODE 0 k).wb F.SM_STAT_REJ false k)
      if u.bit F.SM_STAT_REJ k then (u, if t.2 = 0 then u.rd F.SM_STAT_LAST_CODE k else t.2)
      else ((u.wr F.SM_STAT_LAST_CODE (t.1.rd F.SM_STAT_LAST_CODE k) k).wb F.SM_STAT_REJ (t.1.bit F.SM_STAT_REJ k) k, t.2)
  if 1 < ((List.range 7).filter (fun b => bitAt v b)).length then (s.smRefuse k (Code.format 0x1B), Code.format 0x1B)
  else
    let t := go (s, 0) 0 (fun s => outState s (execSmGo k s))
    let t := go t 1 (fun s => outState s (execSmStop k s))
    let t := go t 2 (fun s => outState s (execSmResume k s))
    let t := go t 3 (fun s => outState s (execSmFlush k s))
    let t := go t 4 (fun s => outState s (execSmHome k s))
    let t := go t 5 (fun s => (outState s (execSmClear k (Config.freeBool s.free) (Config.freeBool (s.free + 1)) s)).drawn.drawn)
    if bitAt v 6 = false then t
    else if s.bit F.FLT_EXPERT_EN_EN = false then (t.1.bump F.FLT_WR_REJ_COUNT, Code.perm 2)
    else go t 6 (fun s => outState s (execSmSetpos k s))

/-- Writes of the stepper channels (R620, R621). -/
def State.smWrite (s : State) (src : Src) (size a v : Nat) : Option (State × Nat) :=
  let r := a - a % 8
  let ok := match src with | .pf | .mb _ => true | _ => false
  match F.SM_CTL_EN.instAt r with
  | some (k, _) => if h : k < 4 then
      (if covers size a F.SM_CTL_EN then some (s.coded F.SM_STAT_FMT_REJ k (fun s => outState s (execSmCtlWrite ⟨k, h⟩ src (BitVec.ofNat 64 (s.merged size a v)) s)))
       else some (s, 0)) else none
  | none => match F.SM_CMD_GO.instAt r with
    | some (k, _) => if h : k < 4 then
        (if ok = false then some (s.bump F.FLT_WR_REJ_COUNT, 0) else if covers size a F.SM_CMD_GO then some (s.smCommands ⟨k, h⟩ v) else some (s, 0)) else none
    | none => none

/-- A register write of 4 or 8 bytes at a home address by a source, with the code a management write gets. -/
def State.homeWrite (s : State) (src : Src) (size a v : Nat) : State × Nat :=
  let fs := fieldsAt (a - a % 8)
  if fs = [] ∨ fs.any (fun t => s.unitAbsent t.1 t.2.1) = true then (s, 0)
  else
    let mgmt := match src with | .mb _ => true | _ => false
    if mgmt && fs.all (fun t => !t.1.mb) then (s, Code.perm 0)
    else
      let o := (s.islWrite src size a v).orElse (fun _ => (s.devWrite src size a v).orElse (fun _ => (s.fltWrite src size a v).orElse (fun _ =>
        (s.memBlockWrite src size a v).orElse (fun _ => (s.qtzWrite src size a v).orElse (fun _ => (s.agtWrite src size a v).orElse (fun _ =>
        (s.hostBlockWrite src size a v).orElse (fun _ => (s.lpWrite src size a v).orElse (fun _ => s.smWrite src size a v))))))))
      match o with
      | some r => r
      | none => match src with
        | .pf | .mb _ => writeFields s src size a v
        | _ => (s.noRight a, 0)

/-- A register write: the value stands in the half that a 4-byte access names; a reserved offset takes nothing (R33, R692). The fabric's WRITE_REG acts as the
host physical function (R364). -/
def State.regWrite (s : State) (src : Src) (half : Bool) (a v : Nat) : State × Nat :=
  let size := if half then 4 else 8
  let src := src.host
  if a % size ≠ 0 then (s, Code.addr 2)
  else if inRegBlock a = false then (s, Code.addr 1)
  else
    let v := if half = false then v else if a % 8 = 4 then v % 2 ^ 32 * 2 ^ 32 else v % 2 ^ 32
    match regHome a with
    | some b => s.homeWrite src size b v
    | none => (s, 0)

/-- REGISTER_WRITE (R16, R33, R692, R694). A misaligned host access is an Unsupported Request that APER_REJ counts. -/
def execRegisterWrite (src : Src) (half : Bool) (a : BitVec 48) (v : BitVec 64) (s : State) : Host.Outcome State Fault Refusal :=
  let host := match src with | .pf | .vf _ => true | _ => false
  if host && decide (a.toNat % (if half then 4 else 8) ≠ 0) then .next (s.bump F.HST_STAT_APER_REJ)
  else .next (s.regWrite src half a.toNat v.toNat).1

/-- MB_WRITE_REG (R97): a register without a field marked MB gives PERM. -/
def execMbWriteReg (bus : Bool) (a : BitVec 48) (v : BitVec 64) (s : State) : Host.Outcome State Fault Refusal :=
  let r := s.regWrite (.mb bus) false a.toNat v.toNat
  .next (s.served bus 4 (r.1.respond bus r.2))

end Sys2Proof.Machine
end

