-- ==== Sys2Proof/Machine/MgCmd.lean ====
section
/-! DEFINITION. Machine/MgCmd.lean: the fabric's management commands (R364 to R366): the queue's head is started, executed and answered. -/

namespace Sys2Proof.Machine

/-- A response payload (R364): TAG, CMD and N at bytes 4 to 7, CODE at 8 and 9, data from 16; the other bytes are not stated: free values. -/
def State.mgPayload (s : State) (q : Pkt) (code : Nat) (data : List Byte) : List Byte :=
  let f (k : Nat) : Byte := Config.freeByte (64 * s.free + k)
  [f 0, f 1, f 2, f 3] ++ plain (leM 2 (q.num 4 2) ++ leM 1 (q.byte 6) ++ leM 1 (q.byte 7) ++ leM 2 code) ++ (List.range 6).map (fun k => f (10 + k)) ++ data

/-- The path of an answer (R363): entry j is the request's entry PLEN − 1 − j, PTR is 0 and PLEN the same. -/
def answerPath (v : Nat) : Nat :=
  let len := bitsAt v 120 5
  (List.range len).foldl (fun x j => x + bitsAt v (5 * (len - 1 - j)) 5 * 2 ^ (5 * j)) 0 + len * 2 ^ 120

/-- Answer the request in progress and take it from the queue (R363, R364): a path request by path, another by ID; this device's own host takes its
answer at once. -/
def State.mgAnswer (s : State) (e : MgEnt) (code : Nat) (data : List Byte := []) : State :=
  let l := s.mgPayload e.pkt code data
  let l := l ++ List.replicate ((64 - l.length % 64) % 64) 0
  let s := (s.modQ (fun q => { q with mgq := q.mgq.drop 1, mgBusy := false })).drawn
  if e.path then
    let p := pktWithPath (s.mkPkt 0x33 7 0 0 0 0 0 l) (answerPath (Pkt.pathV e.pkt))
    if bitsAt (Pkt.pathV e.pkt) 120 5 = 0 then s.mgHost p else s.pathSend { pkt := p, src := 31, at_ := s.now }
  else
    let p := s.mkPkt 0x31 7 0 e.pkt.src 0 0 0 l
    if s.answersFor e.pkt.src then s.takeMgRsp p else s.sendPlain p

/-- MG_EXECUTE (R364, R394): the next request starts when the previous one has been answered; a wrong key gives PERM 0x05 and an undefined CMD
FORMAT. A request for the assumed ID is not served (R466). -/
def execMgExecute (s : State) : Host.Outcome State Fault Refusal :=
  match s.quartz.mgq with
  | [] => .next s
  | e :: _ =>
    if s.quartz.mgBusy then .next s
    else if e.path = false ∧ s.isAssumed e.pkt.dst = true then .next (s.mgAnswer e (Code.takeover 3))
    else if s.rd F.QTZ_MGMT_MKEY ≠ 0 ∧ e.pkt.num 0 4 ≠ s.rd F.QTZ_MGMT_MKEY then .next ((s.logE 0x0807 0xF200 2 [e.pkt.src]).mgAnswer e (Code.perm 5))
    else if e.pkt.byte 6 = 0 ∨ 7 < e.pkt.byte 6 then .next (s.mgAnswer e (Code.format 0))
    else .next (s.modQ (fun q => { q with mgBusy := true }))

/-- Act on the request in progress when its CMD is the named one. -/
def State.mgRun (s : State) (cmd : Nat) (f : MgEnt → State) : State :=
  match s.quartz.mgq with
  | [] => s
  | e :: _ => if s.quartz.mgBusy = true ∧ e.pkt.byte 6 = cmd then f e else s

/-- N of a request. -/
def mgN (p : Pkt) : Nat := p.byte 7
/-- ARG of a request. -/
def mgArg (p : Pkt) : Nat := p.num 8 8
/-- N lies in 1 to 63, and the payload holds as many words after byte 16 as the command needs (R364 (b)). -/
def mgCount (p : Pkt) (words : Bool) : Bool := decide (1 ≤ mgN p ∧ mgN p ≤ 63) && (!words || decide (16 + 8 * mgN p ≤ p.data.length))

/-- READ_REG (R364, R692): N registers as the host physical function reads them. -/
def execReadReg (s : State) : Host.Outcome State Fault Refusal :=
  .next (s.mgRun 1 (fun e =>
    let a := mgArg e.pkt
    let n := mgN e.pkt
    if mgCount e.pkt false = false then s.mgAnswer e (Code.format 0x1E)
    else if a % 8 ≠ 0 then s.mgAnswer e (Code.addr 2)
    else if (List.range n).any (fun k => !inRegBlock (a + 8 * k)) then s.mgAnswer e (Code.addr 1)
    else s.mgAnswer e 0 ((List.range n).flatMap (fun k => plain (leM 8 (s.regRead (a + 8 * k)))))))

/-- The blocks that WRITE_REG may write: DEV, QTZ, AGT, FLT and ERR (R364). -/
def mgBlock (a : Nat) : Bool :=
  decide (0xFF0000000000 ≤ a ∧ a < 0xFF0000011000) || decide (0xFF0004000000 ≤ a ∧ a < 0xFF0006000000) || decide (0xFF0009000000 ≤ a ∧ a < 0xFF000B000000)

/-- WRITE_REG (R364, R365, R394): N words in order, as the host physical function writes them; the first code that is not success is the answer's. -/
def execWriteReg (s : State) : Host.Outcome State Fault Refusal :=
  .next (s.mgRun 2 (fun e =>
    let a := mgArg e.pkt
    let n := mgN e.pkt
    if mgCount e.pkt true = false then s.mgAnswer e (Code.format 0x1E)
    else if a % 8 ≠ 0 then s.mgAnswer e (Code.addr 2)
    else if (List.range n).any (fun k => !inRegBlock (a + 8 * k)) then s.mgAnswer e (Code.addr 1)
    else if (List.range n).any (fun k => !mgBlock (a + 8 * k)) then s.mgAnswer e (Code.perm 0)
    else
      let r := (List.range n).foldl (fun (t : State × Nat) k =>
        let w := t.1.regWrite .mg false (a + 8 * k) (e.pkt.num (16 + 8 * k) 8)
        (w.1, if t.2 = 0 then w.2 else t.2)) (s, 0)
      r.1.mgAnswer e r.2))

/-- One record of GET_NBR (R364 (c)). -/
def State.nbrRecord (s : State) (n : Nat) : List Byte :=
  let h := match SMap.find s.quartz.hello n with | some l => l | none => []
  (List.range 20).map (fun k => h.getD k 0)
    ++ plain (leM 1 (s.rd F.QTZ_PORT_STAT_STATE n)
      ++ leM 1 ((s.bit F.QTZ_NBR_HELLO_OK n).toNat + 2 * (s.bit F.QTZ_NBR_DOWN n).toNat + 4 * (!s.portPres n).toNat)
      ++ leM 2 (s.rd F.QTZ_PORT_STAT_RTT_NS n)) ++ List.replicate 8 0

/-- GET_NBR (R364). -/
def execGetNbr (s : State) : Host.Outcome State Fault Refusal :=
  .next (s.mgRun 3 (fun e => s.mgAnswer e 0 ((List.range 17).flatMap (fun n => s.nbrRecord n))))

/-- The code of SET_ID (R365, R366, R470, R480). -/
def State.setIdCode (s : State) (x : Nat) : Nat :=
  if s.bit F.QTZ_ID_ID_OK = true ∧ x = s.ownId then 0
  else if x / 256 = 0xFF then Code.format 0
  else if s.bit F.QTZ_ID_ID_OK then Code.busy 0x14
  else if s.pairSt = 8 then (if x = bitsAt s.twin.beat 16 16 then 0 else Code.format 0x0A)
  else if s.pairIsBound = true ∧ pairIds x (s.rd F.AGT_STAT_PEER_ID) = false then Code.format 0x0A
  else 0

/-- SET_ID (R118, R365, R366, R470, R480): the ID is set once. A replacement takes its twin's ASSUMED ID and is HELD. -/
def execSetId (s : State) : Host.Outcome State Fault Refusal :=
  .next (s.mgRun 4 (fun e =>
    let x := mgArg e.pkt % 2 ^ 16
    let c := s.setIdCode x
    if c ≠ 0 then s.mgAnswer e c
    else if s.bit F.QTZ_ID_ID_OK then s.mgAnswer e 0
    else
      let s := ((s.wr F.QTZ_ID_DEVID x).wb F.QTZ_ID_ID_OK true).wb F.DEV_START_ID_OK true
      let s := if s.pairSt = 8 then s.wb F.AGT_STAT_HELD true else s
      (s.mgAnswer e 0).startUp))

/-- RT_WRITE (R364, R369): N entries of the shadow bank of the region or member table. -/
def execRtWrite (s : State) : Host.Outcome State Fault Refusal :=
  .next (s.mgRun 5 (fun e =>
    let a := mgArg e.pkt
    let n := mgN e.pkt
    let i := bitsAt a 8 8
    let f := if bitAt a 0 then F.RT_MEMBER_ENTRY else F.RT_REGION_ENTRY
    let b := 1 - s.rd F.QTZ_RT_CTRL_ACTIVE
    if mgCount e.pkt true = false ∨ 256 < i + n then s.mgAnswer e (Code.format 0x1E)
    else ((List.range n).foldl (fun (s : State) k => s.wr f (e.pkt.num (16 + 8 * k) 8) b (i + k)) s).mgAnswer e 0))

/-- RT_COMMIT (R118, R369, R377). -/
def execRtCommit (s : State) : Host.Outcome State Fault Refusal :=
  .next (s.mgRun 6 (fun e => let r := s.rtCommit; r.1.mgAnswer e r.2))

/-- SET_MOVED (R364, R379): one MOVED bit. -/
def execSetMoved (s : State) : Host.Outcome State Fault Refusal :=
  .next (s.mgRun 7 (fun e =>
    let a := mgArg e.pkt
    (s.wflag F.QTZ_MOVED_MOVED (a % 64) (bitAt a 8) (a % 256 / 64)).mgAnswer e 0))

end Sys2Proof.Machine
end

