-- ==== Sys2Proof/Machine/Sys.lean ====
section
/-! DEFINITION. Machine/Sys.lean: the SYS instructions of the sequencer and its CTL registers, and what it does with words that are no instruction
(R161 to R163, R168, R187, R199, R200). -/

namespace Sys2Proof.Machine

/-- A mask of the indices below n for which a test holds. -/
def maskWhere (n : Nat) (f : Nat → Bool) : Nat := (List.range n).foldl (fun m k => m + (f k).toNat * 2 ^ k) 0

/-- What a CTL register holds (the CTL table of R162); none for an index outside the table. CTL.CYCLE counts cycles, which the model does not: a free
value (log 53). -/
def State.ctl (s : State) (c n : Nat) : Option Nat :=
  let k := s.cl c
  match n with
  | 0 => some k.pc
  | 1 => some c
  | 2 => some ((s.cluPart c).getD 0)
  | 3 => some (s.rd F.QTZ_ID_DEVID)
  | 4 => some (Config.freeNat s.free)
  | 5 => some s.time.ft
  | 6 => some k.tag
  | 7 => some (k.codeBase + k.codeLim * 2 ^ 32)
  | 8 => some (s.cluExpert c).toNat
  | 16 => some k.fmode
  | 17 => some k.fvec
  | 18 => some k.fcode
  | 19 => some k.fpc
  | 20 => some k.faddr
  | 21 => some k.finfo
  | 22 => some k.inh.toNat
  | 24 => some k.waitLim
  | 25 => some (maskWhere 64 (fun m => (k.semAt m).ovf))
  | 26 => some (maskWhere 64 (fun m => (k.semAt m).psn))
  | 27 => some (maskWhere 64 (fun m => (k.slotAt m).unrep))
  | 28 => some k.sigerr
  | 29 => some (maskWhere 8 (fun m => (k.clxAt m).unrep))
  | 32 => some k.dmavc
  | _ => none

/-- A CTL register written with a legal value; none where R163 faults with FORMAT. -/
def ClusterSt.setCtl (k : ClusterSt) (n v : Nat) : Option ClusterSt :=
  match n with
  | 16 => if v ≤ 1 then some { k with fmode := v } else none
  | 17 => if v % 4 = 0 ∧ k.codeBase ≤ v ∧ v < k.codeLim then some { k with fvec := v } else none
  | 18 => some { k with fcode := v }
  | 19 => some { k with fpc := v }
  | 24 => if v ≤ 10000000 then some { k with waitLim := v } else none
  | 25 => some ((List.range 64).foldl (fun k m => if bitAt v m then k.setSem m { k.semAt m with ovf := false } else k) k)
  | 32 => if v ≤ 1 then some { k with dmavc := v } else none
  | _ => none

/-- Everything that SYS.HALT waits for is over (R187). -/
def State.haltReady (s : State) (c : Nat) : Bool :=
  let k := s.cl c
  k.slotsIdle && decide (k.sigOut = 0) && k.tq.all (fun e => e.2.isEmpty) && k.trun.isEmpty && k.clx.all (fun e => !e.2.busy) && !s.unitBusy c

/-- SYS.HALT with nothing outstanding (R187, R200, R405): the first unreported fault, of DMA slots, then failed signals, then collective slots; else the
end of the program with its completion entry. -/
def State.haltNow (s : State) (c : Nat) (long : Bool) : State :=
  let k := s.cl c
  match k.unrepSlot, k.sigCodes, (List.range 8).find? (fun n => (k.clxAt n).unrep) with
  | some n, _, _ => s.raiseSlot c n long
  | none, _ :: _, _ => s.raiseSig c long
  | none, [], some n => s.raiseClx c n long
  | none, [], none => (s.setCl c { k with run := false, halted := true, wait := none }).postEnd c 0

/-- SYS.HALT (R187). -/
def execSysHalt (x : Iss) (s : State) : Host.Outcome State Fault Refusal :=
  .next (s.issue x 0 (fun s => if s.haltReady x.c then s.haltNow x.c x.long else s.hold x .halt))

/-- SYS_HALT_COMPLETE (R187). -/
def execSysHaltComplete (c : Clu) (s : State) : Host.Outcome State Fault Refusal :=
  let k := s.cl c
  if k.wait = some .halt ∧ s.haltReady c = true then .next (s.haltNow c k.waitLong) else .next s

/-- SYS.FRET (R199). PC takes the multiple of 4 in CTL.FPC's 22 bits (log 54). -/
def execSysFret (x : Iss) (s : State) : Host.Outcome State Fault Refusal :=
  .next (s.issue x 0 (fun s =>
    let k := s.cl x.c
    if k.inh = false then s.fault x (Code.format 5) else s.setCl x.c { k with inh := false, pc := bitsAt k.fpc 2 20 * 4 }))

/-- SYS.CTLR (R163). -/
def execSysCtlr (x : Iss) (rd n : Fin 64) (s : State) : Host.Outcome State Fault Refusal :=
  .next (s.issue x 0 (fun s =>
    match s.ctl x.c n with
    | some v => (if (n : Nat) = 4 then s.drawn else s).done x ((s.cl x.c).setG rd (BitVec.ofNat 64 v))
    | none => s.fault x (Code.format 3)))

/-- SYS.CTLW (R163, R189): an illegal index or value, then the expert uses without EXPERT_EN. -/
def execSysCtlw (x : Iss) (n ra : Fin 64) (s : State) : Host.Outcome State Fault Refusal :=
  .next (s.issue x 0 (fun s =>
    let k := s.cl x.c
    let v := (k.gr ra).toNat
    match k.setCtl n v with
    | none => s.fault x (Code.format 3)
    | some k' => if ((n : Nat) = 32 ∨ ((n : Nat) = 24 ∧ v = 0)) ∧ s.cluExpert x.c = false then s.fault x (Code.perm 2) else s.done x k'))

/-- SYS.NOP. -/
def execSysNop (x : Iss) (s : State) : Host.Outcome State Fault Refusal := .next (s.issue x 0 (fun s => s.pass x))

/-- UNDEFINED_INSTRUCTION (R164, R168): FORMAT 0x01, whatever its guard. -/
def execUndefinedInstruction (x : Iss) (s : State) : Host.Outcome State Fault Refusal := .next (s.issue x (Code.format 1) id)

/-- FETCH_OUTSIDE_CODE_RANGE (R162): ADDR 0x04. -/
def execFetchOutsideCodeRange (x : Iss) (s : State) : Host.Outcome State Fault Refusal :=
  let k := s.cl x.c
  if k.ready = false ∨ s.cluHeld x.c = true ∨ k.inCode x.long = true then .next s else .next (s.fault x (Code.addr 4) k.pc)

end Sys2Proof.Machine
end

