-- ==== Sys2Proof/Machine/Dispatch.lean ====
section
/-! DEFINITION. Machine/Dispatch.lean: one arm for each command: the direct call of its meaning. -/

namespace Sys2Proof.Machine

/-- The effect of a command on everything but the queue. -/
def exec (i : Instr) (s : State) : Host.Outcome State Fault Refusal :=
  match i with
  | .aluAdd x rd ra rb => Sys2Proof.Machine.execAluAdd x rd ra rb s
  | .aluSub x rd ra rb => Sys2Proof.Machine.execAluSub x rd ra rb s
  | .aluAnd x rd ra rb => Sys2Proof.Machine.execAluAnd x rd ra rb s
  | .aluOr x rd ra rb => Sys2Proof.Machine.execAluOr x rd ra rb s
  | .aluXor x rd ra rb => Sys2Proof.Machine.execAluXor x rd ra rb s
  | .andn x rd ra rb => Sys2Proof.Machine.execAndn x rd ra rb s
  | .aluShl x rd ra rb => Sys2Proof.Machine.execAluShl x rd ra rb s
  | .aluShr x rd ra rb => Sys2Proof.Machine.execAluShr x rd ra rb s
  | .aluSar x rd ra rb => Sys2Proof.Machine.execAluSar x rd ra rb s
  | .aluMin x rd ra rb => Sys2Proof.Machine.execAluMin x rd ra rb s
  | .aluMax x rd ra rb => Sys2Proof.Machine.execAluMax x rd ra rb s
  | .minu x rd ra rb => Sys2Proof.Machine.execMinu x rd ra rb s
  | .maxu x rd ra rb => Sys2Proof.Machine.execMaxu x rd ra rb s
  | .aluMul x rd ra rb => Sys2Proof.Machine.execAluMul x rd ra rb s
  | .mulh x rd ra rb => Sys2Proof.Machine.execMulh x rd ra rb s
  | .mulhu x rd ra rb => Sys2Proof.Machine.execMulhu x rd ra rb s
  | .aluDiv x rd ra rb => Sys2Proof.Machine.execAluDiv x rd ra rb s
  | .divu x rd ra rb => Sys2Proof.Machine.execDivu x rd ra rb s
  | .aluRem x rd ra rb => Sys2Proof.Machine.execAluRem x rd ra rb s
  | .remu x rd ra rb => Sys2Proof.Machine.execRemu x rd ra rb s
  | .clz x rd ra => Sys2Proof.Machine.execClz x rd ra s
  | .ctz x rd ra => Sys2Proof.Machine.execCtz x rd ra s
  | .popc x rd ra => Sys2Proof.Machine.execPopc x rd ra s
  | .cmpEq x rd ra rb => Sys2Proof.Machine.execCmpEq x rd ra rb s
  | .cmpNe x rd ra rb => Sys2Proof.Machine.execCmpNe x rd ra rb s
  | .cmpLt x rd ra rb => Sys2Proof.Machine.execCmpLt x rd ra rb s
  | .cmpLtu x rd ra rb => Sys2Proof.Machine.execCmpLtu x rd ra rb s
  | .cmpGe x rd ra rb => Sys2Proof.Machine.execCmpGe x rd ra rb s
  | .cmpGeu x rd ra rb => Sys2Proof.Machine.execCmpGeu x rd ra rb s
  | .pAnd x rd ra rb => Sys2Proof.Machine.execPAnd x rd ra rb s
  | .pOr x rd ra rb => Sys2Proof.Machine.execPOr x rd ra rb s
  | .pXor x rd ra rb => Sys2Proof.Machine.execPXor x rd ra rb s
  | .pAndn x rd ra rb => Sys2Proof.Machine.execPAndn x rd ra rb s
  | .pTog x rd ra => Sys2Proof.Machine.execPTog x rd ra s
  | .pFromg x rd ra => Sys2Proof.Machine.execPFromg x rd ra s
  | .addi x rd ra imm => Sys2Proof.Machine.execAddi x rd ra imm s
  | .andi x rd ra imm => Sys2Proof.Machine.execAndi x rd ra imm s
  | .ori x rd ra imm => Sys2Proof.Machine.execOri x rd ra imm s
  | .xori x rd ra imm => Sys2Proof.Machine.execXori x rd ra imm s
  | .shli x rd ra sh => Sys2Proof.Machine.execShli x rd ra sh s
  | .shri x rd ra sh => Sys2Proof.Machine.execShri x rd ra sh s
  | .sari x rd ra sh => Sys2Proof.Machine.execSari x rd ra sh s
  | .cmpiEq x rd ra imm => Sys2Proof.Machine.execCmpiEq x rd ra imm s
  | .cmpiLt x rd ra imm => Sys2Proof.Machine.execCmpiLt x rd ra imm s
  | .cmpiLtu x rd ra imm => Sys2Proof.Machine.execCmpiLtu x rd ra imm s
  | .aluLi x rd imm => Sys2Proof.Machine.execAluLi x rd imm s
  | .lis x rd ra imm => Sys2Proof.Machine.execLis x rd ra imm s
  | .aluSel x rd ra rb p => Sys2Proof.Machine.execAluSel x rd ra rb p s
  | .brJr x ra => Sys2Proof.Machine.execBrJr x ra s
  | .brJalr x rd ra => Sys2Proof.Machine.execBrJalr x rd ra s
  | .brBc x p inv off => Sys2Proof.Machine.execBrBc x p inv off s
  | .brJ x off => Sys2Proof.Machine.execBrJ x off s
  | .brJal x rd off => Sys2Proof.Machine.execBrJal x rd off s
  | .ldB x rd ra imm => Sys2Proof.Machine.execLdB x rd ra imm s
  | .ldBu x rd ra imm => Sys2Proof.Machine.execLdBu x rd ra imm s
  | .ldH x rd ra imm => Sys2Proof.Machine.execLdH x rd ra imm s
  | .ldHu x rd ra imm => Sys2Proof.Machine.execLdHu x rd ra imm s
  | .ldW x rd ra imm => Sys2Proof.Machine.execLdW x rd ra imm s
  | .ldWu x rd ra imm => Sys2Proof.Machine.execLdWu x rd ra imm s
  | .ldD x rd ra imm => Sys2Proof.Machine.execLdD x rd ra imm s
  | .stB x rd ra imm => Sys2Proof.Machine.execStB x rd ra imm s
  | .stH x rd ra imm => Sys2Proof.Machine.execStH x rd ra imm s
  | .stW x rd ra imm => Sys2Proof.Machine.execStW x rd ra imm s
  | .stD x rd ra imm => Sys2Proof.Machine.execStD x rd ra imm s
  | .ldV x rd ra imm => Sys2Proof.Machine.execLdV x rd ra imm s
  | .stV x rd ra imm => Sys2Proof.Machine.execStV x rd ra imm s
  | .amoW x rd ra rb op => Sys2Proof.Machine.execAmoW x rd ra rb op s
  | .amoD x rd ra rb op => Sys2Proof.Machine.execAmoD x rd ra rb op s
  | .dmaCp x rd ra rb imm => Sys2Proof.Machine.execDmaCp x rd ra rb imm s
  | .dmaCp2 x ra imm => Sys2Proof.Machine.execDmaCp2 x ra imm s
  | .dmaCpx x ra imm => Sys2Proof.Machine.execDmaCpx x ra imm s
  | .dmaWait x n => Sys2Proof.Machine.execDmaWait x n s
  | .dmaWaitall x => Sys2Proof.Machine.execDmaWaitall x s
  | .dmaStat x rd n => Sys2Proof.Machine.execDmaStat x rd n s
  | .synSigl x sem imm => Sys2Proof.Machine.execSynSigl x sem imm s
  | .synSig x ra rb => Sys2Proof.Machine.execSynSig x ra rb s
  | .synWait x sem imm => Sys2Proof.Machine.execSynWait x sem imm s
  | .synTry x rd sem imm => Sys2Proof.Machine.execSynTry x rd sem imm s
  | .synTwait x ra => Sys2Proof.Machine.execSynTwait x ra s
  | .synDrain x => Sys2Proof.Machine.execSynDrain x s
  | .synPost x ra => Sys2Proof.Machine.execSynPost x ra s
  | .synRdsem x rd sem => Sys2Proof.Machine.execSynRdsem x rd sem s
  | .sysHalt x => Sys2Proof.Machine.execSysHalt x s
  | .sysFret x => Sys2Proof.Machine.execSysFret x s
  | .sysCtlr x rd n => Sys2Proof.Machine.execSysCtlr x rd n s
  | .sysCtlw x n ra => Sys2Proof.Machine.execSysCtlw x n ra s
  | .sysNop x => Sys2Proof.Machine.execSysNop x s
  | .vecAddI x vd va vb => Sys2Proof.Machine.execVecAddI x vd va vb s
  | .vecSubI x vd va vb => Sys2Proof.Machine.execVecSubI x vd va vb s
  | .vecMulI x vd va vb => Sys2Proof.Machine.execVecMulI x vd va vb s
  | .vecMinI x vd va vb => Sys2Proof.Machine.execVecMinI x vd va vb s
  | .vecMaxI x vd va vb => Sys2Proof.Machine.execVecMaxI x vd va vb s
  | .vecMinU x vd va vb => Sys2Proof.Machine.execVecMinU x vd va vb s
  | .vecMaxU x vd va vb => Sys2Proof.Machine.execVecMaxU x vd va vb s
  | .vecAnd x vd va vb => Sys2Proof.Machine.execVecAnd x vd va vb s
  | .vecOr x vd va vb => Sys2Proof.Machine.execVecOr x vd va vb s
  | .vecXor x vd va vb => Sys2Proof.Machine.execVecXor x vd va vb s
  | .vecShl x vd va vb => Sys2Proof.Machine.execVecShl x vd va vb s
  | .vecShr x vd va vb => Sys2Proof.Machine.execVecShr x vd va vb s
  | .vecSar x vd va vb => Sys2Proof.Machine.execVecSar x vd va vb s
  | .vecAddF x vd va vb => Sys2Proof.Machine.execVecAddF x vd va vb s
  | .vecSubF x vd va vb => Sys2Proof.Machine.execVecSubF x vd va vb s
  | .vecMulF x vd va vb => Sys2Proof.Machine.execVecMulF x vd va vb s
  | .vecFmaF x vd va vb => Sys2Proof.Machine.execVecFmaF x vd va vb s
  | .vecMinF x vd va vb => Sys2Proof.Machine.execVecMinF x vd va vb s
  | .vecMaxF x vd va vb => Sys2Proof.Machine.execVecMaxF x vd va vb s
  | .vecDivF x vd va vb => Sys2Proof.Machine.execVecDivF x vd va vb s
  | .vecSqrtF x vd va => Sys2Proof.Machine.execVecSqrtF x vd va s
  | .vecRcpF x vd va => Sys2Proof.Machine.execVecRcpF x vd va s
  | .vecRsqF x vd va => Sys2Proof.Machine.execVecRsqF x vd va s
  | .vecExp2F x vd va => Sys2Proof.Machine.execVecExp2F x vd va s
  | .vecLog2F x vd va => Sys2Proof.Machine.execVecLog2F x vd va s
  | .vecCmp x vd va vb md => Sys2Proof.Machine.execVecCmp x vd va vb md s
  | .vecSel x vd va vb md => Sys2Proof.Machine.execVecSel x vd va vb md s
  | .vecBc x vd ra => Sys2Proof.Machine.execVecBc x vd ra s
  | .vecExt x rd va imm => Sys2Proof.Machine.execVecExt x rd va imm s
  | .vecIns x vd ra imm => Sys2Proof.Machine.execVecIns x vd ra imm s
  | .vecIdx x vd => Sys2Proof.Machine.execVecIdx x vd s
  | .vecPerm x vd va vb => Sys2Proof.Machine.execVecPerm x vd va vb s
  | .vecCvt x vd va imm => Sys2Proof.Machine.execVecCvt x vd va imm s
  | .vecMxq x vd va rb imm => Sys2Proof.Machine.execVecMxq x vd va rb imm s
  | .vecMxd x vd va rb imm => Sys2Proof.Machine.execVecMxd x vd va rb imm s
  | .vecRsumF x rd va => Sys2Proof.Machine.execVecRsumF x rd va s
  | .vecRsumI x rd va => Sys2Proof.Machine.execVecRsumI x rd va s
  | .vecRmaxF x rd va => Sys2Proof.Machine.execVecRmaxF x rd va s
  | .vecRminF x rd va => Sys2Proof.Machine.execVecRminF x rd va s
  | .vecMsk x rd va => Sys2Proof.Machine.execVecMsk x rd va s
  | .vecGth x vd va rb => Sys2Proof.Machine.execVecGth x vd va rb s
  | .vecSct x vd va rb => Sys2Proof.Machine.execVecSct x vd va rb s
  | .vecFlg x rd => Sys2Proof.Machine.execVecFlg x rd s
  | .tmmCfg x ra imm => Sys2Proof.Machine.execTmmCfg x ra imm s
  | .tmmMm x ra rb imm => Sys2Proof.Machine.execTmmMm x ra rb imm s
  | .tmmSt x ra imm => Sys2Proof.Machine.execTmmSt x ra imm s
  | .tmmLd x ra imm => Sys2Proof.Machine.execTmmLd x ra imm s
  | .tmmZero x ta unit => Sys2Proof.Machine.execTmmZero x ta unit s
  | .tmmTov x vd imm => Sys2Proof.Machine.execTmmTov x vd imm s
  | .tmmFrv x va imm => Sys2Proof.Machine.execTmmFrv x va imm s
  | .untCpro x rd ra rb imm => Sys2Proof.Machine.execUntCpro x rd ra rb imm s
  | .untCp2ro x ra imm => Sys2Proof.Machine.execUntCp2ro x ra imm s
  | .untRgn x ra rb imm => Sys2Proof.Machine.execUntRgn x ra rb imm s
  | .untNcinv x => Sys2Proof.Machine.execUntNcinv x s
  | .sysGrpDef x ra rb imm => Sys2Proof.Machine.execSysGrpDef x ra rb imm s
  | .sysGrpDel x imm => Sys2Proof.Machine.execSysGrpDel x imm s
  | .sysGrpStat x rd imm => Sys2Proof.Machine.execSysGrpStat x rd imm s
  | .sysCwait x n => Sys2Proof.Machine.execSysCwait x n s
  | .tmmAr x rd ra rb md imm => Sys2Proof.Machine.execTmmAr x rd ra rb md imm s
  | .tmmRs x rd ra rb md imm => Sys2Proof.Machine.execTmmRs x rd ra rb md imm s
  | .vecAr x rd ra rb md imm => Sys2Proof.Machine.execVecAr x rd ra rb md imm s
  | .vecAg x rd ra rb md imm => Sys2Proof.Machine.execVecAg x rd ra rb md imm s
  | .untMcmd x ra rb imm f => Sys2Proof.Machine.execUntMcmd x ra rb imm f s
  | .untJcmd x ra rb imm model => Sys2Proof.Machine.execUntJcmd x ra rb imm model s
  | .undefinedInstruction x => Sys2Proof.Machine.execUndefinedInstruction x s
  | .fetchOutsideCodeRange x => Sys2Proof.Machine.execFetchOutsideCodeRange x s
  | .registerWrite src half a v => Sys2Proof.Machine.execRegisterWrite src half a v s
  | .crossingTransfer snd rcv whole room => Sys2Proof.Machine.execCrossingTransfer snd rcv whole room s
  | .crossingStall snd rcv => Sys2Proof.Machine.execCrossingStall snd rcv s
  | .crossingEscalate snd rcv => Sys2Proof.Machine.execCrossingEscalate snd rcv s
  | .coldReset => Sys2Proof.Machine.execColdReset s
  | .v3p3sbLoss => Sys2Proof.Machine.execV3p3sbLoss s
  | .flintBoot => Sys2Proof.Machine.execFlintBoot s
  | .flintBootTimeout => Sys2Proof.Machine.execFlintBootTimeout s
  | .v48Qualified => Sys2Proof.Machine.execV48Qualified s
  | .railPowerGood r => Sys2Proof.Machine.execRailPowerGood r s
  | .railPgTimeout r => Sys2Proof.Machine.execRailPgTimeout r s
  | .railSeqRetry => Sys2Proof.Machine.execRailSeqRetry s
  | .v48Lockout above => Sys2Proof.Machine.execV48Lockout above s
  | .v48Restart => Sys2Proof.Machine.execV48Restart s
  | .v48Sample v => Sys2Proof.Machine.execV48Sample v s
  | .sagLevelExit => Sys2Proof.Machine.execSagLevelExit s
  | .clockTrim isl cycles => Sys2Proof.Machine.execClockTrim isl cycles s
  | .islandSagDetect isl mv => Sys2Proof.Machine.execIslandSagDetect isl mv s
  | .stretchStepDown isl => Sys2Proof.Machine.execStretchStepDown isl s
  | .stretchRecover isl => Sys2Proof.Machine.execStretchRecover isl s
  | .freqTransitionDone isl => Sys2Proof.Machine.execFreqTransitionDone isl s
  | .sensorFault isl => Sys2Proof.Machine.execSensorFault isl s
  | .persistentSag isl => Sys2Proof.Machine.execPersistentSag isl s
  | .persistentSagLower isl => Sys2Proof.Machine.execPersistentSagLower isl s
  | .persistentSagClear r => Sys2Proof.Machine.execPersistentSagClear r s
  | .refclkLoss => Sys2Proof.Machine.execRefclkLoss s
  | .refclkReturn => Sys2Proof.Machine.execRefclkReturn s
  | .v12auxLoss => Sys2Proof.Machine.execV12auxLoss s
  | .v12auxRestore => Sys2Proof.Machine.execV12auxRestore s
  | .trackingRailLoss r => Sys2Proof.Machine.execTrackingRailLoss r s
  | .railLossDiesFailed r => Sys2Proof.Machine.execRailLossDiesFailed r s
  | .islPstateWrite src v => Sys2Proof.Machine.execIslPstateWrite src v s
  | .islPwrCapWrite src v => Sys2Proof.Machine.execIslPwrCapWrite src v s
  | .islFreqWrite isl src v => Sys2Proof.Machine.execIslFreqWrite isl src v s
  | .islStrCfgWrite isl src v => Sys2Proof.Machine.execIslStrCfgWrite isl src v s
  | .v48MinClr src => Sys2Proof.Machine.execV48MinClr src s
  | .dieHbLost d => Sys2Proof.Machine.execDieHbLost d s
  | .dieError d rec => Sys2Proof.Machine.execDieError d rec s
  | .dieOvertemp d => Sys2Proof.Machine.execDieOvertemp d s
  | .twinHbClassify us edge => Sys2Proof.Machine.execTwinHbClassify us edge s
  | .twinSuspect => Sys2Proof.Machine.execTwinSuspect s
  | .twinLossConfirm => Sys2Proof.Machine.execTwinLossConfirm s
  | .hostSample => Sys2Proof.Machine.execHostSample s
  | .fltHostHbWrite src w => Sys2Proof.Machine.execFltHostHbWrite src w s
  | .hostWatchDisarm src => Sys2Proof.Machine.execHostWatchDisarm src s
  | .partitionQuiesced p => Sys2Proof.Machine.execPartitionQuiesced p s
  | .quiesceTimeout p => Sys2Proof.Machine.execQuiesceTimeout p s
  | .fltAloneRelease src => Sys2Proof.Machine.execFltAloneRelease src s
  | .fltAlertStatWrite src mask => Sys2Proof.Machine.execFltAlertStatWrite src mask s
  | .fltAlertMaskWrite src mask => Sys2Proof.Machine.execFltAlertMaskWrite src mask s
  | .fltHbCfgWrite src v => Sys2Proof.Machine.execFltHbCfgWrite src v s
  | .fltExpertEnWrite src en => Sys2Proof.Machine.execFltExpertEnWrite src en s
  | .fltLogAckWrite src seq => Sys2Proof.Machine.execFltLogAckWrite src seq s
  | .fltScanWrite src en => Sys2Proof.Machine.execFltScanWrite src en s
  | .tapInstruction dev ins => Sys2Proof.Machine.execTapInstruction dev ins s
  | .mbRequest bus cmd len sent pecOk => Sys2Proof.Machine.execMbRequest bus cmd len sent pecOk s
  | .getId bus => Sys2Proof.Machine.execGetId bus s
  | .getStatus bus => Sys2Proof.Machine.execGetStatus bus s
  | .mbReadReg bus a => Sys2Proof.Machine.execMbReadReg bus a s
  | .mbWriteReg bus a v => Sys2Proof.Machine.execMbWriteReg bus a v s
  | .logRead bus seq n => Sys2Proof.Machine.execLogRead bus seq n s
  | .logAck bus seq => Sys2Proof.Machine.execLogAck bus seq s
  | .pwrCapSet bus w => Sys2Proof.Machine.execPwrCapSet bus w s
  | .powerOn bus => Sys2Proof.Machine.execPowerOn bus s
  | .powerOff bus => Sys2Proof.Machine.execPowerOff bus s
  | .moduleReset bus => Sys2Proof.Machine.execModuleReset bus s
  | .alertClear bus mask => Sys2Proof.Machine.execAlertClear bus mask s
  | .fwStage bus bank off data => Sys2Proof.Machine.execFwStage bus bank off data s
  | .fwCommit bus bank ok ver => Sys2Proof.Machine.execFwCommit bus bank ok ver s
  | .fwSwap bus => Sys2Proof.Machine.execFwSwap bus s
  | .fwSwapReady => Sys2Proof.Machine.execFwSwapReady s
  | .fwConfirm bus => Sys2Proof.Machine.execFwConfirm bus s
  | .fwAbort bus bank => Sys2Proof.Machine.execFwAbort bus bank s
  | .fwRollback => Sys2Proof.Machine.execFwRollback s
  | .aqgenWatchdog => Sys2Proof.Machine.execAqgenWatchdog s
  | .dieInitDone => Sys2Proof.Machine.execDieInitDone s
  | .dieInitTimeout d => Sys2Proof.Machine.execDieInitTimeout d s
  | .memInitDone => Sys2Proof.Machine.execMemInitDone s
  | .memInitTimeout => Sys2Proof.Machine.execMemInitTimeout s
  | .hostReadyEntry => Sys2Proof.Machine.execHostReadyEntry s
  | .linkUpTimeout => Sys2Proof.Machine.execLinkUpTimeout s
  | .fltStartWrite src v => Sys2Proof.Machine.execFltStartWrite src v s
  | .devStartSoloWrite src solo => Sys2Proof.Machine.execDevStartSoloWrite src solo s
  | .ppsEdge => Sys2Proof.Machine.execPpsEdge s
  | .ftSyncSend => Sys2Proof.Machine.execFtSyncSend s
  | .syncReq n p rank hops src => Sys2Proof.Machine.execSyncReq n p rank hops src s
  | .syncRsp n p rank hops src t2 t3 => Sys2Proof.Machine.execSyncRsp n p rank hops src t2 t3 s
  | .ppsSourceLost => Sys2Proof.Machine.execPpsSourceLost s
  | .electSourceLost => Sys2Proof.Machine.execElectSourceLost s
  | .holdoverExpiry => Sys2Proof.Machine.execHoldoverExpiry s
  | .ftCfgWrite src v => Sys2Proof.Machine.execFtCfgWrite src v s
  | .ftNextArm src => Sys2Proof.Machine.execFtNextArm src s
  | .modRstNAssert => Sys2Proof.Machine.execModRstNAssert s
  | .moduleResetEntry => Sys2Proof.Machine.execModuleResetEntry s
  | .moduleResetEnd => Sys2Proof.Machine.execModuleResetEnd s
  | .modRstHeldLong => Sys2Proof.Machine.execModRstHeldLong s
  | .devRstModule src => Sys2Proof.Machine.execDevRstModule src s
  | .partGo p src => Sys2Proof.Machine.execPartGo p src s
  | .flrPf => Sys2Proof.Machine.execFlrPf s
  | .flrVf p => Sys2Proof.Machine.execFlrVf p s
  | .partitionResetDone p => Sys2Proof.Machine.execPartitionResetDone p s
  | .orphanContextExpiry ix => Sys2Proof.Machine.execOrphanContextExpiry ix s
  | .islandReset isl src => Sys2Proof.Machine.execIslandReset isl src s
  | .islandResetDrainEnd isl => Sys2Proof.Machine.execIslandResetDrainEnd isl s
  | .islandResetRelease isl => Sys2Proof.Machine.execIslandResetRelease isl s
  | .islandResetTimeout isl => Sys2Proof.Machine.execIslandResetTimeout isl s
  | .linkReset n src => Sys2Proof.Machine.execLinkReset n src s
  | .agateLinkReset src => Sys2Proof.Machine.execAgateLinkReset src s
  | .perstNAssert => Sys2Proof.Machine.execPerstNAssert s
  | .perstNRelease => Sys2Proof.Machine.execPerstNRelease s
  | .dmaIssueResume c => Sys2Proof.Machine.execDmaIssueResume c s
  | .dmaBlockSend c n => Sys2Proof.Machine.execDmaBlockSend c n s
  | .dmaSlotComplete c n => Sys2Proof.Machine.execDmaSlotComplete c n s
  | .dmaWaitDone c => Sys2Proof.Machine.execDmaWaitDone c s
  | .signalArrive c sem => Sys2Proof.Machine.execSignalArrive c sem s
  | .synWaitSatisfied c => Sys2Proof.Machine.execSynWaitSatisfied c s
  | .synWaitTimeout c => Sys2Proof.Machine.execSynWaitTimeout c s
  | .synTwaitExpire c => Sys2Proof.Machine.execSynTwaitExpire c s
  | .synDrainDone c => Sys2Proof.Machine.execSynDrainDone c s
  | .synPostResume c => Sys2Proof.Machine.execSynPostResume c s
  | .sysHaltComplete c => Sys2Proof.Machine.execSysHaltComplete c s
  | .tnsQueueRoom c => Sys2Proof.Machine.execTnsQueueRoom c s
  | .tensorUnitStart c u => Sys2Proof.Machine.execTensorUnitStart c u s
  | .tensorOpComplete c u => Sys2Proof.Machine.execTensorOpComplete c u s
  | .ncFill c line code data psn => Sys2Proof.Machine.execNcFill c line code data psn s
  | .slateRead r ro na a n => Sys2Proof.Machine.execSlateRead r ro na a n s
  | .slateWrite r na a data => Sys2Proof.Machine.execSlateWrite r na a data s
  | .slateAtomic r a op wide v cmp => Sys2Proof.Machine.execSlateAtomic r a op wide v cmp s
  | .slateFill sl line code data psn => Sys2Proof.Machine.execSlateFill sl line code data psn s
  | .slateFillEntryFree sl => Sys2Proof.Machine.execSlateFillEntryFree sl s
  | .regionOpStart p r => Sys2Proof.Machine.execRegionOpStart p r s
  | .regionWb p r => Sys2Proof.Machine.execRegionWb p r s
  | .regionFlush p r => Sys2Proof.Machine.execRegionFlush p r s
  | .regionInv p r => Sys2Proof.Machine.execRegionInv p r s
  | .regionPrefetch p r => Sys2Proof.Machine.execRegionPrefetch p r s
  | .regionZero p r => Sys2Proof.Machine.execRegionZero p r s
  | .regionNcinv p r => Sys2Proof.Machine.execRegionNcinv p r s
  | .regionRinv p r => Sys2Proof.Machine.execRegionRinv p r s
  | .regionOpDone p r => Sys2Proof.Machine.execRegionOpDone p r s
  | .sltAssignGo src v => Sys2Proof.Machine.execSltAssignGo src v s
  | .sltAssignStart p => Sys2Proof.Machine.execSltAssignStart p s
  | .sltAssignDone p => Sys2Proof.Machine.execSltAssignDone p s
  | .sltSliceGo sl src v => Sys2Proof.Machine.execSltSliceGo sl src v s
  | .hbmRead a parity lane sev => Sys2Proof.Machine.execHbmRead a parity lane sev s
  | .hbmWrite a data parity lane => Sys2Proof.Machine.execHbmWrite a data parity lane s
  | .hbmModeReq src v => Sys2Proof.Machine.execHbmModeReq src v s
  | .hbmModeStackDone => Sys2Proof.Machine.execHbmModeStackDone s
  | .patrolRead n parity lane sev => Sys2Proof.Machine.execPatrolRead n parity lane sev s
  | .rowRepairStart n => Sys2Proof.Machine.execRowRepairStart n s
  | .rowRepairDone n unc => Sys2Proof.Machine.execRowRepairDone n unc s
  | .repairRecordFlashed => Sys2Proof.Machine.execRepairRecordFlashed s
  | .hbmMirrorWrite src v => Sys2Proof.Machine.execHbmMirrorWrite src v s
  | .hbmScrubWrite src v => Sys2Proof.Machine.execHbmScrubWrite src v s
  | .hbmRprReqGo src v => Sys2Proof.Machine.execHbmRprReqGo src v s
  | .hbmStackFail n => Sys2Proof.Machine.execHbmStackFail n s
  | .linkBlockTx n => Sys2Proof.Machine.execLinkBlockTx n s
  | .linkBlockRx n b bad crc => Sys2Proof.Machine.execLinkBlockRx n b bad crc s
  | .alignBlock n time echo hasEcho proc skew => Sys2Proof.Machine.execAlignBlock n time echo hasEcho proc skew s
  | .fcState n arg => Sys2Proof.Machine.execFcState n arg s
  | .trainingFrameRx n lane f => Sys2Proof.Machine.execTrainingFrameRx n lane f s
  | .bringupStageDone n => Sys2Proof.Machine.execBringupStageDone n s
  | .bringupStageTimeout n cause => Sys2Proof.Machine.execBringupStageTimeout n cause s
  | .bringupRestart n => Sys2Proof.Machine.execBringupRestart n s
  | .downHoldEnd n => Sys2Proof.Machine.execDownHoldEnd n s
  | .fomWindowEnd n lane errors short => Sys2Proof.Machine.execFomWindowEnd n lane errors short s
  | .spareCheck n => Sys2Proof.Machine.execSpareCheck n s
  | .swapReq n k => Sys2Proof.Machine.execSwapReq n k s
  | .swapRdy n k => Sys2Proof.Machine.execSwapRdy n k s
  | .swapDone n k => Sys2Proof.Machine.execSwapDone n k s
  | .swapFail n k => Sys2Proof.Machine.execSwapFail n k s
  | .dozeEnter n => Sys2Proof.Machine.execDozeEnter n s
  | .linkDoze n => Sys2Proof.Machine.execLinkDoze n s
  | .dozeWake n => Sys2Proof.Machine.execDozeWake n s
  | .restEnter n => Sys2Proof.Machine.execRestEnter n s
  | .restReq n => Sys2Proof.Machine.execRestReq n s
  | .restAck n => Sys2Proof.Machine.execRestAck n s
  | .wakeBeacon n => Sys2Proof.Machine.execWakeBeacon n s
  | .losDeclare n lane => Sys2Proof.Machine.execLosDeclare n lane s
  | .qreqQuiesce n src => Sys2Proof.Machine.execQreqQuiesce n src s
  | .linkQuiesce n => Sys2Proof.Machine.execLinkQuiesce n s
  | .quiesceAck n => Sys2Proof.Machine.execQuiesceAck n s
  | .quiesceDrainEnd n => Sys2Proof.Machine.execQuiesceDrainEnd n s
  | .qreqResume n src => Sys2Proof.Machine.execQreqResume n src s
  | .forceSwap n src k => Sys2Proof.Machine.execForceSwap n src k s
  | .portTestMode n src test loop => Sys2Proof.Machine.execPortTestMode n src test loop s
  | .qtzPortPwrWrite n src v => Sys2Proof.Machine.execQtzPortPwrWrite n src v s
  | .fomMinClr n lane src => Sys2Proof.Machine.execFomMinClr n lane src s
  | .packetForward n p => Sys2Proof.Machine.execPacketForward n p s
  | .bulkRouteRetry => Sys2Proof.Machine.execBulkRouteRetry s
  | .packetTransmit n => Sys2Proof.Machine.execPacketTransmit n s
  | .localRepairReroute n => Sys2Proof.Machine.execLocalRepairReroute n s
  | .pktWr n p => Sys2Proof.Machine.execPktWr n p s
  | .pktRd n p => Sys2Proof.Machine.execPktRd n p s
  | .readAgentPush => Sys2Proof.Machine.execReadAgentPush s
  | .pktPush n p => Sys2Proof.Machine.execPktPush n p s
  | .pktAmo n p => Sys2Proof.Machine.execPktAmo n p s
  | .pktSig n p => Sys2Proof.Machine.execPktSig n p s
  | .pktRsp n p => Sys2Proof.Machine.execPktRsp n p s
  | .ctxTimeout ix => Sys2Proof.Machine.execCtxTimeout ix s
  | .quotaContextGranted part => Sys2Proof.Machine.execQuotaContextGranted part s
  | .quotaWaitTimeout part => Sys2Proof.Machine.execQuotaWaitTimeout part s
  | .busyResend ix => Sys2Proof.Machine.execBusyResend ix s
  | .helloSend n => Sys2Proof.Machine.execHelloSend n s
  | .linkHello n p => Sys2Proof.Machine.execLinkHello n p s
  | .helloTimeout n => Sys2Proof.Machine.execHelloTimeout n s
  | .mgReq n p => Sys2Proof.Machine.execMgReq n p s
  | .mgPreq n p => Sys2Proof.Machine.execMgPreq n p s
  | .mgRsp n p => Sys2Proof.Machine.execMgRsp n p s
  | .mgPrsp n p => Sys2Proof.Machine.execMgPrsp n p s
  | .mgExecute => Sys2Proof.Machine.execMgExecute s
  | .readReg => Sys2Proof.Machine.execReadReg s
  | .writeReg => Sys2Proof.Machine.execWriteReg s
  | .getNbr => Sys2Proof.Machine.execGetNbr s
  | .setId => Sys2Proof.Machine.execSetId s
  | .rtWrite => Sys2Proof.Machine.execRtWrite s
  | .rtCommit => Sys2Proof.Machine.execRtCommit s
  | .setMoved => Sys2Proof.Machine.execSetMoved s
  | .mgTrap n p => Sys2Proof.Machine.execMgTrap n p s
  | .idMoved n p => Sys2Proof.Machine.execIdMoved n p s
  | .idReturn n p => Sys2Proof.Machine.execIdReturn n p s
  | .qtzPartCfgWrite p src v => Sys2Proof.Machine.execQtzPartCfgWrite p src v s
  | .partSnap p src => Sys2Proof.Machine.execPartSnap p src s
  | .grpActivationMark n p => Sys2Proof.Machine.execGrpActivationMark n p s
  | .grpMarkResend r => Sys2Proof.Machine.execGrpMarkResend r s
  | .grpActivateTimeout r => Sys2Proof.Machine.execGrpActivateTimeout r s
  | .clxContrib o => Sys2Proof.Machine.execClxContrib o s
  | .clxResult n p => Sys2Proof.Machine.execClxResult n p s
  | .clxAbort n p => Sys2Proof.Machine.execClxAbort n p s
  | .clxStepTimeout r => Sys2Proof.Machine.execClxStepTimeout r s
  | .clxSlotTimeout c slot => Sys2Proof.Machine.execClxSlotTimeout c slot s
  | .twBeatSend => Sys2Proof.Machine.execTwBeatSend s
  | .twBeat p => Sys2Proof.Machine.execTwBeat p s
  | .twBindSend => Sys2Proof.Machine.execTwBindSend s
  | .twBind p => Sys2Proof.Machine.execTwBind p s
  | .bindTimeout => Sys2Proof.Machine.execBindTimeout s
  | .agtBind src => Sys2Proof.Machine.execAgtBind src s
  | .agtUnbind src => Sys2Proof.Machine.execAgtUnbind src s
  | .twUnbind p => Sys2Proof.Machine.execTwUnbind p s
  | .releasePeer src => Sys2Proof.Machine.execReleasePeer src s
  | .twRelease p => Sys2Proof.Machine.execTwRelease p s
  | .agtMrWrite r reg src v => Sys2Proof.Machine.execAgtMrWrite r reg src v s
  | .agtEpochGo part src full => Sys2Proof.Machine.execAgtEpochGo part src full s
  | .hostEpoch id => Sys2Proof.Machine.execHostEpoch id s
  | .epochStart part => Sys2Proof.Machine.execEpochStart part s
  | .twEpoch p => Sys2Proof.Machine.execTwEpoch p s
  | .mirWr p => Sys2Proof.Machine.execMirWr p s
  | .tableImageWrite => Sys2Proof.Machine.execTableImageWrite s
  | .takeoverStart => Sys2Proof.Machine.execTakeoverStart s
  | .takeoverProbe => Sys2Proof.Machine.execTakeoverProbe s
  | .takeoverAssume img0 img1 => Sys2Proof.Machine.execTakeoverAssume img0 img1 s
  | .agtAdopt src part rs => Sys2Proof.Machine.execAgtAdopt src part rs s
  | .twRestore p => Sys2Proof.Machine.execTwRestore p s
  | .resilverPassEnd => Sys2Proof.Machine.execResilverPassEnd s
  | .agtHandback src => Sys2Proof.Machine.execAgtHandback src s
  | .handbackDrainDone => Sys2Proof.Machine.execHandbackDrainDone s
  | .twHandback p => Sys2Proof.Machine.execTwHandback p s
  | .agtYield src => Sys2Proof.Machine.execAgtYield src s
  | .sqDoorbell src r v => Sys2Proof.Machine.execSqDoorbell src r v s
  | .cqDoorbell src r v => Sys2Proof.Machine.execCqDoorbell src r v s
  | .sqFetch e err => Sys2Proof.Machine.execSqFetch e err s
  | .msixTimer r => Sys2Proof.Machine.execMsixTimer r s
  | .hstRingCfgWrite r src v => Sys2Proof.Machine.execHstRingCfgWrite r src v s
  | .hstPartCtlWrite p src v => Sys2Proof.Machine.execHstPartCtlWrite p src v s
  | .apertureRead src off n => Sys2Proof.Machine.execApertureRead src off n s
  | .apertureWrite src off d => Sys2Proof.Machine.execApertureWrite src off d s
  | .hostLinkDown => Sys2Proof.Machine.execHostLinkDown s
  | .hostLinkUp rate width flit => Sys2Proof.Machine.execHostLinkUp rate width flit s
  | .hostNop id => Sys2Proof.Machine.execHostNop id s
  | .hostLaunch id mask => Sys2Proof.Machine.execHostLaunch id mask s
  | .launchClusterStart c img => Sys2Proof.Machine.execLaunchClusterStart c img s
  | .hostCopy id d => Sys2Proof.Machine.execHostCopy id d s
  | .copyDone id => Sys2Proof.Machine.execCopyDone id s
  | .partCreate id d => Sys2Proof.Machine.execPartCreate id d s
  | .partDestroy id => Sys2Proof.Machine.execPartDestroy id s
  | .grant id => Sys2Proof.Machine.execGrant id s
  | .grantFillDone g => Sys2Proof.Machine.execGrantFillDone g s
  | .grantMod id => Sys2Proof.Machine.execGrantMod id s
  | .revoke id => Sys2Proof.Machine.execRevoke id s
  | .mgSend id p => Sys2Proof.Machine.execMgSend id p s
  | .mgRecv id => Sys2Proof.Machine.execMgRecv id s
  | .micaOpen id d => Sys2Proof.Machine.execMicaOpen id d s
  | .micaClose id d => Sys2Proof.Machine.execMicaClose id d s
  | .micaFeed id d f => Sys2Proof.Machine.execMicaFeed id d f s
  | .micaCredit id d => Sys2Proof.Machine.execMicaCredit id d s
  | .cacheCfg id d => Sys2Proof.Machine.execCacheCfg id d s
  | .micaPin id d => Sys2Proof.Machine.execMicaPin id d s
  | .pinScanDone p slot => Sys2Proof.Machine.execPinScanDone p slot s
  | .micaDecodeStart isRef => Sys2Proof.Machine.execMicaDecodeStart isRef s
  | .micaDecodeDone st pic => Sys2Proof.Machine.execMicaDecodeDone st pic s
  | .micaLagBegin st => Sys2Proof.Machine.execMicaLagBegin st s
  | .micaSnap st src => Sys2Proof.Machine.execMicaSnap st src s
  | .jasperRun id d model => Sys2Proof.Machine.execJasperRun id d model s
  | .jasperBatchStart => Sys2Proof.Machine.execJasperBatchStart s
  | .jasperBlockDone b => Sys2Proof.Machine.execJasperBlockDone b s
  | .jasperBatchDone => Sys2Proof.Machine.execJasperBatchDone s
  | .loopTick c fb chk => Sys2Proof.Machine.execLoopTick c fb chk s
  | .adcConversionDone k code => Sys2Proof.Machine.execAdcConversionDone k code s
  | .pulsePeriod k high per => Sys2Proof.Machine.execPulsePeriod k high per s
  | .pulseInputLost k => Sys2Proof.Machine.execPulseInputLost k s
  | .tachTimeout k => Sys2Proof.Machine.execTachTimeout k s
  | .lpCtlWrite c src v => Sys2Proof.Machine.execLpCtlWrite c src v s
  | .lpSrcWrite c src v => Sys2Proof.Machine.execLpSrcWrite c src v s
  | .lpParWrite c j src v => Sys2Proof.Machine.execLpParWrite c j src v s
  | .lpCoefWrite c j src v => Sys2Proof.Machine.execLpCoefWrite c j src v s
  | .plFaultClear c src => Sys2Proof.Machine.execPlFaultClear c src s
  | .smGo k => Sys2Proof.Machine.execSmGo k s
  | .smStop k => Sys2Proof.Machine.execSmStop k s
  | .smResume k => Sys2Proof.Machine.execSmResume k s
  | .smFlush k => Sys2Proof.Machine.execSmFlush k s
  | .smHome k => Sys2Proof.Machine.execSmHome k s
  | .smClear k trips low => Sys2Proof.Machine.execSmClear k trips low s
  | .smSetpos k => Sys2Proof.Machine.execSmSetpos k s
  | .smCtlWrite k src v => Sys2Proof.Machine.execSmCtlWrite k src v s
  | .profileUpdate k => Sys2Proof.Machine.execProfileUpdate k s
  | .holdDelayExpire k => Sys2Proof.Machine.execHoldDelayExpire k s
  | .lowHeadroom k => Sys2Proof.Machine.execLowHeadroom k s
  | .vderRecover k => Sys2Proof.Machine.execVderRecover k s
  | .faultShort k leg => Sys2Proof.Machine.execFaultShort k leg s
  | .faultStall k => Sys2Proof.Machine.execFaultStall k s
  | .faultSupply => Sys2Proof.Machine.execFaultSupply s
  | .clusterFail c => Sys2Proof.Machine.execClusterFail c s
  | .spareMapStart ch => Sys2Proof.Machine.execSpareMapStart ch s
  | .spareMapDone ch bad => Sys2Proof.Machine.execSpareMapDone ch bad s
  | .spareFlashDone ch => Sys2Proof.Machine.execSpareFlashDone ch s
  | .spareReqGo src logical phys => Sys2Proof.Machine.execSpareReqGo src logical phys s
  | .sramRowRepairStart isl bank row unc => Sys2Proof.Machine.execSramRowRepairStart isl bank row unc s
  | .sramRowRepairDone isl bank => Sys2Proof.Machine.execSramRowRepairDone isl bank s
  | .dieHeartbeatToggle d => Sys2Proof.Machine.execDieHeartbeatToggle d s
  | .builtInTestFault isl => Sys2Proof.Machine.execBuiltInTestFault isl s
  | .clxLoadingWaitTimeout c => Sys2Proof.Machine.execClxLoadingWaitTimeout c s
  | .revokeDone g => Sys2Proof.Machine.execRevokeDone g s
  | .mbResponseReady bus => Sys2Proof.Machine.execMbResponseReady bus s

end Sys2Proof.Machine
end

