-- ==== Sys2Proof/Machine/Tick.lean ====
section
/-! DEFINITION. Machine/Tick.lean: one nanosecond of the module with no command waiting (DESIGN CHOICE, log 1): the clocks, the counters of time, and what a clock
alone brings about. -/

namespace Sys2Proof.Machine

/-- The limiting time of each ceiling cause (R68): a cause limits while its ceiling is the effective one and lies below a request. -/
def State.ceilTick (s : State) : State :=
  let e := s.rd F.ISL_CEIL_CEIL_EFF
  if s.topRequest ≤ e then s
  else
    let s := if s.rd F.ISL_CEIL_CEIL_SAG = e then s.bump F.ISL_CEIL_T_SAG else s
    let s := if s.rd F.ISL_CEIL_CEIL_ENV = e then s.bump F.ISL_CEIL_T_ENV else s
    if s.rd F.ISL_CEIL_CEIL_FLT = e then s.bump F.ISL_CEIL_T_FLT else s

/-- The time each island spends at a stretch level (R67). -/
def State.stretchTick (s : State) : State :=
  (List.range 305).foldl (fun (s : State) i =>
    let l := s.rd F.ISL_FREQ_STR_LVL i
    if l = 1 then s.bump F.ISL_STR_T875 1 i else if l = 2 then s.bump F.ISL_STR_T75 1 i else if l = 3 then s.bump F.ISL_STR_T50 1 i else s) s

/-- The time that packets wait for a queue the neighbour has off (R386). -/
def State.offTick (s : State) : State :=
  s.quartz.txq.foldl (fun (s : State) e =>
    (List.range 9).foldl (fun (s : State) q =>
      if s.bit F.QTZ_Q_OFF_RX e.1 q && e.2.any (fun x => decide (pktQueue x.pkt = q)) then s.bump F.QTZ_Q_OFF_NS 1 e.1 q else s) s) s

/-- Event 0x0808: the QUOTA and TIMEOUT completions of each partition in the second that ends (R386). -/
def State.secondTick (s : State) : State :=
  if s.now % 1000000000 ≠ 0 then s
  else s.quartz.sec.foldl (fun (s : State) e => s.logE 0x0808 (0xF100 + e.1) 1 [e.1, e.2.1, e.2.2]) (s.modQ (fun q => { q with sec := [] }))

/-- A partition whose data a full poison table could not mark is reset (R305). -/
def State.poisonResets (s : State) : State :=
  if s.hbm.rstPart = 0 then s
  else
    let m := s.hbm.rstPart
    (List.range 16).foldl (fun (s : State) p => if bitAt m p then s.partReset p else s) { s with hbm := { s.hbm with rstPart := 0 } }

/-- The payload of a TRAP (R367): the event code, then its DATA, the places of whose values are not stated (log 58). -/
def TrapMsg.payload (t : TrapMsg) : List Byte :=
  plain (leM 2 t.code) ++ (List.range 30).map (fun k => if t.data = [] then 0 else BitVec.ofNat 8 (Config.dataByte t.code t.data k)) ++ List.replicate 32 0

/-- The traps that wait leave, the oldest first: to the own host when this device is the manager, else by VC7; not answered, not retried (R367, log 63). -/
def State.trapTick (s : State) : State :=
  let m := s.rd F.QTZ_MGMT_MGR_ID
  s.traps.foldr (fun t (s : State) =>
    let p := s.mkPkt 0x35 7 0 m 0 0 0 t.payload
    if m = 0xFFFF then s else if s.answersFor m then s.mgHost p else s.sendPlain p) { s with traps := [] }

/-- One nanosecond: Flint's time, fabric time while it runs (R126, R128), and the counters of time. -/
def State.tick (s : State) : State :=
  let s : State := { s with now := s.now + 1, time := s.time.tick }
  s.ceilTick.stretchTick.offTick.micaTick.jasperTick.secondTick.poisonResets.trapTick

end Sys2Proof.Machine
end

