-- ==== Sys2Proof/WellFormed.lean ====
section
/-! DEFINITION. WellFormed.lean: the commands that can be sent as they stand: an instruction is one that an encoding spells, a packet's payload has the length its
header gives, and data brought from outside have the length the spec gives them. -/

namespace Sys2Proof

/-- A packet: LEN units of 64 bytes of payload (R347). -/
def Pkt.wf (p : Pkt) : Bool := decide (p.data.length = 64 * (p.w0.toNat / 2 ^ 12 % 128))

/-- An issue: a 32-bit instruction has no guard (R164, R166). -/
def Iss.wf (x : Iss) : Bool := x.long || (decide (x.pg = 0) && !x.pn)

/-- A link block's header fields and its eight control symbols at most (R311, R313). -/
def LinkBlk.wf (b : LinkBlk) : Bool :=
  decide (b.ty < 16 ∧ b.seq < 65536 ∧ b.ack < 65536 ∧ b.units < 64 ∧ b.first < 64 ∧ b.cs.length ≤ 8 ∧ b.time < 2 ^ 32 ∧ b.echo < 2 ^ 32)

/-- A decoded picture: as many samples as its size, half as many chroma samples each way (R522, R531). -/
def MicaPic.wf (p : MicaPic) : Bool :=
  decide (p.code ≠ 0) || (decide (p.y.length = p.cw * p.ch) && (p.mono || decide (p.cb.length = ((p.cw + 1) / 2) * ((p.ch + 1) / 2) ∧ p.cr.length = p.cb.length)))

/-- Whether a command can be sent as it stands. -/
def Instr.wf (i : Instr) : Bool :=
  match i with
  | .aluAdd .. | .aluSub .. | .aluAnd .. | .aluOr .. | .aluXor .. | .andn .. | .aluShl .. | .aluShr .. | .aluSar .. | .aluMin .. | .aluMax ..
  | .minu .. | .maxu .. | .aluMul .. | .mulh .. | .mulhu .. | .aluDiv .. | .divu .. | .aluRem .. | .remu .. | .clz .. | .ctz .. | .popc .. | .cmpEq ..
  | .cmpNe .. | .cmpLt .. | .cmpLtu .. | .cmpGe .. | .cmpGeu .. | .pAnd .. | .pOr .. | .pXor .. | .pAndn .. | .pTog .. | .pFromg .. | .addi ..
  | .andi .. | .ori .. | .xori .. | .shli .. | .shri .. | .sari .. | .cmpiEq .. | .cmpiLt .. | .cmpiLtu .. | .aluLi .. | .lis .. | .aluSel ..
  | .brJr .. | .brJalr .. | .brBc .. | .brJ .. | .brJal .. | .ldB .. | .ldBu .. | .ldH .. | .ldHu .. | .ldW .. | .ldWu .. | .ldD .. | .stB ..
  | .stH .. | .stW .. | .stD .. | .ldV .. | .stV .. | .amoW .. | .amoD .. | .dmaCp .. | .dmaCp2 .. | .dmaCpx .. | .dmaWait .. | .dmaWaitall ..
  | .dmaStat .. | .synSigl .. | .synSig .. | .synWait .. | .synTry .. | .synTwait .. | .synDrain .. | .synPost .. | .synRdsem .. | .sysHalt ..
  | .sysFret .. | .sysCtlr .. | .sysCtlw .. | .sysNop .. | .vecAddI .. | .vecSubI .. | .vecMulI .. | .vecMinI .. | .vecMaxI .. | .vecMinU ..
  | .vecMaxU .. | .vecAnd .. | .vecOr .. | .vecXor .. | .vecShl .. | .vecShr .. | .vecSar .. | .vecAddF .. | .vecSubF .. | .vecMulF .. | .vecFmaF ..
  | .vecMinF .. | .vecMaxF .. | .vecDivF .. | .vecSqrtF .. | .vecRcpF .. | .vecRsqF .. | .vecExp2F .. | .vecLog2F .. | .vecCmp .. | .vecSel ..
  | .vecBc .. | .vecExt .. | .vecIns .. | .vecIdx .. | .vecPerm .. | .vecCvt .. | .vecMxq .. | .vecMxd .. | .vecRsumF .. | .vecRsumI .. | .vecRmaxF ..
  | .vecRminF .. | .vecMsk .. | .vecGth .. | .vecSct .. | .vecFlg .. | .tmmCfg .. | .tmmMm .. | .tmmSt .. | .tmmLd .. | .tmmZero .. | .tmmTov ..
  | .tmmFrv .. | .untCpro .. | .untCp2ro .. | .untRgn .. | .untNcinv .. | .sysGrpDef .. | .sysGrpDel .. | .sysGrpStat .. | .sysCwait .. | .tmmAr ..
  | .tmmRs .. | .vecAr .. | .vecAg .. | .untMcmd .. | .untJcmd .. => (match i.parts with | some p => p.fits | none => false)
  | .undefinedInstruction x => x.wf
  | .fetchOutsideCodeRange x => x.wf
  | .dieError _ r => decide (r.length = 0 ∨ r.length = 3)
  | .fwStage _ _ _ d => decide (1 ≤ d.length ∧ d.length ≤ 240)
  | .syncReq _ p _ _ _ => p.wf
  | .syncRsp _ p _ _ _ _ _ => p.wf
  | .ncFill _ _ _ d _ => decide (d.length = 128)
  | .slateRead _ _ _ a n => decide (1 ≤ n.val ∧ a.toNat % 128 + n.val ≤ 128)
  | .slateWrite _ _ a d => decide (1 ≤ d.length ∧ a.toNat % 128 + d.length ≤ 128)
  | .slateFill _ _ _ d _ => decide (d.length = 128)
  | .hbmWrite a d _ _ => decide (1 ≤ d.length ∧ a.toNat % 32 + d.length ≤ 32)
  | .linkBlockRx _ b _ _ => b.wf
  | .packetForward _ p => p.wf
  | .pktWr _ p => p.wf
  | .pktRd _ p => p.wf
  | .pktPush _ p => p.wf
  | .pktAmo _ p => p.wf
  | .pktSig _ p => p.wf
  | .pktRsp _ p => p.wf
  | .linkHello _ p => p.wf
  | .mgReq _ p => p.wf
  | .mgPreq _ p => p.wf
  | .mgRsp _ p => p.wf
  | .mgPrsp _ p => p.wf
  | .mgTrap _ p => p.wf
  | .idMoved _ p => p.wf
  | .idReturn _ p => p.wf
  | .grpActivationMark _ p => p.wf
  | .clxContrib o => (match o with | .slot _ _ => true | .port _ p => p.wf)
  | .clxResult _ p => p.wf
  | .clxAbort _ p => p.wf
  | .twBeat p => p.wf
  | .twBind p => p.wf
  | .twUnbind p => p.wf
  | .twRelease p => p.wf
  | .twEpoch p => p.wf
  | .mirWr p => p.wf
  | .twRestore p => p.wf
  | .twHandback p => p.wf
  | .sqFetch e _ => decide (e.length = 64)
  | .apertureRead _ _ n => decide (1 ≤ n)
  | .apertureWrite _ _ d => decide (1 ≤ d.length)
  | .partCreate _ d => decide (d.length = 64)
  | .mgSend _ p => p.wf
  | .micaOpen _ d => decide (d.length = 128)
  | .micaClose _ d => decide (d.length = 128)
  | .micaFeed _ d _ => decide (d.length = 128)
  | .micaCredit _ d => decide (d.length = 128)
  | .cacheCfg _ d => decide (d.length = 128)
  | .micaPin _ d => decide (d.length = 128)
  | .micaDecodeDone _ p => p.wf
  | .jasperRun _ d _ => decide (d.length = 128)
  | .registerWrite .. | .crossingTransfer .. | .crossingStall .. | .crossingEscalate .. | .coldReset .. | .v3p3sbLoss .. | .flintBoot ..
  | .flintBootTimeout .. | .v48Qualified .. | .railPowerGood .. | .railPgTimeout .. | .railSeqRetry .. | .v48Lockout .. | .v48Restart ..
  | .v48Sample .. | .sagLevelExit .. | .clockTrim .. | .islandSagDetect .. | .stretchStepDown .. | .stretchRecover .. | .freqTransitionDone ..
  | .sensorFault .. | .persistentSag .. | .persistentSagLower .. | .persistentSagClear .. | .refclkLoss .. | .refclkReturn .. | .v12auxLoss ..
  | .v12auxRestore .. | .trackingRailLoss .. | .railLossDiesFailed .. | .islPstateWrite .. | .islPwrCapWrite .. | .islFreqWrite ..
  | .islStrCfgWrite .. | .v48MinClr .. | .dieHbLost .. | .dieOvertemp .. | .twinHbClassify .. | .twinSuspect .. | .twinLossConfirm .. | .hostSample ..
  | .fltHostHbWrite .. | .hostWatchDisarm .. | .partitionQuiesced .. | .quiesceTimeout .. | .fltAloneRelease .. | .fltAlertStatWrite ..
  | .fltAlertMaskWrite .. | .fltHbCfgWrite .. | .fltExpertEnWrite .. | .fltLogAckWrite .. | .fltScanWrite .. | .tapInstruction .. | .mbRequest ..
  | .getId .. | .getStatus .. | .mbReadReg .. | .mbWriteReg .. | .logRead .. | .logAck .. | .pwrCapSet .. | .powerOn .. | .powerOff ..
  | .moduleReset .. | .alertClear .. | .fwCommit .. | .fwSwap .. | .fwSwapReady .. | .fwConfirm .. | .fwAbort .. | .fwRollback .. | .aqgenWatchdog ..
  | .dieInitDone .. | .dieInitTimeout .. | .memInitDone .. | .memInitTimeout .. | .hostReadyEntry .. | .linkUpTimeout .. | .fltStartWrite ..
  | .devStartSoloWrite .. | .ppsEdge .. | .ftSyncSend .. | .ppsSourceLost .. | .electSourceLost .. | .holdoverExpiry .. | .ftCfgWrite ..
  | .ftNextArm .. | .modRstNAssert .. | .moduleResetEntry .. | .moduleResetEnd .. | .modRstHeldLong .. | .devRstModule .. | .partGo .. | .flrPf ..
  | .flrVf .. | .partitionResetDone .. | .orphanContextExpiry .. | .islandReset .. | .islandResetDrainEnd .. | .islandResetRelease ..
  | .islandResetTimeout .. | .linkReset .. | .agateLinkReset .. | .perstNAssert .. | .perstNRelease .. | .dmaIssueResume .. | .dmaBlockSend ..
  | .dmaSlotComplete .. | .dmaWaitDone .. | .signalArrive .. | .synWaitSatisfied .. | .synWaitTimeout .. | .synTwaitExpire .. | .synDrainDone ..
  | .synPostResume .. | .sysHaltComplete .. | .tnsQueueRoom .. | .tensorUnitStart .. | .tensorOpComplete .. | .slateAtomic .. | .slateFillEntryFree ..
  | .regionOpStart .. | .regionWb .. | .regionFlush .. | .regionInv .. | .regionPrefetch .. | .regionZero .. | .regionNcinv .. | .regionRinv ..
  | .regionOpDone .. | .sltAssignGo .. | .sltAssignStart .. | .sltAssignDone .. | .sltSliceGo .. | .hbmRead .. | .hbmModeReq .. | .hbmModeStackDone ..
  | .patrolRead .. | .rowRepairStart .. | .rowRepairDone .. | .repairRecordFlashed .. | .hbmMirrorWrite .. | .hbmScrubWrite .. | .hbmRprReqGo ..
  | .hbmStackFail .. | .linkBlockTx .. | .alignBlock .. | .fcState .. | .trainingFrameRx .. | .bringupStageDone .. | .bringupStageTimeout ..
  | .bringupRestart .. | .downHoldEnd .. | .fomWindowEnd .. | .spareCheck .. | .swapReq .. | .swapRdy .. | .swapDone .. | .swapFail .. | .dozeEnter ..
  | .linkDoze .. | .dozeWake .. | .restEnter .. | .restReq .. | .restAck .. | .wakeBeacon .. | .losDeclare .. | .qreqQuiesce .. | .linkQuiesce ..
  | .quiesceAck .. | .quiesceDrainEnd .. | .qreqResume .. | .forceSwap .. | .portTestMode .. | .qtzPortPwrWrite .. | .fomMinClr ..
  | .bulkRouteRetry .. | .packetTransmit .. | .localRepairReroute .. | .readAgentPush .. | .ctxTimeout .. | .quotaContextGranted ..
  | .quotaWaitTimeout .. | .busyResend .. | .helloSend .. | .helloTimeout .. | .mgExecute .. | .readReg .. | .writeReg .. | .getNbr .. | .setId ..
  | .rtWrite .. | .rtCommit .. | .setMoved .. | .qtzPartCfgWrite .. | .partSnap .. | .grpMarkResend .. | .grpActivateTimeout .. | .clxStepTimeout ..
  | .clxSlotTimeout .. | .twBeatSend .. | .twBindSend .. | .bindTimeout .. | .agtBind .. | .agtUnbind .. | .releasePeer .. | .agtMrWrite ..
  | .agtEpochGo .. | .hostEpoch .. | .epochStart .. | .tableImageWrite .. | .takeoverStart .. | .takeoverProbe .. | .takeoverAssume .. | .agtAdopt ..
  | .resilverPassEnd .. | .agtHandback .. | .handbackDrainDone .. | .agtYield .. | .sqDoorbell .. | .cqDoorbell .. | .msixTimer ..
  | .hstRingCfgWrite .. | .hstPartCtlWrite .. | .hostLinkDown .. | .hostLinkUp .. | .hostNop .. | .hostLaunch .. | .launchClusterStart ..
  | .hostCopy .. | .copyDone .. | .partDestroy .. | .grant .. | .grantFillDone .. | .grantMod .. | .revoke .. | .mgRecv .. | .pinScanDone ..
  | .micaDecodeStart .. | .micaLagBegin .. | .micaSnap .. | .jasperBatchStart .. | .jasperBlockDone .. | .jasperBatchDone .. | .loopTick ..
  | .adcConversionDone .. | .pulsePeriod .. | .pulseInputLost .. | .tachTimeout .. | .lpCtlWrite .. | .lpSrcWrite .. | .lpParWrite ..
  | .lpCoefWrite .. | .plFaultClear .. | .smGo .. | .smStop .. | .smResume .. | .smFlush .. | .smHome .. | .smClear .. | .smSetpos .. | .smCtlWrite ..
  | .profileUpdate .. | .holdDelayExpire .. | .lowHeadroom .. | .vderRecover .. | .faultShort .. | .faultStall .. | .faultSupply .. | .clusterFail ..
  | .spareMapStart .. | .spareMapDone .. | .spareFlashDone .. | .spareReqGo .. | .sramRowRepairStart .. | .sramRowRepairDone ..
  | .dieHeartbeatToggle .. | .builtInTestFault .. | .clxLoadingWaitTimeout .. | .revokeDone .. | .mbResponseReady .. => true

end Sys2Proof
end

