-- ==== Sys2Proof/Safety.lean ====
section
/-! DEFINITION. Safety.lean: what claims say of a state: the canonical form of its memory and maps, the conditions under which a cluster issues, and whether an
instruction that is sent is the one that the cluster's memory holds. -/

namespace Sys2Proof.Machine

/-- No entry lists the value that an unlisted key reads as. -/
def SMap.lean {α : Type} [DecidableEq α] (d : α) (m : SMap α) : Bool := m.all (fun e => decide (e.2 ≠ d))

/-- The canonical form of memory: addresses strictly rise, and no byte is listed that an unlisted address reads as (0, log 3). -/
def Memory.wf (m : List Host.Cell) : Bool := SMap.sorted (α := Byte) m && SMap.lean (α := Byte) 0 m

/-- The memories and poison marks of a state are in canonical form. -/
def State.memWf (s : State) : Bool := Memory.wf s.mem && SMap.sorted s.psn && SMap.lean false s.psn

/-- A command completes in a state, and what holds of the state it answers. -/
def Answers (c : Instr) (s : State) (post : State → Prop) : Prop := ∃ t, exec c s = .next t ∧ post t

/-- What a command may leave as it was: every register field but those listed by key, every byte of memory, every poison mark, every cluster. -/
def Keeps (s t : State) (ks : List Nat) : Prop :=
  (∀ (f : Fld) (i j : Nat), f.key i j ∉ ks → t.rd f i j = s.rd f i j) ∧ t.mem = s.mem ∧ t.psn = s.psn ∧ t.clu = s.clu ∧ t.pending = s.pending

/-- The sequencer comes to an instruction (R162, R164, R201): it runs and waits for nothing, its partition is not quiesced, the words lie in the code range and
are not poisoned. -/
def State.reaches (s : State) (x : Iss) : Bool :=
  let k := s.cl x.c
  k.ready && !s.cluHeld x.c && k.inCode x.long && !s.psnAt (sramAt x.c (k.pc - k.pc % 8))
    && !(x.long && s.psnAt (sramAt x.c (k.pc + 4 - (k.pc + 4) % 8)))

/-- An instruction issues and its guard holds (R165, R166): the sequencer comes to it, and no reserved field is set. -/
def State.issues (s : State) (x : Iss) : Bool := s.reaches x && !x.res && (s.cl x.c).guard x

/-- No tensor operation of a cluster is in hand. -/
def State.tnsIdle (s : State) (c : Nat) : Bool := (s.cl c).trun.isEmpty && (s.cl c).tq.isEmpty

/-- All of the state but the clusters' sequencers is kept, and every sequencer but one. -/
def ElseKept (c : Nat) (s t : State) : Prop := { t with clu := s.clu } = s ∧ ∀ d, d ≠ c → t.cl d = s.cl d

/-- An instruction of cluster x.c with the result g[rd] ← v (g0 stays zero): PC passes it; every other register, predicate and CTL register, all of memory and
all else is kept. -/
def SetsG (x : Iss) (rd : Nat) (v : Word) (s t : State) : Prop :=
  (t.cl x.c).gr rd = (if rd = 0 then 0 else v) ∧ (∀ r, r ≠ rd → (t.cl x.c).gr r = (s.cl x.c).gr r) ∧ (t.cl x.c).pc = (s.cl x.c).pc + ilen x.long
  ∧ { t.cl x.c with pc := (s.cl x.c).pc, g := (s.cl x.c).g } = s.cl x.c ∧ ElseKept x.c s t

/-- An instruction of cluster x.c with the result p[rd] ← b (p0 stays 1), all else as in `SetsG`. -/
def SetsP (x : Iss) (rd : Nat) (b : Bool) (s t : State) : Prop :=
  (t.cl x.c).pr rd = (rd = 0 || b) ∧ (∀ r, r ≠ rd → (t.cl x.c).pr r = (s.cl x.c).pr r) ∧ (t.cl x.c).pc = (s.cl x.c).pc + ilen x.long
  ∧ { t.cl x.c with pc := (s.cl x.c).pc, p := (s.cl x.c).p } = s.cl x.c ∧ ElseKept x.c s t

/-- A branch of cluster x.c to n with the link g[rd] ← link; all else is kept. -/
def JumpsTo (x : Iss) (rd : Nat) (link : Word) (n : Nat) (s t : State) : Prop :=
  (t.cl x.c).pc = n ∧ (t.cl x.c).gr rd = (if rd = 0 then 0 else link) ∧ (∀ r, r ≠ rd → (t.cl x.c).gr r = (s.cl x.c).gr r)
  ∧ { t.cl x.c with pc := (s.cl x.c).pc, g := (s.cl x.c).g } = s.cl x.c ∧ ElseKept x.c s t

/-- A store of the low n bytes of v at address a: every other byte of memory, every register and all else is kept; PC passes it. -/
def Stores (x : Iss) (a n v : Nat) (s t : State) : Prop :=
  t.memN a n = v % 2 ^ (8 * n) ∧ (∀ b, b < a ∨ a + n ≤ b → t.mem1 b = s.mem1 b) ∧ t.cl x.c = { s.cl x.c with pc := (s.cl x.c).pc + ilen x.long }
  ∧ ElseKept x.c { s with mem := t.mem, psn := t.psn } t

/-- A change of cluster x.c alone, PC past the instruction. -/
def Passes (x : Iss) (k : ClusterSt) (s t : State) : Prop := t.cl x.c = { k with pc := k.pc + ilen x.long } ∧ ElseKept x.c s t

/-- A vector instruction of cluster x.c: lane k of v[vd] takes the value of f k, its mark is p, the flags that f raises are set, PC passes it; every other vector
register, every g and p register, all of memory and all else is kept. -/
def SetsV (x : Iss) (vd : Nat) (f : Nat → Lane × NumFlags) (p : Bool) (s t : State) : Prop :=
  (t.cl x.c).vr vd = (List.range 64).map (fun k => (f k).1) ∧ bitAt (t.cl x.c).vpsn vd = p
  ∧ (∀ r, r ≠ vd → (t.cl x.c).vr r = (s.cl x.c).vr r ∧ bitAt (t.cl x.c).vpsn r = bitAt (s.cl x.c).vpsn r)
  ∧ (t.cl x.c).numflg = ((List.range 64).foldl (fun a k => a ||| (f k).2) (s.cl x.c).numflg) ∧ (t.cl x.c).pc = (s.cl x.c).pc + ilen x.long
  ∧ { t.cl x.c with pc := (s.cl x.c).pc, v := (s.cl x.c).v, vpsn := (s.cl x.c).vpsn, numflg := (s.cl x.c).numflg } = s.cl x.c ∧ ElseKept x.c s t

/-- A tensor instruction enters the queue of its unit, at its end; PC passes it; registers, tiles, memory and all else are kept. -/
def Enqueues (x : Iss) (o : TnsOp) (s t : State) : Prop :=
  SMap.get (t.cl x.c).tq [] o.unit = SMap.get (s.cl x.c).tq [] o.unit ++ [{ o with order := (s.cl x.c).order }]
  ∧ (∀ u, u ≠ o.unit → SMap.get (t.cl x.c).tq [] u = SMap.get (s.cl x.c).tq [] u) ∧ (t.cl x.c).pc = (s.cl x.c).pc + ilen x.long
  ∧ { t.cl x.c with pc := (s.cl x.c).pc, tq := (s.cl x.c).tq, order := (s.cl x.c).order } = s.cl x.c ∧ ElseKept x.c s t

/-- A fault of an instruction (R197 to R199): the CTL registers that record it; halted with its record in halt mode or while the handler runs, else in the
handler; no register and no byte of memory is changed. -/
def FaultsAt (c : Nat) (code addr info : Nat) (s t : State) : Prop :=
  let k := s.cl c
  let m := t.cl c
  m.fcode = code ∧ m.fpc = k.pc ∧ m.faddr = addr ∧ m.finfo = info + 2 * k.inh.toNat ∧ m.g = k.g ∧ m.p = k.p ∧ m.v = k.v ∧ t.mem = s.mem ∧ t.psn = s.psn
  ∧ (if k.fmode = 0 ∨ k.inh = true then m.run = false ∧ m.faulted = true ∧ m.pc = k.pc ∧ m.inh = k.inh
     else m.run = k.run ∧ m.inh = true ∧ m.pc = k.fvec)

/-- A precise fault of the instruction at issue. -/
def Faults (x : Iss) (code addr : Nat) (s t : State) : Prop := FaultsAt x.c code addr x.long.toNat s t

/-- A port takes a packet (R349): the port is UP and the header is good. -/
def State.takes (s : State) (n : Nat) (p : Pkt) : Bool := s.portUp n && !p.badHdr (decide (n = 16))

/-- A packet taken at a port and handed on at once on the die (R361). -/
def State.taken (s : State) (n : Nat) (p : Pkt) : State := (s.accept n p).1.leave (s.accept n p).2

/-- A packet that is not bulk and goes to a device leaves by port k (R368, R370): the twin does not answer for the device, and the SC port of the route entry
is usable. -/
def State.viaSC (s : State) (dst k : Nat) : Bool :=
  !s.twinAnswers dst && bitAt (s.routeEntry dst) 53 && !bitAt (s.routeEntry dst) 52 && decide (bitsAt (s.routeEntry dst) 28 5 = k) && s.portUsable k

/-- A packet of this device enters the output queue of a port, at its end. -/
def Queued (k : Nat) (p : Pkt) (s t : State) : Prop := ∃ x, t.txOf k = s.txOf k ++ [x] ∧ x.pkt = p ∧ x.src = 31

/-- A management request is answered by port k with a code and data (R364), and leaves its queue. -/
def Replies (e : MgEnt) (k code : Nat) (data : List Byte) (s t : State) : Prop :=
  (∃ l, Queued k (s.mkPkt 0x31 7 0 e.pkt.src 0 0 0 l) s t ∧ (l.drop 4).take 6 = plain (leM 2 (e.pkt.num 4 2) ++ leM 1 (e.pkt.byte 6) ++ leM 1 (e.pkt.byte 7) ++ leM 2 code)
    ∧ (l.drop 16).take data.length = data)
  ∧ t.quartz.mgq = s.quartz.mgq.drop 1 ∧ t.quartz.mgBusy = false

/-- A group descriptor at an SRAM offset, with its status word, that passes the checks of R398 up to the members' partition. -/
def State.defines (s : State) (c off st : Nat) (d : ClxRec) : Bool :=
  decide (off + 64 + 8 * s.memN (sramAt c off + 20) 2 ≤ 0x400000) && decide (off % 64 = 0) && decide (st + 8 ≤ 0x400000) && decide (st % 8 = 0)
    && !s.psnRange (sramAt c off) (64 + 8 * s.memN (sramAt c off + 20) 2) && !(s.cl c).hitsCode st 8 && d.ports.all (fun q => decide (16 ≤ q) || s.portPres q)
    && (decide (d.stepT = 0) || s.cluExpert c) && !d.outOfRange && d.members.all (fun q => decide (s.cluPart q.id = s.cluPart c) && (s.cluPart c).isSome)

/-- A ring that writes a completion entry at once: it takes entries, has room, and none waits (R503, R510). -/
def State.ringOpen (s : State) (r : Nat) : Bool := s.ringLive r && !s.ringFull r && (s.ringSt r).waiting.isEmpty

/-- A host command completes (R501): one KIND 0 entry is written to its ring, with its tag, a code and a value. -/
def Completes (c : HostCmd) (code value : Nat) (s t : State) : Prop :=
  ∃ o, t.host.out = o :: s.host.out ∧ o.ring = c.ring ∧ o.slot = s.rd F.HST_RING_CQ_TAIL c.ring
    ∧ o.e = { tag := c.tag, code := code, kind := 0, cluster := 0xFFFF, fpc := 0, value := value, finfo := 0, noirq := c.noirq }

/-- A ring carries Mica's command k with a descriptor, and neither its carrier nor Mica refuses it (R7, R524, R526). -/
def State.micaAsks (s : State) (id k : Nat) (c : HostCmd) (d : List Byte) : Bool :=
  decide (s.cmdReady id (0x40 + k) = some c) && s.ringOpen c.ring && s.micaPres && !s.islFailed 293 && decide (d.length = 128) && decide (leAt d 0 1 = k)
    && (decide (k = 0) || decide (leAt d 1 1 = 0))

/-- A ring carries a batch for Jasper, and neither its carrier nor Jasper refuses it unread (R7, R564, R566): no reserved field is set, no field breaks the
descriptor table. -/
def State.jasperAsks (s : State) (id : Nat) (c : HostCmd) (d : List Byte) : Bool :=
  decide (s.cmdReady id 0x60 = some c) && s.ringOpen c.ring && s.jasperPres && !s.islFailed 294 && !batchRes d && !batchBad d

/-- The state in which a host command runs: it counts as started. -/
def State.starting (s : State) (id : Nat) : State :=
  { s with host := { s.host with cmds := s.host.cmds.map (fun d => if d.id = id then { d with started := true } else d) } }

/-- The entries that a FEED with a descriptor reads (R529): another device answers, or this one; the state after the reading, the code, the bytes. -/
def State.feedList (s : State) (p : Nat) (d : List Byte) (f : MicaFeed) : State × Nat × List MByte :=
  if leAt d 4 2 = 0 then (s, 0, [])
  else if s.idCode (leAt d 8 8 / 2 ^ 48) ≠ 0 then (s, s.idCode (leAt d 8 8 / 2 ^ 48), [])
  else if s.isFar (leAt d 8 8) then (s, f.list.code, f.list.data.take (32 * leAt d 4 2))
  else s.readSpan (some p) false (leAt d 8 8) (32 * leAt d 4 2)

/-- The command names an open stream of the command's partition. -/
def State.micaNames (s : State) (c : HostCmd) (d : List Byte) (x : MStream) : Bool :=
  decide (s.mst (leAt d 2 2) = some x) && decide (x.part = c.part) && x.closing.isNone

/-- The instruction that a cluster's memory holds at its PC (R162, R164). -/
def State.fetched (s : State) (c : Clu) (mf : MicaFeed) (jm : FarRead) : Instr := decodeInsn c (s.memN (sramAt c (s.cl c).pc) 8) mf jm

/-- The instruction that is sent is the one that memory holds; any other command agrees. What a command for Mica or Jasper reads elsewhere comes with it. -/
def State.agrees (s : State) (i : Instr) : Bool :=
  match i.parts with
  | none => true
  | some p => match i with
    | .untMcmd _ _ _ _ f => decide (s.fetched p.x.c f ⟨0, []⟩ = i)
    | .untJcmd _ _ _ _ m => decide (s.fetched p.x.c ⟨⟨0, []⟩, []⟩ m = i)
    | _ => decide (s.fetched p.x.c ⟨⟨0, []⟩, []⟩ ⟨0, []⟩ = i)

/-- A run is safe while the command at the front of the queue is well formed and agrees with memory. -/
def State.safe (s : State) : Bool :=
  match s.pending with
  | [] => true
  | i :: _ => i.wf && s.agrees i

end Sys2Proof.Machine
end

