-- ==== Sys2Proof/Certificates/Slice0/Obligations.lean ====
section
/-! DEFINITION. Certificates/Slice0/Obligations.lean: the statements for the provers. `Answers c s post` says that command c answers a next state in s, of which
post holds. -/

open Sys2Proof Machine

/-- The supply sequence: each rail group, its failure and retry, lockout, restart, loss of a tracking rail (R46, R47, R48, R79). -/
def Obligations.SupplySequence : Prop :=
  (∀ (s : State),
    s.rd F.FLT_START_STAGE = 2 → s.pwr.off = false → s.pwr.lockout = 0 → s.fw.recovery = false → s.pwr.fails < 2 → s.pwr.retry = false → 
    Answers .v48Qualified s (fun t => t.rd F.FLT_START_STAGE = 3 ∧ t.pwr.step = 3 ∧ t.pwr.en = s.pwr.en ||| 3))
  ∧ (∀ (s : State) (r : Fin 7),
    bitAt s.pwr.en r = true → 
    Answers (.railPowerGood r) s (fun t => t.pwr.good = s.pwr.good ||| 2 ^ (r : Nat)
      ∧ (s.pwr.step = 3 → bitAt t.pwr.good 0 = true → bitAt t.pwr.good 1 = true → t.pwr.step = 4 ∧ t.pwr.en = s.pwr.en ||| 4)
      ∧ (s.pwr.step = 4 → bitAt t.pwr.good 2 = true → t.pwr.step = 5 ∧ t.pwr.en = s.pwr.en ||| 0x78)
      ∧ (s.pwr.step = 5 → bitsAt t.pwr.good 3 4 = 15 → t.pwr.step = 6 ∧ ∀ i, (t.islClk i).cur = 16)))
  ∧ (∀ (s : State) (r : Fin 7),
    3 ≤ s.pwr.step ∧ s.pwr.step ≤ 5 → bitAt s.pwr.en r = true → bitAt s.pwr.good r = false → 
    Answers (.railPgTimeout r) s (fun t => t.pwr.en = 0 ∧ t.pwr.good = 0 ∧ t.pwr.step = 0 ∧ t.pwr.fails = s.pwr.fails + 1
      ∧ (t.pwr.retry = true ↔ s.pwr.fails = 0) ∧ t.rd F.FLT_START_STAGE = 2 ∧ t.flag F.FLT_ALERT_STAT_CAUSE 0 = true))
  ∧ (∀ (s : State),
    s.pwr.retry = true → s.pwr.off = false → s.pwr.lockout = 0 → 
    Answers .railSeqRetry s (fun t => t.pwr.retry = false ∧ t.pwr.step = 3 ∧ t.pwr.en = s.pwr.en ||| 3 ∧ t.rd F.FLT_START_STAGE = 3))
  ∧ (∀ (s : State) (above : Bool),
    s.flint.on = true → s.pwr.lockout = 0 → s.pwr.step ≠ 0 → 3 ≤ s.rd F.FLT_START_STAGE → s.start.rstPend = none → s.start.rstOn = false → 
    Answers (.v48Lockout above) s (fun t => t.pwr.en = 0 ∧ t.pwr.good = 0 ∧ t.pwr.step = 0 ∧ t.pwr.lockout = (if above then 2 else 1)
      ∧ t.start.rstPend = some 5 ∧ t.flag F.FLT_ALERT_STAT_CAUSE 0 = true))
  ∧ (∀ (s : State),
    s.pwr.lockout ≠ 0 → s.pwr.off = false → s.pwr.fails < 2 → s.pwr.retry = false → s.fw.recovery = false → 2 ≤ s.rd F.FLT_START_STAGE → 
    Answers .v48Restart s (fun t => t.pwr.lockout = 0 ∧ t.pwr.step = 3 ∧ t.pwr.en = s.pwr.en ||| 3 ∧ t.rd F.FLT_START_STAGE = 3))
  ∧ (∀ (s : State) (r : Fin 7),
    2 ≤ (r : Nat) → s.pwr.step = 6 → bitAt s.pwr.good r = true → s.start.rstOn = false → s.start.rstPend = none → 
    Answers (.trackingRailLoss r) s (fun t => bitAt t.pwr.good r = false
      ∧ ∀ i, i < 304 → islRail i = (r : Nat) → s.islPres i = true → t.islResetting i = true))
  ∧ (∀ (s : State),
    s.pwr.step = 6 → bitAt s.pwr.good 2 = false → 3 ≤ s.rd F.FLT_START_STAGE → s.start.rstPend = none → s.start.rstOn = false → 
    Answers (.railLossDiesFailed 2) s (fun t => t.bit F.FLT_STAT_PKG_FAIL = true ∧ t.flag F.FLT_ALERT_STAT_CAUSE 3 = true ∧ t.start.rstPend = some 6))

/-- The set-point of a tracking rail: the points of R45, in steps of 5 mV, rising with the code, never below the linear interpolation and less than 5 mV above it (R45, R51). -/
def Obligations.RailSetPoint : Prop :=
  (∀ (c : Nat),
    16 ≤ c → c ≤ 128 → 
    (setPoint c % 5 = 0 ∧ (∀ d, c ≤ d → d ≤ 128 → setPoint c ≤ setPoint d)
      ∧ (∀ p ∈ [(16, 600, 64, 660), (64, 660, 80, 700), (80, 700, 108, 750), (108, 750, 128, 850)], p.1 ≤ c → c ≤ p.2.2.1 →
      (setPoint c - p.2.1) * (p.2.2.1 - p.1) ≥ (c - p.1) * (p.2.2.2 - p.2.1) ∧ p.2.1 ≤ setPoint c
      ∧ (setPoint c - p.2.1) * (p.2.2.1 - p.1) < (c - p.1) * (p.2.2.2 - p.2.1) + 5 * (p.2.2.1 - p.1))))
  ∧ (setPoint 16 = 600 ∧ setPoint 64 = 660 ∧ setPoint 80 = 700 ∧ setPoint 108 = 750 ∧ setPoint 128 = 850)

/-- The ceiling is the lowest of its causes; sag levels are entered and left one at a time; V12AUX loss and return (R64, R65, R67, R78). -/
def Obligations.Ceilings : Prop :=
  (∀ (s : State) (c code : Nat) (f : Fld),
    code < 256 → f ∈ [F.ISL_CEIL_CEIL_SAG, F.ISL_CEIL_CEIL_ENV, F.ISL_CEIL_CEIL_FLT] → 
    ((s.setCeil f c code).rd f = code ∧ (s.setCeil f c code).rd F.ISL_CEIL_CEIL_EFF = min ((s.setCeil f c code).rd F.ISL_CEIL_CEIL_SAG)
      (min ((s.setCeil f c code).rd F.ISL_CEIL_CEIL_ENV) ((s.setCeil f c code).rd F.ISL_CEIL_CEIL_FLT))))
  ∧ (∀ (s : State) (v : BitVec 16),
    Answers (.v48Sample v) s (fun t => t.pwr.v48 = some v.toNat ∧ t.rd F.ISL_V48_V48_NOW = v.toNat
      ∧ t.rd F.ISL_V48_V48_MIN = (min v.toNat (s.rd F.ISL_V48_V48_MIN)) % 65536
      ∧ (∀ p, s.pwr.v48 = some p → v.toNat < 4050 → p < 4050 → s.rd F.ISL_CEIL_V48_LVL < 2 → t.rd F.ISL_CEIL_V48_LVL = 2 ∧ t.rd F.ISL_CEIL_CEIL_SAG = 16)
      ∧ (∀ p, s.pwr.v48 = some p → v.toNat < 4200 → p < 4200 → ¬ (v.toNat < 4050 ∧ p < 4050) → s.rd F.ISL_CEIL_V48_LVL = 0 →
      t.rd F.ISL_CEIL_V48_LVL = 1 ∧ t.rd F.ISL_CEIL_CEIL_SAG = 80)
      ∧ (∀ p, s.pwr.v48 = some p → 4200 ≤ v.toNat ∨ 4200 ≤ p → t.rd F.ISL_CEIL_V48_LVL = s.rd F.ISL_CEIL_V48_LVL)))
  ∧ (∀ (s : State),
    s.rd F.ISL_CEIL_V48_LVL = 2 → 4150 ≤ s.pwr.v48.getD 0 → 
    Answers .sagLevelExit s (fun t => t.rd F.ISL_CEIL_V48_LVL = 1 ∧ t.rd F.ISL_CEIL_CEIL_SAG = 80))
  ∧ (∀ (s : State),
    s.rd F.ISL_CEIL_V48_LVL = 1 → 4300 ≤ s.pwr.v48.getD 0 → 
    Answers .sagLevelExit s (fun t => t.rd F.ISL_CEIL_V48_LVL = 0 ∧ t.rd F.ISL_CEIL_CEIL_SAG = 128))
  ∧ (∀ (s : State),
    s.pwr.v12lost = false → 
    Answers .v12auxLoss s (fun t => t.pwr.v12lost = true ∧ t.rd F.ISL_CEIL_CEIL_FLT = 16 ∧ t.flag F.FLT_ALERT_STAT_CAUSE 1 = true))
  ∧ (∀ (s : State),
    s.pwr.v12lost = true → 
    Answers .v12auxRestore s (fun t => t.pwr.v12lost = false ∧ t.rd F.ISL_CEIL_CEIL_FLT = if s.bit F.FLT_ALONE_ACTIVE then 16 else 128))
  ∧ (∀ (s : State),
    Answers (.v48MinClr .pf) s (fun t => t.rd F.ISL_V48_V48_MIN = 0xFFFF ∧ Keeps s t [F.ISL_V48_V48_MIN.key 0 0]))

/-- A request behind a running frequency transition becomes pending, replaces an earlier one and never aborts the running one (R54). -/
def Obligations.FrequencyTransitions : Prop :=
  (∀ (s : State) (i r code : Nat),
    (s.islClk i).run = some r → 
    (((s.request i code).islClk i).run = some r ∧ ((s.request i code).islClk i).pend = (if code = r then none else some code)
      ∧ ∀ j, j ≠ i → (s.request i code).islClk j = s.islClk j))
  ∧ (∀ (s : State) (i : Fin 305) (r : Nat),
    (s.islClk i).run = some r → 
    Answers (.freqTransitionDone i) s (fun t => (t.islClk i).cur = r ∧ (t.islClk i).pend = none
      ∧ (t.islClk i).run = if (s.islClk i).pend = some r then none else (s.islClk i).pend))

/-- An island's response to sag: stretch down and recovery, the sensor error that pins it, the persistent sag that lowers its rail's requests (R50, R61, R62, R67, R69, R75, R76). -/
def Obligations.StretchAndSensors : Prop :=
  (∀ (s : State) (i : Fin 305) (mv : BitVec 12),
    s.senses i = true → s.rd F.ISL_FREQ_STR_LVL i < 3 → 
    Answers (.islandSagDetect i mv) s (fun t => t.rd F.ISL_SENSE_RAIL_MV i = mv.toNat ∧ t.rd F.ISL_FREQ_STR_LVL i = s.rd F.ISL_FREQ_STR_LVL i + 1
      ∧ t.rd F.ISL_FREQ_LAST_LVL i = s.rd F.ISL_FREQ_STR_LVL i + 1 ∧ t.bit F.ISL_SUMMARY_STRETCH = true ∧ (t.islClk i).low = true
      ∧ t.rd F.ISL_STR_LAST i = s.time.ft % 2 ^ 64 ∧ t.mem = s.mem ∧ t.clu = s.clu))
  ∧ (∀ (s : State) (i : Fin 305),
    s.senses i = true → (s.islClk i).low = true → s.rd F.ISL_FREQ_STR_LVL i ≤ 3 → 
    Answers (.stretchStepDown i) s (fun t => t.rd F.ISL_FREQ_STR_LVL i = min 3 (s.rd F.ISL_FREQ_STR_LVL i + 1) ∧ t.pwr = s.pwr))
  ∧ (∀ (s : State) (i : Fin 305),
    s.senses i = true → s.rd F.ISL_FREQ_STR_LVL i ≤ 3 → 
    Answers (.stretchRecover i) s (fun t => t.rd F.ISL_FREQ_STR_LVL i = s.rd F.ISL_FREQ_STR_LVL i - 1 ∧ (t.islClk i).low = false))
  ∧ (∀ (s : State) (i : Fin 305),
    s.senses i = true → 
    Answers (.sensorFault i) s (fun t => (t.islClk i).pinned = true ∧ t.rd F.ISL_FREQ_STR_LVL i = 2 ∧ t.bit F.ISL_SENSE_SENSOR_FLT i = true
      ∧ t.senses i = false))
  ∧ (∀ (s : State) (i : Fin 305),
    s.rd F.ISL_FREQ_STR_LVL i = 3 → (s.islClk i).persist = false → 
    Answers (.persistentSag i) s (fun t => (t.islClk i).persist = true))
  ∧ (∀ (s : State) (i : Fin 305),
    (s.islClk i).persist = true → 
    Answers (.persistentSagLower i) s (fun t => ∀ j, islRail j = islRail i → t.reqCode j ≤ 80))
  ∧ (∀ (s : State) (r : Fin 7),
    bitAt s.pwr.lowered r = true → 
    Answers (.persistentSagClear r) s (fun t => bitAt t.pwr.lowered r = false))
  ∧ (∀ (s : State) (i : Fin 305) (n : BitVec 16),
    s.pwr.refclk = true → s.islPres i = true → 
    Answers (.clockTrim i n) s (fun t => (t.islClk i).cycles = n.toNat ∧ t.regs = s.regs ∧ t.mem = s.mem))

/-- Performance states, the power cap and the expert frequency code: who may write them, and the values that are discarded (R55, R56, R58, R59, R60). -/
def Obligations.PowerSettings : Prop :=
  (∀ (s : State) (v : BitVec 64),
    Answers (.islPstateWrite .pf v) s (fun t => t.rd F.ISL_PSTATE_DEV = bitsAt v.toNat 0 2 ∧ t.rd F.ISL_PSTATE_PART = bitsAt v.toNat 2 32))
  ∧ (∀ (s : State) (v : BitVec 64) (p : Part),
    Answers (.islPstateWrite (.vf p) v) s (fun t => t.rd F.ISL_WR_REJ_COUNT = satAt 32 (s.rd F.ISL_WR_REJ_COUNT + 1) ∧ Keeps s t [F.ISL_WR_REJ_COUNT.key 0 0]))
  ∧ (∀ (s : State) (v : BitVec 64),
    250 ≤ bitsAt v.toNat 0 10 → bitsAt v.toNat 0 10 ≤ 600 → 
    Answers (.islPwrCapWrite .pf v) s (fun t => t.rd F.ISL_PWR_CAP_CAP_W = bitsAt v.toNat 0 10))
  ∧ (∀ (s : State) (v : BitVec 64),
    bitsAt v.toNat 0 10 < 250 ∨ 600 < bitsAt v.toNat 0 10 → 
    Answers (.islPwrCapWrite .pf v) s (fun t => t.rd F.ISL_PWR_CAP_CAP_W = s.rd F.ISL_PWR_CAP_CAP_W ∧ t.bit F.ISL_PWR_CAP_CAP_REJ = true))
  ∧ (∀ (s : State) (i : Fin 305) (v : BitVec 64),
    s.islPres i = true → s.islExpert i = true → bitsAt v.toNat 0 8 = 0 ∨ (16 ≤ bitsAt v.toNat 0 8 ∧ bitsAt v.toNat 0 8 ≤ 128) → 
    Answers (.islFreqWrite i .pf v) s (fun t => t.rd F.ISL_FREQ_REQ_CODE i = bitsAt v.toNat 0 8))
  ∧ (∀ (s : State) (i : Fin 305) (v : BitVec 64),
    s.islPres i = true → s.islExpert i = false → bitsAt v.toNat 0 8 ≠ s.rd F.ISL_FREQ_REQ_CODE i → 
    Answers (.islFreqWrite i .pf v) s (fun t => t.rd F.ISL_FREQ_REQ_CODE i = s.rd F.ISL_FREQ_REQ_CODE i ∧ t.bit F.ISL_FREQ_PERM_REJ i = true))
  ∧ (∀ (s : State) (i : Fin 305) (v : BitVec 64),
    s.islPres i = true → s.islExpert i = true → bitsAt v.toNat 0 8 ≠ s.rd F.ISL_FREQ_REQ_CODE i → (1 ≤ bitsAt v.toNat 0 8 ∧ bitsAt v.toNat 0 8 ≤ 15) ∨ 128 < bitsAt v.toNat 0 8 → 
    Answers (.islFreqWrite i .pf v) s (fun t => t.rd F.ISL_FREQ_REQ_CODE i = s.rd F.ISL_FREQ_REQ_CODE i ∧ t.bit F.ISL_FREQ_FMT_REJ i = true))
  ∧ (∀ (s : State) (i : Fin 305) (v : BitVec 64),
    s.islPres i = true → s.islExpert i = true → 2 ≤ bitsAt v.toNat 0 6 → bitsAt v.toNat 0 6 ≤ 32 → 
    Answers (.islStrCfgWrite i .pf v) s (fun t => t.rd F.ISL_STR_CFG_RECOV_HOLD i = bitsAt v.toNat 0 6))

/-- The watches on the dies and on the twin, a die that is too hot, and the loss and return of the reference clock (R77, R81, R82, R83, R84, R115, R345, R686). -/
def Obligations.DieAndTwinWatches : Prop :=
  (∀ (s : State) (d : Fin 5),
    s.pwr.step = 6 → s.flint.hbArmed.length = 5 → 
    Answers (.dieHeartbeatToggle d) s (fun t => t.flag F.FLT_STAT_DIE_OK d = true ∧ t.flint.hbArmed.getD d false = true ∧ t.mem = s.mem ∧ t.clu = s.clu))
  ∧ (∀ (s : State),
    s.flint.hbArmed.getD 0 false = true → 3 ≤ s.rd F.FLT_START_STAGE → s.start.rstPend = none → s.start.rstOn = false → 
    Answers (.dieHbLost 0) s (fun t => t.bit F.FLT_STAT_PKG_FAIL = true ∧ t.flag F.FLT_ALERT_STAT_CAUSE 2 = true ∧ t.flag F.FLT_ALERT_STAT_CAUSE 3 = true
      ∧ t.start.rstPend = some 6 ∧ t.err.ring.head?.map ErrRec.kind = some 0x0E))
  ∧ (∀ (s : State) (rec : List (BitVec 32)),
    s.flint.errArmed.getD 0 false = true → 3 ≤ s.rd F.FLT_START_STAGE → s.start.rstPend = none → s.start.rstOn = false → 
    Answers (.dieError 0 rec) s (fun t => t.flag F.FLT_STAT_DIE_ERR 0 = true ∧ t.bit F.FLT_STAT_PKG_FAIL = true ∧ t.flag F.FLT_ALERT_STAT_CAUSE 2 = true
      ∧ t.flag F.FLT_ALERT_STAT_CAUSE 3 = true ∧ t.start.rstPend = some 6))
  ∧ (∀ (s : State) (us : BitVec 16) (edge : Bool),
    Answers (.twinHbClassify us edge) s (fun t => t.rd F.FLT_STAT_TWIN_RX = (if edge = false then (if 500 ≤ us.toNat then 2 else s.rd F.FLT_STAT_TWIN_RX)
      else if us.toNat ≤ 50 then 0 else if 100 ≤ us.toNat ∧ us.toNat ≤ 400 then 1 else s.rd F.FLT_STAT_TWIN_RX) % 4))
  ∧ (∀ (s : State),
    s.flint.twinArmed = true → s.flint.window = none → 
    Answers .twinSuspect s (fun t => t.flint.window = some (s.now + 500000) ∧ t.rd F.FLT_STAT_TWIN_ST = 1 ∧ t.flint.beatSeen = false))
  ∧ (∀ (s : State) (w : Nat),
    s.flint.window = some w → w ≤ s.now → s.flint.beatSeen = false → s.rd F.FLT_STAT_TWIN_RX ≠ 0 → 
    Answers .twinLossConfirm s (fun t => t.flint.window = none ∧ t.rd F.FLT_STAT_TWIN_ST = 2 ∧ t.flag F.FLT_ALERT_STAT_CAUSE 4 = true
      ∧ t.twin.confirmed = some s.now))
  ∧ (∀ (s : State),
    s.pwr.refclk = true → ∀ n, n < 17 → s.portUp n = false ∧ (s.pt n).restExit = false → 
    Answers .refclkLoss s (fun t => t.pwr = { s.pwr with refclk := false } ∧ t.time = { s.time with run := false } ∧ t.mem = s.mem ∧ (s.start.memInit = true → ∀ n, n < 17 → s.portPres n = true → t.rd F.QTZ_PORT_STAT_STATE n = 0 ∧ t.rd F.QTZ_PORT_STAT_FAIL_CAUSE n = 6)))
  ∧ (∀ (s : State),
    s.start.memInit = false → 
    ((s.pwr.refclk = true → Answers .refclkReturn s (fun t => t = s))
      ∧ (s.pwr.refclk = false → Answers .refclkReturn s (fun t => t = { s with pwr := { s.pwr with refclk := true }, time := { s.time with run := decide (4 ≤ s.stage) && !s.start.rstOn && decide (s.pwr.step = 6) } }))))
  ∧ (∀ (s : State) (d : Fin 5),
    (d : Nat) = 0 → s.flint.errArmed.getD 0 false = true → 3 ≤ s.rd F.FLT_START_STAGE → s.start.rstPend = none ∧ s.start.rstOn = false → 
    Answers (.dieOvertemp d) s (fun t => t.flag F.FLT_STAT_DIE_ERR 0 = true ∧ t.bit F.FLT_STAT_PKG_FAIL = true ∧ t.flag F.FLT_ALERT_STAT_CAUSE 2 = true ∧ t.flag F.FLT_ALERT_STAT_CAUSE 3 = true))

/-- The host watch, and entry to, exit from and release after acting alone (R86, R87, R90, R91, R92, R93). -/
def Obligations.HostWatchAndActingAlone : Prop :=
  (∀ (s : State) (w : BitVec 32),
    Answers (.fltHostHbWrite .pf w) s (fun t => t.rd F.FLT_HOST_HB_WORD = w.toNat ∧ t.bit F.FLT_HOST_HB_ARMED = true
      ∧ Keeps s t [F.FLT_HOST_HB_WORD.key 0 0, F.FLT_HOST_HB_ARMED.key 0 0]))
  ∧ (∀ (s : State) (w : BitVec 32) (p : Part),
    Answers (.fltHostHbWrite (.vf p) w) s (fun t => t.rd F.FLT_WR_REJ_COUNT = satAt 32 (s.rd F.FLT_WR_REJ_COUNT + 1) ∧ Keeps s t [F.FLT_WR_REJ_COUNT.key 0 0]))
  ∧ (∀ (s : State),
    Answers (.hostWatchDisarm .pf) s (fun t => t.bit F.FLT_HOST_HB_ARMED = false ∧ t.bit F.FLT_STAT_HOST_SIL = false
      ∧ Keeps s t [F.FLT_HOST_HB_ARMED.key 0 0, F.FLT_STAT_HOST_SIL.key 0 0]))
  ∧ (∀ (s : State),
    s.flint.on = true → s.bit F.FLT_HOST_HB_ARMED = true → s.bit F.FLT_STAT_HOST_SIL = false → s.rd F.FLT_HOST_HB_WORD = s.flint.hostWord → s.bit F.HST_STAT_LINK_UP = false ∨ s.rd F.FLT_HB_CFG_HOST_T * 10000000 ≤ s.now - s.flint.hostAt → 
    Answers .hostSample s (fun t => t.bit F.FLT_STAT_HOST_SIL = true ∧ t.flag F.FLT_ALERT_STAT_CAUSE 5 = true))
  ∧ (∀ (s : State),
    s.flint.on = true → s.bit F.FLT_STAT_HOST_SIL = true → s.rd F.FLT_HOST_HB_WORD ≠ s.flint.hostWord → s.bit F.HST_STAT_LINK_UP = true → 
    Answers .hostSample s (fun t => t.bit F.FLT_STAT_HOST_SIL = false ∧ t.flint.hostSince = none ∧ t.flint.hostWord = s.rd F.FLT_HOST_HB_WORD
      ∧ (s.bit F.FLT_ALONE_ACTIVE = true → t.bit F.FLT_ALONE_ACTIVE = false ∧ t.rd F.FLT_ALONE_LAST_BY = 1
      ∧ t.rd F.FLT_ALONE_QUIESCED = s.rd F.FLT_ALONE_QUIESCED)))
  ∧ (∀ (s : State) (h w : Nat),
    s.flint.on = true → s.bit F.FLT_ALONE_ACTIVE = false → s.bit F.FLT_STAT_HOST_SIL = true → s.rd F.FLT_HOST_HB_WORD = s.flint.hostWord → s.flint.hostSince = some h → s.flint.twinSince = some w → s.twinContact = false → s.rd F.FLT_HB_CFG_SILENCE_T * 10000000 < s.now - max h w → 
    Answers .hostSample s (fun t => t.bit F.FLT_ALONE_ACTIVE = true ∧ t.rd F.ISL_CEIL_CEIL_FLT = 16 ∧ t.flag F.FLT_ALERT_STAT_CAUSE 6 = true
      ∧ (s.rd F.AGT_STAT_STATE ≠ 4 → t.flint.quiesceReq = s.partMask ∧ t.flint.quiesceAt = s.now)))
  ∧ (∀ (s : State),
    s.flint.on = true → s.bit F.FLT_ALONE_ACTIVE = true → s.bit F.FLT_STAT_HOST_SIL = true → s.rd F.FLT_HOST_HB_WORD = s.flint.hostWord → s.twinContact = true → 
    Answers .hostSample s (fun t => t.bit F.FLT_ALONE_ACTIVE = false ∧ t.rd F.FLT_ALONE_LAST_BY = 2
      ∧ t.rd F.ISL_CEIL_CEIL_FLT = (if s.pwr.v12lost then 16 else 128) ∧ t.rd F.FLT_ALONE_QUIESCED = s.rd F.FLT_ALONE_QUIESCED))
  ∧ (∀ (s : State) (p : Part),
    bitAt s.flint.quiesceReq p = true → s.flag F.FLT_ALONE_QUIESCED p = false → s.partQuiet p = true → 
    Answers (.partitionQuiesced p) s (fun t => t.flag F.FLT_ALONE_QUIESCED p = true ∧ Keeps s t [F.FLT_ALONE_QUIESCED.key 0 0]))
  ∧ (∀ (s : State) (p : Part),
    bitAt s.flint.quiesceReq p = true → s.flag F.FLT_ALONE_QUIESCED p = false → s.flint.quiesceAt + s.rd F.FLT_HB_CFG_QUIESCE_T * 1000000000 ≤ s.now → s.quartz.ctx = [] → s.jasper.run = none → 
    Answers (.quiesceTimeout p) s (fun t => t.flag F.FLT_ALONE_QUIESCED p = true ∧ Keeps s t [F.FLT_ALONE_QUIESCED.key 0 0]))
  ∧ (∀ (s : State),
    Answers (.fltAloneRelease .pf) s (fun t => t.rd F.FLT_ALONE_QUIESCED = 0 ∧ t.flint.quiesceReq = 0
      ∧ (s.bit F.FLT_ALONE_ACTIVE = true → t.rd F.FLT_ALONE_LAST_BY = 1)))
  ∧ (∀ (s : State) (b : Bool),
    Answers (.fltAloneRelease (.mb b)) s (fun t => t.mbResp b = some ⟨Code.perm 0, [], false⟩ ∧ t.regs = s.regs))

/-- ALERT_N and its causes, the expert level and watch timing, the log acknowledgement, SCAN_EN (R15, R88, R89, R97, R101, R109, R110). -/
def Obligations.AlertsAndTiming : Prop :=
  (∀ (s : State),
    s.flint.on = true → 
    (s.alertLow = true ↔ ∃ k, k < 64 ∧ s.flag F.FLT_ALERT_STAT_CAUSE k = true ∧ (s.flag F.FLT_ALERT_MASK_CAUSE k = true ∨ k = 3 ∨ k = 6)))
  ∧ (∀ (s : State) (mask : BitVec 64) (k : Nat),
    k < 11 → 
    Answers (.fltAlertStatWrite .pf mask) s (fun t => t.flag F.FLT_ALERT_STAT_CAUSE k
      = (s.flag F.FLT_ALERT_STAT_CAUSE k && (!bitAt mask.toNat k || (decide (k = 6) && s.bit F.FLT_ALONE_ACTIVE)))))
  ∧ (∀ (s : State) (b : Bool) (mask : BitVec 64) (k : Nat),
    s.flint.on = true → s.mbServed 0x0B = true → k < 11 → 
    Answers (.alertClear b mask) s (fun t => t.flag F.FLT_ALERT_STAT_CAUSE k
      = (s.flag F.FLT_ALERT_STAT_CAUSE k && (!bitAt mask.toNat k || (decide (k = 6) && s.bit F.FLT_ALONE_ACTIVE))) ∧ t.mbResp b = some ⟨0, [], false⟩))
  ∧ (∀ (s : State) (mask : BitVec 64),
    Answers (.fltAlertMaskWrite .pf mask) s (fun t => t.rd F.FLT_ALERT_MASK_CAUSE = mask.toNat % 2048 ∧ Keeps s t [F.FLT_ALERT_MASK_CAUSE.key 0 0]))
  ∧ (∀ (s : State) (v : BitVec 64),
    s.bit F.FLT_EXPERT_EN_EN = true → 
    Answers (.fltHbCfgWrite .pf v) s (fun t => ∀ r ∈ hbRanges,
      t.rd r.1 = if r.2.1 ≤ bitsAt v.toNat r.1.lo r.1.w ∧ bitsAt v.toNat r.1.lo r.1.w ≤ r.2.2 then bitsAt v.toNat r.1.lo r.1.w else s.rd r.1))
  ∧ (∀ (s : State) (v : BitVec 64),
    s.bit F.FLT_EXPERT_EN_EN = false → 
    Answers (.fltHbCfgWrite .pf v) s (fun t => ∀ r ∈ hbRanges, t.rd r.1 = s.rd r.1))
  ∧ (∀ (s : State) (en : Bool),
    Answers (.fltExpertEnWrite .pf en) s (fun t => t.bit F.FLT_EXPERT_EN_EN = en))
  ∧ (∀ (s : State) (en : Bool) (b : Bool),
    Answers (.fltScanWrite (.mb b) en) s (fun t => t.bit F.FLT_SCAN_SCAN_EN = en ∧ Keeps s t [F.FLT_SCAN_SCAN_EN.key 0 0]))
  ∧ (∀ (s : State) (seq : BitVec 32),
    Answers (.fltLogAckWrite .pf seq) s (fun t => t.rd F.FLT_LOG_ACK_SEQ = (if seq.toNat < s.rd F.FLT_LOG_ACK_SEQ then s.rd F.FLT_LOG_ACK_SEQ else seq.toNat)
      ∧ Keeps s t [F.FLT_LOG_ACK_SEQ.key 0 0]))
  ∧ (∀ (s : State) (b : Bool) (seq : BitVec 32),
    s.flint.on = true → s.mbServed 6 = true → 
    Answers (.logAck b seq) s (fun t => t.rd F.FLT_LOG_ACK_SEQ = (if seq.toNat < s.rd F.FLT_LOG_ACK_SEQ then s.rd F.FLT_LOG_ACK_SEQ else seq.toNat)
      ∧ t.mbResp b = some ⟨0, [], false⟩))
  ∧ (∀ (s : State) (dev : Fin 6) (ins : TapIns),
    s.bit F.FLT_SCAN_SCAN_EN = true → s.pwr.step = 6 → s.start.rstOn = true → s.flint.tap.length = 6 → (ins = .extestPulse ∨ ins = .extestTrain) → dev = 1 → 
    Answers (.tapInstruction dev ins) s (fun t => t.flint.tap.getD dev 0 = tapNum ins ∧ t.regs = s.regs))
  ∧ (∀ (s : State) (ins : TapIns),
    s.bit F.FLT_SCAN_SCAN_EN = false → tapTestMode ins = true → s.flint.tap.length = 6 → 
    Answers (.tapInstruction 0 ins) s (fun t => t.flint.tap.getD 0 0 = tapNum .bypass ∧ t.regs = s.regs))

/-- The event log: coalescing, SEQ, overflow marks, and what reaches the persistent area (R107, R108). -/
def Obligations.EventLogEntries : Prop :=
  (∀ (s : State) (e : LogEntry) (r : List LogEntry) (code src sev : Nat) (d : List Nat),
    s.flint.on = true → s.fw.exchanging = false → s.log.ring = e :: r → e.code = code ∧ e.source = src → s.now ≤ s.log.lastAt + 1000000 → 
    ((s.logE code src sev d).log.ring = { e with count := min 65535 (e.count + 1) } :: r ∧ (s.logE code src sev d).regs = s.regs))
  ∧ (∀ (s : State) (e : LogEntry) (r : List LogEntry) (code src sev : Nat) (d : List Nat),
    s.flint.on = true → s.fw.exchanging = false → s.log.ring = e :: r → ¬ (e.code = code ∧ e.source = src) ∨ s.log.lastAt + 1000000 < s.now → sev < 3 ∨ s.logRoom = true → 
    ∃ n, (s.logE code src sev d).log.ring = n :: (if 4096 ≤ s.log.ring.length then s.log.ring.dropLast else s.log.ring) ∧ n.seq = s.rd F.FLT_LOG_HEAD_SEQ + 1
      ∧ n.code = code ∧ n.source = src ∧ n.sev = sev ∧ n.count = 0 ∧ n.data = d ∧ n.time = s.stamp
      ∧ (n.ovf = true ↔ 4096 ≤ s.log.ring.length ∧ ∃ o, s.log.ring.getLast? = some o ∧ s.rd F.FLT_LOG_ACK_SEQ < o.seq)
      ∧ (s.logE code src sev d).rd F.FLT_LOG_HEAD_SEQ = (s.rd F.FLT_LOG_HEAD_SEQ + 1) % 2 ^ 32
      ∧ (3 ≤ sev → (s.logE code src sev d).log.flash.head? = some n ∧ n.persist = true))
  ∧ (∀ (s : State) (code src sev : Nat) (d : List Nat),
    s.flint.on = true → s.fw.exchanging = false → s.log.ring = [] → 3 ≤ sev → s.logRoom = false → 
    ((s.logE code src sev d).log.flash = s.log.flash ∧ (s.logE code src sev d).flag F.FLT_ALERT_STAT_CAUSE 10 = true
      ∧ min 65535 (s.rd F.FLT_LOG_HEAD_LOG_LOST + 1) ≤ (s.logE code src sev d).rd F.FLT_LOG_HEAD_LOG_LOST))

/-- The management buses: framing, busy, readiness, and the commands GET_ID to MODULE_RESET (R95, R96, R97, R102, R132). -/
def Obligations.ManagementBusCommands : Prop :=
  (∀ (s : State) (b : Bool) (cmd len : BitVec 8) (n : Nat) (ok : Bool),
    s.flint.on = true → ok = false ∨ len.toNat ≠ n ∨ 250 < len.toNat → 
    Answers (.mbRequest b cmd len n ok) s (fun t => t.rd F.FLT_MB_ERR_COUNT = satAt 32 (s.rd F.FLT_MB_ERR_COUNT + 1) ∧ t.flint = s.flint
      ∧ Keeps s t [F.FLT_MB_ERR_COUNT.key 0 0]))
  ∧ (∀ (s : State) (b : Bool) (cmd len : BitVec 8) (n : Nat) (r : MbResp),
    s.flint.on = true → len.toNat = n → n ≤ 250 → s.mbResp b = some r → r.ready = false → 
    Answers (.mbRequest b cmd len n true) s (fun t => t.mbResp b = some ⟨Code.busy 0, [], false⟩ ∧ t.regs = s.regs))
  ∧ (∀ (s : State) (b : Bool) (cmd len : BitVec 8) (n : Nat),
    s.flint.on = true → len.toNat = n → n ≤ 250 → s.mbResp b = none → mbKnown cmd.toNat = true → mbLenOk cmd.toNat n = true → s.mbServed cmd.toNat = true → 
    Answers (.mbRequest b cmd len n true) s (fun t => t.mbResp b = some ⟨0, [], false⟩ ∧ t.regs = s.regs))
  ∧ (∀ (s : State) (b : Bool) (r : MbResp),
    s.mbResp b = some r → 
    Answers (.mbResponseReady b) s (fun t => t.mbResp b = some { r with ready := true } ∧ (b = false → t.flint.ibi = true) ∧ t.regs = s.regs))
  ∧ (∀ (s : State) (b : Bool),
    s.flint.on = true → s.mbServed 1 = true → 
    Answers (.getId b) s (fun t => ∃ p, t.mbResp b = some ⟨0, leBytes 8 s.cap0 ++ p, false⟩ ∧ p.length = 16 ∧ t.regs = s.regs))
  ∧ (∀ (s : State) (b : Bool),
    s.flint.on = true → s.mbServed 2 = true → 
    Answers (.getStatus b) s (fun t => t.mbResp b = some ⟨0, leBytes 8 s.fltStat ++ leBytes 8 (s.rd F.FLT_ALERT_STAT_CAUSE) ++ leBytes 8 s.fltAlone, false⟩
      ∧ t.regs = s.regs))
  ∧ (∀ (s : State) (b : Bool) (seq : BitVec 32) (e : LogEntry) (r : List LogEntry),
    s.flint.on = true → s.mbServed 5 = true → s.log.ring = e :: r → e.seq = seq.toNat → 
    Answers (.logRead b seq 1) s (fun t => t.mbResp b = some ⟨0, e.bytes, false⟩ ∧ e.bytes.length = 32 ∧ t.log = s.log))
  ∧ (∀ (s : State) (b : Bool) (w : BitVec 16),
    s.flint.on = true → s.mbServed 7 = true → 250 ≤ w.toNat → w.toNat ≤ 600 → 
    Answers (.pwrCapSet b w) s (fun t => t.rd F.ISL_PWR_CAP_CAP_W = w.toNat ∧ t.mbResp b = some ⟨0, [], false⟩))
  ∧ (∀ (s : State) (b : Bool),
    s.flint.on = true → s.mbServed 8 = true → s.pwr.step = 0 → 
    Answers (.powerOn b) s (fun t => t.pwr.off = false ∧ t.pwr.fails = 0 ∧ t.pwr.retry = false ∧ t.mbResp b = some ⟨0, [], false⟩))
  ∧ (∀ (s : State) (b : Bool),
    s.flint.on = true → s.mbServed 9 = true → s.pwr.step ≠ 0 → 
    Answers (.powerOff b) s (fun t => t.pwr.off = true ∧ t.pwr.en = 0 ∧ t.pwr.step = 0 ∧ t.rd F.FLT_START_STAGE = 2 ∧ t.clu = [] ∧ t.mbResp b = some ⟨0, [], false⟩))
  ∧ (∀ (s : State) (b : Bool),
    3 ≤ s.rd F.FLT_START_STAGE → s.start.rstPend = none → s.start.rstOn = false → 
    Answers (.moduleReset b) s (fun t => t.start.rstPend = some 2 ∧ t.regs = s.regs))

/-- The firmware banks: staging, commit, live exchange, rollback, watchdog, boot, recovery (R102, R103, R104, R105, R106, R116, R117, R118). -/
def Obligations.FirmwareBanks : Prop :=
  (∀ (s : State) (b : Bool) (off : BitVec 32) (data : List Byte),
    s.flint.on = true → s.mbServed 0x10 = true → s.bankInactive 1 = true → s.fw.session = none → 
    Answers (.fwStage b 1 off data) s (fun t => t.fw.b.staged = [(off.toNat, data.map BitVec.toNat)] ∧ t.fw.b.valid = false
      ∧ t.fw.session = some (1, .mb b) ∧ t.fw.a = s.fw.a ∧ t.mbResp b = some ⟨0, [], false⟩))
  ∧ (∀ (s : State) (b : Bool) (bank : BitVec 8) (off : BitVec 32) (data : List Byte),
    s.flint.on = true → s.mbServed 0x10 = true → bank.toNat ≤ 1 → s.bankInactive bank.toNat = false → 
    Answers (.fwStage b bank off data) s (fun t => t.fw = s.fw ∧ t.mbResp b = some ⟨Code.perm 0x0D, [], false⟩))
  ∧ (∀ (s : State) (b : Bool) (ver : BitVec 32),
    s.flint.on = true → s.mbServed 0x11 = true → s.bankInactive 1 = true → s.fw.session = none ∨ s.fw.session = some (1, .mb b) → 
    Answers (.fwCommit b 1 true ver) s (fun t => t.fw.b.valid = true ∧ t.fw.b.version = ver.toNat ∧ t.fw.session = none ∧ t.mbResp b = some ⟨0, [], false⟩))
  ∧ (∀ (s : State) (b : Bool) (ver : BitVec 32),
    s.flint.on = true → s.mbServed 0x11 = true → s.bankInactive 1 = true → s.fw.session = none ∨ s.fw.session = some (1, .mb b) → 
    Answers (.fwCommit b 1 false ver) s (fun t => t.fw.b = s.fw.b ∧ t.fw.session = none ∧ t.mbResp b = some ⟨Code.format 0, [], false⟩))
  ∧ (∀ (s : State) (b : Bool),
    s.flint.on = true → s.mbServed 0x14 = true → s.bankInactive 1 = true → s.fw.session = some (1, .mb b) → 
    Answers (.fwAbort b 1) s (fun t => t.fw.b.staged = [] ∧ t.fw.session = none ∧ t.fw.a = s.fw.a))
  ∧ (∀ (s : State) (b : Bool),
    s.flint.on = true → s.mbServed 0x12 = true → s.swapBusy = false → (s.fw.bank (1 - s.fw.run)).valid = true → 
    Answers (.fwSwap b) s (fun t => t.fw.exchanging = true ∧ t.fw.run = s.fw.run ∧ t.mbResp b = some ⟨0, [], false⟩))
  ∧ (∀ (s : State),
    s.fw.exchanging = true → 
    Answers .fwSwapReady s (fun t => t.fw.exchanging = false ∧ t.fw.trial = true ∧ t.fw.run = 1 - s.fw.run ∧ t.fw.act = s.fw.act ∧ t.log.fifo = []))
  ∧ (∀ (s : State) (b : Bool),
    s.flint.on = true → s.mbServed 0x13 = true → s.fw.trial = true → 
    Answers (.fwConfirm b) s (fun t => t.fw.trial = false ∧ t.fw.act = s.fw.run ∧ t.fw.run = s.fw.run ∧ t.mbResp b = some ⟨0, [], false⟩))
  ∧ (∀ (s : State),
    s.fw.trial = true → 
    Answers .fwRollback s (fun t => t.fw.trial = false ∧ t.fw.run = 1 - s.fw.run ∧ t.fw.act = s.fw.act ∧ t.flag F.FLT_ALERT_STAT_CAUSE 9 = true))
  ∧ (∀ (s : State),
    s.flint.on = true → 2 ≤ s.rd F.FLT_START_STAGE → s.fw.restarts = [] → 
    Answers .aqgenWatchdog s (fun t => t.fw = { s.fw with restarts := [s.now] } ∧ t.pwr = s.pwr))
  ∧ (∀ (s : State),
    s.rd F.FLT_START_STAGE = 1 → (s.fw.bank s.fw.act).valid = true → 
    Answers .flintBoot s (fun t => t.rd F.FLT_START_STAGE = 2 ∧ t.fw.run = s.fw.act ∧ t.fw.recovery = false))
  ∧ (∀ (s : State),
    s.rd F.FLT_START_STAGE = 1 → (s.fw.bank s.fw.act).valid = false → (s.fw.bank (1 - s.fw.act)).valid = false → 
    Answers .flintBoot s (fun t => t.fw.recovery = true ∧ t.pwr.en = 0 ∧ t.flag F.FLT_ALERT_STAT_CAUSE 9 = true))
  ∧ (∀ (s : State),
    s.rd F.FLT_START_STAGE = 1 → (s.fw.bank (1 - s.fw.act)).valid = true → 
    Answers .flintBootTimeout s (fun t => t.rd F.FLT_START_STAGE = 2 ∧ t.fw.run = 1 - s.fw.act ∧ t.flag F.FLT_ALERT_STAT_CAUSE 9 = true))
  ∧ (∀ (s : State),
    Answers .v3p3sbLoss s (fun t => t.flint.on = false ∧ t.rd F.FLT_START_STAGE = 0 ∧ t.pwr.en = 0 ∧ t.pwr.step = 0))

/-- Start-up: what ends each stage, the limits, HOLD_AT and SOLO (R118, R119, R120, R121, R122, R124, R125, R144, R159). -/
def Obligations.StartUpStages : Prop :=
  (∀ (s : State),
    s.stage ≤ s.startUp.stage)
  ∧ (∀ (s : State),
    s.stage = 4 → s.start.dieInit = false → s.start.memInit = false → s.start.rstOn = false → s.rd F.FLT_START_HOLD_AT = 0 → 
    Answers .dieInitDone s (fun t => t.stage = 5 ∧ t.start.dieInit = true ∧ (∀ a, a < 0x140000000 → t.mem1 a = 0)
      ∧ (∀ a, 0x140000000 ≤ a → t.mem1 a = s.mem1 a)))
  ∧ (∀ (s : State),
    s.stage = 4 → s.start.rstOn = false → s.start.rstPend = none → s.flint.hbArmed.getD 0 false = false → 
    Answers (.dieInitTimeout 0) s (fun t => t.bit F.FLT_STAT_PKG_FAIL = true ∧ t.rd F.DEV_START_TO_STAGE = 4 ∧ t.start.rstPend = some 6))
  ∧ (∀ (s : State),
    s.inMemInit = true → s.pwr.refclk = true → s.start.keepMirror = false → 
    Answers .memInitDone s (fun t => t.start.memInit = true ∧ ∀ a, hbmBase ≤ a → a < 2 ^ 48 → t.mem1 a = 0))
  ∧ (∀ (s : State),
    s.inMemInit = true → s.pwr.refclk = false → 
    Answers .memInitTimeout s (fun t => t.rd F.DEV_START_HBM_FAIL = 2 ^ s.stacks - 1 ∧ t.rd F.DEV_START_TO_STAGE = 5 ∧ t.start.memInit = false ∧ t.stage = 5))
  ∧ (∀ (s : State),
    s.stage = 5 → s.start.memInit = true → s.start.perst = true → s.start.rstOn = false → s.rd F.FLT_START_HOLD_AT = 0 → 
    Answers .hostReadyEntry s (fun t => 6 ≤ t.stage ∧ t.mem = s.mem))
  ∧ (∀ (s : State),
    Answers .perstNRelease s (fun t => t.start.perst = true ∧ t.mem = s.mem))
  ∧ (∀ (s : State),
    s.stage = 6 → s.start.memInit = true → s.start.linkLimit = false → s.start.rstOn = false → s.rd F.FLT_START_HOLD_AT = 0 → 
    Answers .linkUpTimeout s (fun t => t.start.linkLimit = true ∧ 7 ≤ t.stage))
  ∧ (∀ (s : State) (v : BitVec 64),
    s.bit F.FLT_EXPERT_EN_EN = true → 4 ≤ bitsAt v.toNat 4 4 → bitsAt v.toNat 4 4 ≤ 8 → 
    Answers (.fltStartWrite .pf v) s (fun t => t.rd F.FLT_START_HOLD_AT = bitsAt v.toNat 4 4 ∧ Keeps s t [F.FLT_START_HOLD_AT.key 0 0]))
  ∧ (∀ (s : State),
    s.stage = 7 → s.start.rstOn = false → s.bit F.DEV_START_ID_OK = true → s.bit F.DEV_START_RT_OK = true → s.bit F.DEV_START_FT_OK = true → s.rd F.FLT_START_HOLD_AT = 0 → 
    Answers (.devStartSoloWrite .pf true) s (fun t => t.bit F.DEV_START_SOLO = true ∧ t.stage = 8))

/-- Cold and module resets: their sources, what they clear and keep, their end (R101, R119, R132, R133, R134, R141, R142, R145, R160). -/
def Obligations.ModuleAndColdReset : Prop :=
  (∀ (s : State),
    3 ≤ s.rd F.FLT_START_STAGE → s.start.rstPend = none → s.start.rstOn = false → 
    (Answers .modRstNAssert s (fun t => t.start.rstPend = some 1 ∧ t.start.modLow = true ∧ t.regs = s.regs)
      ∧ Answers (.devRstModule .pf) s (fun t => t.start.rstPend = some 3 ∧ t.regs = s.regs)
      ∧ Answers .flrPf s (fun t => t.start.rstPend = some 4 ∧ t.regs = s.regs)))
  ∧ (∀ (s : State) (p : Part),
    Answers (.devRstModule (.vf p)) s (fun t => t.start = s.start ∧ t.bit F.DEV_RST_REJ = true ∧ t.rd F.FLT_WR_REJ_COUNT = satAt 32 (s.rd F.FLT_WR_REJ_COUNT + 1)))
  ∧ (∀ (s : State) (c : Nat),
    s.start.rstPend = some c → c < 16 → 
    Answers .moduleResetEntry s (fun t => t.start.rstOn = true ∧ t.start.rstPend = none ∧ t.rd F.DEV_RST_CAUSE_CAUSE = c
      ∧ t.rd F.FLT_START_STAGE = (if c = 5 then 3 else 4) ∧ t.clu = [] ∧ t.grps = [] ∧ t.quartz = QuartzSt.init ∧ t.mem = s.mem
      ∧ t.fw = s.fw ∧ t.sm = s.sm ∧ t.loops = s.loops))
  ∧ (∀ (s : State),
    s.start.rstOn = true → s.pwr.lockout = 0 → s.bit F.FLT_STAT_PKG_FAIL = false → s.rd F.AGT_STAT_STATE ≠ 9 → s.pwr.step = 6 → s.rd F.FLT_START_HOLD_AT ≠ 4 → 
    Answers .moduleResetEnd s (fun t => t.start.rstOn = false ∧ t.rd F.FLT_START_STAGE = 4 ∧ t.time.ft = 0 ∧ t.time.run = s.pwr.refclk
      ∧ t.bit F.FLT_SCAN_SCAN_EN = false ∧ t.mem = s.mem))
  ∧ (∀ (s : State),
    s.start.modLow = true → s.start.modLong = false → 
    Answers .modRstHeldLong s (fun t => t.start.modLong = true ∧ t.start.rstOn = s.start.rstOn ∧ t.sm = s.sm ∧ t.loops = s.loops))
  ∧ (∀ (s : State),
    Answers .coldReset s (fun t => t.mem = [] ∧ t.clu = [] ∧ t.grps = [] ∧ t.now = 0 ∧ t.pwr.step = 0 ∧ t.rd F.FLT_START_STAGE = 1 ∧ t.rd F.ISL_PWR_CAP_CAP_W = 600
      ∧ t.log.flash = s.log.flash ∧ t.log.ring = [] ∧ t.rd F.FLT_LOG_ACK_SEQ = s.rd F.FLT_LOG_ACK_SEQ % 2 ^ 32 ∧ t.fw.act = s.fw.act))

/-- Partition and island resets: who may ask, their phases, their ends (R135, R136, R137, R141, R142, R143, R145, R153, R631). -/
def Obligations.PartitionIslandLinkReset : Prop :=
  (∀ (s : State) (p : Part),
    s.partExists p = true → 6 ≤ s.stage → s.flag F.DEV_RST_PART_BUSY p = false → s.start.rstPend = none → s.start.rstOn = false → 
    (Answers (.partGo p .pf) s (fun t => t.flag F.DEV_RST_PART_BUSY p = true) ∧ Answers (.flrVf p) s (fun t => t.flag F.DEV_RST_PART_BUSY p = true)))
  ∧ (∀ (s : State) (p : Part),
    s.partExists p = false → 
    Answers (.partGo p .pf) s (fun t => t.bit F.DEV_RST_REJ = true ∧ Keeps s t [F.DEV_RST_REJ.key 0 0]))
  ∧ (∀ (s : State) (p : Part),
    s.flag F.DEV_RST_PART_BUSY p = true → 
    Answers (.partitionResetDone p) s (fun t => t.flag F.DEV_RST_PART_BUSY p = false ∧ t.mem = s.mem ∧ t.clu = s.clu))
  ∧ (∀ (s : State) (i : Fin 131072) (c : Ctx),
    SMap.find s.quartz.ctx i = some c → c.orphan = true → c.since + 100000000 ≤ s.now → 
    Answers (.orphanContextExpiry i) s (fun t => SMap.find t.quartz.ctx i = none ∧ t.mem = s.mem ∧ t.clu = s.clu))
  ∧ (∀ (s : State) (i : Fin 305),
    (i : Nat) ≠ 304 → s.islPres i = true → (match s.islPart i with | some p => s.bit F.HST_PART_CTL_EXPERT_EN p | none => s.bit F.FLT_EXPERT_EN_EN) = true → 6 ≤ s.stage → s.start.rstPend = none → s.start.rstOn = false → s.islResetting i = false → 
    Answers (.islandReset i .pf) s (fun t => t.islResetting i = true ∧ t.bit F.ISL_RST_GO i = true
      ∧ t.rd F.ISL_RST_COUNT i = satAt 8 (s.rd F.ISL_RST_COUNT i + 1) ∧ t.mem = s.mem))
  ∧ (∀ (s : State),
    Answers (.islandReset 304 .pf) s (fun t => t.bit F.ISL_RST_FMT_REJ 304 = true ∧ Keeps s t [F.ISL_RST_FMT_REJ.key 304 0]))
  ∧ (∀ (s : State) (i : Fin 305),
    SMap.find s.start.isl i = some 1 → 
    Answers (.islandResetDrainEnd i) s (fun t => SMap.find t.start.isl i = some 2))
  ∧ (∀ (s : State) (i : Fin 305),
    SMap.find s.start.isl i = some 2 → s.islHeld i = false → (i : Nat) < 288 → 
    Answers (.islandResetRelease i) s (fun t => t.bit F.ISL_RST_GO i = false ∧ t.islResetting i = false ∧ (t.islClk i).pinned = false
      ∧ (t.islClk i).cur = s.reqCode i ∧ t.mem = s.mem))
  ∧ (∀ (s : State) (i : Fin 305),
    (i : Nat) = 293 ∨ (i : Nat) = 294 → s.islResetting i = true → s.islPres i = true → s.islFailed i = false → 
    Answers (.islandResetTimeout i) s (fun t => t.islFailed i = true))
  ∧ (∀ (s : State),
    s.start.rstPend = none → s.start.rstOn = false → 
    Answers .perstNAssert s (fun t => t.start.perst = false ∧ t.islResetting 303 = true))

/-- Fabric time: monotonic after the first lock, loaded and compared at PPS edges, offers of neighbours, loss of the source (R126, R127, R128, R129, R130, R131). -/
def Obligations.FabricTime : Prop :=
  (∀ (t : TimeSt),
    t.ft + 3 < 2 ^ 64 → t.trim.natAbs < 1000000000 ∧ t.frac.natAbs < 1000000000 → 
    (t.ft ≤ t.tick.ft ∧ t.tick.ft ≤ t.ft + 3 ∧ (t.run = false → t.tick = t)))
  ∧ (∀ (s : State) (off : Int),
    s.time.locked1 = true → 0 ≤ (s.time.ft : Int) - off → (s.time.ft : Int) - off < 2 ^ 64 → 
    (s.time.ft ≤ (s.ftCorrect off).time.ft ∧ (1000 < off.natAbs → (s.ftCorrect off).bit F.FT_STAT_LOCK = false)
      ∧ (1000 < off → (s.ftCorrect off).time.ft = s.time.ft ∧ (s.ftCorrect off).time.lead = off.toNat)
      ∧ (off < -1000 → ((s.ftCorrect off).time.ft : Int) = s.time.ft - off)))
  ∧ (∀ (s : State) (l : Nat),
    s.time.run = true → s.start.rstOn = false → s.time.ppsLast = some l → l + 999900000 ≤ s.now → s.now ≤ l + 1000100000 → s.rd F.FT_CFG_MODE = 1 → s.bit F.FT_CFG_NEXT_ARM = true → s.time.locked1 = false → s.rd F.FT_NEXT_TIME < 2 ^ 64 → 
    Answers .ppsEdge s (fun t => t.time.ft = s.rd F.FT_NEXT_TIME ∧ t.bit F.FT_CFG_NEXT_ARM = false ∧ t.time.loaded = true ∧ t.time.ppsLast = some s.now))
  ∧ (∀ (s : State) (l : Nat),
    s.time.run = true → s.start.rstOn = false → s.time.ppsLast = some l → s.now < l + 999900000 → 
    Answers .ppsEdge s (fun t => t.rd F.FT_STAT_PPS_BAD = satAt 16 (s.rd F.FT_STAT_PPS_BAD + 1) ∧ t.time = s.time ∧ Keeps s t [F.FT_STAT_PPS_BAD.key 0 0]))
  ∧ (∀ (s : State) (v : BitVec 64),
    Answers (.ftCfgWrite .pf v) s (fun t => t.rd F.FT_CFG_MODE = (if bitsAt v.toNat 0 2 = 3 then s.rd F.FT_CFG_MODE % 4 else bitsAt v.toNat 0 2)
      ∧ t.bit F.FT_CFG_GM_ELIG = v.getLsbD 2))
  ∧ (∀ (s : State),
    Answers (.ftNextArm .pf) s (fun t => t.bit F.FT_CFG_NEXT_ARM = true ∧ Keeps s t [F.FT_CFG_NEXT_ARM.key 0 0]))
  ∧ (∀ (s : State) (l : Nat),
    s.time.ppsLast = some l → l + 3000000000 ≤ s.now → s.rd F.FT_CFG_MODE = 1 → 
    Answers .ppsSourceLost s (fun t => t.time.ppsRun = 0 ∧ t.bit F.FT_STAT_HOLDOVER = true))
  ∧ (∀ (s : State) (n : Nat),
    s.rd F.FT_CFG_MODE = 2 → s.time.follow = some n → SMap.find s.time.offers n = none → n ≠ 31 → 
    Answers .electSourceLost s (fun t => t.bit F.FT_STAT_HOLDOVER = true ∧ t.time.ft = s.time.ft))
  ∧ (∀ (s : State) (h : Nat),
    s.time.holdSince = some h → s.bit F.FT_STAT_HOLDOVER = true → h + 1000000000 ≤ s.now → 
    Answers .holdoverExpiry s (fun t => t.bit F.FT_STAT_LOCK = false ∧ t.time = s.time))
  ∧ (∀ (s : State) (n : Port),
    s.rd F.FT_CFG_MODE = 2 → s.time.run = true → s.start.rstOn = false → s.portUp n = true → s.bit F.FT_CFG_GM_ELIG = false → s.time.offers = [] → 
    Answers .ftSyncSend s (fun t => SMap.find t.time.sent n = some s.time.ft))
  ∧ (∀ (s : State) (n : Port) (p : Pkt) (rank hops src : BitVec 16),
    p.opc = 6 → s.portUp n = true → p.badHdr (decide ((n : Nat) = 16)) = false → 
    Answers (.syncReq n p rank hops src) s (fun t => SMap.find t.time.offers n = some (rank.toNat, hops.toNat, src.toNat, s.now) ∧ t.time.ft = s.time.ft))
  ∧ (∀ (s : State) (n : Port) (p : Pkt) (rank hops src : BitVec 16) (t2 t3 : BitVec 64),
    p.opc = 7 → s.portUp n = true → p.badHdr (decide ((n : Nat) = 16)) = false → SMap.find s.time.sent n = none → 
    Answers (.syncRsp n p rank hops src t2 t3) s (fun t => SMap.find t.time.offers n = some (rank.toNat, hops.toNat, src.toNat, s.now) ∧ t.time.ft = s.time.ft))

/-- The scalar instructions with a register result: what each writes to g[rd], and that all else is kept (R161, R164, R167, R172). -/
def Obligations.ScalarResults : Prop :=
  (∀ (s : State) (x : Iss) (rd ra rb : Fin 64) (a b : Word),
    s.issues x = true → (s.cl x.c).gr ra = a → (s.cl x.c).gr rb = b → 
    (Answers (.aluAdd x rd ra rb) s (SetsG x rd (a + b) s) ∧ Answers (.aluSub x rd ra rb) s (SetsG x rd (a - b) s)
      ∧ Answers (.aluAnd x rd ra rb) s (SetsG x rd (a &&& b) s) ∧ Answers (.aluOr x rd ra rb) s (SetsG x rd (a ||| b) s)
      ∧ Answers (.aluXor x rd ra rb) s (SetsG x rd (a ^^^ b) s) ∧ Answers (.andn x rd ra rb) s (SetsG x rd (a &&& ~~~b) s)
      ∧ Answers (.aluShl x rd ra rb) s (SetsG x rd (a <<< (b.toNat % 64)) s) ∧ Answers (.aluShr x rd ra rb) s (SetsG x rd (a >>> (b.toNat % 64)) s)
      ∧ Answers (.aluSar x rd ra rb) s (SetsG x rd (a.sshiftRight (b.toNat % 64)) s)))
  ∧ (∀ (s : State) (x : Iss) (rd ra rb : Fin 64) (a b : Word),
    s.issues x = true → (s.cl x.c).gr ra = a → (s.cl x.c).gr rb = b → 
    (Answers (.aluMin x rd ra rb) s (SetsG x rd (BitVec.ofInt 64 (min a.toInt b.toInt)) s) ∧ Answers (.aluMax x rd ra rb) s (SetsG x rd (BitVec.ofInt 64 (max a.toInt b.toInt)) s)
      ∧ Answers (.minu x rd ra rb) s (SetsG x rd (BitVec.ofNat 64 (min a.toNat b.toNat)) s) ∧ Answers (.maxu x rd ra rb) s (SetsG x rd (BitVec.ofNat 64 (max a.toNat b.toNat)) s)
      ∧ Answers (.aluMul x rd ra rb) s (SetsG x rd (BitVec.ofNat 64 (a.toNat * b.toNat)) s)
      ∧ Answers (.mulh x rd ra rb) s (SetsG x rd (BitVec.ofInt 64 (a.toInt * b.toInt / 2 ^ 64)) s)
      ∧ Answers (.mulhu x rd ra rb) s (SetsG x rd (BitVec.ofNat 64 (a.toNat * b.toNat / 2 ^ 64)) s)))
  ∧ (∀ (s : State) (x : Iss) (rd ra rb : Fin 64) (a b : Word),
    s.issues x = true → (s.cl x.c).gr ra = a → (s.cl x.c).gr rb = b → 
    (Answers (.aluDiv x rd ra rb) s (SetsG x rd (if b = 0 then -1 else BitVec.ofInt 64 (a.toInt.tdiv b.toInt)) s)
      ∧ Answers (.divu x rd ra rb) s (SetsG x rd (if b = 0 then -1 else a / b) s)
      ∧ Answers (.aluRem x rd ra rb) s (SetsG x rd (if b = 0 then a else BitVec.ofInt 64 (a.toInt.tmod b.toInt)) s)
      ∧ Answers (.remu x rd ra rb) s (SetsG x rd (if b = 0 then a else a % b) s)))
  ∧ (∀ (s : State) (x : Iss) (rd ra : Fin 64) (a : Word),
    s.issues x = true → (s.cl x.c).gr ra = a → 
    (Answers (.clz x rd ra) s (SetsG x rd (BitVec.ofNat 64 ((List.range 64).takeWhile (fun k => !a.getLsbD (63 - k))).length) s)
      ∧ Answers (.ctz x rd ra) s (SetsG x rd (BitVec.ofNat 64 ((List.range 64).takeWhile (fun k => !a.getLsbD k)).length) s)
      ∧ Answers (.popc x rd ra) s (SetsG x rd (BitVec.ofNat 64 ((List.range 64).filter (fun k => a.getLsbD k)).length) s)))
  ∧ (∀ (s : State) (x : Iss) (rd ra : Fin 64) (sh : Fin 64) (imm : BitVec 24) (a : Word),
    s.issues x = true → (s.cl x.c).gr ra = a → 
    (Answers (.addi x rd ra imm) s (SetsG x rd (a + imm.signExtend 64) s) ∧ Answers (.andi x rd ra imm) s (SetsG x rd (a &&& imm.signExtend 64) s)
      ∧ Answers (.ori x rd ra imm) s (SetsG x rd (a ||| imm.signExtend 64) s) ∧ Answers (.xori x rd ra imm) s (SetsG x rd (a ^^^ imm.signExtend 64) s)
      ∧ Answers (.shli x rd ra sh) s (SetsG x rd (a <<< (sh : Nat)) s) ∧ Answers (.shri x rd ra sh) s (SetsG x rd (a >>> (sh : Nat)) s)
      ∧ Answers (.sari x rd ra sh) s (SetsG x rd (a.sshiftRight sh) s) ∧ Answers (.aluLi x rd imm) s (SetsG x rd (imm.signExtend 64) s)
      ∧ Answers (.lis x rd ra imm) s (SetsG x rd (a <<< 24 ||| imm.setWidth 64) s)))
  ∧ (∀ (s : State) (x : Iss) (rd ra rb : Fin 64) (p : Fin 8) (n : Fin 64),
    s.issues x = true → 
    (Answers (.aluSel x rd ra rb p) s (SetsG x rd (if (s.cl x.c).pr p then (s.cl x.c).gr ra else (s.cl x.c).gr rb) s)
      ∧ Answers (.pTog x rd p) s (SetsG x rd (if (s.cl x.c).pr p then 1 else 0) s)
      ∧ Answers (.synRdsem x rd n) s (SetsG x rd (BitVec.ofNat 64 ((s.cl x.c).semAt n).count) s) ∧ Answers (.sysNop x) s (SetsG x 0 0 s)))

/-- Compares and predicate operations write p[rd] and nothing else; a false guard only passes the instruction (R161, R166, R167, R172). -/
def Obligations.PredicateResults : Prop :=
  (∀ (s : State) (x : Iss) (rd : Fin 8) (ra rb : Fin 64) (a b : Word),
    s.issues x = true → (s.cl x.c).gr ra = a → (s.cl x.c).gr rb = b → 
    (Answers (.cmpEq x rd ra rb) s (SetsP x rd (decide (a = b)) s) ∧ Answers (.cmpNe x rd ra rb) s (SetsP x rd (decide (a ≠ b)) s)
      ∧ Answers (.cmpLt x rd ra rb) s (SetsP x rd (decide (a.toInt < b.toInt)) s) ∧ Answers (.cmpLtu x rd ra rb) s (SetsP x rd (decide (a.toNat < b.toNat)) s)
      ∧ Answers (.cmpGe x rd ra rb) s (SetsP x rd (decide (b.toInt ≤ a.toInt)) s) ∧ Answers (.cmpGeu x rd ra rb) s (SetsP x rd (decide (b.toNat ≤ a.toNat)) s)))
  ∧ (∀ (s : State) (x : Iss) (rd : Fin 8) (ra : Fin 64) (imm : BitVec 24) (a : Word),
    s.issues x = true → (s.cl x.c).gr ra = a → 
    (Answers (.cmpiEq x rd ra imm) s (SetsP x rd (decide (a = imm.signExtend 64)) s) ∧ Answers (.cmpiLt x rd ra imm) s (SetsP x rd (decide (a.toInt < imm.toInt)) s)
      ∧ Answers (.cmpiLtu x rd ra imm) s (SetsP x rd (decide (a.toNat < (imm.signExtend 64).toNat)) s) ∧ Answers (.pFromg x rd ra) s (SetsP x rd (decide (a ≠ 0)) s)))
  ∧ (∀ (s : State) (x : Iss) (rd ra rb : Fin 8) (a b : Bool),
    s.issues x = true → (s.cl x.c).pr ra = a → (s.cl x.c).pr rb = b → 
    (Answers (.pAnd x rd ra rb) s (SetsP x rd (a && b) s) ∧ Answers (.pOr x rd ra rb) s (SetsP x rd (a || b) s)
      ∧ Answers (.pXor x rd ra rb) s (SetsP x rd (a != b) s) ∧ Answers (.pAndn x rd ra rb) s (SetsP x rd (a && !b) s)))
  ∧ (∀ (s : State) (x : Iss) (rd ra rb : Fin 64) (n : Fin 64) (imm : BitVec 24),
    s.reaches x = true → x.res = false → (s.cl x.c).guard x = false → 
    (Answers (.aluAdd x rd ra rb) s (SetsG x 0 0 s) ∧ Answers (.stD x rd ra imm) s (SetsG x 0 0 s) ∧ Answers (.brJ x imm) s (SetsG x 0 0 s)
      ∧ Answers (.synSig x ra rb) s (SetsG x 0 0 s) ∧ Answers (.dmaWait x n) s (SetsG x 0 0 s) ∧ Answers (.sysHalt x) s (SetsG x 0 0 s)))

/-- A branch to a legal target goes there with its link; any other target faults with ADDR at the branch (R173). -/
def Obligations.BranchTargets : Prop :=
  (∀ (s : State) (x : Iss) (rd ra : Fin 64) (n : Nat),
    s.issues x = true → ((s.cl x.c).gr ra).toNat = n → 
    ((n % 4 = 0 ∧ (s.cl x.c).codeBase ≤ n ∧ n < (s.cl x.c).codeLim →
      Answers (.brJr x ra) s (JumpsTo x 0 0 n s) ∧ Answers (.brJalr x rd ra) s (JumpsTo x rd (BitVec.ofNat 64 ((s.cl x.c).pc + ilen x.long)) n s))
      ∧ (n % 4 ≠ 0 → Answers (.brJr x ra) s (Faults x 0x0204 n s) ∧ Answers (.brJalr x rd ra) s (Faults x 0x0204 n s))
      ∧ (n % 4 = 0 → n < (s.cl x.c).codeBase ∨ (s.cl x.c).codeLim ≤ n → Answers (.brJr x ra) s (Faults x 0x0404 n s) ∧ Answers (.brJalr x rd ra) s (Faults x 0x0404 n s))))
  ∧ (∀ (s : State) (x : Iss) (rd : Fin 64) (off : BitVec 24) (n : Nat),
    s.issues x = true → (BitVec.ofInt 64 ((s.cl x.c).pc + off.toInt * 4)).toNat = n → 
    ((n % 4 = 0 ∧ (s.cl x.c).codeBase ≤ n ∧ n < (s.cl x.c).codeLim →
      Answers (.brJ x off) s (JumpsTo x 0 0 n s) ∧ Answers (.brJal x rd off) s (JumpsTo x rd (BitVec.ofNat 64 ((s.cl x.c).pc + 8)) n s))
      ∧ (n % 4 ≠ 0 → Answers (.brJ x off) s (Faults x 0x0204 n s) ∧ Answers (.brJal x rd off) s (Faults x 0x0204 n s))
      ∧ (n % 4 = 0 → n < (s.cl x.c).codeBase ∨ (s.cl x.c).codeLim ≤ n → Answers (.brJ x off) s (Faults x 0x0404 n s) ∧ Answers (.brJal x rd off) s (Faults x 0x0404 n s))))
  ∧ (∀ (s : State) (x : Iss) (p : Fin 8) (inv : Bool) (off : BitVec 14) (n : Nat),
    s.issues x = true → (BitVec.ofInt 64 ((s.cl x.c).pc + off.toInt * 4)).toNat = n → 
    (((s.cl x.c).pr p = inv → Answers (.brBc x p inv off) s (SetsG x 0 0 s))
      ∧ ((s.cl x.c).pr p ≠ inv → n % 4 = 0 ∧ (s.cl x.c).codeBase ≤ n ∧ n < (s.cl x.c).codeLim → Answers (.brBc x p inv off) s (JumpsTo x 0 0 n s))
      ∧ ((s.cl x.c).pr p ≠ inv → n % 4 ≠ 0 → Answers (.brBc x p inv off) s (Faults x 0x0204 n s))
      ∧ ((s.cl x.c).pr p ≠ inv → n % 4 = 0 → n < (s.cl x.c).codeBase ∨ (s.cl x.c).codeLim ≤ n → Answers (.brBc x p inv off) s (Faults x 0x0404 n s))))

/-- Own-SRAM loads and stores: the value, the bytes stored, and every other byte of memory kept (R162, R174, R177, R201, R215). -/
def Obligations.LoadsAndStores : Prop :=
  (∀ (s : State) (x : Iss) (rd ra : Fin 64) (imm : BitVec 24) (off : Nat),
    s.issues x = true → s.tnsIdle x.c = true → ((s.cl x.c).gr ra + imm.signExtend 64).toNat = off → off < 0x400000 → s.psnAt (sramAt x.c off - sramAt x.c off % 8) = false → 
    (Answers (.ldB x rd ra imm) s (SetsG x rd ((s.mem1 (sramAt x.c off)).signExtend 64) s) ∧ Answers (.ldBu x rd ra imm) s (SetsG x rd ((s.mem1 (sramAt x.c off)).setWidth 64) s)
      ∧ (((s.cl x.c).hitsCode off 1) = false → Answers (.stB x rd ra imm) s (Stores x (sramAt x.c off) 1 ((s.cl x.c).gr rd).toNat s))))
  ∧ (∀ (s : State) (x : Iss) (rd ra : Fin 64) (imm : BitVec 24) (off : Nat),
    s.issues x = true → s.tnsIdle x.c = true → ((s.cl x.c).gr ra + imm.signExtend 64 * 2).toNat = off → off < 0x400000 → off % 2 = 0 → s.psnAt (sramAt x.c off - sramAt x.c off % 8) = false → 
    (Answers (.ldH x rd ra imm) s (SetsG x rd ((BitVec.ofNat 16 (s.memN (sramAt x.c off) 2)).signExtend 64) s)
      ∧ Answers (.ldHu x rd ra imm) s (SetsG x rd (BitVec.ofNat 64 (s.memN (sramAt x.c off) 2)) s)
      ∧ (((s.cl x.c).hitsCode off 2) = false → Answers (.stH x rd ra imm) s (Stores x (sramAt x.c off) 2 ((s.cl x.c).gr rd).toNat s))))
  ∧ (∀ (s : State) (x : Iss) (rd ra : Fin 64) (imm : BitVec 24) (off : Nat),
    s.issues x = true → s.tnsIdle x.c = true → ((s.cl x.c).gr ra + imm.signExtend 64 * 4).toNat = off → off < 0x400000 → off % 4 = 0 → s.psnAt (sramAt x.c off - sramAt x.c off % 8) = false → 
    (Answers (.ldW x rd ra imm) s (SetsG x rd ((BitVec.ofNat 32 (s.memN (sramAt x.c off) 4)).signExtend 64) s)
      ∧ Answers (.ldWu x rd ra imm) s (SetsG x rd (BitVec.ofNat 64 (s.memN (sramAt x.c off) 4)) s)
      ∧ (((s.cl x.c).hitsCode off 4) = false → Answers (.stW x rd ra imm) s (Stores x (sramAt x.c off) 4 ((s.cl x.c).gr rd).toNat s))))
  ∧ (∀ (s : State) (x : Iss) (rd ra : Fin 64) (imm : BitVec 24) (off : Nat),
    s.issues x = true → s.tnsIdle x.c = true → ((s.cl x.c).gr ra + imm.signExtend 64 * 8).toNat = off → off < 0x400000 → off % 8 = 0 → s.psnAt (sramAt x.c off) = false → 
    (Answers (.ldD x rd ra imm) s (SetsG x rd (BitVec.ofNat 64 (s.memN (sramAt x.c off) 8)) s)
      ∧ (((s.cl x.c).hitsCode off 8) = false → Answers (.stD x rd ra imm) s (Stores x (sramAt x.c off) 8 ((s.cl x.c).gr rd).toNat s))))
  ∧ (∀ (s : State) (x : Iss) (rd ra : Fin 64) (imm : BitVec 24) (off : Nat),
    s.issues x = true → s.tnsIdle x.c = true → ((s.cl x.c).gr ra + imm.signExtend 64 * 8).toNat = off → 
    ((0x400000 ≤ off → Answers (.ldD x rd ra imm) s (Faults x 0x0304 off s) ∧ Answers (.stD x rd ra imm) s (Faults x 0x0304 off s))
      ∧ (off < 0x400000 → off % 8 ≠ 0 → Answers (.ldD x rd ra imm) s (Faults x 0x0204 off s) ∧ Answers (.stD x rd ra imm) s (Faults x 0x0204 off s))
      ∧ (off < 0x400000 → off % 8 = 0 → s.psnAt (sramAt x.c off) = true → Answers (.ldD x rd ra imm) s (Faults x 0x010C off s))
      ∧ (off < 0x400000 → off % 8 = 0 → (s.cl x.c).codeBase < off + 8 → off < (s.cl x.c).codeLim → Answers (.stD x rd ra imm) s (Faults x 0x0105 off s))))
  ∧ (∀ (s : State) (x : Iss) (rd : Fin 32) (ra : Fin 64) (imm : BitVec 24) (off : Nat),
    s.issues x = true → s.tnsIdle x.c = true → ((s.cl x.c).gr ra + imm.signExtend 64 * 64).toNat = off → off + 256 ≤ 0x400000 → off % 64 = 0 → bitAt (s.cl x.c).vBusy rd = false → s.psnRange (sramAt x.c off) 256 = false → 
    (Answers (.ldV x rd ra imm) s (fun t => (∀ k, k < 64 → ((t.cl x.c).vr rd)[k]? = some (BitVec.ofNat 32 (s.memN (sramAt x.c off + 4 * k) 4))) ∧ bitAt (t.cl x.c).vpsn rd = false
      ∧ (t.cl x.c).pc = (s.cl x.c).pc + ilen x.long ∧ (t.cl x.c).g = (s.cl x.c).g ∧ (∀ r, r ≠ rd → (t.cl x.c).vr r = (s.cl x.c).vr r) ∧ ElseKept x.c s t)
      ∧ ((s.cl x.c).hitsCode off 256 = false → bitAt (s.cl x.c).vpsn rd = false → ((s.cl x.c).vr rd).length = 64 →
      Answers (.stV x rd ra imm) s (fun t => (∀ k, k < 64 → some (BitVec.ofNat 32 (t.memN (sramAt x.c off + 4 * k) 4)) = ((s.cl x.c).vr rd)[k]?)
      ∧ (∀ a, a < sramAt x.c off ∨ sramAt x.c off + 256 ≤ a → t.mem1 a = s.mem1 a) ∧ t.cl x.c = { s.cl x.c with pc := (s.cl x.c).pc + ilen x.long }
      ∧ ElseKept x.c { s with mem := t.mem, psn := t.psn } t))))
  ∧ (∀ (s : State) (x : Iss) (rd : Fin 32) (ra : Fin 64) (imm : BitVec 24) (off : Nat),
    s.issues x = true → s.tnsIdle x.c = true → ((s.cl x.c).gr ra + imm.signExtend 64 * 64).toNat = off → bitAt (s.cl x.c).vBusy rd = false → off < 0x400000 ∧ off % 64 ≠ 0 → 
    (Answers (.ldV x rd ra imm) s (Faults x 0x0204 off s) ∧ Answers (.stV x rd ra imm) s (Faults x 0x0204 off s)))

/-- Atomics return the old value and replace the word; faults are recorded and delivered by mode (R162, R163, R168, R175, R176, R197, R198, R199, R38). -/
def Obligations.AtomicsAndFaultDelivery : Prop :=
  (∀ (s : State) (x : Iss) (rd ra rb : Fin 64) (op : BitVec 4) (off p : Nat),
    s.issues x = true → s.tnsIdle x.c = true → (s.cl x.c).gr ra = BitVec.ofNat 64 (0xFFFE * 2 ^ 48 + sramAt x.c off) → off < 0x400000 → s.cluPart x.c = some p → s.islResetting (s.cluIsland x.c) = false → s.fenced 0xFFFE = false → s.rd F.QTZ_ID_ASSUMED ≠ 0xFFFE → s.psnAt (sramAt x.c off - sramAt x.c off % 8) = false → 
    ((off % 4 = 0 → (s.cl x.c).hitsCode off 4 = false → op.toNat < 9 →
      Answers (.amoW x rd ra rb op) s (fun t => (t.cl x.c).gr rd = (if rd = 0 then 0 else BitVec.ofNat 64 (s.memN (sramAt x.c off) 4))
      ∧ t.memN (sramAt x.c off) 4 = atomicOp op.toNat 4 (s.memN (sramAt x.c off) 4) ((s.cl x.c).gr rb).toNat 0
      ∧ (∀ a, a < sramAt x.c off ∨ sramAt x.c off + 4 ≤ a → t.mem1 a = s.mem1 a) ∧ (t.cl x.c).pc = (s.cl x.c).pc + ilen x.long
      ∧ (∀ r, r ≠ (rd : Nat) → (t.cl x.c).gr r = (s.cl x.c).gr r) ∧ ElseKept x.c { s with mem := t.mem, psn := t.psn } t))
      ∧ (off % 8 = 0 → (s.cl x.c).hitsCode off 8 = false →
      Answers (.amoD x rd ra rb 9) s (fun t => (t.cl x.c).gr rd = (if rd = 0 then 0 else BitVec.ofNat 64 (s.memN (sramAt x.c off) 8))
      ∧ t.memN (sramAt x.c off) 8 = (if s.memN (sramAt x.c off) 8 = ((s.cl x.c).gr rd).toNat then ((s.cl x.c).gr rb).toNat else s.memN (sramAt x.c off) 8)
      ∧ (∀ a, a < sramAt x.c off ∨ sramAt x.c off + 8 ≤ a → t.mem1 a = s.mem1 a) ∧ (t.cl x.c).pc = (s.cl x.c).pc + ilen x.long
      ∧ (∀ r, r ≠ (rd : Nat) → (t.cl x.c).gr r = (s.cl x.c).gr r) ∧ ElseKept x.c { s with mem := t.mem, psn := t.psn } t))))
  ∧ (∀ (s : State) (x : Iss) (rd ra rb : Fin 64) (op : BitVec 4) (a : Nat),
    s.issues x = true → s.tnsIdle x.c = true → ((s.cl x.c).gr ra).toNat = a → 
    ((a / 2 ^ 48 = 0xFFFF → op.toNat < 10 → Answers (.amoW x rd ra rb op) s (Faults x 0x0504 a s) ∧ Answers (.amoD x rd ra rb op) s (Faults x 0x0504 a s))
      ∧ (a / 2 ^ 48 ≠ 0xFFFF → a % 4 ≠ 0 → op.toNat < 10 → Answers (.amoW x rd ra rb op) s (Faults x 0x0204 a s) ∧ Answers (.amoD x rd ra rb op) s (Faults x 0x0204 a s))
      ∧ (10 ≤ op.toNat → Answers (.amoD x rd ra rb op) s (Faults x 0x0103 0 s)) ∧ (11 ≤ op.toNat → Answers (.amoW x rd ra rb op) s (Faults x 0x0103 0 s))))
  ∧ (∀ (s : State) (x : Iss),
    s.reaches x = true → 
    (Answers (.undefinedInstruction x) s (Faults x 0x0103 0 s) ∧ (x.res = true → Answers (.sysNop x) s (Faults x 0x0203 0 s))))
  ∧ (∀ (s : State) (x : Iss),
    (s.cl x.c).ready = true → s.cluHeld x.c = false → (s.cl x.c).inCode x.long = false → 
    Answers (.fetchOutsideCodeRange x) s (Faults x 0x0404 (s.cl x.c).pc s))
  ∧ (∀ (s : State) (x : Iss),
    s.issues x = true → 
    (((s.cl x.c).inh = false → Answers (.sysFret x) s (Faults x 0x0503 0 s))
      ∧ ((s.cl x.c).inh = true → (s.cl x.c).fpc % 4 = 0 → (s.cl x.c).fpc < 2 ^ 22 →
      Answers (.sysFret x) s (fun t => t.cl x.c = { s.cl x.c with inh := false, pc := (s.cl x.c).fpc } ∧ ElseKept x.c s t))))
  ∧ (∀ (s : State) (x : Iss) (rd n : Fin 64) (v : Nat),
    s.issues x = true → 
    ((s.ctl x.c n = some v → (n : Nat) ≠ 4 → Answers (.sysCtlr x rd n) s (SetsG x rd (BitVec.ofNat 64 v) s))
      ∧ ((n : Nat) = 4 → Answers (.sysCtlr x rd n) s (fun t => (t.cl x.c).pc = (s.cl x.c).pc + ilen x.long ∧ (∀ r, r ≠ (rd : Nat) → (t.cl x.c).gr r = (s.cl x.c).gr r) ∧ t.mem = s.mem))
      ∧ ((9 ≤ (n : Nat) ∧ (n : Nat) < 16 ∨ (n : Nat) = 23 ∨ (n : Nat) = 30 ∨ (n : Nat) = 31 ∨ 32 < (n : Nat)) → Answers (.sysCtlr x rd n) s (Faults x 0x0303 0 s))))
  ∧ (∀ (s : State) (x : Iss) (ra : Fin 64) (v : Nat),
    s.issues x = true → ((s.cl x.c).gr ra).toNat = v → 
    ((v ≤ 1 → Answers (.sysCtlw x 16 ra) s (Passes x { s.cl x.c with fmode := v } s)) ∧ (1 < v → Answers (.sysCtlw x 16 ra) s (Faults x 0x0303 0 s))
      ∧ (v % 4 = 0 → (s.cl x.c).codeBase ≤ v → v < (s.cl x.c).codeLim → Answers (.sysCtlw x 17 ra) s (Passes x { s.cl x.c with fvec := v } s))
      ∧ (0 < v → v ≤ 10000000 → Answers (.sysCtlw x 24 ra) s (Passes x { s.cl x.c with waitLim := v } s))
      ∧ (v ≤ 1 → s.cluExpert x.c = true → Answers (.sysCtlw x 32 ra) s (Passes x { s.cl x.c with dmavc := v } s))
      ∧ (v ≤ 1 → s.cluExpert x.c = false → Answers (.sysCtlw x 32 ra) s (Faults x 0x0205 0 s)) ∧ Answers (.sysCtlw x 0 ra) s (Faults x 0x0303 0 s)))

/-- DMA: the start of a transfer, its blocks within the cluster, its completion, waits and status (R178, R179, R180, R181, R188, R189, R200). -/
def Obligations.DmaTransfers : Prop :=
  (∀ (s : State) (x : Iss) (rd ra rb : Fin 64) (imm : BitVec 24) (d a n : Nat),
    s.issues x = true → s.tnsIdle x.c = true → imm.toNat < 2 ^ 13 → ((s.cl x.c).slotAt (imm.toNat % 64)).busy = false → ((s.cl x.c).slotAt (imm.toNat % 64)).unrep = false → ((s.cl x.c).gr rd).toNat = d → ((s.cl x.c).gr ra).toNat = a → ((s.cl x.c).gr rb).toNat = n → n < 2 ^ 32 ∧ d / 2 ^ 48 ≠ 0xFFFF ∧ a / 2 ^ 48 ≠ 0xFFFF → d % 2 ^ 48 + n ≤ a % 2 ^ 48 ∨ a % 2 ^ 48 + n ≤ d % 2 ^ 48 → 
    Answers (.dmaCp x rd ra rb imm) s (fun t => ((t.cl x.c).slotAt (imm.toNat % 64)).busy = true ∧ ((t.cl x.c).slotAt (imm.toNat % 64)).code = 0
      ∧ ((t.cl x.c).slotAt (imm.toNat % 64)).x.dst = d ∧ ((t.cl x.c).slotAt (imm.toNat % 64)).x.src = a ∧ ((t.cl x.c).slotAt (imm.toNat % 64)).x.rowBytes = n
      ∧ ((t.cl x.c).slotAt (imm.toNat % 64)).x.rows = 1 ∧ ((t.cl x.c).slotAt (imm.toNat % 64)).x.sem = imm.toNat / 64 % 64
      ∧ ((t.cl x.c).slotAt (imm.toNat % 64)).x.sig = imm.getLsbD 12 ∧ ((t.cl x.c).slotAt (imm.toNat % 64)).x.done = 0
      ∧ (t.cl x.c).pc = (s.cl x.c).pc + ilen x.long ∧ (t.cl x.c).g = (s.cl x.c).g ∧ (t.cl x.c).sems = (s.cl x.c).sems ∧ ElseKept x.c s t))
  ∧ (∀ (s : State) (x : Iss) (ra : Fin 64) (imm : BitVec 24) (m : Xfer),
    s.issues x = true → s.tnsIdle x.c = true → imm.toNat < 2 ^ 13 → ((s.cl x.c).slotAt (imm.toNat % 64)).busy = false → ((s.cl x.c).slotAt (imm.toNat % 64)).unrep = false → s.dmaDesc x.c ⟨.cp2, false, 0, ra, 0, imm.toNat⟩ = (0, m) → s.xferCode m = 0 → 
    Answers (.dmaCp2 x ra imm) s (fun t => ((t.cl x.c).slotAt (imm.toNat % 64)).busy = true ∧ ((t.cl x.c).slotAt (imm.toNat % 64)).x = m
      ∧ (t.cl x.c).pc = (s.cl x.c).pc + ilen x.long ∧ (t.cl x.c).g = (s.cl x.c).g ∧ ElseKept x.c s t))
  ∧ (∀ (s : State) (x : Iss) (ra : Fin 64) (imm : BitVec 24) (m : Xfer),
    s.issues x = true → s.tnsIdle x.c = true → imm.toNat < 2 ^ 13 → s.cluExpert x.c = true → ((s.cl x.c).slotAt (imm.toNat % 64)).busy = false → ((s.cl x.c).slotAt (imm.toNat % 64)).unrep = false → s.dmaDesc x.c ⟨.cpx, false, 0, ra, 0, imm.toNat⟩ = (0, m) → s.xferCode m = 0 → 
    Answers (.dmaCpx x ra imm) s (fun t => ((t.cl x.c).slotAt (imm.toNat % 64)).busy = true ∧ ((t.cl x.c).slotAt (imm.toNat % 64)).x = m
      ∧ (t.cl x.c).pc = (s.cl x.c).pc + ilen x.long ∧ (t.cl x.c).g = (s.cl x.c).g ∧ ElseKept x.c s t))
  ∧ (∀ (s : State) (x : Iss) (rd ra rb : Fin 64) (imm : BitVec 24),
    s.issues x = true → s.tnsIdle x.c = true → imm.toNat < 2 ^ 13 → 
    ((s.cluExpert x.c = false → Answers (.dmaCpx x ra imm) s (Faults x 0x0205 0 s))
      ∧ (((s.cl x.c).slotAt (imm.toNat % 64)).busy = true →
      Answers (.dmaCp x rd ra rb imm) s (fun t => (t.cl x.c).wait = some (.dmaSlot ⟨.cp, false, rd, ra, rb, imm.toNat⟩ (imm.toNat % 64)) ∧ (t.cl x.c).pc = (s.cl x.c).pc ∧ ElseKept x.c s t))))
  ∧ (∀ (s : State) (c : Clu) (r : DmaReq) (m : Xfer),
    (s.cl c).wait = some (.dmaSlot r (r.imm % 64)) → ((s.cl c).slotAt (r.imm % 64)).busy = false → ((s.cl c).slotAt (r.imm % 64)).unrep = false → s.dmaDesc c r = (0, m) → s.xferCode m = 0 → 
    Answers (.dmaIssueResume c) s (fun t => (t.cl c).wait = none ∧ ((t.cl c).slotAt (r.imm % 64)).busy = true ∧ ((t.cl c).slotAt (r.imm % 64)).x = m
      ∧ (t.cl c).pc = (s.cl c).pc + ilen (s.cl c).waitLong ∧ (t.cl c).g = (s.cl c).g ∧ ElseKept c s t))
  ∧ (∀ (s : State) (c : Clu) (n : Fin 64) (a b len p : Nat),
    s.cl c = { s.cl c with slots := [((n : Nat), { DmaSlot.init with busy := true, x := { Xfer.init with dst := 0xFFFE * 2 ^ 48 + a, src := 0xFFFE * 2 ^ 48 + b, rowBytes := len, rows := 1 } })] } → s.cluPart c = some p → s.islResetting (s.cluIsland c) = false → s.fenced 0xFFFE = false → s.rd F.QTZ_ID_ASSUMED ≠ 0xFFFE → 0 < len ∧ len ≤ 4096 → sramAt c 0 ≤ a ∧ a + len ≤ sramAt c 0 + 0x400000 → sramAt c 0 ≤ b ∧ b + len ≤ sramAt c 0 + 0x400000 → (s.cl c).run = false ∨ a + len ≤ sramAt c (s.cl c).codeBase ∨ sramAt c (s.cl c).codeLim ≤ a → s.psnRange b len = false → 
    Answers (.dmaBlockSend c n) s (fun t => t.memL a len = s.memL b len ∧ (∀ q, q < a ∨ a + len ≤ q → t.mem1 q = s.mem1 q)
      ∧ ((t.cl c).slotAt n).x.done = len ∧ ((t.cl c).slotAt n).code = 0 ∧ (t.cl c).g = (s.cl c).g ∧ t.regs = s.regs))
  ∧ (∀ (s : State) (c : Clu) (n : Fin 64) (m : DmaSlot),
    (s.cl c).slotAt n = m → m.finished = true → m.x.sigDest = false → 
    Answers (.dmaSlotComplete c n) s (fun t => (t.cl c).slotAt n = { m with busy := false, unrep := decide (m.code ≠ 0) }
      ∧ (m.x.sig = true → (t.cl c).semAt m.x.sem = (if m.code = 0 then ((s.cl c).semAt m.x.sem).add 1 else { (s.cl c).semAt m.x.sem with psn := true }))
      ∧ (m.x.sig = false → (t.cl c).sems = (s.cl c).sems) ∧ (t.cl c).g = (s.cl c).g ∧ ElseKept c s t))
  ∧ (∀ (s : State) (x : Iss) (n : Fin 64),
    s.issues x = true → ((s.cl x.c).slotAt n).busy = false → 
    ((((s.cl x.c).slotAt n).unrep = false → Answers (.dmaWait x n) s (SetsG x 0 0 s))
      ∧ (((s.cl x.c).slotAt n).unrep = true → Answers (.dmaWait x n) s (fun t => ((t.cl x.c).slotAt n).unrep = false
      ∧ FaultsAt x.c ((s.cl x.c).slotAt n).code 0 (x.long.toNat + 4 + 8 * n + ((s.cl x.c).slotAt n).code * 65536) s t))))
  ∧ (∀ (s : State) (x : Iss),
    s.issues x = true → (s.cl x.c).slots = [] → 
    Answers (.dmaWaitall x) s (SetsG x 0 0 s))
  ∧ (∀ (s : State) (c : Clu) (n : Nat),
    (s.cl c).wait = some (.dmaWait n) → ((s.cl c).slotAt n).busy = false → ((s.cl c).slotAt n).unrep = false → 
    Answers (.dmaWaitDone c) s (fun t => t.cl c = { s.cl c with wait := none, pc := (s.cl c).pc + ilen (s.cl c).waitLong } ∧ ElseKept c s t))
  ∧ (∀ (s : State) (x : Iss) (rd n : Fin 64),
    s.issues x = true → 
    Answers (.dmaStat x rd n) s (SetsG x rd (BitVec.ofNat 64 (((s.cl x.c).slotAt n).code + (if ((s.cl x.c).slotAt n).busy then 2 ^ 16 else 0) + (if ((s.cl x.c).slotAt n).unrep then 2 ^ 17 else 0))) s))

/-- Semaphores, signals, waits, SYN.POST and SYS.HALT (R181, R182, R183, R185, R186, R187, R188, R191, R200). -/
def Obligations.SemaphoresAndSignals : Prop :=
  (∀ (m : Sem) (v : Nat),
    ((m.count + v < 2 ^ 32 → m.add v = { m with count := m.count + v }) ∧ (2 ^ 32 ≤ m.count + v → m.add v = { m with count := 0xFFFFFFFF, ovf := true })))
  ∧ (∀ (s : State) (x : Iss) (n : Fin 64) (imm : BitVec 24),
    s.issues x = true → s.tnsIdle x.c = true → 
    Answers (.synSigl x n imm) s (fun t => (t.cl x.c).semAt n = ((s.cl x.c).semAt n).add imm.toNat ∧ (∀ q, q ≠ (n : Nat) → (t.cl x.c).semAt q = (s.cl x.c).semAt q)
      ∧ (t.cl x.c).pc = (s.cl x.c).pc + ilen x.long ∧ (t.cl x.c).g = (s.cl x.c).g ∧ ElseKept x.c s t))
  ∧ (∀ (s : State) (x : Iss) (ra rb : Fin 64) (c : Clu) (n : Fin 64),
    s.issues x = true → s.tnsIdle x.c = true → (s.cl x.c).gr ra = BitVec.ofNat 64 (0xFFFE * 2 ^ 48 + c * 256 + n) → s.rd F.QTZ_ID_ASSUMED ≠ 0xFFFE → 
    Answers (.synSig x ra rb) s (fun t => t.quartz.sigs = s.quartz.sigs ++ [⟨x.c, c, n, ((s.cl x.c).gr rb).toNat % 2 ^ 32⟩] ∧ (t.cl x.c).sigOut = (s.cl x.c).sigOut + 1
      ∧ (t.cl x.c).pc = (s.cl x.c).pc + ilen x.long ∧ (t.cl x.c).g = (s.cl x.c).g ∧ t.mem = s.mem ∧ t.regs = s.regs))
  ∧ (∀ (s : State) (c : Clu) (n : Fin 64) (src v : Nat) (p : Nat),
    s.quartz.sigs = [⟨src, c, n, v⟩] → src ≠ c → s.cluPart src = some p → 
    ((s.cluPart c = some p → s.islResetting (s.cluIsland c) = false → Answers (.signalArrive c n) s (fun t => (t.cl c).semAt n = ((s.cl c).semAt n).add v
      ∧ (t.cl src).sigOut = (s.cl src).sigOut - 1 ∧ (t.cl src).sigerr = (s.cl src).sigerr ∧ t.quartz.sigs = [] ∧ t.mem = s.mem ∧ t.regs = s.regs))
      ∧ (s.cluPart c ≠ some p → Answers (.signalArrive c n) s (fun t => t.cl c = s.cl c ∧ (t.cl src).sigerr = (s.cl src).sigerr + 1 ∧ (t.cl src).sigOut = (s.cl src).sigOut - 1))))
  ∧ (∀ (s : State) (x : Iss) (n : Fin 64) (imm : BitVec 24) (rd : Fin 8) (m : Sem),
    s.issues x = true → (s.cl x.c).semAt n = m → 
    ((m.psn = false → imm.toNat ≤ m.count → Answers (.synWait x n imm) s (fun t => (t.cl x.c).semAt n = { m with count := m.count - imm.toNat }
      ∧ (t.cl x.c).pc = (s.cl x.c).pc + ilen x.long ∧ (t.cl x.c).wait = none ∧ (t.cl x.c).g = (s.cl x.c).g ∧ ElseKept x.c s t))
      ∧ (m.psn = false → m.count < imm.toNat → Answers (.synWait x n imm) s (fun t => t.cl x.c = { s.cl x.c with wait := some (.sem n imm.toNat s.now), waitLong := x.long } ∧ ElseKept x.c s t))
      ∧ (m.psn = true → Answers (.synWait x n imm) s (fun t => (t.cl x.c).semAt n = { m with psn := false } ∧ FaultsAt x.c 0x020C 0 (x.long.toNat + 8 * n) s t))
      ∧ (m.psn = false → imm.toNat ≤ m.count → Answers (.synTry x rd n imm) s (fun t => (t.cl x.c).semAt n = { m with count := m.count - imm.toNat } ∧ (t.cl x.c).pr rd = true
      ∧ (t.cl x.c).pc = (s.cl x.c).pc + ilen x.long ∧ (t.cl x.c).g = (s.cl x.c).g ∧ ElseKept x.c s t))
      ∧ (m.psn = false → m.count < imm.toNat → Answers (.synTry x rd n imm) s (SetsP x rd false s))))
  ∧ (∀ (s : State) (c : Clu) (n need since : Nat),
    (s.cl c).wait = some (.sem n need since) → ((s.cl c).semAt n).psn = false → 
    ((need ≤ ((s.cl c).semAt n).count → Answers (.synWaitSatisfied c) s (fun t => (t.cl c).wait = none ∧ (t.cl c).semAt n = { (s.cl c).semAt n with count := ((s.cl c).semAt n).count - need }
      ∧ (t.cl c).pc = (s.cl c).pc + ilen (s.cl c).waitLong ∧ (t.cl c).g = (s.cl c).g ∧ ElseKept c s t))
      ∧ (((s.cl c).semAt n).count < need → (s.cl c).waitLim ≠ 0 → Answers (.synWaitTimeout c) s (fun t => (t.cl c).sems = (s.cl c).sems ∧ (t.cl c).wait = none
      ∧ FaultsAt c 7 0 ((s.cl c).waitLong.toNat + 8 * n) s t))))
  ∧ (∀ (s : State) (x : Iss) (ra : Fin 64) (v : Nat),
    s.issues x = true → ((s.cl x.c).gr ra).toNat = v → 
    ((v ≤ s.time.ft → Answers (.synTwait x ra) s (SetsG x 0 0 s)) ∧ (s.time.ft + 2 ^ 36 < v → Answers (.synTwait x ra) s (Faults x 0x0503 0 s))
      ∧ (s.time.ft < v → v ≤ s.time.ft + 2 ^ 36 → Answers (.synTwait x ra) s (fun t => t.cl x.c = { s.cl x.c with wait := some (.time v), waitLong := x.long } ∧ ElseKept x.c s t))))
  ∧ (∀ (s : State) (c : Clu) (v : Nat),
    (s.cl c).wait = some (.time v) → v ≤ s.time.ft → 
    Answers (.synTwaitExpire c) s (fun t => t.cl c = { s.cl c with wait := none, pc := (s.cl c).pc + ilen (s.cl c).waitLong } ∧ ElseKept c s t))
  ∧ (∀ (s : State) (x : Iss),
    s.issues x = true → (s.cl x.c).sigOut = 0 → (s.cl x.c).sigerr = 0 → 
    Answers (.synDrain x) s (SetsG x 0 0 s))
  ∧ (∀ (s : State) (c : Clu),
    (s.cl c).wait = some .drain → (s.cl c).sigOut = 0 → (s.cl c).sigerr = 0 → 
    Answers (.synDrainDone c) s (fun t => t.cl c = { s.cl c with wait := none, pc := (s.cl c).pc + ilen (s.cl c).waitLong } ∧ ElseKept c s t))
  ∧ (∀ (s : State) (x : Iss) (ra : Fin 64),
    s.issues x = true → 
    ((s.ringLive (s.cl x.c).ring = false → Answers (.synPost x ra) s (fun t => t.cl x.c = { s.cl x.c with pc := (s.cl x.c).pc + ilen x.long }
      ∧ t.rd F.HST_STAT_CQ_LOST = satAt 32 (s.rd F.HST_STAT_CQ_LOST + 1) ∧ Keeps { s with clu := t.clu } t [F.HST_STAT_CQ_LOST.key 0 0]))
      ∧ (s.ringLive (s.cl x.c).ring = true → s.ringFull (s.cl x.c).ring = false → (s.ringSt (s.cl x.c).ring).waiting = [] →
      Answers (.synPost x ra) s (fun t => t.cl x.c = { s.cl x.c with pc := (s.cl x.c).pc + ilen x.long } ∧ t.mem = s.mem
      ∧ ∃ o, t.host.out = o :: s.host.out ∧ o.ring = (s.cl x.c).ring ∧ o.e.kind = 2 ∧ o.e.cluster = x.c ∧ o.e.value = ((s.cl x.c).gr ra).toNat))
      ∧ (s.postBlocked (s.cl x.c).ring = true → Answers (.synPost x ra) s (fun t => (t.cl x.c).wait = some (.post ((s.cl x.c).gr ra).toNat) ∧ (t.cl x.c).pc = (s.cl x.c).pc))))
  ∧ (∀ (s : State) (c : Clu) (v : Nat),
    (s.cl c).wait = some (.post v) → s.postBlocked (s.cl c).ring = false → 
    Answers (.synPostResume c) s (fun t => t.cl c = { s.cl c with wait := none, pc := (s.cl c).pc + ilen (s.cl c).waitLong } ∧ t.mem = s.mem))
  ∧ (∀ (s : State) (x : Iss),
    s.issues x = true → s.haltReady x.c = true → (s.cl x.c).slots = [] → (s.cl x.c).clx = [] → (s.cl x.c).sigCodes = [] → 
    (Answers (.sysHalt x) s (fun t => (t.cl x.c).run = false ∧ (t.cl x.c).halted = true ∧ (t.cl x.c).g = (s.cl x.c).g ∧ (t.cl x.c).pc = (s.cl x.c).pc ∧ t.mem = s.mem)))
  ∧ (∀ (s : State) (c : Clu),
    (s.cl c).wait = some .halt → s.haltReady c = true → (s.cl c).slots = [] → (s.cl c).clx = [] → (s.cl c).sigCodes = [] → 
    (Answers (.sysHaltComplete c) s (fun t => (t.cl c).run = false ∧ (t.cl c).halted = true ∧ (t.cl c).wait = none ∧ t.mem = s.mem)))

/-- Integer, logic, shift, compare, select and lane-moving vector instructions: every lane, the mark, and nothing else (R206, R214, R215, R216, R217, R221). -/
def Obligations.VectorIntegerAndLanes : Prop :=
  (∀ (s : State) (x : Iss) (vd va vb : Fin 32) (a b : List Lane) (p : Bool),
    s.issues x = true → s.tnsIdle x.c = true → (s.cl x.c).vBusy = 0 → (s.cl x.c).vr va = a → (s.cl x.c).vr vb = b → p = (bitAt (s.cl x.c).vpsn va || bitAt (s.cl x.c).vpsn vb) → 
    (Answers (.vecAddI x vd va vb) s (SetsV x vd (fun k => (lane a k + lane b k, 0)) p s) ∧ Answers (.vecSubI x vd va vb) s (SetsV x vd (fun k => (lane a k - lane b k, 0)) p s)
      ∧ Answers (.vecMulI x vd va vb) s (SetsV x vd (fun k => (lane a k * lane b k, 0)) p s)
      ∧ Answers (.vecMinI x vd va vb) s (SetsV x vd (fun k => (BitVec.ofInt 32 (min (lane a k).toInt (lane b k).toInt), 0)) p s)
      ∧ Answers (.vecMaxI x vd va vb) s (SetsV x vd (fun k => (BitVec.ofInt 32 (max (lane a k).toInt (lane b k).toInt), 0)) p s)
      ∧ Answers (.vecMinU x vd va vb) s (SetsV x vd (fun k => (BitVec.ofNat 32 (min (lane a k).toNat (lane b k).toNat), 0)) p s)
      ∧ Answers (.vecMaxU x vd va vb) s (SetsV x vd (fun k => (BitVec.ofNat 32 (max (lane a k).toNat (lane b k).toNat), 0)) p s)
      ∧ Answers (.vecAnd x vd va vb) s (SetsV x vd (fun k => (lane a k &&& lane b k, 0)) p s) ∧ Answers (.vecOr x vd va vb) s (SetsV x vd (fun k => (lane a k ||| lane b k, 0)) p s)
      ∧ Answers (.vecXor x vd va vb) s (SetsV x vd (fun k => (lane a k ^^^ lane b k, 0)) p s)
      ∧ Answers (.vecShl x vd va vb) s (SetsV x vd (fun k => (lane a k <<< ((lane b k).toNat % 32), 0)) p s)
      ∧ Answers (.vecShr x vd va vb) s (SetsV x vd (fun k => (lane a k >>> ((lane b k).toNat % 32), 0)) p s)
      ∧ Answers (.vecSar x vd va vb) s (SetsV x vd (fun k => ((lane a k).sshiftRight ((lane b k).toNat % 32), 0)) p s)
      ∧ Answers (.vecPerm x vd va vb) s (SetsV x vd (fun k => (lane a ((lane b k).toNat % 64), 0)) p s)))
  ∧ (∀ (s : State) (x : Iss) (vd va vb vm : Fin 32) (ra : Fin 64) (a b : List Lane) (p : Bool),
    s.issues x = true → s.tnsIdle x.c = true → (s.cl x.c).vBusy = 0 → (s.cl x.c).vr va = a → (s.cl x.c).vr vb = b → p = (bitAt (s.cl x.c).vpsn va || bitAt (s.cl x.c).vpsn vb) → 
    (Answers (.vecCmp x vd va vb 0x00) s (SetsV x vd (fun k => (if lane a k = lane b k then -1 else 0, 0)) p s)
      ∧ Answers (.vecCmp x vd va vb 0x01) s (SetsV x vd (fun k => (if lane a k = lane b k then 0 else -1, 0)) p s)
      ∧ Answers (.vecCmp x vd va vb 0x02) s (SetsV x vd (fun k => (if (lane a k).toInt < (lane b k).toInt then -1 else 0, 0)) p s)
      ∧ Answers (.vecCmp x vd va vb 0x0B) s (SetsV x vd (fun k => (if (lane a k).toNat ≤ (lane b k).toNat then -1 else 0, 0)) p s)
      ∧ Answers (.vecCmp x vd va vb 0x11) s (SetsV x vd (fun k => (if eqF (lane a k) (lane b k) then 0 else -1, 0)) p s)
      ∧ Answers (.vecCmp x vd va vb 0x12) s (SetsV x vd (fun k => (if ltF (lane a k) (lane b k) then -1 else 0, 0)) p s)
      ∧ Answers (.vecCmp x vd va vb 0x04) s (Faults x 0x0103 0 s) ∧ Answers (.vecCmp x vd va vb 0x18) s (Faults x 0x0103 0 s) ∧ Answers (.vecCmp x vd va vb 0x20) s (Faults x 0x0203 0 s)
      ∧ Answers (.vecSel x vd va vb (BitVec.ofNat 6 vm)) s (SetsV x vd (fun k => (if lane ((s.cl x.c).vr vm) k ≠ 0 then lane a k else lane b k, 0)) (p || bitAt (s.cl x.c).vpsn vm) s)
      ∧ Answers (.vecBc x vd ra) s (SetsV x vd (fun _ => (((s.cl x.c).gr ra).setWidth 32, 0)) false s)
      ∧ Answers (.vecIdx x vd) s (SetsV x vd (fun k => (BitVec.ofNat 32 k, 0)) false s)))
  ∧ (∀ (s : State) (x : Iss) (vd va : Fin 32) (rd ra : Fin 64) (imm : BitVec 24),
    s.issues x = true → s.tnsIdle x.c = true → (s.cl x.c).vBusy = 0 → ((s.cl x.c).vr vd).length = 64 → 
    ((imm.toNat < 64 → Answers (.vecIns x vd ra imm) s (SetsV x vd (fun k => (if k = imm.toNat then ((s.cl x.c).gr ra).setWidth 32 else lane ((s.cl x.c).vr vd) k, 0)) (bitAt (s.cl x.c).vpsn vd) s))
      ∧ (64 ≤ imm.toNat → Answers (.vecIns x vd ra imm) s (Faults x 0x0803 0 s) ∧ Answers (.vecExt x rd va imm) s (Faults x 0x0803 0 s))
      ∧ (imm.toNat < 64 → bitAt (s.cl x.c).vpsn va = false → Answers (.vecExt x rd va imm) s (SetsG x rd ((lane ((s.cl x.c).vr va) imm.toNat).setWidth 64) s))
      ∧ (imm.toNat < 64 → bitAt (s.cl x.c).vpsn va = true → Answers (.vecExt x rd va imm) s (Faults x 0x010C 0 s))
      ∧ (bitAt (s.cl x.c).vpsn va = true → Answers (.vecMsk x rd va) s (Faults x 0x010C 0 s))))
  ∧ (∀ (s : State) (x : Iss) (va : Fin 32) (rd : Fin 64),
    s.issues x = true → s.tnsIdle x.c = true → (s.cl x.c).vBusy = 0 → bitAt (s.cl x.c).vpsn va = false → (rd : Nat) ≠ 0 → ((s.cl x.c).vr va).length = 64 → 
    (Answers (.vecMsk x rd va) s (fun t => (∀ k, k < 64 → ((t.cl x.c).gr rd).getLsbD k = decide (lane ((s.cl x.c).vr va) k ≠ 0)) ∧ SetsG x rd ((t.cl x.c).gr rd) s t)
      ∧ Answers (.vecFlg x rd) s (fun t => (t.cl x.c).gr rd = BitVec.ofNat 64 (s.cl x.c).numflg ∧ (t.cl x.c).numflg = 0 ∧ (t.cl x.c).v = (s.cl x.c).v
      ∧ (t.cl x.c).pc = (s.cl x.c).pc + ilen x.long ∧ (∀ r, r ≠ (rd : Nat) → (t.cl x.c).gr r = (s.cl x.c).gr r) ∧ ElseKept x.c s t)))

/-- Floating-point vector instructions, reductions, gather and scatter: results, flags, marks and memory (R206, R207, R210, R213, R215, R219, R220, R221). -/
def Obligations.VectorFloatAndMemory : Prop :=
  (∀ (s : State) (x : Iss) (vd va vb : Fin 32) (a b : List Lane) (p : Bool),
    s.issues x = true → s.tnsIdle x.c = true → (s.cl x.c).vBusy = 0 → (s.cl x.c).vr va = a → (s.cl x.c).vr vb = b → p = (bitAt (s.cl x.c).vpsn va || bitAt (s.cl x.c).vpsn vb) → 
    (Answers (.vecAddF x vd va vb) s (SetsV x vd (fun k => toF32 ((f32 (lane a k)).add (f32 (lane b k)))) p s)
      ∧ Answers (.vecSubF x vd va vb) s (SetsV x vd (fun k => toF32 ((f32 (lane a k)).add (f32 (lane b k)).neg)) p s)
      ∧ Answers (.vecMulF x vd va vb) s (SetsV x vd (fun k => toF32 ((f32 (lane a k)).mul (f32 (lane b k)))) p s)
      ∧ Answers (.vecDivF x vd va vb) s (SetsV x vd (fun k => toF32 ((f32 (lane a k)).div (f32 (lane b k)))) p s)
      ∧ Answers (.vecFmaF x vd va vb) s (SetsV x vd (fun k => fmaF (lane a k) (lane b k) (lane ((s.cl x.c).vr vd) k)) (p || bitAt (s.cl x.c).vpsn vd) s)
      ∧ Answers (.vecMinF x vd va vb) s (SetsV x vd (fun k => (minF (lane a k) (lane b k), 0)) p s) ∧ Answers (.vecMaxF x vd va vb) s (SetsV x vd (fun k => (maxF (lane a k) (lane b k), 0)) p s)))
  ∧ (∀ (s : State) (x : Iss) (vd va : Fin 32) (a : List Lane) (p : Bool),
    s.issues x = true → s.tnsIdle x.c = true → (s.cl x.c).vBusy = 0 → (s.cl x.c).vr va = a → p = bitAt (s.cl x.c).vpsn va → 
    (Answers (.vecSqrtF x vd va) s (SetsV x vd (fun k => toF32 (f32 (lane a k)).sqrt) p s) ∧ Answers (.vecRcpF x vd va) s (SetsV x vd (fun k => rcpF (lane a k)) p s)
      ∧ Answers (.vecRsqF x vd va) s (SetsV x vd (fun k => rsqF (lane a k)) p s) ∧ Answers (.vecExp2F x vd va) s (SetsV x vd (fun k => exp2F (lane a k)) p s)
      ∧ Answers (.vecLog2F x vd va) s (SetsV x vd (fun k => log2F (lane a k)) p s)))
  ∧ ((exp2F 0xFF800000 = (0, 0) ∧ log2F 0 = (0xFF800000, 0) ∧ log2F 0x80000000 = (0xFF800000, 0) ∧ rsqF 0x80000000 = (0xFF800000, 0) ∧ (log2F 0xBF800000).1 = 0x7FC00000
      ∧ addF 0x7F800000 0xFF800000 = (0x7FC00000, 1) ∧ mulF 0x7F7FFFFF 0x7F7FFFFF = (0x7F800000, 2) ∧ addF 0x80000000 0x80000000 = (0x80000000, 0) ∧ subF 0x3F800000 0x3F800000 = (0, 0)
      ∧ minF 0x7FC00001 0x3F800000 = 0x3F800000 ∧ minF 0 0x80000000 = 0x80000000 ∧ maxF 0 0x80000000 = 0 ∧ divF 0 0 = (0x7FC00000, 1) ∧ (sqrtF 0xBF800000).1 = 0x7FC00000))
  ∧ (∀ (s : State) (x : Iss) (rd : Fin 64) (va : Fin 32),
    s.issues x = true → s.tnsIdle x.c = true → (s.cl x.c).vBusy = 0 → bitAt (s.cl x.c).vpsn va = false → ((s.cl x.c).vr va).length = 64 → 
    (Answers (.vecRsumI x rd va) s (SetsG x rd ((((s.cl x.c).vr va).foldl (fun a b => a + b) 0).signExtend 64) s)
      ∧ Answers (.vecRmaxF x rd va) s (SetsG x rd ((treeOf (fun a b => (maxF a b, 0)) 6 ((s.cl x.c).vr va)).1.setWidth 64) s)
      ∧ Answers (.vecRminF x rd va) s (SetsG x rd ((treeOf (fun a b => (minF a b, 0)) 6 ((s.cl x.c).vr va)).1.setWidth 64) s)
      ∧ Answers (.vecRsumF x rd va) s (fun t => (t.cl x.c).gr rd = (if (rd : Nat) = 0 then 0 else (treeOf addF 6 ((s.cl x.c).vr va)).1.setWidth 64)
      ∧ (t.cl x.c).numflg = (s.cl x.c).numflg ||| (treeOf addF 6 ((s.cl x.c).vr va)).2 ∧ (t.cl x.c).pc = (s.cl x.c).pc + ilen x.long
      ∧ (∀ r, r ≠ (rd : Nat) → (t.cl x.c).gr r = (s.cl x.c).gr r) ∧ (t.cl x.c).v = (s.cl x.c).v ∧ ElseKept x.c s t)))
  ∧ (∀ (f : Lane → Lane → Lane × NumFlags) (n : Nat) (l : List Lane),
    l.length = 2 ^ (n + 1) → 
    (treeOf f (n + 1) l).1 = (treeOf f n ((List.range (2 ^ n)).map (fun j => (f (lane l (2 * j)) (lane l (2 * j + 1))).1))).1)
  ∧ (∀ (s : State) (x : Iss) (rd : Fin 64) (va : Fin 32),
    s.issues x = true → s.tnsIdle x.c = true → (s.cl x.c).vBusy = 0 → bitAt (s.cl x.c).vpsn va = true → 
    (Answers (.vecRsumF x rd va) s (Faults x 0x010C 0 s) ∧ Answers (.vecRsumI x rd va) s (Faults x 0x010C 0 s) ∧ Answers (.vecRmaxF x rd va) s (Faults x 0x010C 0 s)
      ∧ Answers (.vecRminF x rd va) s (Faults x 0x010C 0 s)))
  ∧ (∀ (s : State) (x : Iss) (vd va : Fin 32) (rb : Fin 64) (a : List Lane) (w : Word),
    s.issues x = true → s.tnsIdle x.c = true → (s.cl x.c).vBusy = 0 → (s.cl x.c).vr va = a → (s.cl x.c).gr rb = w → a.length = 64 → ∀ k, k < 64 → (w + (lane a k).setWidth 64 * 4).toNat < 0x400000 ∧ (w + (lane a k).setWidth 64 * 4).toNat % 4 = 0 → 
    (Answers (.vecGth x vd va rb) s (SetsV x vd (fun k => (BitVec.ofNat 32 (s.memN (sramAt x.c ((w + (lane a k).setWidth 64 * 4).toNat)) 4), 0))
      (bitAt (s.cl x.c).vpsn va || (List.range 64).any (fun k => s.psnRange (sramAt x.c ((w + (lane a k).setWidth 64 * 4).toNat)) 4)) s)
      ∧ ((∀ k, k < 64 → (s.cl x.c).hitsCode ((w + (lane a k).setWidth 64 * 4).toNat) 4 = false) → bitAt (s.cl x.c).vpsn va = false → bitAt (s.cl x.c).vpsn vd = false → ((s.cl x.c).vr vd).length = 64 →
      Answers (.vecSct x vd va rb) s (fun t => (∀ k, k < 64 → (∀ j, k < j → j < 64 → (w + (lane a j).setWidth 64 * 4).toNat ≠ (w + (lane a k).setWidth 64 * 4).toNat) → t.memN (sramAt x.c ((w + (lane a k).setWidth 64 * 4).toNat)) 4 = (lane ((s.cl x.c).vr vd) k).toNat)
      ∧ (∀ q, (∀ k, k < 64 → q < sramAt x.c ((w + (lane a k).setWidth 64 * 4).toNat) ∨ sramAt x.c ((w + (lane a k).setWidth 64 * 4).toNat) + 4 ≤ q) → t.mem1 q = s.mem1 q)
      ∧ t.cl x.c = { s.cl x.c with pc := (s.cl x.c).pc + ilen x.long } ∧ ElseKept x.c { s with mem := t.mem, psn := t.psn } t))))
  ∧ (∀ (s : State) (x : Iss) (vd va : Fin 32) (rb : Fin 64) (l : Lane),
    s.issues x = true → s.tnsIdle x.c = true → (s.cl x.c).vBusy = 0 → (s.cl x.c).vr va = List.replicate 64 l → 0x400000 ≤ ((s.cl x.c).gr rb + l.setWidth 64 * 4).toNat → 
    (Answers (.vecGth x vd va rb) s (Faults x 0x0304 ((s.cl x.c).gr rb + l.setWidth 64 * 4).toNat s) ∧ Answers (.vecSct x vd va rb) s (Faults x 0x0304 ((s.cl x.c).gr rb + l.setWidth 64 * 4).toNat s)))

/-- Conversions between the number formats, blocks of shared scale, and the worked cases of the spec (R202, R203, R204, R205, R209, R211, R212, R218, R228). -/
def Obligations.FormatsAndConversions : Prop :=
  (∀ (s : State) (x : Iss) (vd va : Fin 32) (a : List Lane),
    s.issues x = true → s.tnsIdle x.c = true → (s.cl x.c).vBusy = 0 → (s.cl x.c).vr va = a → a.length = 64 → 
    (Answers (.vecCvt x vd va 0x08) s (SetsV x vd (fun k => (BitVec.ofNat 32 (fF32.encode false false (intDecode 32 (lane a k).toNat)).1, 0)) (bitAt (s.cl x.c).vpsn va) s)
      ∧ Answers (.vecCvt x vd va 0x80) s (SetsV x vd (fun k => (BitVec.ofNat 32 (intEncode 32 false (f32 (lane a k))).1, (intEncode 32 false (f32 (lane a k))).2)) (bitAt (s.cl x.c).vpsn va) s)
      ∧ Answers (.vecCvt x vd va 0x60) s (Faults x 0x0603 0 s) ∧ Answers (.vecCvt x vd va 0x100) s (Faults x 0x0803 0 s)
      ∧ (s.cluExpert x.c = false → Answers (.vecCvt x vd va 0x4000) s (Faults x 0x0205 0 s))))
  ∧ (∀ (s : State) (x : Iss) (vd va : Fin 32) (rb : Fin 64) (a : List Lane),
    s.issues x = true → s.tnsIdle x.c = true → (s.cl x.c).vBusy = 0 → (s.cl x.c).vr va = a → (rb : Nat) ≠ 0 → 
    (Answers (.vecMxq x vd va rb 3) s (fun t => (t.cl x.c).gr rb = BitVec.ofNat 64 ((mxQuant 3 ((a.map f32).take 32)).1 + 256 * (mxQuant 3 ((a.map f32).drop 32)).1)
      ∧ (t.cl x.c).pc = (s.cl x.c).pc + ilen x.long ∧ (∀ r, r ≠ (vd : Nat) → (t.cl x.c).vr r = (s.cl x.c).vr r) ∧ (∀ r, r ≠ (rb : Nat) → (t.cl x.c).gr r = (s.cl x.c).gr r) ∧ ElseKept x.c s t)
      ∧ Answers (.vecMxd x vd va rb 3) s (SetsV x vd (fun k => toF32 ((elemDecode 3 (bitsAt (lane a (k / 4)).toNat (k % 4 * 8) 8)).mul (scaleVal (bitsAt ((s.cl x.c).gr rb).toNat (k / 32 * 8) 8))))
      (bitAt (s.cl x.c).vpsn va) s)
      ∧ Answers (.vecMxq x vd va rb 1) s (Faults x 0x0603 0 s) ∧ Answers (.vecMxd x vd va rb 0x43) s (Faults x 0x0803 0 s)))
  ∧ ((elemEncode 1 false false (f32 0x3F898000) = (0x3F8A, 0) ∧ elemEncode 1 false false (f32 0x3F888000) = (0x3F88, 0) ∧ elemEncode 3 false false (f32 0x43FA0000) = (0x7E, 2)
      ∧ elemEncode 3 false true (f32 0x43FA0000) = (0x7F, 2) ∧ elemEncode 3 false false (elemDecode 4 0x7B) = (0x7E, 0) ∧ elemEncode 9 false false (f32 0xC0200000) = (0xFE, 0)
      ∧ elemEncode 10 false false (f32 0xC0200000) = (0xE, 0) ∧ elemEncode 3 false false (f32 0x3AAA64C3) = (0x01, 0)
      ∧ (mxQuant 5 (f32 0x40A00000 :: f32 0x3E99999A :: List.replicate 30 (f32 0))).1 = 0x7F
      ∧ ((mxQuant 5 (f32 0x40A00000 :: f32 0x3E99999A :: List.replicate 30 (f32 0))).2.map Prod.fst).take 2 = [6, 1]))

/-- Tensor instructions enter their unit's queue; a unit takes them in order and performs them: tiles, marks and the bytes stored (R214, R215, R216, R222, R223, R224, R225, R226, R227). -/
def Obligations.TensorUnits : Prop :=
  (∀ (s : State) (x : Iss) (ra : Fin 64) (imm : BitVec 24) (c : TileCfg) (u : Fin 4),
    s.issues x = true → s.tnsIdle x.c = true → imm = BitVec.ofNat 24 (2 ^ (u : Nat)) → s.tileDesc x.c ((s.cl x.c).gr ra).toNat = (0, c) → 
    Answers (.tmmCfg x ra imm) s (fun t => SMap.find (t.cl x.c).cfg u = some c ∧ (∀ v, v ≠ (u : Nat) → SMap.find (t.cl x.c).cfg v = SMap.find (s.cl x.c).cfg v)
      ∧ (t.cl x.c).pc = (s.cl x.c).pc + ilen x.long ∧ (t.cl x.c).g = (s.cl x.c).g ∧ ElseKept x.c s t))
  ∧ (∀ (s : State) (x : Iss) (ra rb : Fin 64) (c : TileCfg) (u : Fin 4) (ta : Fin 8) (z : Bool),
    s.issues x = true → SMap.find (s.cl x.c).cfg u = some c → (SMap.get (s.cl x.c).tq [] u).length < 4 → 
    ((c.mmCode ((s.cl x.c).gr ra).toNat ((s.cl x.c).gr rb).toNat = (0, 0) → Answers (.tmmMm x ra rb (BitVec.ofNat 24 (ta + 8 * u + 32 * z.toNat))) s
      (Enqueues x ⟨u, ta, .mm ((s.cl x.c).gr ra).toNat ((s.cl x.c).gr rb).toNat z none, c, 0⟩ s))
      ∧ (rowsCode [(((s.cl x.c).gr ra).toNat : Int), c.cStride] (c.cRows ((s.cl x.c).gr ra).toNat 32) = (0, 0) → Answers (.tmmLd x ra (BitVec.ofNat 24 (ta + 8 * u))) s
      (Enqueues x ⟨u, ta, .ld ((s.cl x.c).gr ra).toNat, c, 0⟩ s))
      ∧ (rowsCode [(((s.cl x.c).gr ra).toNat : Int), c.cStride] (c.cRows ((s.cl x.c).gr ra).toNat 32) = (0, 0) → s.tnsIdle x.c = true → bitAt (s.cl x.c).tapsn (8 * u + ta) = false →
      (c.cRows ((s.cl x.c).gr ra).toNat 32).all (fun r => !(s.cl x.c).hitsCode r.1.toNat r.2) = true →
      Answers (.tmmSt x ra (BitVec.ofNat 24 (ta + 8 * u))) s (Enqueues x ⟨u, ta, .st ((s.cl x.c).gr ra).toNat 0 false false false, c, 0⟩ s))))
  ∧ (∀ (s : State) (x : Iss) (ra rb : Fin 64) (u : Fin 4) (ta : Fin 8),
    s.issues x = true → SMap.find (s.cl x.c).cfg u = none → 
    (Answers (.tmmMm x ra rb (BitVec.ofNat 24 (ta + 8 * u))) s (Faults x 0x0703 0 s) ∧ Answers (.tmmLd x ra (BitVec.ofNat 24 (ta + 8 * u))) s (Faults x 0x0703 0 s)
      ∧ Answers (.tmmSt x ra (BitVec.ofNat 24 (ta + 8 * u))) s (Faults x 0x0703 0 s)))
  ∧ (∀ (s : State) (x : Iss) (v : Fin 32) (u : Fin 4) (ta : Fin 8) (r : Fin 16),
    s.issues x = true → (s.cl x.c).vBusy = 0 → (SMap.get (s.cl x.c).tq [] u).length < 4 → 
    (Answers (.tmmZero x ta u) s (Enqueues x ⟨u, ta, .zero, ⟨0, false, 0, 0, 0, 0, 0, 0, 0, 0⟩, 0⟩ s)
      ∧ Answers (.tmmTov x v (BitVec.ofNat 24 (ta + 8 * u + 32 * r))) s (Enqueues x ⟨u, ta, .tov v r, ⟨0, false, 0, 0, 0, 0, 0, 0, 0, 0⟩, 0⟩ s)
      ∧ (s.tnsIdle x.c = true → Answers (.tmmFrv x v (BitVec.ofNat 24 (ta + 8 * u + 32 * r))) s
      (Enqueues x ⟨u, ta, .frv ((s.cl x.c).vr v) (bitAt (s.cl x.c).vpsn v) r, ⟨0, false, 0, 0, 0, 0, 0, 0, 0, 0⟩, 0⟩ s))))
  ∧ (∀ (s : State) (x : Iss) (u : Fin 4) (ta : Fin 8),
    s.issues x = true → 4 ≤ (SMap.get (s.cl x.c).tq [] u).length → 
    Answers (.tmmZero x ta u) s (fun t => (∃ o, (t.cl x.c).wait = some (.tns o) ∧ o.unit = u ∧ o.kind = .zero) ∧ (t.cl x.c).pc = (s.cl x.c).pc ∧ ElseKept x.c s t))
  ∧ (∀ (s : State) (c : Clu) (o : TnsOp),
    (s.cl c).wait = some (.tns o) → (s.cl c).room o = true → o.kind = .zero → 
    Answers (.tnsQueueRoom c) s (fun t => (t.cl c).wait = none ∧ (t.cl c).pc = (s.cl c).pc + ilen (s.cl c).waitLong
      ∧ SMap.get (t.cl c).tq [] o.unit = SMap.get (s.cl c).tq [] o.unit ++ [{ o with order := (s.cl c).order }] ∧ ElseKept c s t))
  ∧ (∀ (s : State) (c : Clu) (u : Fin 4) (o : TnsOp) (l : List TnsOp),
    SMap.find (s.cl c).trun u = none → SMap.get (s.cl c).tq [] u = o :: l → (s.cl c).tnsAll.any (fun e => o.after e) = false → 
    Answers (.tensorUnitStart c u) s (fun t => SMap.find (t.cl c).trun u = some o ∧ SMap.get (t.cl c).tq [] u = l ∧ (t.cl c).ta = (s.cl c).ta ∧ ElseKept c s t))
  ∧ (∀ (s : State) (c : Clu) (u : Fin 4) (o : TnsOp) (f : Nat × Nat × Bool × Bool) (a b : Nat) (z : Bool),
    SMap.find (s.cl c).trun u = some o → o.kind = .mm a b z none → tfmtOf o.cfg.tfmt = some f → o.cfg.k ≠ 0 ∨ z = true → 
    Answers (.tensorOpComplete c u) s (fun t => (t.cl c).tile (8 * o.unit + o.ta) = (List.range 1024).map (fun e => (s.mmElem (sramAt c 0) o.cfg f a b (e / 32) (e % 32)
      (if z then 0 else ((s.cl c).tile (8 * o.unit + o.ta))[e]?.getD 0)).1)
      ∧ (∀ n, n ≠ 8 * o.unit + o.ta → (t.cl c).tile n = (s.cl c).tile n) ∧ SMap.find (t.cl c).trun u = none ∧ (t.cl c).g = (s.cl c).g ∧ (t.cl c).pc = (s.cl c).pc ∧ ElseKept c s t))
  ∧ (∀ (s : State) (c : Clu) (u : Fin 4) (o : TnsOp) (a : Nat),
    SMap.find (s.cl c).trun u = some o → o.kind = .st a 0 false false false → 
    Answers (.tensorOpComplete c u) s (fun t => (∀ q, (∀ i, i < 32 → q < sramAt c (a + i * o.cfg.cStride) ∨ sramAt c (a + i * o.cfg.cStride) + 128 ≤ q) → t.mem1 q = s.mem1 q)
      ∧ (t.cl c).ta = (s.cl c).ta ∧ (t.cl c).g = (s.cl c).g ∧ (t.cl c).pc = (s.cl c).pc ∧ t.regs = s.regs))
  ∧ (∀ (s : State) (c : Clu) (u : Fin 4) (o : TnsOp) (vd r : Nat),
    SMap.find (s.cl c).trun u = some o → o.kind = .tov vd r → 
    Answers (.tensorOpComplete c u) s (fun t => (t.cl c).vr vd = (((s.cl c).tile (8 * o.unit + o.ta)).drop (64 * r)).take 64 ∧ (∀ n, n ≠ vd → (t.cl c).vr n = (s.cl c).vr n)
      ∧ (t.cl c).ta = (s.cl c).ta ∧ ElseKept c s t))

/-- Slate: hits, misses and fills of lines, writes that allocate, scratch, and waiting misses (R242, R243, R244, R246, R247, R248, R250, R253, R254, R277). -/
def Obligations.SlateAccesses : Prop :=
  (∀ (s : State) (r : Rq) (na : Bool) (l h sl : Nat) (n : Fin 129) (x : SLine),
    l < 2 ^ 48 ∧ 0 < (n : Nat) ∧ l % 128 + (n : Nat) ≤ 128 → regionNum l = 5 → s.rd F.QTZ_ID_ASSUMED ≠ 0xFFFE → s.accCode (s.rqPart r) false l n = 0 → s.accWaits l = false → s.homeOf l = some h → s.localSlice h l = some sl → s.lineAt l = some x → x.valid &&& maskOf (l % 128) n = maskOf (l % 128) n → 
    Answers (.slateRead r false na (BitVec.ofNat 64 (0xFFFE * 2 ^ 48 + l)) n) s (fun t => t.rd F.SLT_HIT sl = satAt 64 (s.rd F.SLT_HIT sl + 1) ∧ Keeps s t [F.SLT_HIT.key sl 0] ∧ t.slate = s.slate))
  ∧ (∀ (s : State) (r : Rq) (l h sl : Nat) (n : Fin 129),
    l < 2 ^ 48 ∧ 0 < (n : Nat) ∧ l % 128 + (n : Nat) ≤ 128 → regionNum l = 5 → s.rd F.QTZ_ID_ASSUMED ≠ 0xFFFE → s.rqPart r = some h → s.accCode (s.rqPart r) false l n = 0 → s.accWaits l = false → s.homeOf l = some h → s.localSlice h l = some sl → s.lineAt l = none → s.fillAt sl (l - l % 128) = none → s.fillCount sl < 512 → 
    Answers (.slateRead r false false (BitVec.ofNat 64 (0xFFFE * 2 ^ 48 + l)) n) s (fun t => t.slate.fills = s.slate.fills ++ [⟨sl, l - l % 128, false, [rqPlace r], false⟩]
      ∧ t.rd F.SLT_MISS sl = satAt 64 (s.rd F.SLT_MISS sl + 1) ∧ Keeps s t [F.SLT_MISS.key sl 0]))
  ∧ (∀ (s : State) (r : Rq) (l h sl : Nat) (b : Byte),
    regionNum l = 5 → s.rd F.QTZ_ID_ASSUMED ≠ 0xFFFE → s.fenced 0xFFFE = false → s.rqPart r = some h → s.accCode (s.rqPart r) true l 1 = 0 → s.accWaits l = false → s.homeOf l = some h → s.localSlice h l = some sl → (s.lineAt l).isSome = true ∨ (s.setLines sl l).length < 16 → 
    Answers (.slateWrite r false (BitVec.ofNat 64 (0xFFFE * 2 ^ 48 + l)) [(b, false)]) s (fun t => (t.hbm1 l).1 = b ∧ t.mem = s.mem ∧ t.regs = s.regs
      ∧ ∃ x, t.lineAt l = some x ∧ bitAt x.valid (l % 128) = true ∧ bitAt x.dirty (l % 128) = true))
  ∧ (∀ (s : State) (r : Rq) (l p sl : Nat) (op : BitVec 4) (v : BitVec 64),
    regionOf l = .scratch sl (l % 0x4000000) → s.rd F.QTZ_ID_ASSUMED ≠ 0xFFFE → s.fenced 0xFFFE = false → s.rqPart r = some p → SMap.get s.slate.slices (0, 0) sl = (3, p) → s.bit F.SLT_SLICE_FAILED sl = false ∧ s.bit F.SLT_SLICE_BUSY sl = false ∧ s.islResetting (272 + sl) = false → l % 8 = 0 → s.psnAt l = false → op.toNat < 9 → 
    Answers (.slateAtomic r (BitVec.ofNat 64 (0xFFFE * 2 ^ 48 + l)) op true v 0) s (fun t => t.memN l 8 = atomicOp op.toNat 8 (s.memN l 8) v.toNat 0
      ∧ (∀ q, q < l ∨ l + 8 ≤ q → t.mem1 q = s.mem1 q) ∧ t.regs = s.regs ∧ t.clu = s.clu))
  ∧ (∀ (s : State) (sl : Fin 16) (line : Nat) (f : SFill) (x : SLine),
    line % 128 = 0 ∧ line < 2 ^ 48 → s.fillAt sl line = some f → f.remote = false ∧ f.drop = false ∧ f.waiters.length ≤ 1 → s.lineAt line = some x → 
    Answers (.slateFill sl (BitVec.ofNat 64 line) 0 [] 0) s (fun t => t.lineAt line = some { x with valid := 2 ^ 128 - 1 } ∧ t.fillAt sl line = none ∧ t.mem = s.mem ∧ t.regs = s.regs
      ∧ ∀ k, k < 128 → memGet t.slate.cmem (line + k) = (if bitAt x.valid k then memGet s.slate.cmem (line + k) else (s.hbmRaw1 (line + k)).1)))
  ∧ (∀ (s : State) (sl : Fin 16) (line : BitVec 64) (f : SFill) (code : BitVec 16) (data : List Byte),
    line.toNat % 128 = 0 → s.fillAt sl line.toNat = some f → f.remote = true ∧ f.drop = false ∧ f.waiters.length ≤ 1 → (SMap.find s.slate.rlines (line.toNat / 128)).isSome = true ∨ (s.remoteSet sl line.toNat).length < 16 → 
    ((Answers (.slateFill sl line 0 data 0) s (fun t => SMap.find t.slate.rlines (line.toNat / 128) = some (sl : Nat) ∧ t.mem = s.mem ∧ t.regs = s.regs
      ∧ ∀ k, k < 128 → memGet t.slate.rmem (line.toNat + k) = data[k]?.getD 0))
      ∧ (code ≠ 0 → Answers (.slateFill sl line code data 0) s (fun t => t.slate.rlines = s.slate.rlines ∧ t.slate.rmem = s.slate.rmem ∧ t.mem = s.mem))))
  ∧ (∀ (s : State) (sl : Fin 16) (w : SWait),
    s.slate.waits = [w] → w.slice = sl ∧ w.remote = false → s.fillAt sl w.line = none → s.fillCount sl < 512 → 
    Answers (.slateFillEntryFree sl) s (fun t => t.slate.waits = [] ∧ t.slate.fills = s.slate.fills ++ [⟨sl, w.line, false, [w.place], false⟩] ∧ t.mem = s.mem))
  ∧ (∀ (s t : State) (sl a : Nat),
    s.makeRoom sl a = some t → 
    t = s ∨ ∃ v, v ∈ s.setLines sl a ∧ s.slate.fills.all (fun f => f.remote || decide (f.line ≠ v)) = true ∧ t.lineAt v = none ∧ ∀ w, w / 128 ≠ v / 128 → t.lineAt w = s.lineAt w)

/-- The near cache and the read-only copies: starting them, fills of lines, and the invalidation of all lines (R238, R240, R241, R178, R188). -/
def Obligations.NearCache : Prop :=
  (∀ (s : State) (x : Iss) (rd ra rb : Fin 64) (imm : BitVec 24) (d a n : Nat),
    s.issues x = true → s.tnsIdle x.c = true → imm.toNat < 2 ^ 13 → ((s.cl x.c).slotAt (imm.toNat % 64)).busy = false → ((s.cl x.c).slotAt (imm.toNat % 64)).unrep = false → ((s.cl x.c).gr rd).toNat = d → ((s.cl x.c).gr ra).toNat = a → ((s.cl x.c).gr rb).toNat = n → n < 2 ^ 32 ∧ d / 2 ^ 48 ≠ 0xFFFF ∧ a / 2 ^ 48 ≠ 0xFFFF → d % 2 ^ 48 + n ≤ a % 2 ^ 48 ∨ a % 2 ^ 48 + n ≤ d % 2 ^ 48 → 
    Answers (.untCpro x rd ra rb imm) s (fun t => ((t.cl x.c).slotAt (imm.toNat % 64)).busy = true ∧ ((t.cl x.c).slotAt (imm.toNat % 64)).x.ro = true
      ∧ ((t.cl x.c).slotAt (imm.toNat % 64)).x.dst = d ∧ ((t.cl x.c).slotAt (imm.toNat % 64)).x.src = a ∧ ((t.cl x.c).slotAt (imm.toNat % 64)).x.rowBytes = n
      ∧ (t.cl x.c).pc = (s.cl x.c).pc + ilen x.long ∧ (t.cl x.c).g = (s.cl x.c).g ∧ ElseKept x.c s t))
  ∧ (∀ (s : State) (x : Iss) (ra : Fin 64) (imm : BitVec 24) (m : Xfer),
    s.issues x = true → s.tnsIdle x.c = true → imm.toNat < 2 ^ 13 → ((s.cl x.c).slotAt (imm.toNat % 64)).busy = false → ((s.cl x.c).slotAt (imm.toNat % 64)).unrep = false → s.dmaDesc x.c ⟨.cp2, true, 0, ra, 0, imm.toNat⟩ = (0, m) → s.xferCode m = 0 → 
    Answers (.untCp2ro x ra imm) s (fun t => ((t.cl x.c).slotAt (imm.toNat % 64)).busy = true ∧ ((t.cl x.c).slotAt (imm.toNat % 64)).x = m
      ∧ (t.cl x.c).pc = (s.cl x.c).pc + ilen x.long ∧ (t.cl x.c).g = (s.cl x.c).g ∧ ElseKept x.c s t))
  ∧ (∀ (s : State) (x : Iss),
    s.issues x = true → 
    Answers (.untNcinv x) s (fun t => (t.cl x.c).near = [] ∧ (t.cl x.c).fills.all (fun f => f.stale) = true ∧ (t.cl x.c).fills.length = (s.cl x.c).fills.length
      ∧ (t.cl x.c).pc = (s.cl x.c).pc + ilen x.long ∧ (t.cl x.c).g = (s.cl x.c).g ∧ ElseKept x.c s t))
  ∧ (∀ (s : State) (c : Clu) (line : BitVec 64) (data : List Byte) (f : NearFill),
    line.toNat % 128 = 0 → (s.cl c).fills = [f] → f.line = line.toNat ∧ f.stale = false ∧ f.pieces = [] → 
    Answers (.ncFill c line 0 data 0) s (fun t => (t.cl c).near = ((s.cl c).nearPut ⟨line.toNat, data, 0⟩).near
      ∧ (t.cl c).fills = [] ∧ ((t.cl c).slotAt f.slot).out = ((s.cl c).slotAt f.slot).out - 1 ∧ ElseKept c s t))
  ∧ (∀ (s : State) (c : Clu) (line : BitVec 64) (data : List Byte) (f : NearFill),
    line.toNat % 128 = 0 → (s.cl c).fills = [f] → f.line = line.toNat ∧ f.stale = true ∧ f.pieces = [] → 
    Answers (.ncFill c line 0 data 0) s (fun t => (t.cl c).near = (s.cl c).near ∧ (t.cl c).fills = [] ∧ ElseKept c s t))
  ∧ (∀ (k : ClusterSt) (l : NearLine),
    ∃ r, (k.nearPut l).near = l :: r ∧ (∀ m, m ∈ r → m ∈ k.near ∧ m.line ≠ l.line)
      ∧ ((k.near.filter (fun m => decide (m.line ≠ l.line ∧ Config.nearSet m.line % 256 = Config.nearSet l.line % 256))).length < 8 → r = k.near.filter (fun m => m.line ≠ l.line)))

/-- Region maintenance: a request and its ticket, the operations on lines, scratch and near caches, and the end (R260, R261, R262, R263, R264, R265, R271, R272). -/
def Obligations.RegionMaintenance : Prop :=
  (∀ (s : State) (x : Iss) (ra rb : Fin 64) (imm : BitVec 24) (off st p base len op : Nat),
    s.issues x = true → s.tnsIdle x.c = true → imm.toNat < 8 → ((s.cl x.c).gr ra).toNat = off ∧ ((s.cl x.c).gr rb).toNat = st → off + 32 ≤ 0x400000 ∧ off % 32 = 0 ∧ st + 8 ≤ 0x400000 ∧ st % 8 = 0 → (s.cl x.c).hitsCode st 8 = false → s.psnRange (sramAt x.c off) 32 = false → s.memN (sramAt x.c off + 17) 15 = 0 → s.cluPart x.c = some p → s.memN (sramAt x.c off) 8 = base ∧ s.memN (sramAt x.c off + 8) 8 = len ∧ s.memN (sramAt x.c off + 16) 1 = op → s.rgnCode p (s.cluExpert x.c) base len op = 0 → 
    ((len ≠ 0 → (s.rgnAt (8 * p + imm.toNat)).run = none → (s.rgnAt (8 * p + imm.toNat)).pend = none → (s.asgAt p).run = none → (s.rgnAt (8 * p + imm.toNat)).last < 0xFFFF →
      Answers (.untRgn x ra rb imm) s (fun t => (∃ q, (t.rgnAt (8 * p + imm.toNat)).run = some q ∧ q.op = op ∧ q.base = s.rgnBase base ∧ q.len = len ∧ q.clu = some (x.c : Nat) ∧ q.stat = st
      ∧ q.ticket = (s.rgnAt (8 * p + imm.toNat)).last + 1) ∧ (t.cl x.c).pc = (s.cl x.c).pc + ilen x.long ∧ t.mem = s.mem))
      ∧ (len = 0 → Answers (.untRgn x ra rb imm) s (fun t => t.memN (sramAt x.c st) 8 = 0 ∧ t.slate = s.slate ∧ (t.cl x.c).pc = (s.cl x.c).pc + ilen x.long
      ∧ ∀ q, q < sramAt x.c st ∨ sramAt x.c st + 8 ≤ q → t.mem1 q = s.mem1 q))))
  ∧ (∀ (s : State) (x : Iss) (ra rb : Fin 64) (imm : BitVec 24) (off : Nat),
    s.issues x = true → s.tnsIdle x.c = true → imm.toNat < 8 → ((s.cl x.c).gr ra).toNat = off → off + 32 ≤ 0x400000 → off % 32 ≠ 0 → 
    Answers (.untRgn x ra rb imm) s (Faults x 0x0204 off s))
  ∧ (∀ (s : State) (p : Part) (r : Fin 8) (q : RgnReq),
    (s.rgnAt (8 * (p : Nat) + r)).run = none → (s.rgnAt (8 * (p : Nat) + r)).pend = some q → (s.asgAt p).run = none → 
    Answers (.regionOpStart p r) s (fun t => (t.rgnAt (8 * (p : Nat) + r)).run = some q ∧ (t.rgnAt (8 * (p : Nat) + r)).pend = none ∧ t.bit F.SLT_RGN_STAT_RUN p r = true
      ∧ t.bit F.SLT_RGN_STAT_PEND p r = false ∧ t.mem = s.mem))
  ∧ (∀ (s : State) (p : Part) (r : Fin 8) (q : RgnReq) (a : Nat) (l : SLine),
    (s.rgnAt (8 * (p : Nat) + r)).run = some q → q.worked = false → s.rgnFills q = [] → s.rgnLines p q = [a] → a % 128 = 0 → s.lineAt a = some l → l.dirty ≠ 0 → s.stackOk (s.stackOf (a - hbmBase)) = true → 
    ((q.op = 0 → Answers (.regionWb p r) s (fun t => t.lineAt a = some { l with dirty := 0 } ∧ ∃ u, (t.rgnAt (8 * (p : Nat) + r)).run = some u ∧ u.worked = true))
      ∧ (q.op = 1 → Answers (.regionFlush p r) s (fun t => t.lineAt a = none ∧ ∃ u, (t.rgnAt (8 * (p : Nat) + r)).run = some u ∧ u.worked = true))
      ∧ (q.op = 2 → Answers (.regionInv p r) s (fun t => t.lineAt a = none ∧ t.mem = s.mem ∧ ∃ u, (t.rgnAt (8 * (p : Nat) + r)).run = some u ∧ u.worked = true))))
  ∧ (∀ (s : State) (p : Part) (r : Fin 8) (q : RgnReq) (l sl : Nat),
    (s.rgnAt (8 * (p : Nat) + r)).run = some q → q.worked = false ∧ q.op = 3 ∧ q.len = 128 → q.base = 0xFFFE * 2 ^ 48 + l ∧ l < 2 ^ 48 → s.rd F.QTZ_ID_ASSUMED ≠ 0xFFFE → s.homeOf l = some (p : Nat) → s.localSlice p l = some sl → s.fillAt sl l = none → (s.lineAt l).isSome = true ∨ (s.setLines sl l).length < 16 → 
    Answers (.regionPrefetch p r) s (fun t => (∃ x, t.lineAt l = some x ∧ x.valid = 2 ^ 128 - 1) ∧ t.mem = s.mem ∧ ∃ u, (t.rgnAt (8 * (p : Nat) + r)).run = some u ∧ u.worked = true))
  ∧ (∀ (s : State) (p : Part) (r : Fin 8) (q : RgnReq) (l : Nat),
    (s.rgnAt (8 * (p : Nat) + r)).run = some q → q.worked = false ∧ q.op = 4 → q.base = 0xFFFE * 2 ^ 48 + l ∧ l < 2 ^ 48 → regionNum l = 2 → 
    Answers (.regionZero p r) s (fun t => (∀ a, t.mem1 a = if l ≤ a ∧ a < l + q.len then 0 else s.mem1 a) ∧ ∃ u, (t.rgnAt (8 * (p : Nat) + r)).run = some u ∧ u.worked = true ∧ u.code = q.code))
  ∧ (∀ (s : State) (p : Part) (r : Fin 8) (q : RgnReq) (c : Clu),
    (s.rgnAt (8 * (p : Nat) + r)).run = some q → q.worked = false → s.cluPart c = some (p : Nat) → 
    ((q.op = 5 → Answers (.regionNcinv p r) s (fun t => (∀ l, l ∈ (t.cl c).near → l.line < q.base ∨ q.base + q.len ≤ l.line) ∧ (t.cl c).g = (s.cl c).g ∧ t.mem = s.mem))
      ∧ (q.op = 6 → Answers (.regionRinv p r) s (fun t => (∀ k sl, SMap.find t.slate.rlines k = some sl → SMap.get s.slate.slices (0, 0) sl = (2, (p : Nat)) → 128 * k < q.base ∨ q.base + q.len ≤ 128 * k)
      ∧ t.mem = s.mem))))
  ∧ (∀ (s : State) (p : Part) (r : Fin 8) (q : RgnReq) (c : Clu),
    (s.rgnAt (8 * (p : Nat) + r)).run = some q → q.worked = true ∧ q.clu = some (c : Nat) ∧ q.sig = false → q.code < 2 ^ 16 ∧ q.ticket < 2 ^ 16 → s.rgnFills q = [] → (s.slicesAll p).any (fun k => s.islResetting (272 + k)) = false → 
    Answers (.regionOpDone p r) s (fun t => (t.rgnAt (8 * (p : Nat) + r)).run = none ∧ t.rd F.SLT_RGN_STAT_LAST_CODE p r = q.code ∧ t.rd F.SLT_RGN_STAT_LAST_TKT p r = q.ticket
      ∧ t.memN (sramAt c q.stat) 8 = q.code + q.ticket * 65536 ∧ ∀ a, a < sramAt c q.stat ∨ sramAt c q.stat + 8 ≤ a → t.mem1 a = s.mem1 a))

/-- The assignment of slices: a request from the host starts or is refused, a pending one starts, a running one completes (R256, R257, R258, R259, R268, R272). -/
def Obligations.SliceAssignment : Prop :=
  (∀ (s u : State) (v : BitVec 64) (p : Nat) (r : AsgReq),
    (writeFields s .pf 8 F.SLT_ASSIGN_PART.addr v.toNat).1 = u → v.getLsbD 19 = true → u.rd F.SLT_ASSIGN_PART = p → r = .whole (u.rd F.SLT_ASSIGN_N_LOCAL) (u.rd F.SLT_ASSIGN_N_REMOTE) (u.rd F.SLT_ASSIGN_N_SCRATCH) → 
    ((u.asgCode p r = 0 → u.asgAt p = ⟨none, [], none⟩ → u.asgMayStart p r = true → p < 16 → Answers (.sltAssignGo .pf v) s (fun t => (t.asgAt p).run = some ⟨r, none⟩
      ∧ t.flag F.SLT_ASSIGN_STAT_RUN p = true ∧ t.slate.slices = u.slate.slices ∧ t.mem = u.mem))
      ∧ (u.asgCode p r ≠ 0 → u.asgCode p r < 2 ^ 16 → p < 16 → Answers (.sltAssignGo .pf v) s (fun t => t.rd F.SLT_ASSIGN_STAT_CODE = u.asgCode p r ∧ t.rd F.SLT_ASSIGN_STAT_PART = p ∧ t.slate = u.slate))))
  ∧ (∀ (s : State) (v : BitVec 64) (p : Part),
    Answers (.sltAssignGo (.vf p) v) s (fun t => t.rd F.FLT_WR_REJ_COUNT = satAt 32 (s.rd F.FLT_WR_REJ_COUNT + 1) ∧ Keeps s t [F.FLT_WR_REJ_COUNT.key 0 0] ∧ t.slate = s.slate))
  ∧ (∀ (s : State) (p : Nat) (nl nr ns : Nat),
    (s.partExists p = false → s.asgCode p (.whole nl nr ns) = 3))
  ∧ (∀ (s : State) (p : Part) (r : AsgOne),
    (s.asgAt p).pend = some r → s.asgMayStart p r.req = true → s.asgCode p r.req = 0 → (s.asgOther p r.req) = none → 
    Answers (.sltAssignStart p) s (fun t => (t.asgAt p).run = some r ∧ (t.asgAt p).pend = none ∧ t.flag F.SLT_ASSIGN_STAT_RUN p = true ∧ t.flag F.SLT_ASSIGN_STAT_PEND p = false ∧ t.mem = s.mem))
  ∧ (∀ (s : State) (p : Part),
    (s.asgAt p).run = some ⟨.whole 0 0 0, none⟩ → 
    Answers (.sltAssignDone p) s (fun t => (t.asgAt p).run = none ∧ t.rd F.SLT_ASSIGN_STAT_CODE = 0 ∧ t.rd F.SLT_ASSIGN_STAT_PART = p))
  ∧ (∀ (s u : State) (sl : Fin 16) (v : BitVec 64) (p mode : Nat),
    (writeFields s .pf 8 (F.SLT_SLICE_OWNER.regAddr sl 0) v.toNat).1 = u → s.bit F.FLT_EXPERT_EN_EN = true → u.rd F.SLT_SLICE_OWNER sl = p ∧ u.rd F.SLT_SLICE_MODE sl = mode ∧ mode ≠ 0 → v.getLsbD 6 = true → u.asgCode p (.one sl p mode) = 0 → u.asgAt p = ⟨none, [], none⟩ → u.asgMayStart p (.one sl p mode) = true → u.asgOther p (.one sl p mode) = none → 
    Answers (.sltSliceGo sl .pf v) s (fun t => (t.asgAt p).run = some ⟨.one sl p mode, none⟩ ∧ t.bit F.SLT_SLICE_BUSY sl = true ∧ t.mem = u.mem))

/-- HBM bursts: where an address lies, reads and writes of the array, the patrol, and a stack that has failed (R281, R282, R287, R288, R289, R290, R292, R304). -/
def Obligations.HbmBursts : Prop :=
  (∀ (s : State),
    s.rd F.HBM_STAT_B = 3 → s.rd F.HBM_STAT_G0 = 0 → 
    (s.stackOf 0x000234567A00 = 4 ∧ s.stackAddr 0x000234567A00 = 0x468ACF00 ∧ hbmRow (s.stackAddr 0x000234567A00) = ⟨10, 0, 5, 2257⟩
      ∧ bitsAt (s.stackAddr 0x000234567A00) 13 2 = 2))
  ∧ (∀ (s : State) (a : BitVec 48) (lane : BitVec 11) (o n : Nat),
    regionOf a.toNat = .hbm o → o < s.hbmCap → s.stackOf o = n → s.stackOk n = true → s.hbmWaits n (s.stackAddr o) = false → s.localOf n (s.stackAddr o) = a.toNat → 
    ((Answers (.hbmRead a 0 lane 0) s (fun t => Keeps s t [F.HBM_ERR_LINK_RPL.key n 0] ∧ t.hbm = s.hbm))
      ∧ ((s.hb n).queue.contains (hbmRow (s.stackAddr o)) = false → (s.hb n).run ≠ some (hbmRow (s.stackAddr o)) → (s.hb n).queue.length < 16 →
      Answers (.hbmRead a 0 lane 2) s (fun t => (t.hb n).queue = (s.hb n).queue ++ [hbmRow (s.stackAddr o)] ∧ t.mem = s.mem ∧ t.psn = s.psn))
      ∧ (s.psnAt (a.toNat - a.toNat % 32) = false → s.rd F.HBM_PSN_USED n < 4096 →
      Answers (.hbmRead a 0 lane 3) s (fun t => t.psnAt (a.toNat - a.toNat % 32) = true ∧ t.mem = s.mem))))
  ∧ (∀ (s : State) (a : BitVec 48) (parity : Fin 6) (lane : BitVec 11) (sev : Fin 4) (o : Nat),
    regionOf a.toNat = .hbm o → s.stackOk (s.stackOf o) = false → 
    (Answers (.hbmRead a parity lane sev) s (fun t => t = s) ∧ Answers (.hbmWrite a [(1, false)] parity lane) s (fun t => t = s)))
  ∧ (∀ (s : State) (a : BitVec 48) (d : List (Byte × Bool)) (lane : BitVec 11) (o n : Nat),
    regionOf a.toNat = .hbm o → d ≠ [] ∧ o % 32 + d.length ≤ 32 → o + d.length ≤ s.hbmCap → s.stackOf o = n → s.hbmWaits n (s.stackAddr o) = false → s.stackOk n = true → s.rd F.HBM_PSN_USED n < 4096 → 
    Answers (.hbmWrite a d 0 lane) s (fun t => (∀ k, k < d.length → t.mem1 (a.toNat + k) = (d.map (fun e => e.1))[k]?.getD 0)
      ∧ (∀ b, b < a.toNat ∨ a.toNat + d.length ≤ b → t.mem1 b = s.mem1 b)
      ∧ (t.psnAt (a.toNat - a.toNat % 32) = (d.any (fun e => e.2) || (s.psnAt (a.toNat - a.toNat % 32) && decide (d.length < 32)))) ∧ t.clu = s.clu ∧ t.slate = s.slate))
  ∧ (∀ (s : State) (n : Fin 8) (lane : BitVec 11),
    s.inGroup n = true → s.stackOk n = true → s.hbm.modeRun = none → (s.hb n).run = none → (s.hb n).patrol + 32 < stackEnd → 
    Answers (.patrolRead n 0 lane 0) s (fun t => (t.hb n).patrol = (s.hb n).patrol + 32 ∧ t.mem = s.mem ∧ t.psn = s.psn ∧ t.clu = s.clu))
  ∧ (∀ (s : State) (n : Fin 8),
    (n : Nat) < s.stacks → s.flag F.HBM_STAT_INSVC_FAIL n = false → 
    Answers (.hbmStackFail n) s (fun t => (t.hb n).queue = [] ∧ (t.hb n).run = none ∧ t.mem = s.mem ∧ t.psn = s.psn ∧ t.slate = s.slate))

/-- HBM control: bandwidth modes, the size of the mirror region, the expert fields of scrubbing (R283, R284, R285, R297, R298). -/
def Obligations.HbmModesAndMirror : Prop :=
  (∀ (s : State) (v : BitVec 64) (t0 : Nat) (l : List Nat),
    ((s.hbm.modeRun = none → s.hbm.modePend = none → v.toNat % 2 = s.rd F.HBM_STAT_MODE →
      Answers (.hbmModeReq .pf v) s (fun t => t.rd F.HBM_MODE_CODE = 0 ∧ t.hbm = { s.hbm with modeRun := none, modePend := none } ∧ t.mem = s.mem))
      ∧ (s.hbm.modeRun = none → s.hbm.modePend = none → v.toNat % 2 ≠ s.rd F.HBM_STAT_MODE → s.modeStacks ≠ [] →
      Answers (.hbmModeReq .pf v) s (fun t => t.hbm = { s.hbm with modeRun := some (v.toNat % 2, s.modeStacks), modePend := none } ∧ t.bit F.HBM_MODE_PEND = false ∧ t.mem = s.mem))
      ∧ (s.hbm.modeRun = some (t0, l) → s.hbm.modePend = none → v.toNat % 2 ≠ t0 →
      Answers (.hbmModeReq .pf v) s (fun t => t.hbm = { s.hbm with modePend := some (v.toNat % 2) } ∧ t.bit F.HBM_MODE_PEND = true))
      ∧ (s.hbm.modeRun = some (t0, l) → s.hbm.modePend = some t0 →
      Answers (.hbmModeReq .pf v) s (fun t => t.hbm = { s.hbm with modePend := some (v.toNat % 2) } ∧ t.rd F.HBM_MODE_CODE = 0x0009))
      ∧ (∀ p : Part, Answers (.hbmModeReq (.vf p) v) s (fun t => t.rd F.FLT_WR_REJ_COUNT = satAt 32 (s.rd F.FLT_WR_REJ_COUNT + 1) ∧ t.hbm = s.hbm))))
  ∧ (∀ (s : State) (m n k : Nat) (l : List Nat),
    (s.hb n).run = none → 
    ((s.hbm.modeRun = some (m, n :: k :: l) → Answers .hbmModeStackDone s (fun t => t.hbm.modeRun = some (m, k :: l) ∧ t.mem = s.mem))
      ∧ (s.hbm.modeRun = some (m, [n]) → s.hbm.modePend = none →
      Answers .hbmModeStackDone s (fun t => t.hbm.modeRun = none ∧ t.rd F.HBM_MODE_CODE = 0 ∧ t.mem = s.mem))))
  ∧ (∀ (s : State) (v : BitVec 64),
    v.getLsbD 6 = false → v.toNat % 64 ≠ s.rd F.HBM_MIRROR_SIZE_GIB → 
    ((v.toNat % 64 ≤ 48 → s.pairIsBound = false → 2 * (v.toNat % 64 * 2 ^ 30) ≤ s.hbmCap → s.host.grants = [] →
      Answers (.hbmMirrorWrite .pf v) s (fun t => t.rd F.HBM_MIRROR_SIZE_GIB = v.toNat % 64 ∧ Keeps s t [F.HBM_MIRROR_SIZE_GIB.key 0 0]))
      ∧ (48 < v.toNat % 64 ∨ s.pairIsBound = true ∨ s.hbmCap < 2 * (v.toNat % 64 * 2 ^ 30) →
      Answers (.hbmMirrorWrite .pf v) s (fun t => t.bit F.HBM_MIRROR_REJ = true ∧ Keeps s t [F.HBM_MIRROR_REJ.key 0 0]))))
  ∧ (∀ (s : State) (v : BitVec 64),
    s.bit F.FLT_EXPERT_EN_EN = true → 1 ≤ bitsAt v.toNat 0 8 ∧ bitsAt v.toNat 0 8 ≤ 168 ∧ 1 ≤ bitsAt v.toNat 9 7 ∧ bitsAt v.toNat 9 7 ≤ 64 → 
    Answers (.hbmScrubWrite .pf v) s (fun t => t.rd F.HBM_SCRUB_PERIOD_H = bitsAt v.toNat 0 8 ∧ t.bit F.HBM_SCRUB_MIRROR_SCRUB = v.getLsbD 8
      ∧ t.rd F.HBM_SCRUB_RPR_THRESH = bitsAt v.toNat 9 7 ∧ t.bit F.HBM_SCRUB_HARD_AT_INIT = v.getLsbD 16 ∧ t.mem = s.mem))
  ∧ (∀ (s u : State) (v : BitVec 64),
    s.bit F.FLT_EXPERT_EN_EN = true → (writeFields s .pf 8 F.HBM_RPR_REQ_STACK.addr v.toNat).1 = u → v.getLsbD 28 = true → 
    ((u.inGroup (u.rd F.HBM_RPR_REQ_STACK) = true → u.rd F.HBM_RPR_REQ_STACK < u.stacks → u.flag F.HBM_STAT_INSVC_FAIL (u.rd F.HBM_RPR_REQ_STACK) = false
      → u.rd F.HBM_RPR_REQ_SID ≤ 2 → (u.hb (u.rd F.HBM_RPR_REQ_STACK)).queue = [] → (u.hb (u.rd F.HBM_RPR_REQ_STACK)).run = none →
      Answers (.hbmRprReqGo .pf v) s (fun t => (t.hb (u.rd F.HBM_RPR_REQ_STACK)).queue
      = [⟨u.rd F.HBM_RPR_REQ_PC, u.rd F.HBM_RPR_REQ_SID, u.rd F.HBM_RPR_REQ_BANK, u.rd F.HBM_RPR_REQ_ROW⟩] ∧ t.mem = u.mem))
      ∧ (2 < u.rd F.HBM_RPR_REQ_SID → Answers (.hbmRprReqGo .pf v) s (fun t => t.bit F.HBM_SCRUB_FMT_REJ = true ∧ Keeps u t [F.HBM_SCRUB_FMT_REJ.key 0 0] ∧ t.hbm = u.hbm))))

/-- Row repair: the oldest candidate starts, a bank without a resource is given up, a repair ends and its record reaches flash (R293, R294, R295, R296, R302). -/
def Obligations.RowRepair : Prop :=
  (∀ (s : State) (n : Fin 8) (r : HbmRow) (l : List HbmRow),
    (s.hb n).run = none → (s.hb n).queue = r :: l → s.retraining n = false → s.stackOk n = true → 
    (((s.hb n).used.contains (r.pc, r.sid, r.bank) = false → Answers (.rowRepairStart n) s (fun t => (t.hb n).run = some r ∧ (t.hb n).queue = l ∧ t.mem = s.mem))
      ∧ ((s.hb n).used.contains (r.pc, r.sid, r.bank) = true → Answers (.rowRepairStart n) s (fun t => (t.hb n).run = none ∧ (t.hb n).queue = l ∧ t.mem = s.mem ∧ t.psn = s.psn))))
  ∧ (∀ (s : State) (n : Fin 8) (r : HbmRow),
    (s.hb n).run = some r → 
    Answers (.rowRepairDone n 0) s (fun t => (t.hb n).run = none ∧ (t.hb n).used = (r.pc, r.sid, r.bank) :: (s.hb n).used
      ∧ t.hbm.unflashed = s.hbm.unflashed ++ [((n : Nat), r)] ∧ t.mem = s.mem ∧ t.psn = s.psn))
  ∧ (∀ (s : State) (n : Nat) (r : HbmRow) (l : List (Nat × HbmRow)),
    s.hbm.unflashed = (n, r) :: l → s.hbm.records.length < 4096 → 
    Answers .repairRecordFlashed s (fun t => t.hbm.unflashed = l ∧ t.hbm.records = s.hbm.records ++ [(n, r, false)] ∧ t.mem = s.mem))

/-- Link blocks: what a port sends, replay and acknowledgement, ALIGN, FC_STATE, and the figure of merit (R311, R312, R315, R316, R318, R325, R326, R360). -/
def Obligations.LinkBlocks : Prop :=
  ((fomOf 0 (2 ^ 27) = 255 ∧ fomOf 9000 (2 ^ 27) = 133 ∧ fomOf 150000 (2 ^ 27) = 94 ∧ fomOf 2000000 (2 ^ 27) = 58 ∧ fomOf 3 (2 ^ 20) = 177 ∧ fomOf (2 ^ 20) (2 ^ 20) = 0
      ∧ ∀ f, fomClass f = if 96 ≤ f then 0 else if 64 ≤ f then 1 else 2))
  ∧ (∀ (s : State) (n : Port) (u : Nat),
    s.pstate n = 7 → s.rd F.QTZ_PORT_STAT_TX_PWR n = 0 → (s.pt n).swapRx = none → 0 < u ∧ u ≤ 41 → 
    ((4095 ≤ (s.pt n).sinceAlign → (s.pt n).echo = none → Answers (.linkBlockTx n) s (fun t => (t.pt n).sinceAlign = 0
      ∧ (t.pt n).last.map (fun b => (b.ty, b.seq, b.units, b.time, b.echo)) = some (3, 0, 0, s.now % 2 ^ 32, 0) ∧ (t.pt n).store = (s.pt n).store ∧ t.regs = s.regs))
      ∧ ((s.pt n).sinceAlign < 4095 → (s.pt n).resend = [] → (s.pt n).sending = [] → Answers (.linkBlockTx n) s (fun t => (t.pt n).sinceAlign = (s.pt n).sinceAlign + 1
      ∧ (t.pt n).last.map (fun b => (b.ty, b.seq, b.units, b.first)) = some (2, 0, 0, 63) ∧ (t.pt n).store = (s.pt n).store ∧ (t.pt n).txSeq = (s.pt n).txSeq ∧ t.regs = s.regs))
      ∧ ((s.pt n).sinceAlign < 4095 → (s.pt n).resend = [] → (s.pt n).sending = [(u, false)] → (s.pt n).store.length < 128 → Answers (.linkBlockTx n) s (fun t =>
      (t.pt n).last.map (fun b => (b.ty, b.seq, b.units, b.first, b.nak)) = some (1, (s.pt n).txSeq, u, 0, (s.pt n).nakDue)
      ∧ (t.pt n).store = (s.pt n).store ++ [((s.pt n).txSeq, u, 0, 1)] ∧ (t.pt n).sending = [] ∧ (t.pt n).txSeq = ((s.pt n).txSeq + 1) % 65536 ∧ (t.pt n).nakDue = false ∧ t.regs = s.regs))))
  ∧ (∀ (s : State) (n : Port) (b : LinkBlk) (want : Nat),
    s.pstate n = 7 → s.rd F.QTZ_PORT_STAT_RX_PWR n = 0 → b.ackV = false ∧ b.nak = false ∧ b.ty = 1 → (match (s.pt n).rxSeq with | some q => (q + 1) % 65536 | none => 0) = want → 
    ((b.seq = want → Answers (.linkBlockRx n b false false) s (fun t => (t.pt n).rxSeq = some want ∧ (t.pt n).ackDue = true ∧ (t.pt n).gap = false ∧ (t.pt n).uncorr = 0 ∧ t.regs = s.regs ∧ t.mem = s.mem))
      ∧ (b.seq = (want + 1) % 65536 → want < 65536 → Answers (.linkBlockRx n b false false) s (fun t => (t.pt n).rxSeq = (s.pt n).rxSeq ∧ (t.pt n).gap = true
      ∧ (t.pt n).nakDue = ((s.pt n).nakDue || !(s.pt n).gap) ∧ t.regs = s.regs))))
  ∧ (∀ (s : State) (n : Port) (b : LinkBlk),
    s.pstate n = 7 → (s.pt n).uncorr < 7 → 
    (Answers (.linkBlockRx n b true false) s (fun t => t.rd F.QTZ_PORT_FEC_UNCORR_BLK n = satAt 32 (s.rd F.QTZ_PORT_FEC_UNCORR_BLK n + 1) ∧ (t.pt n).uncorr = (s.pt n).uncorr + 1
      ∧ (t.pt n).nakDue = ((s.pt n).nakDue || !(s.pt n).gap) ∧ (t.pt n).rxSeq = (s.pt n).rxSeq ∧ Keeps s t [F.QTZ_PORT_FEC_UNCORR_BLK.key n 0])
      ∧ Answers (.linkBlockRx n b false true) s (fun t => t.rd F.QTZ_PORT_FEC_CRC_FAIL n = satAt 32 (s.rd F.QTZ_PORT_FEC_CRC_FAIL n + 1)
      ∧ Keeps s t [F.QTZ_PORT_FEC_UNCORR_BLK.key n 0, F.QTZ_PORT_FEC_CRC_FAIL.key n 0])))
  ∧ (∀ (s : State) (n : Port) (b : LinkBlk) (q u f e r : Nat),
    s.pstate n = 7 → s.rd F.QTZ_PORT_STAT_RX_PWR n = 0 → SMap.get s.quartz.unacked [] n = [] → b.ty = 2 ∧ b.ackV = true ∧ b.ack = q ∧ q ≠ r → (s.pt n).nakRun = 0 → (s.pt n).store = [(q, u, f, e), (r, u, f, e)] → 
    ((b.nak = false → Answers (.linkBlockRx n b false false) s (fun t => (t.pt n).store = [(r, u, f, e)] ∧ t.regs = s.regs))
      ∧ (b.nak = true → Answers (.linkBlockRx n b false false) s (fun t => (t.pt n).store = [(r, u, f, e)] ∧ (t.pt n).resend = [r]
      ∧ t.rd F.QTZ_PORT_RPL_REPLAYS n = satAt 32 (s.rd F.QTZ_PORT_RPL_REPLAYS n + 1) ∧ Keeps s t [F.QTZ_PORT_RPL_REPLAYS.key n 0]))))
  ∧ (∀ (s : State) (n : Port) (time echo : BitVec 32) (proc skew : BitVec 12),
    s.pstate n = 7 → (s.pt n).swapRx = none → 
    Answers (.alignBlock n time echo false proc skew) s (fun t => (t.pt n).echo = some (time.toNat, s.now) ∧ t.regs = s.regs ∧ (t.pt n).store = (s.pt n).store))
  ∧ (∀ (s : State) (n : Port) (time echo : BitVec 32) (proc skew : BitVec 12) (r : Nat),
    s.pstate n = 5 → skew.toNat ≤ 32 → (s.pt n).swapRx = none → (s.now + 2 ^ 32 - echo.toNat) % 2 ^ 32 - proc.toNat = r → r ≤ 3000 → 
    Answers (.alignBlock n time echo true proc skew) s (fun t => t.rd F.QTZ_PORT_STAT_RTT_NS n = r ∧ t.pstate n = 5 ∧ t.mem = s.mem))
  ∧ (∀ (s : State) (n : Port) (arg : BitVec 9) (q : Nat),
    s.portPres n = true → q ∈ portQueues n → 
    Answers (.fcState n arg) s (fun t => t.bit F.QTZ_Q_OFF_RX n q = arg.getLsbD q ∧ t.mem = s.mem ∧ t.ports = s.ports ∧ t.quartz = s.quartz))

/-- Bring-up of a port: its stages, their failures, DOWN_HOLD and link resets (R138, R319, R320, R321, R322, R323, R324, R341, R344). -/
def Obligations.BringUp : Prop :=
  (∀ (s : State) (n : Port) (lane : Fin 9) (f : TrainFrame),
    s.portPres n = true → s.pstate n = 1 ∨ s.pstate n = 2 → (lane : Nat) < physCount n → 
    Answers (.trainingFrameRx n lane f) s (fun t => bitAt (t.pt n).seen lane = true ∧ SMap.find (t.pt n).planes lane = some f.plane.toNat
      ∧ t.bit F.QTZ_LANE_RX_POL_INV n lane = f.inverted ∧ (t.pt n).peerReady = (f.ready && decide (f.stage.toNat = s.pstate n)) ∧ Keeps s t [F.QTZ_LANE_RX_POL_INV.key n lane]))
  ∧ (∀ (s : State) (n : Port) (lane : Fin 9) (f : TrainFrame),
    s.portPres n = true → s.pstate n = 3 → (lane : Nat) < physCount n → f.nlane.toNat ≠ physCount n → (s.pt n).restExit = false ∧ (s.pt n).fails < 3 → 
    Answers (.trainingFrameRx n lane f) s (fun t => t.pstate n = 0 ∧ t.rd F.QTZ_PORT_STAT_FAIL_STAGE n = 3 ∧ t.rd F.QTZ_PORT_STAT_FAIL_CAUSE n = 5 ∧ (t.pt n).fails = (s.pt n).fails + 1 ∧ t.mem = s.mem))
  ∧ (∀ (s : State) (n : Port),
    s.portPres n = true → (s.pt n).peerReady = true → 
    ((s.pstate n = 1 → laneCount n ≤ (s.seenLanes n).length → Answers (.bringupStageDone n) s (fun t => t.pstate n = 2 ∧ (t.pt n).peerReady = false ∧ Keeps s t [F.QTZ_PORT_STAT_STATE.key n 0]))
      ∧ (s.pstate n = 2 → Answers (.bringupStageDone n) s (fun t => t.pstate n = 3 ∧ Keeps s t [F.QTZ_PORT_STAT_STATE.key n 0]))
      ∧ (s.pstate n = 5 → Answers (.bringupStageDone n) s (fun t => t.pstate n = 6 ∧ Keeps s t [F.QTZ_PORT_STAT_STATE.key n 0]))))
  ∧ (∀ (s : State) (n : Port),
    s.portPres n = true → (s.pt n).peerReady = true → s.pstate n = 3 → laneCount n ≤ (s.seenLanes n).length → 
    ((s.inOrder n false = true → Answers (.bringupStageDone n) s (fun t => t.pstate n = 4 ∧ t.bit F.QTZ_PORT_STAT_REVERSED n = false
      ∧ ∀ k, k < physCount n → t.rd F.QTZ_LANE_RX_LOGICAL n k = if k < laneCount n then k else 15))
      ∧ (s.inOrder n false = false → s.inOrder n true = true → Answers (.bringupStageDone n) s (fun t => t.pstate n = 4 ∧ t.bit F.QTZ_PORT_STAT_REVERSED n = true
      ∧ ∀ k, k < physCount n → t.rd F.QTZ_LANE_RX_LOGICAL n (physCount n - 1 - k) = if k < laneCount n then k else 15))))
  ∧ (∀ (s : State) (n : Port),
    s.portPres n = true → (s.pt n).peerReady = true → s.pstate n = 4 → (s.activeLanes n).all (fun l => s.laneGood n l) = true → 
    Answers (.bringupStageDone n) s (fun t => t.pstate n = 5 ∧ Keeps s t [F.QTZ_PORT_STAT_STATE.key n 0] ∧ (t.pt n).sinceAlign = 4095))
  ∧ (∀ (s : State) (n : Port),
    s.portPres n = true → s.pstate n = 6 → s.rd F.FLT_START_STAGE = 8 → 
    Answers (.bringupStageDone n) s (fun t => t.pstate n = 7 ∧ (t.pt n).fails = 0 ∧ (t.pt n).stored = true ∧ t.mem = s.mem))
  ∧ (∀ (s : State) (n : Port) (cause : Fin 7),
    s.portPres n = true → 2 ≤ s.pstate n ∧ s.pstate n ≤ 6 → (s.pt n).restExit = false → 
    Answers (.bringupStageTimeout n cause) s (fun t => t.rd F.QTZ_PORT_STAT_FAIL_STAGE n = s.pstate n ∧ t.rd F.QTZ_PORT_STAT_FAIL_CAUSE n = stageCause (s.pstate n) cause
      ∧ (if (s.pt n).fails < 3 then t.pstate n = 0 ∧ (t.pt n).hold = true ∧ (t.pt n).fails = (s.pt n).fails + 1 else t.pstate n = 8 ∧ (t.pt n).hold = false) ∧ t.mem = s.mem))
  ∧ (∀ (s : State) (n : Port),
    s.pwr.refclk = true → 
    (((s.pt n).hold = true → Answers (.bringupRestart n) s (fun t => t.pstate n = 1 ∧ (t.pt n).hold = false ∧ (t.pt n).fails = (s.pt n).fails ∧ (t.pt n).seeded = (s.pt n).seeded ∧ t.mem = s.mem))
      ∧ (s.pstate n = 8 → Answers (.downHoldEnd n) s (fun t => t.pstate n = 1 ∧ (t.pt n).seeded = (s.pt n).seeded ∧ t.rd F.QTZ_PORT_STAT_SPARE_RX n = 15 ∧ t.mem = s.mem))))
  ∧ (∀ (s : State) (n : Port),
    s.portPres n = true → s.pwr.refclk = true → s.rd F.QTZ_PORT_STAT_QSTATE n ≠ 2 → s.portUp n = false ∧ (s.pt n).restExit = false → s.txOf n = [] ∧ SMap.get s.quartz.unacked [] n = [] → s.clxWaiters = [] → 
    (Answers (.linkReset n .pf) s (fun t => t.pstate n = 1 ∧ (t.pt n).seeded = true ∧ t.mem = s.mem)
      ∧ ((n : Nat) = 16 → Answers (.agateLinkReset .pf) s (fun t => t.pstate 16 = 1 ∧ t.mem = s.mem))))
  ∧ (∀ (s : State) (n : Port) (p : Part),
    ((s.portPres n = true → s.rd F.QTZ_PORT_STAT_QSTATE n = 2 → Answers (.linkReset n .pf) s (fun t => t.bit F.QTZ_PORT_CTRL_REJ n = true ∧ Keeps s t [F.QTZ_PORT_CTRL_REJ.key n 0] ∧ t.ports = s.ports))
      ∧ Answers (.linkReset n (.vf p)) s (fun t => t.bit F.DEV_RST_REJ = true ∧ t.ports = s.ports ∧ Keeps s t [F.DEV_RST_REJ.key 0 0, F.FLT_WR_REJ_COUNT.key 0 0])
      ∧ Answers (.agateLinkReset (.vf p)) s (fun t => t.bit F.DEV_RST_REJ = true ∧ t.ports = s.ports)))

/-- Lanes in service: figures of merit, the spare switch, loss of signal, doze and rest, quiescing, expert controls (R325, R326, R327, R328, R329, R331, R332, R333, R334, R335, R336, R337). -/
def Obligations.LaneServiceSleepQuiesce : Prop :=
  (∀ (s : State) (n : Port) (lane : Fin 9) (errors : BitVec 28),
    s.portPres n = true → (lane : Nat) < physCount n → s.pstate n = 7 → s.rd F.QTZ_LANE_RX_LOGICAL n lane < 4 → 96 ≤ fomOf errors.toNat (2 ^ 27) → 
    Answers (.fomWindowEnd n lane errors false) s (fun t => t.rd F.QTZ_LANE_RX_FOM n lane = fomOf errors.toNat (2 ^ 27) ∧ t.rd F.QTZ_LANE_RX_CLASS n lane = 0
      ∧ t.rd F.QTZ_LANE_RX_FOM_MIN n lane = min (fomOf errors.toNat (2 ^ 27)) (s.rd F.QTZ_LANE_RX_FOM_MIN n lane) ∧ t.ports = s.ports
      ∧ Keeps s t [F.QTZ_LANE_RX_FOM.key n lane, F.QTZ_LANE_RX_FOM_MIN.key n lane, F.QTZ_LANE_RX_ERR_SYM.key n lane, F.QTZ_LANE_RX_CLASS.key n lane]))
  ∧ (∀ (s : State) (n : Port) (lane : Fin 9) (errors : BitVec 28),
    s.portPres n = true → (lane : Nat) < physCount n → s.pstate n = 7 → s.rd F.QTZ_LANE_RX_LOGICAL n lane < 4 → (s.pt n).swapRx = none → s.rd F.QTZ_PORT_STAT_SPARE_RX n = 15 ∧ s.bit F.QTZ_PORT_STAT_SPARE_BAD n = false → fomOf errors.toNat (2 ^ 27) < 64 → 
    Answers (.fomWindowEnd n lane errors false) s (fun t => ((t.pt n).swapRx.map (fun w => (w.lane, w.phase, w.los)) = some (s.rd F.QTZ_LANE_RX_LOGICAL n lane, 0, false))
      ∧ (t.pt n).ctl.contains (1, s.rd F.QTZ_LANE_RX_LOGICAL n lane) = true ∧ t.mem = s.mem))
  ∧ (∀ (s : State) (n : Port) (k : Fin 8) (w : SwapRx),
    s.pstate n = 7 → 
    ((s.rd F.QTZ_PORT_STAT_SPARE_RX n = 15 → (s.pt n).swapRx = none → Answers (.spareCheck n) s (fun t => (t.pt n).checking = true ∧ t.regs = s.regs))
      ∧ ((k : Nat) < laneCount n → s.rd F.QTZ_PORT_STAT_SPARE_TX n = 15 → (s.pt n).swapTx = none → Answers (.swapReq n k) s (fun t => (t.pt n).swapTx = some (k : Nat)
      ∧ (t.pt n).ctl.contains (2, (k : Nat)) = true ∧ t.regs = s.regs))
      ∧ (s.rd F.QTZ_PORT_STAT_SPARE_TX n ≠ 15 → (s.pt n).swapTx = none → Answers (.swapReq n k) s (fun t => (t.pt n).swapTx = none ∧ (t.pt n).ctl.contains (4, (k : Nat)) = true ∧ t.regs = s.regs))
      ∧ ((s.pt n).swapRx = some w → w.lane = k → w.phase = 0 → Answers (.swapRdy n k) s (fun t => (t.pt n).swapRx = some { w with phase := 1 } ∧ t.regs = s.regs))
      ∧ ((s.pt n).swapTx = some (k : Nat) → Answers (.swapDone n k) s (fun t => t.rd F.QTZ_PORT_STAT_SPARE_TX n = (k : Nat) ∧ (t.pt n).swapTx = none ∧ Keeps s t [F.QTZ_PORT_STAT_SPARE_TX.key n 0]))
      ∧ ((s.pt n).swapRx = none → (s.pt n).swapTx = some (k : Nat) → Answers (.swapFail n k) s (fun t => (t.pt n).swapTx = none ∧ t.regs = s.regs))
      ∧ ((s.pt n).swapRx = some w → w.lane = k → w.phase = 0 → w.los = false → Answers (.swapFail n k) s (fun t => (t.pt n).swapRx = none ∧ t.pstate n = 7))))
  ∧ (∀ (s : State) (n : Port) (lane : Fin 9),
    s.portPres n = true → (lane : Nat) < physCount n → s.pstate n = 7 → (s.pt n).silent = false ∧ s.rd F.QTZ_PORT_STAT_QSTATE n = 0 → s.rd F.QTZ_LANE_RX_LOGICAL n lane < 4 → (s.pt n).swapRx = none → s.rd F.QTZ_PORT_STAT_SPARE_RX n = 15 ∧ s.bit F.QTZ_PORT_STAT_SPARE_BAD n = false → (s.activeLanes n).all (fun m => m = lane || !s.bit F.QTZ_LANE_RX_LOS n m) = true → 
    Answers (.losDeclare n lane) s (fun t => t.bit F.QTZ_LANE_RX_LOS n lane = true ∧ ((t.pt n).swapRx.map (fun w => (w.lane, w.los)) = some (s.rd F.QTZ_LANE_RX_LOGICAL n lane, true))
      ∧ t.rd F.QTZ_PORT_RPL_LOS_EVT n = satAt 16 (s.rd F.QTZ_PORT_RPL_LOS_EVT n + 1) ∧ t.mem = s.mem))
  ∧ (∀ (s : State) (n : Port),
    (n : Nat) ≠ 16 → s.pstate n = 7 → s.rd F.QTZ_PORT_STAT_TX_PWR n = 0 → s.rd F.QTZ_PORT_STAT_RX_PWR n = 0 → s.bit F.QTZ_PORT_PWR_DOZE_EN n = true → s.txOf n = [] ∧ (s.pt n).sending = [] ∧ (s.pt n).store = [] ∧ (s.pt n).ctl = [] ∧ (s.pt n).nakDue = false → 
    (Answers (.dozeEnter n) s (fun t => t.rd F.QTZ_PORT_STAT_TX_PWR n = 1 ∧ ((t.pt n).last.map (fun b => (b.ty, b.cs.contains (5, 0))) = some (2, true)) ∧ Keeps s t [F.QTZ_PORT_STAT_TX_PWR.key n 0])
      ∧ Answers (.linkDoze n) s (fun t => t.rd F.QTZ_PORT_STAT_RX_PWR n = 1 ∧ Keeps s t [F.QTZ_PORT_STAT_RX_PWR.key n 0])))
  ∧ (∀ (s : State) (n : Port),
    (n : Nat) ≠ 16 → s.pstate n = 7 → 
    ((s.hasToSend n = true → s.rd F.QTZ_PORT_STAT_TX_PWR n = 1 → Answers (.dozeWake n) s (fun t => t.rd F.QTZ_PORT_STAT_TX_PWR n = 0 ∧ Keeps s t [F.QTZ_PORT_STAT_TX_PWR.key n 0]))
      ∧ ((s.pt n).dozed ≠ none → s.bit F.QTZ_PORT_PWR_REST_EN n = true → Answers (.restEnter n) s (fun t => t.rd F.QTZ_PORT_STAT_TX_PWR n = 0 ∧ (t.pt n).restSent = true
      ∧ (t.pt n).ctl.contains (6, 0) = true ∧ Keeps s t [F.QTZ_PORT_STAT_TX_PWR.key n 0]))
      ∧ ((s.pt n).restSent = false → Answers (.restReq n) s (fun t => t.rd F.QTZ_PORT_STAT_TX_PWR n = 2 ∧ t.rd F.QTZ_PORT_STAT_RX_PWR n = 2
      ∧ ((s.pt n).ctl = [] → (t.pt n).last.map (fun b => b.cs.contains (7, 0)) = some true) ∧ Keeps s t [F.QTZ_PORT_STAT_TX_PWR.key n 0, F.QTZ_PORT_STAT_RX_PWR.key n 0]))
      ∧ ((s.pt n).restSent = true → Answers (.restAck n) s (fun t => t.rd F.QTZ_PORT_STAT_TX_PWR n = 2 ∧ t.rd F.QTZ_PORT_STAT_RX_PWR n = 2 ∧ (t.pt n).restSent = false
      ∧ Keeps s t [F.QTZ_PORT_STAT_TX_PWR.key n 0, F.QTZ_PORT_STAT_RX_PWR.key n 0]))
      ∧ (s.rd F.QTZ_PORT_STAT_RX_PWR n = 2 → Answers (.wakeBeacon n) s (fun t => t.pstate n = 4 ∧ t.rd F.QTZ_PORT_STAT_TX_PWR n = 0 ∧ t.rd F.QTZ_PORT_STAT_RX_PWR n = 0
      ∧ (t.pt n).restExit = true ∧ (t.pt n).seeded = true ∧ t.mem = s.mem))))
  ∧ (∀ (s : State) (n : Port) (p : Part),
    (n : Nat) ≠ 16 → s.portPres n = true → s.pwr.refclk = true → 
    ((s.bit F.QTZ_PORT_CTRL_QREQ n = false → s.rd F.QTZ_PORT_STAT_QSTATE n = 0 → s.pstate n = 7 → s.grps = [] → s.clxWaiters = [] → Answers (.qreqQuiesce n .pf) s (fun t => t.bit F.QTZ_PORT_CTRL_QREQ n = true
      ∧ t.rd F.QTZ_PORT_STAT_QSTATE n = 1 ∧ (t.pt n).qsent = true ∧ (t.pt n).ctl.contains (8, 0) = true ∧ t.mem = s.mem))
      ∧ (s.rd F.QTZ_PORT_STAT_QSTATE n = 1 → s.pstate n = 7 → Answers (.linkQuiesce n) s (fun t => (t.pt n).qpeer = true ∧ (t.pt n).ctl.contains (9, 0) = true ∧ t.regs = s.regs))
      ∧ ((s.pt n).qsent = true → Answers (.quiesceAck n) s (fun t => (t.pt n).qack = true ∧ t.regs = s.regs))
      ∧ (s.rd F.QTZ_PORT_STAT_QSTATE n = 1 → (s.pt n).swapRx = none → (s.pt n).swapTx = none → s.txOf n = [] → SMap.get s.quartz.unacked [] n = [] →
      Answers (.quiesceDrainEnd n) s (fun t => t.rd F.QTZ_PORT_STAT_QSTATE n = 2 ∧ t.pstate n = 9 ∧ (t.pt n).silent = true ∧ t.mem = s.mem))
      ∧ (s.rd F.QTZ_PORT_STAT_QSTATE n = 2 → s.txOf n = [] → SMap.get s.quartz.unacked [] n = [] → Answers (.qreqResume n .pf) s (fun t => t.bit F.QTZ_PORT_CTRL_QREQ n = false
      ∧ t.rd F.QTZ_PORT_STAT_QSTATE n = 0 ∧ t.pstate n = 1 ∧ (t.pt n).seeded = false ∧ t.mem = s.mem))
      ∧ Answers (.qreqQuiesce n (.vf p)) s (fun t => t.rd F.FLT_WR_REJ_COUNT = satAt 32 (s.rd F.FLT_WR_REJ_COUNT + 1) ∧ Keeps s t [F.FLT_WR_REJ_COUNT.key 0 0] ∧ t.ports = s.ports)
      ∧ Answers (.qreqResume n (.vf p)) s (fun t => Keeps s t [F.FLT_WR_REJ_COUNT.key 0 0] ∧ t.ports = s.ports)))
  ∧ (∀ (s : State) (n : Port) (k : Fin 8) (lane : Fin 9) (test loop : Bool) (v : BitVec 64),
    s.portPres n = true → s.bit F.FLT_EXPERT_EN_EN = true → 
    ((s.pstate n = 7 → (k : Nat) < laneCount n → (s.pt n).swapRx = none → Answers (.forceSwap n .pf k) s (fun t => t.rd F.QTZ_PORT_CTRL_SWAP_LANE n = (k : Nat)
      ∧ ((t.pt n).swapRx.map (fun w => (w.lane, w.phase)) = some ((k : Nat), 0)) ∧ Keeps s t [F.QTZ_PORT_CTRL_SWAP_LANE.key n 0]))
      ∧ (s.rd F.QTZ_PORT_STAT_QSTATE n = 2 → Answers (.portTestMode n .pf test loop) s (fun t => t.bit F.QTZ_PORT_CTRL_TEST_EN n = test ∧ t.bit F.QTZ_PORT_CTRL_LOOPBACK n = loop
      ∧ Keeps s t [F.QTZ_PORT_CTRL_TEST_EN.key n 0, F.QTZ_PORT_CTRL_LOOPBACK.key n 0]))
      ∧ (s.rd F.QTZ_PORT_STAT_QSTATE n ≠ 2 → s.bit F.QTZ_PORT_CTRL_TEST_EN n = false → Answers (.portTestMode n .pf true loop) s (fun t => t.bit F.QTZ_PORT_CTRL_REJ n = true
      ∧ Keeps s t [F.QTZ_PORT_CTRL_REJ.key n 0]))
      ∧ (bitsAt v.toNat 26 10 ≠ 0 → bitsAt v.toNat 26 10 ≤ 600 → Answers (.qtzPortPwrWrite n .pf v) s (fun t => t.rd F.QTZ_PORT_PWR_SPARE_CHK n = bitsAt v.toNat 26 10 ∧ t.mem = s.mem ∧ t.ports = s.ports))
      ∧ ((lane : Nat) < physCount n → Answers (.fomMinClr n lane .pf) s (fun t => t.rd F.QTZ_LANE_RX_FOM_MIN n lane = 255 ∧ Keeps s t [F.QTZ_LANE_RX_FOM_MIN.key n lane]))))

/-- Packets served: the byte books, writes, reads, pushes, atomics, signals and responses at the device that answers for them (R348, R349, R350, R351, R361, R373, R384). -/
def Obligations.PacketsServed : Prop :=
  (∀ (s : State) (n : Port) (p : Pkt),
    s.portUp n = true → p.opc = 1 → p.badHdr (decide ((n : Nat) = 16)) = true → 
    Answers (.pktWr n p) s (fun t => t.rd F.QTZ_DROP_BAD_HDR = satAt 16 (s.rd F.QTZ_DROP_BAD_HDR + 1) ∧ Keeps s t [F.QTZ_DROP_BAD_HDR.key 0 0] ∧ t.quartz = s.quartz))
  ∧ (∀ (s : State) (n : Port) (p : Pkt),
    s.takes n p = true → s.rd F.QTZ_Q_ACC n (pktQueue p) + p.size < 2 ^ 64 ∧ s.rd F.QTZ_Q_FWD n (pktQueue p) + p.size < 2 ^ 64 ∧ s.rd F.QTZ_Q_OCC n (pktQueue p) + p.size < 2 ^ 23 → 
    ((s.taken n p).rd F.QTZ_Q_ACC n (pktQueue p) = s.rd F.QTZ_Q_ACC n (pktQueue p) + p.size ∧ (s.taken n p).rd F.QTZ_Q_FWD n (pktQueue p) = s.rd F.QTZ_Q_FWD n (pktQueue p) + p.size
      ∧ (s.taken n p).rd F.QTZ_Q_OCC n (pktQueue p) = s.rd F.QTZ_Q_OCC n (pktQueue p) ∧ (s.taken n p).quartz = s.quartz ∧ (s.taken n p).mem = s.mem ∧ (s.taken n p).clu = s.clu))
  ∧ (∀ (s u v : State) (n : Port) (p : Pkt) (c k : Nat),
    s.takes n p = true → s.taken n p = u → u.answersFor p.dst = true → (n : Nat) ≠ 16 → v.viaSC (if p.opc = 3 then p.code else p.src) k = true → 
    ((p.opc = 1 → u.pktStore p = (v, c) → Answers (.pktWr n p) s (fun t => Queued k (v.pktRsp p.src p c 0) v t ∧ t.mem = v.mem ∧ t.clu = v.clu ∧ t.regs = v.regs))
      ∧ (p.opc = 3 → p.code ≠ u.rd F.QTZ_ID_DEVID → u.pktStore p = (v, c) → Answers (.pktPush n p) s (fun t => Queued k (v.pktRsp p.code p c 0) v t ∧ t.mem = v.mem ∧ t.regs = v.regs))
      ∧ (p.opc = 4 → p.aop < 10 → ∀ old, u.atomicAt (some p.part) p.dst p.addr p.aop (if p.aw then 8 else 4) (p.num 0 8) (p.num 8 8) = (v, c, old) →
      Answers (.pktAmo n p) s (fun t => Queued k (v.pktRsp p.src p c old) v t ∧ t.mem = v.mem ∧ t.regs = v.regs))
      ∧ (p.opc = 5 → bitAt p.w3.toNat 32 = false → u.fenced p.dst = false → u.isAssumed p.dst = false → u.sigCode (some p.part) (bitsAt p.addr 8 8) = 0 →
      u.signalSem (bitsAt p.addr 8 8) (bitsAt p.addr 0 6) (p.w3.toNat % 2 ^ 32) = v →
      Answers (.pktSig n p) s (fun t => Queued k (v.pktRsp p.src p 0 0) v t ∧ t.clu = v.clu ∧ t.mem = v.mem))
      ∧ (p.opc = 2 → u.pktCode p false = c → c ≠ 0 → u = v → Answers (.pktRd n p) s (fun t => Queued k (v.pktRsp p.src p c 0) v t ∧ t.quartz.agent = s.quartz.agent ∧ t.mem = s.mem))))
  ∧ (∀ (s u : State) (p : Pkt) (k : Nat),
    p.bytes ≤ 4096 → 
    ((s.pktCode p true = k → k ≠ 0 → s.pktStore p = (s, k)) ∧ (s.pktCode p true = 0 → (s.writeSpan (some p.part) false (p.dst * 2 ^ 48 + p.addr) p.marked).2.1 = 0 → p.w3 ≠ 0 → (s.pktStore p).2 = 0x010C)))
  ∧ (∀ (s : State) (n : Port) (p : Pkt),
    s.takes n p = true → p.opc = 2 → (s.taken n p).answersFor p.dst = true → (s.taken n p).pktCode p false = 0 → s.quartz.agent.length < 256 → 
    Answers (.pktRd n p) s (fun t => t.quartz.agent = s.quartz.agent ++ [⟨p, 0⟩] ∧ t.mem = s.mem ∧ t.clu = s.clu ∧ t.quartz.txq = s.quartz.txq))
  ∧ (∀ (s v : State) (r : RdEnt) (l : List RdEnt) (c k : Nat) (d : List MByte),
    s.quartz.agent = r :: l → (s.modQ (fun q => { q with agent := l })).readSpan (some r.pkt.part) false (r.pkt.dst * 2 ^ 48 + r.pkt.addr) r.pkt.bytes = (v, c, d) → 
    ((c ≠ 0 → v.viaSC r.pkt.src k = true → r.pkt.opc = 2 → Answers .readAgentPush s (fun t => Queued k (v.pktRsp r.pkt.src r.pkt c 0) v t ∧ t.quartz.agent = v.quartz.agent ∧ t.mem = v.mem))
      ∧ (c = 0 → v.idCode (r.pkt.w3.toNat / 2 ^ 48) = 0 → v.answersFor (r.pkt.w3.toNat / 2 ^ 48) = false → ∀ w, v.routeOut
      { pkt := (v.mkPkt 3 (bulkVc r.pkt.pair.toNat) r.pkt.part (r.pkt.w3.toNat / 2 ^ 48) (r.pkt.w3.toNat % 2 ^ 48 + v.fixBit r.pkt.part)
      (r.pkt.ctx + r.pkt.bytes * 2 ^ 17 + r.pkt.src * 2 ^ 32 + r.pkt.gen * 2 ^ 56) (pmaskOf d) (plain d)).put0 23 1 r.pkt.pair.toNat, src := 31, at_ := v.now } = .done w →
      Answers .readAgentPush s (fun t => t = w))))
  ∧ (∀ (s : State) (n : Port) (p : Pkt) (x : Ctx) (c : Clu) (m : Fin 64) (b : Nat),
    s.takes n p = true → p.opc = 0x10 → (n : Nat) ≠ 16 → (s.taken n p).answersFor p.dst = true → p.ctx < 131072 → 
    ((SMap.find s.quartz.ctx p.ctx = none → Answers (.pktRsp n p) s (fun t => t.rd F.QTZ_PART_LATE p.part = satAt 16 (s.rd F.QTZ_PART_LATE p.part + 1) ∧ t.quartz = s.quartz ∧ t.clu = s.clu))
      ∧ (SMap.find s.quartz.ctx p.ctx = some x → x.gen ≠ p.gen → Answers (.pktRsp n p) s (fun t => t.quartz = s.quartz ∧ t.clu = s.clu))
      ∧ (SMap.find s.quartz.ctx p.ctx = some x → x.gen = p.gen → x.orphan = false → x.owner = .dma c m b → p.code = 0 → Answers (.pktRsp n p) s (fun t => SMap.find t.quartz.ctx p.ctx = none
      ∧ ((t.cl c).slotAt m).out = ((s.cl c).slotAt m).out - 1 ∧ ((t.cl c).slotAt m).code = ((s.cl c).slotAt m).code ∧ t.mem = s.mem))))

/-- Routing: lookup, VC actions, transit and TTL, waiting bulk packets, local repair, and what an output serves (R349, R357, R359, R368, R370, R371, R374, R375, R380). -/
def Obligations.Routing : Prop :=
  (∀ (s : State) (n : Nat),
    s.rd F.QTZ_PORT_STAT_RTT_NS n = 1200 → n < 16 → 
    (s.fcGuard n = 131832 ∧ ((s.pt n).priv = [] → (∀ q, s.rd F.QTZ_Q_OCC n q = 0) → s.sharedFree n = 1966080)))
  ∧ (∀ (s : State) (l : List (Nat × Nat)) (c : Nat × Nat),
    s.fewest l = some c → 
    (c ∈ l ∧ ∀ d, d ∈ l → s.txBytes c.1 ≤ s.txBytes d.1))
  ∧ (∀ (vc : Nat),
    2 ≤ vc ∧ vc ≤ 5 → 
    (vcAct vc 0 = some vc ∧ vcAct vc 1 = (if vc % 2 = 0 then some (vc + 1) else none) ∧ vcAct vc 2 = some (vc / 2 * 2)))
  ∧ (∀ (s : State) (n : Port) (p : Pkt) (k : Nat),
    s.takes n p = true → opcRouted p.opc = true → (s.accept n p).1.answersFor p.dst = false → (s.accept n p).1.heldHere p = false → 
    (((n : Nat) ≠ 16 → 1 < p.ttl → opcBulk p.opc = false → (s.accept n p).1.viaSC p.dst k = true → Answers (.packetForward n p) s (fun t =>
      t.txOf k = s.txOf k ++ [{ (s.accept n p).2 with pkt := p.put0 56 8 (p.ttl - 1) }] ∧ t.mem = s.mem ∧ t.clu = s.clu))
      ∧ ((n : Nat) ≠ 16 → p.ttl ≤ 1 → Answers (.packetForward n p) s (fun t => t.rd F.QTZ_DROP_TTL_EXP = satAt 16 (s.rd F.QTZ_DROP_TTL_EXP + 1) ∧ t.quartz = s.quartz ∧ t.mem = s.mem))
      ∧ ((n : Nat) = 16 → Answers (.packetForward n p) s (fun t => t.rd F.QTZ_DROP_RT_ERR = satAt 16 (s.rd F.QTZ_DROP_RT_ERR + 1) ∧ t.quartz = s.quartz ∧ t.mem = s.mem))))
  ∧ (∀ (s : State) (e : TxEnt) (c : Nat × Nat) (v : Nat),
    s.quartz.stuck = [e] → opcBulk e.pkt.opc = true ∧ e.pkt.fix = false → s.twinAnswers e.pkt.dst = false → bitAt (s.routeEntry e.pkt.dst) 53 = true ∧ bitAt (s.routeEntry e.pkt.dst) 52 = false → (candidates (s.routeEntry e.pkt.dst)).filter (fun d => s.portUsable d.1) = [c] → vcAct e.pkt.vc c.2 = some v → s.queueOn c.1 (queueOf v false) = true → 
    Answers .bulkRouteRetry s (fun t => t.txOf c.1 = s.txOf c.1 ++ [{ e with pkt := (e.pkt.put0 8 3 v).put0 6 2 e.pkt.det }] ∧ t.quartz.stuck = [] ∧ t.regs = s.regs ∧ t.mem = s.mem))
  ∧ (∀ (s : State) (n : Port) (e : TxEnt) (k : Nat),
    s.portUsable n = false → (n : Nat) ≠ 16 ∧ k ≠ n → s.txOf n = [e] ∧ SMap.get s.quartz.unacked [] n = [] → e.pkt.opc = 0x10 → s.viaSC e.pkt.dst k = true → 
    Answers (.localRepairReroute n) s (fun t => t.txOf n = [] ∧ t.txOf k = s.txOf k ++ [e] ∧ t.regs = s.regs ∧ t.mem = s.mem))
  ∧ (∀ (s : State) (n : Port) (e : TxEnt),
    s.pstate n = 7 → s.rd F.QTZ_PORT_STAT_TX_PWR n = 0 → s.serveFixed n = some e → 
    Answers (.packetTransmit n) s (fun t => t.txOf n = (s.txOf n).erase e ∧ SMap.get t.quartz.unacked [] n = SMap.get s.quartz.unacked [] n ++ [e]
      ∧ (t.pt n).sending = (s.pt n).sending ++ [(e.pkt.len + 1, false)] ∧ t.regs = s.regs ∧ t.mem = s.mem))

/-- Transaction contexts: quotas, waiting and grants, time limits, resends, and the snapshot of a partition (R376, R381, R382, R383, R384, R385, R392). -/
def Obligations.TransactionContexts : Prop :=
  (∀ (s : State) (i : Fin 131072) (x : Ctx) (c : Clu),
    SMap.find s.quartz.ctx i = some x → x.orphan = false ∧ x.owner = .sig c ∧ x.part < 16 → x.since + s.ctxT x.part ≤ s.now → s.ctxHeld x = false → 
    Answers (.ctxTimeout i) s (fun t => SMap.find t.quartz.ctx i = none ∧ t.rd F.QTZ_PART_TIMEOUT_N x.part = satAt 16 (s.rd F.QTZ_PART_TIMEOUT_N x.part + 1)
      ∧ (t.cl c).sigOut = (s.cl c).sigOut - 1 ∧ t.quartz.txq = s.quartz.txq ∧ t.mem = s.mem))
  ∧ (∀ (s : State) (part : Fin 16) (w : QWait),
    s.firstWait part = some w → w.part = part → (s.ctxCnt part).1 < s.ctxLimit part → 
    Answers (.quotaContextGranted ⟨part, by omega⟩) s (fun t => t.quartz.qwait = s.quartz.qwait.erase w
      ∧ ((SMap.find t.quartz.ctx (freeCtx 0 s.quartz.ctx)).map (fun c => (c.owner, c.part, c.dst)) = some (w.owner, (part : Nat), w.dst))
      ∧ t.ctxCnt part = ((s.ctxCnt part).1 + 1, (s.ctxCnt part).2.1 + 1, (s.ctxCnt part).2.2) ∧ t.mem = s.mem))
  ∧ (∀ (s : State) (part : Fin 16) (w : QWait) (c : Clu),
    s.firstWait part = some w → w.part = part ∧ w.owner = .sig c → s.ctxLimit part ≤ (s.ctxCnt part).1 → w.since + 1000000 * s.rd F.QTZ_PART_QUOTA_WAIT part ≤ s.now → 
    Answers (.quotaWaitTimeout ⟨part, by omega⟩) s (fun t => t.quartz.qwait = s.quartz.qwait.erase w ∧ t.quartz.ctx = s.quartz.ctx ∧ t.quartz.txq = s.quartz.txq
      ∧ t.rd F.QTZ_PART_QUOTA_N part = satAt 16 (s.rd F.QTZ_PART_QUOTA_N part + 1) ∧ (t.cl c).sigOut = (s.cl c).sigOut - 1 ∧ t.mem = s.mem))
  ∧ (∀ (s : State) (i : Fin 131072) (x : Ctx) (at_ k : Nat),
    SMap.find s.quartz.ctx i = some x → x.orphan = false ∧ x.part < 16 ∧ x.retry = some at_ → at_ + 2000 ≤ s.now → opcBulk x.pkt.opc = false → s.viaSC x.pkt.dst k = true → 
    Answers (.busyResend i) s (fun t => Queued k x.pkt s t ∧ SMap.find t.quartz.ctx i = some { x with retry := none }
      ∧ t.rd F.QTZ_PART_RETRY x.part = satAt 16 (s.rd F.QTZ_PART_RETRY x.part + 1) ∧ Keeps s t [F.QTZ_PART_RETRY.key x.part 0]))
  ∧ (∀ (s : State) (p : Part) (v : BitVec 64) (o : Nat),
    (List.range 16).foldl (fun m k => if k = (p : Nat) then m else m + s.rd F.QTZ_PART_QUOTA k) 0 = o → 
    ((o + bitsAt v.toNat 0 18 ≤ 126976 → v.getLsbD 54 = false → Answers (.qtzPartCfgWrite p .pf v) s (fun t => t.rd F.QTZ_PART_QUOTA p = bitsAt v.toNat 0 18
      ∧ (0 < bitsAt v.toNat 18 8 → t.rd F.QTZ_PART_WEIGHT p = bitsAt v.toNat 18 8) ∧ t.quartz = s.quartz ∧ t.mem = s.mem))
      ∧ (126976 < o + bitsAt v.toNat 0 18 → v.getLsbD 54 = false → Answers (.qtzPartCfgWrite p .pf v) s (fun t => t.bit F.QTZ_PART_REJ p = true ∧ t.quartz = s.quartz ∧ t.mem = s.mem))
      ∧ (∀ q : Part, Answers (.qtzPartCfgWrite p (.vf q) v) s (fun t => t.rd F.FLT_WR_REJ_COUNT = satAt 32 (s.rd F.FLT_WR_REJ_COUNT + 1) ∧ Keeps s t [F.FLT_WR_REJ_COUNT.key 0 0]))))
  ∧ (∀ (s : State) (p : Part),
    (s.ctxCnt p).1 < 2 ^ 18 ∧ (s.ctxCnt p).2.1 < 2 ^ 64 ∧ (s.ctxCnt p).2.2 < 2 ^ 64 → 
    Answers (.partSnap p .pf) s (fun t => t.rd F.QTZ_PART_OUT p = (s.ctxCnt p).1 ∧ t.rd F.QTZ_PART_ALLOC p = (s.ctxCnt p).2.1 ∧ t.rd F.QTZ_PART_DONE p = (s.ctxCnt p).2.2
      ∧ Keeps s t [F.QTZ_PART_OUT.key p 0, F.QTZ_PART_ALLOC.key p 0, F.QTZ_PART_DONE.key p 0, F.QTZ_PART_SWEEP.key p 0] ∧ t.quartz = s.quartz))

/-- Discovery and management: HELLO, management requests by ID and by path, the seven commands, traps and floods (R362, R363, R364, R365, R367, R369, R377, R378, R391). -/
def Obligations.DiscoveryAndManagement : Prop :=
  (∀ (s : State) (n : Port) (p : Pkt) (sr : Nat),
    s.portPres n = true → s.portUp n = true → 
    ((Answers (.helloSend n) s (fun t => Queued n (s.mkPkt 0x34 7 0 0xFFFF 0 0 0 (s.helloBytes n)) s t ∧ t.regs = s.regs))
      ∧ (s.takes n p = true → p.opc = 0x34 → p.num 0 8 = sr → SMap.find s.quartz.hello n = none → bitAt s.quartz.changed n = false → Answers (.linkHello n p) s (fun t =>
      t.rd F.QTZ_NBR_SERIAL n = sr ∧ t.rd F.QTZ_NBR_NID n = p.num 16 2 ∧ t.bit F.QTZ_NBR_HELLO_OK n = true ∧ t.bit F.QTZ_NBR_DOWN n = false
      ∧ SMap.find t.quartz.hello n = some (p.data.take 64) ∧ SMap.find t.quartz.helloAt n = some s.now ∧ t.mem = s.mem))
      ∧ (s.takes n p = true → p.opc = 0x34 → p.num 0 8 = sr → (∃ l, SMap.find s.quartz.hello n = some l ∧ helloSerial l ≠ helloSerial p.data) → helloSerial p.data = sr → Answers (.linkHello n p) s (fun t =>
      t.bit F.QTZ_NBR_DOWN n = true ∧ bitAt t.quartz.changed n = true ∧ t.mem = s.mem))
      ∧ (SMap.get s.quartz.helloAt 0 n + 1000000000 ≤ s.now → Answers (.helloTimeout n) s (fun t => t.bit F.QTZ_NBR_HELLO_OK n = false ∧ t.bit F.QTZ_NBR_DOWN n = true ∧ t.mem = s.mem))))
  ∧ (∀ (s : State) (n : Port) (p : Pkt) (ptr : Nat),
    s.takes n p = true → bitsAt (Pkt.pathV p) 115 5 = ptr → ptr + 1 = bitsAt (Pkt.pathV p) 120 5 ∧ ptr < 23 → (s.taken n p).answersFor p.dst = true → s.host.mgbuf = [] ∧ s.rd F.AGT_STAT_STATE ≠ 4 → s.quartz.mgq.length < 16 → 
    ((p.opc = 0x30 → Answers (.mgReq n p) s (fun t => t.quartz.mgq = s.quartz.mgq ++ [⟨p, false⟩] ∧ t.mem = s.mem ∧ t.host = s.host))
      ∧ (p.opc = 0x32 → Answers (.mgPreq n p) s (fun t => t.quartz.mgq = s.quartz.mgq ++ [⟨pktWithPath p (putBits (putBits (Pkt.pathV p) (5 * ptr) 5 n) 115 5 (ptr + 1)), true⟩] ∧ t.mem = s.mem))
      ∧ (p.opc = 0x31 → Answers (.mgRsp n p) s (fun t => t.rd F.HST_STAT_MG_DROP = satAt 16 (s.rd F.HST_STAT_MG_DROP + 1) ∧ t.host = s.host ∧ t.quartz = s.quartz))
      ∧ (p.opc = 0x33 → Answers (.mgPrsp n p) s (fun t => t.rd F.HST_STAT_MG_DROP = satAt 16 (s.rd F.HST_STAT_MG_DROP + 1) ∧ t.host = s.host ∧ t.quartz = s.quartz))
      ∧ (p.opc = 0x35 → Answers (.mgTrap n p) s (fun t => t.rd F.HST_STAT_MG_DROP = satAt 16 (s.rd F.HST_STAT_MG_DROP + 1) ∧ t.host = s.host ∧ t.quartz = s.quartz))))
  ∧ (∀ (s : State) (n : Port) (p : Pkt) (b : Nat × Nat),
    s.takes n p = true → p.opc = 0x31 ∨ p.opc = 0x35 → (s.taken n p).answersFor p.dst = true → s.host.mgbuf = [b] ∧ s.host.cmds = [] ∧ s.rd F.AGT_STAT_STATE ≠ 4 → 
    ((p.opc = 0x31 → Answers (.mgRsp n p) s (fun t => t.host.mgrecv = s.host.mgrecv ++ [(b.2, p)] ∧ t.host.mgbuf = [] ∧ t.mem = s.mem))
      ∧ (p.opc = 0x35 → Answers (.mgTrap n p) s (fun t => t.host.mgrecv = s.host.mgrecv ++ [(b.2, p)] ∧ t.host.mgbuf = [] ∧ t.mem = s.mem))))
  ∧ (∀ (s : State) (e : MgEnt) (l : List MgEnt),
    s.quartz.mgq = e :: l ∧ s.quartz.mgBusy = false → s.isAssumed e.pkt.dst = false ∧ s.answersFor e.pkt.src = false ∧ e.path = false → 
    ((s.rd F.QTZ_MGMT_MKEY = 0 ∨ e.pkt.num 0 4 = s.rd F.QTZ_MGMT_MKEY → 1 ≤ e.pkt.byte 6 → e.pkt.byte 6 ≤ 7 → Answers .mgExecute s (fun t => t.quartz.mgBusy = true ∧ t.quartz.mgq = e :: l ∧ t.regs = s.regs))
      ∧ (s.rd F.QTZ_MGMT_MKEY ≠ 0 → e.pkt.num 0 4 ≠ s.rd F.QTZ_MGMT_MKEY → Answers .mgExecute s (fun t => t.quartz.mgq = l ∧ t.quartz.mgBusy = false ∧ t.mem = s.mem))))
  ∧ (∀ (s : State) (e : MgEnt) (l : List MgEnt) (k a n : Nat),
    s.quartz.mgq = e :: l ∧ s.quartz.mgBusy = true ∧ e.path = false → s.answersFor e.pkt.src = false → s.viaSC e.pkt.src k = true → mgArg e.pkt = a ∧ mgN e.pkt = n → 
    ((e.pkt.byte 6 = 1 → 1 ≤ n → n ≤ 63 → a % 8 = 0 → (List.range n).all (fun j => inRegBlock (a + 8 * j)) = true → Answers .readReg s (fun t =>
      Replies e k 0 ((List.range n).flatMap (fun j => plain (leM 8 (s.regRead (a + 8 * j))))) s t ∧ t.regs = s.regs ∧ t.mem = s.mem))
      ∧ (e.pkt.byte 6 = 3 → Answers .getNbr s (fun t => Replies e k 0 ((List.range 17).flatMap (fun j => s.nbrRecord j)) s t ∧ t.regs = s.regs ∧ t.mem = s.mem))
      ∧ (e.pkt.byte 6 = 2 → 1 ≤ n → n ≤ 63 → a % 8 = 0 → 16 + 8 * n ≤ e.pkt.data.length → (List.range n).all (fun j => inRegBlock (a + 8 * j)) = true → mgBlock a = false →
      Answers .writeReg s (fun t => Replies e k 0x0005 [] s t ∧ t.regs = s.regs))))
  ∧ (∀ (s u : State) (e : MgEnt) (l : List MgEnt) (a c : Nat),
    s.quartz.mgq = e :: l ∧ s.quartz.mgBusy = true ∧ e.path = false → mgArg e.pkt = a → u.answersFor e.pkt.src = false → s.rd F.FLT_START_STAGE = 8 → 
    ((e.pkt.byte 6 = 2 → mgN e.pkt = 1 → a % 8 = 0 → 24 ≤ e.pkt.data.length → inRegBlock a = true → mgBlock a = true → s.regWrite .mg false a (e.pkt.num 16 8) = (u, c) →
      Answers .writeReg s (fun t => (∀ (f : Fld) (i j : Nat), f.key i j ≠ F.QTZ_DROP_NO_ROUTE.key 0 0 → t.rd f i j = u.rd f i j) ∧ t.quartz.mgBusy = false ∧ t.mem = u.mem))
      ∧ (e.pkt.byte 6 = 4 → s.bit F.QTZ_ID_ID_OK = false → s.setIdCode (a % 2 ^ 16) = 0 → ((s.wr F.QTZ_ID_DEVID (a % 2 ^ 16)).wb F.QTZ_ID_ID_OK true).answersFor e.pkt.src = false →
      s.rd F.AGT_STAT_STATE ≠ 8 → Answers .setId s (fun t => t.rd F.QTZ_ID_DEVID = a % 2 ^ 16 ∧ t.bit F.QTZ_ID_ID_OK = true ∧ t.quartz.mgq = l ∧ t.mem = s.mem))
      ∧ (e.pkt.byte 6 = 5 → s = u → mgN e.pkt = 1 → 24 ≤ e.pkt.data.length → bitAt a 0 = true → Answers .rtWrite s (fun t => t.rd F.RT_MEMBER_ENTRY (1 - s.rd F.QTZ_RT_CTRL_ACTIVE) (bitsAt a 8 8) = e.pkt.num 16 8
      ∧ t.rd F.QTZ_RT_CTRL_ACTIVE = s.rd F.QTZ_RT_CTRL_ACTIVE ∧ t.quartz.mgq = l))
      ∧ (e.pkt.byte 6 = 6 → s = u → s.rtCode = 0 → s.quartz.changed = 0 → s.rd F.QTZ_RT_CTRL_ACTIVE ≤ 1 → Answers .rtCommit s (fun t => t.rd F.QTZ_RT_CTRL_ACTIVE = 1 - s.rd F.QTZ_RT_CTRL_ACTIVE
      ∧ t.bit F.DEV_START_RT_OK = true ∧ t.quartz.mgq = l))
      ∧ (e.pkt.byte 6 = 6 → s = u → s.rtCode ≠ 0 → s.rtCode < 65536 → Answers .rtCommit s (fun t => t.rd F.QTZ_RT_CTRL_ACTIVE = s.rd F.QTZ_RT_CTRL_ACTIVE ∧ t.bit F.QTZ_RT_CTRL_LOAD_REJ = true
      ∧ t.rd F.QTZ_RT_CTRL_REJ_CODE = s.rtCode))
      ∧ (e.pkt.byte 6 = 7 → s = u → Answers .setMoved s (fun t => t.flag F.QTZ_MOVED_MOVED (a % 64) (a % 256 / 64) = bitAt a 8 ∧ t.quartz.mgq = l ∧ t.mem = s.mem))))
  ∧ (∀ (s : State) (n : Port) (p : Pkt),
    s.takes n p = true → s.quartz.floods.contains (p.src, p.num 4 4) = false → 1 < p.ttl → s.quartz.ctx = [] → p.num 0 2 / 256 = s.rd F.QTZ_ID_DEVID / 256 → 
    ((p.opc = 0x36 → p.num 0 2 ≠ s.rd F.QTZ_ID_DEVID → Answers (.idMoved n p) s (fun t => t.flag F.QTZ_MOVED_MOVED (p.num 0 2 % 64) (p.num 0 2 % 256 / 64) = true
      ∧ t.quartz.floods = ((p.src, p.num 4 4) :: s.quartz.floods).take 64 ∧ t.mem = s.mem))
      ∧ (p.opc = 0x37 → Answers (.idReturn n p) s (fun t => t.flag F.QTZ_MOVED_MOVED (p.num 0 2 % 64) (p.num 0 2 % 256 / 64) = false ∧ t.mem = s.mem))
      ∧ (p.opc = 0x36 → p.num 0 2 = s.rd F.QTZ_ID_DEVID → s.bit F.QTZ_ID_ID_OK = true → Answers (.idMoved n p) s (fun t => t.bit F.AGT_STAT_SPLIT = true ∧ t.quartz.txq = s.quartz.txq ∧ t.mem = s.mem))))

/-- Group records: definition, activation by marks, deletion, state, and SYS.CWAIT (R395, R397, R398, R399, R400, R405, R414, R419, R422). -/
def Obligations.GroupRecords : Prop :=
  (∀ (s : State) (x : Iss) (ra rb : Fin 64) (imm : BitVec 24) (off st : Nat) (d : ClxRec),
    s.issues x = true → s.tnsIdle x.c = true → imm.toNat % 64 = 0 ∧ imm.toNat < 2 ^ 13 → ((s.cl x.c).gr ra).toNat = off ∧ ((s.cl x.c).gr rb).toNat = st → s.clxDesc (sramAt x.c off) ((s.cluPart x.c).getD 16) = (d, false) → s.defines x.c off st d = true → s.recOf d.part d.handle = none → s.grps.length < 1024 ∧ clxStore s.grps + 16384 * (d.inputs.length + 1) ≤ 16 * 2 ^ 20 → 
    ((d.ports = [] → Answers (.sysGrpDef x ra rb imm) s (fun t => SMap.find t.grps (freeRec 0 s.grps) = some { d with state := 2 } ∧ t.memN (sramAt x.c st) 8 = 0))
      ∧ (∀ k, d.ports = [k] → Answers (.sysGrpDef x ra rb imm) s (fun t => t.mem = s.mem ∧ t.regs = (s.noteRecs.wr F.QTZ_CLX_STAT_REC t.grps.length |>.wr F.QTZ_CLX_STAT_STORE_KIB (clxStore t.grps / 1024)).regs
      ∧ SMap.find t.grps (freeRec 0 s.grps) = some { d with waits := [⟨x.c, st, bitsAt imm.toNat 6 6, bitAt imm.toNat 12⟩] }
      ∧ ∃ l, Queued k (s.mkPkt 0x18 1 d.part 0 (clxW1 d.handle 0xFFFFF d.node 0) (64 * 2 ^ 17) 0 l) s t))))
  ∧ (∀ (s : State) (x : Iss) (ra rb : Fin 64) (imm : BitVec 24) (off st r : Nat) (d y : ClxRec),
    s.issues x = true → s.tnsIdle x.c = true → imm.toNat % 64 = 0 ∧ imm.toNat < 2 ^ 13 → ((s.cl x.c).gr ra).toNat = off ∧ ((s.cl x.c).gr rb).toNat = st → s.clxDesc (sramAt x.c off) ((s.cluPart x.c).getD 16) = (d, false) → s.defines x.c off st d = true → s.recOf d.part d.handle = some (r, y) → SMap.find s.grps r = some y → 
    ((d.same y = false → Answers (.sysGrpDef x ra rb imm) s (Faults x 0x2308 0 s))
      ∧ (d.same y = true → y.state = 1 → Answers (.sysGrpDef x ra rb imm) s (fun t => SMap.find t.grps r = some { y with waits := y.waits ++ [⟨x.c, st, bitsAt imm.toNat 6 6, bitAt imm.toNat 12⟩] } ∧ t.mem = s.mem ∧ t.regs = s.regs))
      ∧ (d.same y = true → y.state ≠ 1 → Answers (.sysGrpDef x ra rb imm) s (fun t => t.memN (sramAt x.c st) 8 = 0 ∧ t.grps = s.grps))))
  ∧ (∀ (s : State) (x : Iss) (imm : BitVec 24) (rd : Fin 64) (r : Nat) (y : ClxRec),
    s.issues x = true → imm.toNat < 4096 → s.recOf ((s.cluPart x.c).getD 16) imm.toNat = some (r, y) → 
    Answers (.sysGrpStat x rd imm) s (SetsG x rd (BitVec.ofNat 64 (y.state + SMap.get y.next 0 x.c * 2 ^ 12 + y.lastCode * 2 ^ 32)) s))
  ∧ (∀ (s : State) (x : Iss) (imm : BitVec 24) (rd : Fin 64),
    s.issues x = true → imm.toNat < 4096 → s.recOf ((s.cluPart x.c).getD 16) imm.toNat = none → 
    (Answers (.sysGrpStat x rd imm) s (SetsG x rd 0 s) ∧ Answers (.sysGrpDel x imm) s (Passes x (s.cl x.c) s)))
  ∧ (∀ (s : State) (x : Iss) (imm : BitVec 24) (r : Nat) (y : ClxRec),
    s.issues x = true → imm.toNat < 4096 → s.recOf ((s.cluPart x.c).getD 16) imm.toNat = some (r, y) → SMap.find s.grps r = some y → y.waits = [] ∧ s.recSteps y = [] ∧ s.clxWaiters = [] → 
    Answers (.sysGrpDel x imm) s (fun t => SMap.find t.grps r = none ∧ (∀ n, n ≠ r → SMap.find t.grps n = SMap.find s.grps n) ∧ t.mem = s.mem ∧ t.quartz = s.quartz))
  ∧ (∀ (s : State) (x : Iss) (n : Fin 64),
    s.issues x = true → 8 ≤ (n : Nat) ∧ (n : Nat) ≠ 63 → 
    Answers (.sysCwait x n) s (Faults x 0x0103 0 s))
  ∧ (∀ (s : State) (x : Iss) (n : Fin 64),
    s.issues x = true → (n : Nat) < 8 ∨ (n : Nat) = 63 → 
    (((∀ m, m < 8 → ((n : Nat) = 63 ∨ (n : Nat) = m) → ((s.cl x.c).clxAt m).busy = false ∧ ((s.cl x.c).clxAt m).unrep = false) →
      Answers (.sysCwait x n) s (fun t => t.cl x.c = { s.cl x.c with pc := (s.cl x.c).pc + ilen x.long, waitLong := x.long } ∧ ElseKept x.c s t))
      ∧ (∀ m, m < 8 → ((n : Nat) = 63 ∨ (n : Nat) = m) → ((s.cl x.c).clxAt m).busy = true →
      Answers (.sysCwait x n) s (fun t => t.cl x.c = { s.cl x.c with wait := some (.cwait n), waitLong := x.long } ∧ ElseKept x.c s t))
      ∧ ((n : Nat) < 8 → ((s.cl x.c).clxAt n).busy = false → ((s.cl x.c).clxAt n).unrep = true →
      Answers (.sysCwait x n) s (fun t => FaultsAt x.c ((s.cl x.c).clxAt n).code 0 (x.long.toNat + bgInfo n true ((s.cl x.c).clxAt n).code) s t ∧ ((t.cl x.c).clxAt n).unrep = false))))
  ∧ (∀ (s : State) (n : Port) (p : Pkt) (r : Nat) (x : ClxRec) (g : GrpWait),
    s.takes n p = true → p.opc = 0x18 ∧ bitsAt p.w1.toNat 12 20 = 0xFFFFF → s.recOf p.part (bitsAt p.w1.toNat 0 12) = some (r, x) → SMap.find s.grps r = some x → x.state = 1 ∧ x.ports = [(n : Nat)] → s.clxWaiters = [] → 
    ((x.agrees n p = true → p.num 7 1 = 1 → x.waits = [g] → g.sig = false → Answers (.grpActivationMark n p) s (fun t =>
      SMap.find t.grps r = some { x with state := 2, waits := [], matched := x.matched ||| 2 ^ (n : Nat) } ∧ t.memN (sramAt g.clu g.stat) 8 = 0))
      ∧ (x.agrees n p = false → x.waits = [] → Answers (.grpActivationMark n p) s (fun t => SMap.find t.grps r = some { x with state := 3 } ∧ t.mem = s.mem))))
  ∧ (∀ (s : State) (r : Fin 1024) (x : ClxRec) (k : Nat),
    SMap.find s.grps r = some x → x.state = 1 → x.ports = [k] → bitAt x.matched k = false → 
    Answers (.grpMarkResend r) s (fun t => (∃ l, Queued k (s.mkPkt 0x18 1 x.part 0 (clxW1 x.handle 0xFFFFF x.node 0) (64 * 2 ^ 17) 0 l) s t) ∧ t.grps = s.grps ∧ t.mem = s.mem ∧ t.regs = s.regs ∧ t.clu = s.clu))
  ∧ (∀ (s : State) (r : Fin 1024) (x : ClxRec) (g : GrpWait),
    SMap.find s.grps r = some x → x.state ≠ 2 → x.waits = [g] ∧ g.sig = false ∧ s.recSteps x = [] ∧ s.clxWaiters = [] → 
    Answers (.grpActivateTimeout r) s (fun t => SMap.find t.grps r = none ∧ t.memN (sramAt g.clu g.stat) 8 = 0x0407))

/-- Collective steps: issue, contributions, the fold, results, aborts and timeouts (R402, R403, R404, R406, R407, R408, R413, R414, R415, R416, R422, R423). -/
def Obligations.CollectiveSteps : Prop :=
  ((clxOp 1 0 0x3C00 0x3C40 = (0x3CA0, 0) ∧ clxOp 1 0 0x4040 0x3C00 = (0x4040, 1) ∧ clxOp 1 0 0x4040 0x3CA0 = (0x4041, 1) ∧ clxOp 1 1 0x4040 0x3C00 = (0x4040, 0) ∧ clxOp 1 2 0x4040 0x3C00 = (0x3C00, 0)
      ∧ clxOp 8 1 0xFFFFFFFF 5 = (5, 0) ∧ clxOp 8 2 0xFFFFFFFF 5 = (0xFFFFFFFF, 0)))
  ∧ (∀ (s : State) (x : Iss) (rd ra rb : Fin 64) (md : BitVec 6) (imm : BitVec 24) (n r : Nat) (y : ClxRec) (kd : ClxKind),
    s.issues x = true → s.tnsIdle x.c = true → (s.cl x.c).vBusy = 0 → imm.toNat < 2 ^ 22 ∧ clxReserved ⟨kd, rd, ra, rb, md.toNat, imm.toNat⟩ = false → bitsAt imm.toNat 12 3 = n → ((s.cl x.c).clxAt n).busy = false ∧ ((s.cl x.c).clxAt n).unrep = false → s.recOf ((s.cluPart x.c).getD 16) (bitsAt imm.toNat 0 12) = some (r, y) → SMap.find s.grps r = some y → (y.member x.c).isSome = true ∧ y.state = 2 ∧ (s.cl x.c).clxOpen y.handle = none → clxSuits (s.cl x.c) y ⟨kd, rd, ra, rb, md.toNat, imm.toNat⟩ = true ∧ clxCountOk (s.cl x.c) y ⟨kd, rd, ra, rb, md.toNat, imm.toNat⟩ = true → s.clxOperands x.c y ⟨kd, rd, ra, rb, md.toNat, imm.toNat⟩ = (0, 0) → SMap.find y.aborts (SMap.get y.next 0 x.c) = none → s.clxWaiters = [] → 
    ((kd = .tmmAr → Answers (.tmmAr x rd ra rb md imm) s (fun t => ((t.cl x.c).clxAt n).busy = true ∧ ((t.cl x.c).clxAt n).grp = y.handle ∧ ((t.cl x.c).clxAt n).step = SMap.get y.next 0 x.c
      ∧ SMap.find t.grps r = some { y with next := SMap.set y.next 0 x.c (nextStep (SMap.get y.next 0 x.c)) }))
      ∧ (kd = .tmmRs → Answers (.tmmRs x rd ra rb md imm) s (fun t => ((t.cl x.c).clxAt n).busy = true ∧ ((t.cl x.c).clxAt n).grp = y.handle ∧ ((t.cl x.c).clxAt n).step = SMap.get y.next 0 x.c
      ∧ SMap.find t.grps r = some { y with next := SMap.set y.next 0 x.c (nextStep (SMap.get y.next 0 x.c)) }))
      ∧ (kd = .vecAr → Answers (.vecAr x rd ra rb md imm) s (fun t => ((t.cl x.c).clxAt n).busy = true ∧ ((t.cl x.c).clxAt n).ready = true ∧ ((t.cl x.c).clxAt n).data = (s.clxSource x.c y ⟨kd, rd, ra, rb, md.toNat, imm.toNat⟩).1
      ∧ (t.cl x.c).pc = (s.cl x.c).pc + ilen x.long ∧ SMap.find t.grps r = some { y with next := SMap.set y.next 0 x.c (nextStep (SMap.get y.next 0 x.c)) }))
      ∧ (kd = .vecAg → Answers (.vecAg x rd ra rb md imm) s (fun t => ((t.cl x.c).clxAt n).busy = true ∧ ((t.cl x.c).clxAt n).ready = true ∧ ((t.cl x.c).clxAt n).data = (s.clxSource x.c y ⟨kd, rd, ra, rb, md.toNat, imm.toNat⟩).1
      ∧ (t.cl x.c).pc = (s.cl x.c).pc + ilen x.long ∧ SMap.find t.grps r = some { y with next := SMap.set y.next 0 x.c (nextStep (SMap.get y.next 0 x.c)) }))))
  ∧ (∀ (s : State) (x : Iss) (rd ra rb : Fin 64) (md : BitVec 6) (imm : BitVec 24) (n : Nat),
    s.issues x = true → s.tnsIdle x.c = true → imm.toNat < 2 ^ 22 → bitsAt imm.toNat 12 3 = n → ((s.cl x.c).clxAt n).busy = false ∧ ((s.cl x.c).clxAt n).unrep = false → s.clxWaiters = [] → 
    ((s.recOf ((s.cluPart x.c).getD 16) (bitsAt imm.toNat 0 12) = none → Answers (.tmmAr x rd ra rb md imm) s (Faults x 0x0D03 0 s))
      ∧ (∀ r y, s.recOf ((s.cluPart x.c).getD 16) (bitsAt imm.toNat 0 12) = some (r, y) → (y.member x.c).isSome = true → y.state = 3 → Answers (.tmmRs x rd ra rb md imm) s (Faults x 0x2108 0 s))))
  ∧ (∀ (s : State) (c : Clu) (q : ClxReq) (t0 : Nat),
    (s.cl c).wait = some (.clx q true t0) → (s.cl c).waitLim ≠ 0 → 
    Answers (.clxLoadingWaitTimeout c) s (FaultsAt c 0x0007 0 (s.cl c).waitLong.toNat s))
  ∧ (∀ (s : State) (c : Clu) (k : Fin 8) (q : ClxSlot) (r : Nat) (x : ClxRec) (i j : ClxIn) (l : List ClxIn),
    (s.cl c).clxAt k = q → q.busy = true ∧ q.ready = true ∧ q.sent = 0 ∧ q.kind = .vecAr → s.recOf ((s.cluPart c).getD 16) q.grp = some (r, x) → SMap.find s.grps r = some x → x.inputs = i :: j :: l → x.member c = some i → x.kind = 0 ∧ x.state ≠ 3 ∧ x.takes q.step = true ∧ x.stepOf q.step = none ∧ 0 < x.e → s.clxWaiters = [] → 
    Answers (.clxContrib (.slot c k)) s (fun t => ((t.cl c).clxAt k).sent = 1 ∧ t.mem = s.mem ∧ t.quartz = s.quartz
      ∧ SMap.find t.grps r = some { x with open_ := x.open_ ++ [⟨q.step, s.now, [⟨0, 0, unitMarks x.u (q.data.take x.e), 0⟩], [], [], false⟩] }))
  ∧ (∀ (s : State) (n : Port) (p : Pkt) (r step : Nat) (x : ClxRec) (i : ClxIn),
    s.takes n p = true → bitsAt p.w1.toNat 12 20 = step ∧ bitsAt p.w1.toNat 44 12 = 0 ∧ step < 0xFFFFE → s.recOf p.part (bitsAt p.w1.toNat 0 12) = some (r, x) → SMap.find s.grps r = some x → x.kind = 0 ∧ x.state = 2 ∧ x.parent = 31 ∧ x.base = step ∧ x.open_ = [] ∧ x.aborts = [] ∧ x.chunks = 1 → x.inputs = [i] → i.child = true ∧ i.id = (n : Nat) → s.clxWaiters = [] → p.opc = 0x18 → 
    Answers (.clxContrib (.port n p)) s (fun t => SMap.find t.grps r = some { x with base := step + 1 } ∧ t.rd F.QTZ_CLX_STEPS_DONE = (s.rd F.QTZ_CLX_STEPS_DONE + 1) % 2 ^ 64
      ∧ (∃ m, t.txOf n = s.txOf n ++ [m]) ∧ t.mem = s.mem))
  ∧ (∀ (s : State) (n : Port) (p : Pkt) (r step k : Nat) (x : ClxRec) (i : ClxIn),
    s.takes n p = true → bitsAt p.w1.toNat 12 20 = step ∧ bitsAt p.w1.toNat 44 12 = 0 ∧ step < 0xFFFFE → s.recOf p.part (bitsAt p.w1.toNat 0 12) = some (r, x) → SMap.find s.grps r = some x → x.kind = 0 ∧ x.state = 2 ∧ x.parent = (n : Nat) ∧ x.base = step ∧ x.open_ = [] ∧ x.aborts = [] ∧ x.chunks = 1 ∧ x.waits = [] → x.inputs = [i] → i.child = false → s.clxWaiters = [] → (s.cl i.id).clxOpen x.handle = some k → ((s.cl i.id).clxAt k).step = step ∧ ((s.cl i.id).clxAt k).kind = .vecAr ∧ ((s.cl i.id).clxAt k).vreg = false ∧ ((s.cl i.id).clxAt k).got = [] ∧ ((s.cl i.id).clxAt k).sig = false → 
    ((p.opc = 0x19 → Answers (.clxResult n p) s (fun t => SMap.find t.grps r = some { x with base := step + 1 } ∧ ((t.cl i.id).clxAt k).busy = false ∧ ((t.cl i.id).clxAt k).code = 0 ∧ ((t.cl i.id).clxAt k).unrep = false))
      ∧ (p.opc = 0x1A → p.code ≠ 0 → Answers (.clxAbort n p) s (fun t => ((t.cl i.id).clxAt k).busy = false ∧ ((t.cl i.id).clxAt k).code = p.code ∧ ((t.cl i.id).clxAt k).unrep = true ∧ t.mem = s.mem
      ∧ ∃ y, SMap.find t.grps r = some y ∧ y.base = step + 1 ∧ y.lastCode = p.code ∧ y.lastStep = step ∧ y.state = (if p.code = 0x2008 ∨ p.code = 0x2408 then 3 else 2)))))
  ∧ (∀ (s : State) (r : Fin 1024) (x : ClxRec) (e : ClxStep) (l : List ClxStep),
    SMap.find s.grps r = some x → x.open_ = e :: l → x.takes e.step = true ∧ x.parent = 31 ∧ x.inputs = [] → s.clxWaiters = [] → 
    Answers (.clxStepTimeout r) s (fun t => ∃ y, SMap.find t.grps r = some y ∧ y.lastCode = 0x0207 ∧ y.lastStep = e.step ∧ y.stepOf e.step = none ∧ t.mem = s.mem
      ∧ t.rd F.QTZ_CLX_STEPS_ABORT = (s.rd F.QTZ_CLX_STEPS_ABORT + 1) % 2 ^ 64))
  ∧ (∀ (s : State) (c : Clu) (k : Fin 8) (r : Nat) (x : ClxRec),
    ((s.cl c).clxAt k).busy = true ∧ ((s.cl c).clxAt k).sig = false → s.recOf ((s.cluPart c).getD 16) ((s.cl c).clxAt k).grp = some (r, x) → SMap.find s.grps r = some x → x.state ≠ 3 ∧ x.waits = [] → s.clxWaiters = [] → 
    Answers (.clxSlotTimeout c k) s (fun t => ((t.cl c).clxAt k).busy = false ∧ ((t.cl c).clxAt k).code = 0x0307 ∧ ((t.cl c).clxAt k).unrep = true ∧ SMap.find t.grps r = some { x with state := 3 } ∧ t.mem = s.mem))

/-- Twin beats, binding and unbinding, release, yield, and the table image (R446, R447, R448, R449, R450, R451, R452, R456, R462, R473, R479). -/
def Obligations.TwinBinding : Prop :=
  (∀ (s : State),
    s.portUp 16 = true → 
    Answers .twBeatSend s (Queued 16 (s.mkPkt 0x21 0 0 (s.rd F.AGT_STAT_PEER_ID) 0 0 (s.rd F.QTZ_ID_DEVID + s.rd F.QTZ_ID_ASSUMED * 2 ^ 16 + s.rd F.AGT_STAT_OWN_INC * 2 ^ 32 + s.rd F.AGT_STAT_STATE * 2 ^ 48) []) s))
  ∧ (∀ (s : State) (p : Pkt),
    s.takes 16 p = true → p.opc = 0x21 → 
    Answers (.twBeat p) s (fun t => t.twin.beat = p.w3.toNat ∧ t.bit F.AGT_STAT_LINK_FAULT = false ∧ t.rd F.AGT_STAT_STATE = (if s.rd F.AGT_STAT_STATE = 3 then 2 else s.rd F.AGT_STAT_STATE)
      ∧ t.txOf 16 = s.txOf 16 ∧ t.flint.window = none ∧ (2 ≤ s.rd F.AGT_STAT_STATE ∧ s.rd F.AGT_STAT_STATE ≤ 8 → t.rd F.AGT_STAT_PEER_ID = bitsAt p.w3.toNat 0 16)))
  ∧ (∀ (s : State) (h : Nat),
    s.portUp 16 = true ∧ (SMap.find s.quartz.hello 16).isSome = true → s.flint.serial < s.rd F.QTZ_NBR_SERIAL 16 → s.rd F.AGT_STAT_STATE = h ∧ (h = 0 ∨ h = 1 ∨ h = 5) → s.twin.bindSince = none → (s.ctxCnt 17).1 < 4096 ∧ s.quartz.qwait = [] → 
    Answers .twBindSend s (fun t => t.rd F.AGT_STAT_STATE = (if h = 5 then 5 else 1) ∧ t.twin.bindSince = some s.now ∧ (∃ c, SMap.find t.quartz.ctx (freeCtx 0 s.quartz.ctx) = some c ∧ c.owner = .bind ∧ c.pkt.num 0 8 = s.flint.serial % 2 ^ 64)
      ∧ (t.txOf 16).length = (s.txOf 16).length + 1))
  ∧ (∀ (s : State) (p : Pkt) (q : BindReq),
    s.takes 16 p = true → p.opc = 0x22 → (⟨p.num 0 8, p.num 8 2, p.num 10 2, p.num 12 2, p.num 14 1, p.num 15 1, p.num 16 2⟩ : BindReq) = q → 
    ((s.bindCode q ≠ 0 → Answers (.twBind p) s (fun t => Queued 16 (s.pktRsp p.src p (s.bindCode q) 0) s t ∧ t.rd F.AGT_STAT_STATE = s.rd F.AGT_STAT_STATE))
      ∧ (s.bindCode q = 0 → s.bit F.AGT_CFG_AUTO_BIND = false → s.twin.hostBind = false → Answers (.twBind p) s (fun t => Queued 16 (s.pktRsp p.src p 0x3808 0) s t ∧ t.twin.req = some q ∧ t.twin.reqAt = s.now
      ∧ t.rd F.AGT_STAT_STATE = (if s.rd F.AGT_STAT_STATE = 0 then 1 else s.rd F.AGT_STAT_STATE)))
      ∧ (s.bindCode q = 0 → s.bit F.AGT_CFG_AUTO_BIND = true → q.role = 0 → s.rd F.AGT_STAT_STATE ≤ 1 → s.stage = 8 → (∀ k, k < 16 → s.rangesOf k = []) →
      Answers (.twBind p) s (fun t => Queued 16 (s.pktRsp p.src p 0 0) s t ∧ t.rd F.AGT_STAT_STATE = 2 ∧ t.rd F.AGT_PEER_SERIAL_SERIAL = q.serial % 2 ^ 64 ∧ t.rd F.AGT_STAT_PEER_ID = q.devid % 2 ^ 16 ∧ t.flint.twinArmed = true
      ∧ t.bit F.DEV_START_TWIN_OK = true))))
  ∧ (∀ (s : State) (q : BindReq),
    s.twin.req = some q → s.twin.reqAt + 2000000000 ≤ s.now → s.rd F.AGT_STAT_STATE = 1 → 
    Answers .bindTimeout s (fun t => t.rd F.AGT_STAT_STATE = 0 ∧ t.twin.req = none ∧ t.mem = s.mem ∧ t.quartz = s.quartz))
  ∧ (∀ (s : State) (src : Src),
    src.host ≠ .pf → 
    (Answers (.agtBind src) s (fun t => t.rd F.FLT_WR_REJ_COUNT = satAt 32 (s.rd F.FLT_WR_REJ_COUNT + 1) ∧ Keeps s t [F.FLT_WR_REJ_COUNT.key 0 0]) ∧ Answers (.agtUnbind src) s (fun t => Keeps s t [F.FLT_WR_REJ_COUNT.key 0 0])
      ∧ Answers (.releasePeer src) s (fun t => Keeps s t [F.FLT_WR_REJ_COUNT.key 0 0]) ∧ Answers (.agtYield src) s (fun t => Keeps s t [F.FLT_WR_REJ_COUNT.key 0 0])
      ∧ Answers (.agtHandback src) s (fun t => Keeps s t [F.FLT_WR_REJ_COUNT.key 0 0]) ∧ ∀ p rs, Answers (.agtAdopt src p rs) s (fun t => Keeps s t [F.FLT_WR_REJ_COUNT.key 0 0])))
  ∧ (∀ (s : State),
    (Answers (.agtBind .pf) s (fun t => t.twin = { s.twin with hostBind := true } ∧ Keeps s t [])
      ∧ (5 ≤ s.rd F.AGT_STAT_STATE ∧ s.rd F.AGT_STAT_STATE ≤ 7 → Answers (.agtUnbind .pf) s (fun t => t.bit F.AGT_CFG_REJ = true ∧ Keeps s t [F.AGT_CFG_REJ.key 0 0]))
      ∧ (s.rd F.AGT_STAT_STATE ≤ 1 → Answers (.agtUnbind .pf) s (fun t => t = s) ∧ Answers (.releasePeer .pf) s (fun t => t.bit F.AGT_CFG_REJ = true ∧ Keeps s t [F.AGT_CFG_REJ.key 0 0]))
      ∧ (s.rd F.AGT_STAT_STATE ≠ 2 → Answers (.agtYield .pf) s (fun t => t.bit F.AGT_CFG_REJ = true ∧ Keeps s t [F.AGT_CFG_REJ.key 0 0]))
      ∧ (s.rd F.AGT_STAT_STATE = 2 → (∃ k, k < 16 ∧ s.partExists k = true ∧ s.partQuiet k = false) → Answers (.agtYield .pf) s (fun t => t.bit F.AGT_CFG_REJ = true ∧ Keeps s t [F.AGT_CFG_REJ.key 0 0]))))
  ∧ (∀ (s : State),
    s.rd F.AGT_STAT_STATE = 2 → s.twin.epochs = [] ∧ s.twin.yielding = false → (s.ctxCnt 17).1 < 4096 ∧ s.quartz.qwait = [] → 
    (Answers (.agtUnbind .pf) s (fun t => t.rd F.AGT_STAT_STATE = 0 ∧ t.bit F.DEV_START_TWIN_OK = false ∧ t.flint.twinArmed = false ∧ t.twin.dir = [] ∧ t.mem = s.mem ∧ ∃ c, SMap.find t.quartz.ctx (freeCtx 0 s.quartz.ctx) = some c ∧ c.owner = .unbind)
      ∧ Answers (.releasePeer .pf) s (fun t => Keeps s t [] ∧ ∃ c, SMap.find t.quartz.ctx (freeCtx 0 s.quartz.ctx) = some c ∧ c.owner = .release)
      ∧ ((∀ k, k < 16 → s.partExists k = true → s.partQuiet k = true) → (∀ k, k < 16 → s.rangesOf k = []) → s.twin.unbinding = false →
      Answers (.agtYield .pf) s (fun t => t.rd F.AGT_STAT_STATE = 7 ∧ t.twin.fence = true ∧ t.twin.yielding = true ∧ t.mem = s.mem ∧ t.quartz = s.quartz))))
  ∧ (∀ (s : State) (p : Pkt),
    s.takes 16 p = true → 
    ((p.opc = 0x25 → 5 ≤ s.rd F.AGT_STAT_STATE ∧ s.rd F.AGT_STAT_STATE ≤ 7 → Answers (.twUnbind p) s (fun t => Queued 16 (s.pktRsp p.src p 0x3008 0) s t ∧ t.rd F.AGT_STAT_STATE = s.rd F.AGT_STAT_STATE))
      ∧ (p.opc = 0x25 → s.rd F.AGT_STAT_STATE = 2 → s.twin.epochs = [] → Answers (.twUnbind p) s (fun t => Queued 16 (s.pktRsp p.src p 0 0) s t ∧ t.rd F.AGT_STAT_STATE = 0 ∧ t.flint.twinArmed = false))
      ∧ (p.opc = 0x24 → Answers (.twRelease p) s (fun t => Queued 16 (s.pktRsp p.src p 0 0) s t ∧ t.rd F.FLT_ALONE_QUIESCED = 0 ∧ t.flint.quiesceReq = 0 ∧ t.bit F.FLT_ALONE_ACTIVE = false))))
  ∧ (∀ (s : State),
    s.rd F.AGT_STAT_STATE = 2 ∨ s.rd F.AGT_STAT_STATE = 6 ∨ s.rd F.AGT_STAT_STATE = 8 → 
    ((s.twin.imgRun = true → Answers .tableImageWrite s (fun t => t.twin = { s.twin with imgPend := true } ∧ t.quartz = s.quartz ∧ t.regs = s.regs ∧ t.mem = s.mem))
      ∧ (s.twin.imgRun = false → Answers .tableImageWrite s (fun t => t.twin = { s.twin with imgSeq := s.twin.imgSeq + 1, imgRun := true, imgPend := false } ∧ t.mem = s.mem ∧ t.clu = s.clu))))

/-- Mirror ranges and epochs: the layout, what a request does, and both sides of an epoch (R453, R455, R457, R458, R460, R461). -/
def Obligations.MirrorEpochs : Prop :=
  (∀ (s : State) (r : Nat),
    r < 64 ∧ s.bit F.AGT_MR_VALID r = true → 2 * 2 ^ 20 + ((List.range 64).filter (fun q => s.bit F.AGT_MR_VALID q)).foldl (fun n q => n + s.rangeFoot q) 0 < 2 ^ 42 → 
    (s.mirrorLayout.rd F.AGT_MR_MOFF r = 2 * 2 ^ 20 + ((List.range r).filter (fun q => s.bit F.AGT_MR_VALID q)).foldl (fun n q => n + s.rangeFoot q) 0
      ∧ s.mirrorLayout.rd F.AGT_FOOT_FOOT_MIB = (2 * 2 ^ 20 + ((List.range 64).filter (fun q => s.bit F.AGT_MR_VALID q)).foldl (fun n q => n + s.rangeFoot q) 0) / 2 ^ 20 % 2 ^ 24))
  ∧ (∀ (s t0 : State) (r : Fin 64) (reg : Fin 3) (v : BitVec 64),
    (writeFields s .pf 8 (F.AGT_MR_LBASE.regAddr r 0 + 8 * (reg : Nat)) v.toNat).1 = t0 → 
    ((t0.bit F.AGT_MR_VALID r = true → t0.rangeCode r ≠ 0 → Answers (.agtMrWrite r reg .pf v) s (fun t => t.rd F.AGT_FOOT_MR_CODE = t0.rangeCode r % 2 ^ 16 ∧ t.bit F.AGT_FOOT_MR_REJ = true ∧ Keeps s t [F.AGT_FOOT_MR_CODE.key 0 0, F.AGT_FOOT_MR_REJ.key 0 0]))
      ∧ (t0.bit F.AGT_MR_VALID r = true → t0.rangeCode r = 0 → s.twin.epochs = [] → Answers (.agtMrWrite r reg .pf v) s (fun t => (t.epAt (t0.rd F.AGT_MR_PART r)).needFull = true ∧ t.bit F.AGT_MR_VALID r = true
      ∧ t.rd F.AGT_MR_LBASE r = t0.rd F.AGT_MR_LBASE r ∧ t.rd F.AGT_MR_LEN r = t0.rd F.AGT_MR_LEN r ∧ t.rd F.AGT_MR_KIND r = t0.rd F.AGT_MR_KIND r ∧ t.mem = s.mem))))
  ∧ (∀ (s : State) (p : Part) (full : Bool),
    (Answers (.agtEpochGo p (.clu 0) full) s (fun t => t.rd F.FLT_WR_REJ_COUNT = satAt 32 (s.rd F.FLT_WR_REJ_COUNT + 1) ∧ Keeps s t [F.FLT_WR_REJ_COUNT.key 0 0])
      ∧ (s.rd F.AGT_STAT_STATE ≠ 2 → s.rd F.AGT_STAT_STATE ≠ 6 → s.rd F.AGT_STAT_STATE ≠ 8 → Answers (.agtEpochGo p .pf full) s (fun t => t.rd F.AGT_EPOCH_CODE p = 0x3008 ∧ t.twin = s.twin ∧ Keeps s t [F.AGT_EPOCH_CODE.key p 0, F.AGT_EPOCH_FULL.key p 0]))
      ∧ (s.rd F.AGT_STAT_STATE = 2 → s.bit F.AGT_STAT_LINK_FAULT = false → s.rangesOf p = [] → Answers (.agtEpochGo p .pf full) s (fun t => t.rd F.AGT_EPOCH_CODE p = 0 ∧ t.twin = s.twin ∧ Keeps s t [F.AGT_EPOCH_CODE.key p 0, F.AGT_EPOCH_FULL.key p 0]))
      ∧ (s.rd F.AGT_STAT_STATE = 2 → s.bit F.AGT_STAT_LINK_FAULT = false → s.rangesOf p ≠ [] → (s.epAt p).run = none → Answers (.agtEpochGo p (.vf p) full) s (fun t => t.bit F.AGT_EPOCH_RUN p = true ∧ t.mem = s.mem
      ∧ ∃ e, (t.epAt p).run = some e ∧ e.n = (s.epAt p).last + 1 ∧ e.full = (full || (s.epAt p).needFull) ∧ e.started = false ∧ e.left = s.epochBlocks p e.n e.full))
      ∧ (s.rd F.AGT_STAT_STATE = 2 → s.bit F.AGT_STAT_LINK_FAULT = false → s.rangesOf p ≠ [] → (s.epAt p).run ≠ none → Answers (.agtEpochGo p .pf full) s (fun t => (t.epAt p).pend = some (full, none) ∧ (t.epAt p).run = (s.epAt p).run
      ∧ t.bit F.AGT_EPOCH_PEND p = true ∧ ((∃ f, (s.epAt p).pend = some (f, none)) → t.rd F.AGT_EPOCH_CODE p = 9)))))
  ∧ (∀ (s : State) (p : Part) (e : EpochRun),
    (s.epAt p).run = some e → e.started = false → 
    ((((s.rangesOf p).any (fun r => decide (s.rd F.AGT_FOOT_PEER_SIZE * 2 ^ 30 < s.rd F.AGT_MR_MOFF r + s.rangeFoot r)) = true) → (s.epAt p).pend = none → s.twin.unbinding = false → s.twin.yielding = false → e.cmd = none →
      Answers (.epochStart p) s (fun t => (t.epAt p).run = none ∧ t.rd F.AGT_EPOCH_CODE p = 0x3208 ∧ t.rd F.AGT_EPOCH_LAST_DONE p = s.rd F.AGT_EPOCH_LAST_DONE p ∧ t.bit F.AGT_EPOCH_RUN p = false ∧ t.mem = s.mem))
      ∧ (((s.rangesOf p).any (fun r => decide (s.rd F.AGT_FOOT_PEER_SIZE * 2 ^ 30 < s.rd F.AGT_MR_MOFF r + s.rangeFoot r)) = false) → (s.ctxCnt 17).1 < 4096 → s.quartz.qwait = [] → e.left = [] →
      Answers (.epochStart p) s (fun t => (t.epAt p).run = some { e with started := true } ∧ t.mem = s.mem ∧ ∃ c, SMap.find t.quartz.ctx (freeCtx 0 s.quartz.ctx) = some c ∧ c.owner = .epoch p e.n false))))
  ∧ (∀ (s : State) (p : Pkt) (q n : Nat),
    s.takes 16 p = true → p.opc = 0x23 → p.num 0 1 = q ∧ q < 16 → p.num 4 4 = n → 
    ((bitAt p.aux 0 = false → Answers (.twEpoch p) s (fun t => Queued 16 (s.pktRsp p.src p 0 0) s t ∧ (t.dirAt q).openN = some (n, bitAt p.aux 1) ∧ (if n % 2 = 0 then (t.dirAt q).bank0 = none ∧ (t.dirAt q).bank1 = (s.dirAt q).bank1 else (t.dirAt q).bank1 = none ∧ (t.dirAt q).bank0 = (s.dirAt q).bank0)
      ∧ t.rd F.AGT_DIR_RX_BYTES q = 0 ∧ t.bit F.AGT_DIR_TORN q = (bitAt p.aux 1 || s.bit F.AGT_DIR_TORN q)))
      ∧ (∀ f, bitAt p.aux 0 = true → (s.dirAt q).openN = some (n, f) → s.rd F.AGT_DIR_RX_BYTES q = p.num 8 8 → Answers (.twEpoch p) s (fun t => Queued 16 (s.pktRsp p.src p 0 0) s t ∧ (t.dirAt q).openN = none
      ∧ (if n % 2 = 0 then (t.dirAt q).bank0 = some n else (t.dirAt q).bank1 = some n) ∧ t.bit F.AGT_DIR_TORN q = (!f && s.bit F.AGT_DIR_TORN q)))
      ∧ (bitAt p.aux 0 = true → s.rd F.AGT_DIR_RX_BYTES q ≠ p.num 8 8 → Answers (.twEpoch p) s (fun t => Queued 16 (s.pktRsp p.src p 0x0202 0) s t ∧ (t.dirAt q).bank0 = (s.dirAt q).bank0 ∧ (t.dirAt q).bank1 = (s.dirAt q).bank1 ∧ t.bit F.AGT_DIR_TORN q = s.bit F.AGT_DIR_TORN q))))
  ∧ (∀ (s u : State) (p : Pkt) (n c : Nat) (f : Bool),
    s.takes 16 p = true → p.opc = 0x20 → (s.taken 16 p).hbmWriteRaw (s.mirrorBase + p.addr) p.marked = (u, c) → p.addr + p.bytes ≤ s.rd F.HBM_MIRROR_SIZE_GIB * 2 ^ 30 → 
    (((s.dirAt p.part).openN = some (n, f) → n % 65536 = p.code → Answers (.mirWr p) s (fun t => Queued 16 (s.pktRsp p.src p c 0) s t ∧ t.mem = u.mem ∧ t.rd F.AGT_DIR_RX_BYTES p.part = (s.rd F.AGT_DIR_RX_BYTES p.part + p.bytes) % 2 ^ 64))
      ∧ ((s.dirAt p.part).openN = none → Answers (.mirWr p) s (fun t => Queued 16 (s.pktRsp p.src p c 0) s t ∧ t.mem = u.mem ∧ t.rd F.AGT_DIR_RX_BYTES p.part = s.rd F.AGT_DIR_RX_BYTES p.part))))
  ∧ (∀ (s : State) (p : Pkt),
    s.takes 16 p = true → p.opc = 0x20 → s.rd F.HBM_MIRROR_SIZE_GIB * 2 ^ 30 < p.addr + p.bytes → 
    Answers (.mirWr p) s (fun t => Queued 16 (s.pktRsp p.src p 0x0104 0) s t ∧ t.mem = s.mem ∧ t.twin = s.twin))

/-- Takeover, adoption, re-silvering and handback (R463, R464, R465, R467, R471, R472, R473, R480). -/
def Obligations.TakeoverAndReturn : Prop :=
  (∀ (s : State) (w : Nat),
    s.twin.confirmed = some w → s.rd F.AGT_STAT_STATE = 2 ∨ s.rd F.AGT_STAT_STATE = 3 ∨ s.rd F.AGT_STAT_STATE = 8 → s.quartz.ctx = [] ∧ s.quartz.qwait = [] ∧ s.twin.epochs = [] → s.txOf 16 = [] ∧ SMap.find s.quartz.unacked 16 = none → 
    Answers .takeoverStart s (fun t => t.rd F.AGT_STAT_STATE = 4 ∧ t.twin.probes = 0 ∧ t.twin.confirmed = some w ∧ t.mem = s.mem))
  ∧ (∀ (s : State) (k : Nat),
    s.rd F.AGT_STAT_STATE = 4 → s.twin.confirmDown = false → 
    ((s.twin.probes < 10 → s.viaSC (s.rd F.AGT_STAT_PEER_ID) k = true → Answers .takeoverProbe s (fun t => t.twin.probes = s.twin.probes + 1
      ∧ Queued k (s.mkPkt 0x30 7 0 (s.rd F.AGT_STAT_PEER_ID) 0 0 0 (unit64 (leM 4 (s.rd F.QTZ_MGMT_MKEY) ++ leM 2 (0xFF00 + s.twin.probes) ++ leM 1 1 ++ leM 1 1 ++ leM 8 0xFF0004000000))) s t))
      ∧ (s.twin.probes < 10 → ∀ a b, Answers (.takeoverAssume a b) s (fun t => t = s)) ∧ (10 ≤ s.twin.probes → Answers .takeoverProbe s (fun t => t = s))))
  ∧ (∀ (s : State) (a b : Bool),
    s.rd F.AGT_STAT_STATE = 4 → s.twin.confirmDown = true ∨ 10 ≤ s.twin.probes → s.bit F.FLT_ALONE_ACTIVE = false → s.rd F.AGT_STAT_PEER_ID ≠ 0xFFFF → 
    Answers (.takeoverAssume a b) s (fun t => t.rd F.QTZ_ID_ASSUMED = s.rd F.AGT_STAT_PEER_ID % 2 ^ 16 ∧ t.rd F.AGT_STAT_STATE = 5 ∧ t.bit F.AGT_STAT_IMG_OK = (a || b) ∧ t.quartz.floodSeq = s.quartz.floodSeq + 1 ∧ t.twin.confirmed = none ∧ t.mem = s.mem))
  ∧ (∀ (s : State) (p : Part) (rs : List MirRange),
    ((s.rd F.AGT_STAT_STATE ≠ 5 → Answers (.agtAdopt .pf p rs) s (fun t => t.rd F.AGT_ADOPT_CODE = 0x3008 ∧ t.twin = s.twin ∧ t.mem = s.mem))
      ∧ (s.rd F.AGT_STAT_STATE = 5 → s.partExists p = false → Answers (.agtAdopt .pf p rs) s (fun t => t.rd F.AGT_ADOPT_CODE = 0x1003 ∧ t.twin = s.twin ∧ t.mem = s.mem))
      ∧ (s.rd F.AGT_STAT_STATE = 5 → s.partExists p = true → (s.dirAt p).bank0 = none → (s.dirAt p).bank1 = none → Answers (.agtAdopt .pf p rs) s (fun t => t.rd F.AGT_ADOPT_CODE = 0x3508 ∧ t.twin = s.twin ∧ t.mem = s.mem))
      ∧ (s.rd F.AGT_STAT_STATE = 5 → s.partExists p = true → (s.dirAt p).bank0 ≠ none ∨ (s.dirAt p).bank1 ≠ none → s.bit F.AGT_DIR_TORN p = false →
      Answers (.agtAdopt .pf p rs) s (fun t => t.rd F.AGT_ADOPT_CODE = 0 ∧ t.rd F.AGT_ADOPT_EPOCH = s.rd F.AGT_DIR_LAST p % 2 ^ F.AGT_ADOPT_EPOCH.w ∧ t.bit F.AGT_DIR_ADOPTED p = true ∧ t.mem = s.mem
      ∧ t.twin.adopts = s.twin.adopts ++ rs.map (fun r => ⟨p, r.base, r.len, s.mirrorBase + r.moff + (if r.epoch then s.rd F.AGT_DIR_BANK p * r.len else 0)⟩)))))
  ∧ (∀ (s u : State) (p : Pkt) (c : Nat),
    s.takes 16 p = true → p.opc = 0x27 → (s.taken 16 p).hbmWrite none false p.addr p.marked = (u, c) → 
    ((s.rd F.AGT_STAT_STATE ≠ 8 → Answers (.twRestore p) s (fun t => Queued 16 (s.pktRsp p.src p 0x0705 0) s t ∧ t.mem = s.mem ∧ t.twin = s.twin))
      ∧ (s.rd F.AGT_STAT_STATE = 8 → p.addr < hbmBase → Answers (.twRestore p) s (fun t => Queued 16 (s.pktRsp p.src p 0x0104 0) s t ∧ t.mem = s.mem ∧ t.twin = s.twin))
      ∧ (s.rd F.AGT_STAT_STATE = 8 → hbmBase ≤ p.addr → p.addr + p.bytes ≤ hbmBase + s.hbmCap → Answers (.twRestore p) s (fun t => Queued 16 (s.pktRsp p.src p c 0) s t ∧ t.mem = u.mem ∧ t.twin.rxB = u.twin.rxB + p.bytes))))
  ∧ (∀ (s : State),
    s.rd F.AGT_STAT_STATE = 6 → s.twin.todo = [] ∧ s.restoring = false ∧ s.bit F.AGT_RSV_CONVERGED = false → 
    ((s.twin.dirty.length ≤ s.rd F.AGT_CFG_DIRTY_LIM ∨ s.rd F.AGT_CFG_PASS_MAX ≤ s.rd F.AGT_RSV_PASS → Answers .resilverPassEnd s (fun t => t.bit F.AGT_RSV_CONVERGED = true ∧ t.rd F.AGT_RSV_CODE = 0 ∧ t.rd F.AGT_RSV_DIRTY = satAt 16 s.twin.dirty.length ∧ t.mem = s.mem))
      ∧ (s.rd F.AGT_CFG_DIRTY_LIM < s.twin.dirty.length → s.rd F.AGT_RSV_PASS < s.rd F.AGT_CFG_PASS_MAX → (s.ctxCnt 17).1 = 4096 → Answers .resilverPassEnd s (fun t => t.rd F.AGT_RSV_PASS = (s.rd F.AGT_RSV_PASS + 1) % 2 ^ F.AGT_RSV_PASS.w ∧ t.twin.dirty = []
      ∧ t.twin.todo = s.twin.dirty.flatMap (fun e => (List.range 16).map (fun k => 16 * e.1 + k)) ∧ t.bit F.AGT_RSV_CONVERGED = false ∧ t.mem = s.mem))))
  ∧ (∀ (s : State),
    ((s.rd F.AGT_STAT_STATE = 6 → s.bit F.AGT_RSV_CONVERGED = true → Answers (.agtHandback .pf) s (fun t => t.rd F.AGT_STAT_STATE = 7 ∧ t.twin = { s.twin with fence := true, hb := 0 } ∧ t.mem = s.mem ∧ t.quartz = s.quartz))
      ∧ (s.rd F.AGT_STAT_STATE ≠ 6 ∨ s.bit F.AGT_RSV_CONVERGED = false → Answers (.agtHandback .pf) s (fun t => t.bit F.AGT_CFG_REJ = true ∧ Keeps s t [F.AGT_CFG_REJ.key 0 0]))
      ∧ (s.rd F.AGT_STAT_STATE = 7 → s.twin.hb = 0 → s.twin.todo = [] → s.twin.dirty = [] → s.restoring = false → (s.ctxCnt 17).1 < 4096 → s.quartz.qwait = [] →
      Answers .handbackDrainDone s (fun t => t.twin.hb = 2 ∧ t.mem = s.mem ∧ ∃ c, SMap.find t.quartz.ctx (freeCtx 0 s.quartz.ctx) = some c ∧ c.owner = .handback))))
  ∧ (∀ (s : State) (p : Pkt),
    s.takes 16 p = true → p.opc = 0x26 → 
    ((p.num 2 1 = 0 → s.rd F.AGT_STAT_STATE = 8 → s.bit F.AGT_STAT_HELD = true → p.num 0 2 = s.rd F.QTZ_ID_DEVID → p.num 8 8 = s.twin.rxB → Answers (.twHandback p) s (fun t =>
      Queued 16 (s.pktRsp p.src p 0 0) s t ∧ t.bit F.AGT_STAT_HELD = false ∧ t.rd F.AGT_STAT_STATE = 2 ∧ t.quartz.floodSeq = s.quartz.floodSeq + 1 ∧ t.mem = s.mem))
      ∧ (p.num 2 1 = 0 → s.rd F.AGT_STAT_STATE = 8 → s.bit F.AGT_STAT_HELD = true → p.num 0 2 = s.rd F.QTZ_ID_DEVID → p.num 8 8 ≠ s.twin.rxB → Answers (.twHandback p) s (fun t =>
      Queued 16 (s.pktRsp p.src p 0x0302 0) s t ∧ t.bit F.AGT_STAT_HELD = true ∧ t.rd F.AGT_STAT_STATE = 8 ∧ t.mem = s.mem))
      ∧ (p.num 2 1 = 1 → s.rd F.AGT_STAT_STATE = 2 → s.rd F.AGT_STAT_PEER_ID ≠ 0xFFFF → s.bit F.FLT_ALONE_ACTIVE = false → Answers (.twHandback p) s (fun t =>
      Queued 16 (s.pktRsp p.src p 0 0) s t ∧ t.rd F.QTZ_ID_ASSUMED = s.rd F.AGT_STAT_PEER_ID % 2 ^ 16 ∧ t.rd F.AGT_STAT_STATE = 5 ∧ t.flint.twinArmed = false ∧ t.mem = s.mem))))

/-- The host link, rings, doorbells, fetching, completion entries and apertures (R485, R487, R488, R500, R501, R502, R503, R504, R510, R511, R518). -/
def Obligations.HostRings : Prop :=
  (∀ (s : State) (src : Src) (r : Fin 256) (v : BitVec 32),
    s.barServed = true → 
    ((s.mayRing src.host r = false → Answers (.sqDoorbell src r v) s (fun t => t.rd F.FLT_WR_REJ_COUNT = satAt 32 (s.rd F.FLT_WR_REJ_COUNT + 1) ∧ Keeps s t [F.FLT_WR_REJ_COUNT.key 0 0] ∧ t.host = s.host)
      ∧ Answers (.cqDoorbell src r v) s (fun t => Keeps s t [F.FLT_WR_REJ_COUNT.key 0 0] ∧ t.host = s.host))
      ∧ (s.mayRing src.host r = true → s.bit F.HST_RING_ENABLE r = false ∨ 2 ^ s.rd F.HST_RING_SIZE_LOG2 r ≤ v.toNat →
      Answers (.sqDoorbell src r v) s (fun t => t.bit F.HST_RING_ERR r = true ∧ Keeps s t [F.HST_RING_ERR.key r 0] ∧ t.host = s.host) ∧ Answers (.cqDoorbell src r v) s (fun t => t.bit F.HST_RING_ERR r = true ∧ Keeps s t [F.HST_RING_ERR.key r 0] ∧ t.host = s.host))
      ∧ (s.mayRing src.host r = true → s.bit F.HST_RING_ENABLE r = true → v.toNat < 2 ^ s.rd F.HST_RING_SIZE_LOG2 r → v.toNat < 2 ^ 16 →
      Answers (.sqDoorbell src r v) s (fun t => t.rd F.HST_RING_SQ_TAIL r = v.toNat ∧ Keeps s t [F.HST_RING_SQ_TAIL.key r 0] ∧ t.host = s.host))))
  ∧ (∀ (s : State) (r : Fin 256) (v : BitVec 32) (n h : Nat),
    s.barServed = true → s.bit F.HST_RING_ENABLE r = true ∧ n = 2 ^ s.rd F.HST_RING_SIZE_LOG2 r ∧ v.toNat < n → (s.ringSt r).cqHead = h → 
    (((s.rd F.HST_RING_CQ_TAIL r + n - h) % n < (v.toNat + n - h) % n → Answers (.cqDoorbell .pf r v) s (fun t => t.bit F.HST_RING_ERR r = true ∧ Keeps s t [F.HST_RING_ERR.key r 0] ∧ t.host = s.host))
      ∧ ((v.toNat + n - h) % n ≤ (s.rd F.HST_RING_CQ_TAIL r + n - h) % n → (s.ringSt r).waiting = [] → Answers (.cqDoorbell .pf r v) s (fun t => (t.ringSt r).cqHead = v.toNat ∧ Keeps s t [] ∧ t.host.out = s.host.out))
      ∧ (∀ e, (v.toNat + n - h) % n ≤ (s.rd F.HST_RING_CQ_TAIL r + n - h) % n → (s.ringSt r).waiting = [e] → (s.rd F.HST_RING_CQ_TAIL r + 1) % n ≠ v.toNat →
      Answers (.cqDoorbell .pf r v) s (fun t => t.host.out = ⟨r, s.rd F.HST_RING_CQ_TAIL r, e, s.rd F.HST_RING_PHASE r, s.rd F.HST_RING_SQ_HEAD r⟩ :: s.host.out ∧ (t.ringSt r).waiting = [] ∧ (t.ringSt r).cqHead = v.toNat))))
  ∧ (∀ (s : State) (r n : Nat) (e : CqEnt),
    n = 2 ^ s.rd F.HST_RING_SIZE_LOG2 r → s.rd F.HST_RING_CQ_TAIL r < n ∧ n ≤ 2 ^ 16 ∧ s.rd F.HST_RING_PHASE r ≤ 1 → 
    ((s.ringLive r = false → (s.cqPost r e).host = s.host ∧ (s.cqPost r e).rd F.HST_STAT_CQ_LOST = satAt 20 (s.rd F.HST_STAT_CQ_LOST + 1))
      ∧ (s.ringLive r = true → s.ringFull r = true → (s.cqPost r e).host.out = s.host.out ∧ ((s.cqPost r e).ringSt r).waiting = (s.ringSt r).waiting ++ [e] ∧ (s.cqPost r e).regs = s.regs)
      ∧ (s.ringOpen r = true → (s.cqPost r e).host.out = ⟨r, s.rd F.HST_RING_CQ_TAIL r, e, s.rd F.HST_RING_PHASE r, s.rd F.HST_RING_SQ_HEAD r⟩ :: s.host.out
      ∧ (s.cqPost r e).rd F.HST_RING_CQ_TAIL r = (s.rd F.HST_RING_CQ_TAIL r + 1) % n
      ∧ (s.cqPost r e).rd F.HST_RING_PHASE r = (if s.rd F.HST_RING_CQ_TAIL r + 1 = n then 1 - s.rd F.HST_RING_PHASE r else s.rd F.HST_RING_PHASE r)
      ∧ (s.cqPost r e).mem = s.mem ∧ (s.cqPost r e).clu = s.clu)))
  ∧ (∀ (s : State) (r : Fin 256),
    s.ringLive r = true → (s.ringSt r).unsig ≠ 0 → (s.ringSt r).since + 1000 * s.rd F.HST_RING_TIME_US r ≤ s.now → 
    Answers (.msixTimer r) s (fun t => t.msix = ⟨s.ringFn r, s.rd F.HST_RING_VEC r⟩ :: s.msix ∧ (t.ringSt r).unsig = 0 ∧ Keeps s t []))
  ∧ (∀ (s t0 : State) (r : Fin 256) (v : BitVec 64),
    (writeFields s .pf 8 (F.HST_RING_ENABLE.regAddr r 0) v.toNat).1 = t0 → 
    ((s.bit F.HST_RING_ENABLE r = true → Answers (.hstRingCfgWrite r .pf v) s (fun t => t.bit F.HST_RING_ERR r = true ∧ Keeps s t [F.HST_RING_ERR.key r 0] ∧ t.host = s.host))
      ∧ (s.bit F.HST_RING_ENABLE r = false → t0.rd F.HST_RING_SIZE_LOG2 r < 4 → Answers (.hstRingCfgWrite r .pf v) s (fun t => t.bit F.HST_RING_ERR r = true ∧ Keeps s t [F.HST_RING_ERR.key r 0] ∧ t.host = s.host))
      ∧ (s.bit F.HST_RING_ENABLE r = false → 4 ≤ t0.rd F.HST_RING_SIZE_LOG2 r → t0.rd F.HST_RING_SIZE_LOG2 r ≤ 16 → t0.rd F.HST_RING_OWNER r = 31 → t0.rd F.HST_RING_CNT_TH r ≠ 0 → t0.rd F.HST_RING_VEC r ≤ 255
      → bitsAt v.toNat F.HST_RING_WEIGHT.lo F.HST_RING_WEIGHT.w = 1 → t0.bit F.HST_RING_ENABLE r = true →
      Answers (.hstRingCfgWrite r .pf v) s (fun t => t.bit F.HST_RING_ENABLE r = true ∧ t.rd F.HST_RING_SIZE_LOG2 r = t0.rd F.HST_RING_SIZE_LOG2 r ∧ t.rd F.HST_RING_SQ_HEAD r = 0 ∧ t.rd F.HST_RING_SQ_TAIL r = 0 ∧ t.rd F.HST_RING_CQ_TAIL r = 0
      ∧ t.rd F.HST_RING_PHASE r = 1 ∧ t.ringSt r = RingSt.init ∧ t.host.out = s.host.out))))
  ∧ (∀ (s : State) (r : Fin 256) (p : Part) (src : Src) (v : BitVec 64),
    src.host ≠ .pf → 
    (Answers (.hstRingCfgWrite r src v) s (fun t => t.rd F.FLT_WR_REJ_COUNT = satAt 32 (s.rd F.FLT_WR_REJ_COUNT + 1) ∧ Keeps s t [F.FLT_WR_REJ_COUNT.key 0 0])
      ∧ Answers (.hstPartCtlWrite p src v) s (fun t => t.rd F.FLT_WR_REJ_COUNT = satAt 32 (s.rd F.FLT_WR_REJ_COUNT + 1) ∧ Keeps s t [F.FLT_WR_REJ_COUNT.key 0 0])))
  ∧ (∀ (s : State) (p : Part),
    (Answers (.hstPartCtlWrite p .pf 0x0501) s (fun t => t.bit F.HST_PART_CTL_EXPERT_EN p = true ∧ t.rd F.HST_PART_CTL_APER_BASE p = 5 ∧ Keeps s t [F.HST_PART_CTL_EXPERT_EN.key p 0, F.HST_PART_CTL_APER_BASE.key p 0])
      ∧ Answers (.hstPartCtlWrite p .pf 0) s (fun t => t.bit F.HST_PART_CTL_EXPERT_EN p = false ∧ t.rd F.HST_PART_CTL_APER_BASE p = 0)))
  ∧ (∀ (s : State) (r : Nat) (e : List Byte),
    s.barServed = true → s.fetchRing = some r → 
    (Answers (.sqFetch e true) s (fun t => t.bit F.HST_RING_ENABLE r = false ∧ t.bit F.HST_RING_ERR r = true ∧ t.host.cmds = s.host.cmds ∧ t.mem = s.mem)
      ∧ (s.entryCode r e = 0 → Answers (.sqFetch e false) s (fun t => t.host.cmds = s.host.cmds ++ [s.entryCmd r e] ∧ t.rd F.HST_RING_SQ_HEAD r = (s.rd F.HST_RING_SQ_HEAD r + 1) % 2 ^ s.rd F.HST_RING_SIZE_LOG2 r % 2 ^ 16 ∧ t.mem = s.mem ∧ t.clu = s.clu))
      ∧ (s.entryCode r e ≠ 0 → Answers (.sqFetch e false) s (Completes (s.entryCmd r e) (s.entryCode r e) 0 s))))
  ∧ (∀ (s : State) (r : Fin 256),
    s.bit F.HST_STAT_LINK_UP = true → 
    Answers .hostLinkDown s (fun t => t.bit F.HST_STAT_LINK_UP = false ∧ t.bit F.HST_STAT_SDOWN = true ∧ t.bit F.HST_RING_ENABLE r = false ∧ t.host.copies = [] ∧ t.host.out = s.host.out ∧ t.host.grants = s.host.grants ∧ t.clu = s.clu ∧ t.mem = s.mem ∧ t.msix = s.msix))
  ∧ (∀ (s : State) (rate : Fin 4) (width : Fin 32) (flit : Bool),
    s.bit F.HST_STAT_LINK_UP = false ∧ 4 ≤ s.stage ∧ s.start.rstOn = false ∧ s.start.perst = true ∧ s.islResetting 303 = false → 
    Answers (.hostLinkUp rate width flit) s (fun t => t.bit F.HST_STAT_LINK_UP = true ∧ t.rd F.HST_STAT_RATE = rate ∧ t.rd F.HST_STAT_WIDTH = width ∧ t.bit F.HST_STAT_FLIT = flit ∧ t.bit F.HST_STAT_DEGRADED = decide ((rate : Nat) < 3 ∨ (width : Nat) < 16) ∧ t.mem = s.mem))
  ∧ (∀ (s u : State) (src : Src) (off n a c : Nat) (part : Option Nat) (d : List MByte),
    s.barServed = true → s.aperAt src off n = some (a, part) → s.readSpan part false (State.localAddr a) n = (u, c, d) → 
    ((State.spanCode 1024 s part false a n ≠ 0 → Answers (.apertureRead src off n) s (fun t => t.host.aper = (2, []) ∧ t.rd F.HST_STAT_APER_REJ = satAt 16 (s.rd F.HST_STAT_APER_REJ + 1) ∧ t.mem = s.mem))
      ∧ (State.spanCode 1024 s part false a n = 0 → c = 0 → Answers (.apertureRead src off n) s (fun t => t.host.aper = (if anyPsn d then 3 else 1, plain d) ∧ t.mem = u.mem))))
  ∧ (∀ (s : State) (src : Src) (off a : Nat) (part : Option Nat) (l : List MByte),
    s.barServed = true → s.aperAt src off l.length = some (a, part) → 
    ((State.spanCode 1024 s part true a l.length ≠ 0 → Answers (.apertureWrite src off l) s (fun t => t.rd F.HST_STAT_APER_REJ = satAt 16 (s.rd F.HST_STAT_APER_REJ + 1) ∧ Keeps s t [F.HST_STAT_APER_REJ.key 0 0]))
      ∧ (State.spanCode 1024 s part true a l.length = 0 → Answers (.apertureWrite src off l) s (fun t => t.mem = (s.writeSpan part false (State.localAddr a) l).1.mem ∧ t.psn = (s.writeSpan part false (State.localAddr a) l).1.psn))))

/-- Host commands: NOP, EPOCH, LAUNCH, COPY, MG_SEND and MG_RECV, for a command that may start (R457, R501, R502, R505, R506, R507, R508, R367). -/
def Obligations.HostCommands : Prop :=
  (∀ (s : State) (id : Nat) (c : HostCmd),
    s.cmdReady id 0 = some c → s.ringOpen c.ring = true → 
    Answers (.hostNop id) s (fun t => Completes c 0 0 s t ∧ t.mem = s.mem ∧ t.clu = s.clu))
  ∧ (∀ (s : State) (id : Nat) (c : HostCmd),
    s.cmdReady id 3 = some c → c.part < 16 → s.bit F.AGT_STAT_LINK_FAULT = false → 
    ((s.ringOpen c.ring = true → s.rd F.AGT_STAT_STATE ≠ 2 → s.rd F.AGT_STAT_STATE ≠ 6 → s.rd F.AGT_STAT_STATE ≠ 8 → Answers (.hostEpoch id) s (Completes c 0x3008 0 s))
      ∧ (s.ringOpen c.ring = true → s.rd F.AGT_STAT_STATE = 2 → s.rangesOf c.part = [] → Answers (.hostEpoch id) s (Completes c 0 (s.rd F.AGT_EPOCH_LAST_DONE c.part) s))
      ∧ (s.rd F.AGT_STAT_STATE = 2 → s.rangesOf c.part ≠ [] → (s.epAt c.part).run = none → Answers (.hostEpoch id) s (fun t => t.bit F.AGT_EPOCH_RUN c.part = true ∧ t.host.out = s.host.out
      ∧ ∃ e, (t.epAt c.part).run = some e ∧ e.n = (s.epAt c.part).last + 1 ∧ e.full = (bitAt (c.op 16 1) 0 || (s.epAt c.part).needFull) ∧ e.cmd = some id))))
  ∧ (∀ (s : State) (id : Nat) (mask : BitVec 256) (c : HostCmd),
    s.cmdReady id 1 = some c → s.ringOpen c.ring = true → 
    ((s.launchCode c (maskClus mask) ≠ 0 → Answers (.hostLaunch id mask) s (fun t => Completes c (s.launchCode c (maskClus mask)) 0 s t ∧ t.clu = s.clu ∧ t.mem = s.mem))
      ∧ (s.launchCode c [] = 0 → Answers (.hostLaunch id 0) s (fun t => Completes c 0 0 s t ∧ t.clu = s.clu ∧ t.mem = s.mem))
      ∧ (s.launchCode c (maskClus mask) = 0 → mask ≠ 0 → Answers (.hostLaunch id mask) s (fun t => t.host.out = s.host.out ∧ t.mem = s.mem
      ∧ t.host.launches = s.host.launches ++ [⟨id, c.ring, c.tag, c.part, maskClus mask, bitAt (c.op 56 1) 0, c.op 16 8, c.op 24 4, c.op 28 4, c.op 32 4, c.op 36 4, c.op 40 8, bitAt (c.op 56 1) 1, none⟩]
      ∧ ∀ k, k < 256 → (mask.getLsbD k = true → (t.cl k).run = true ∧ (t.cl k).starting = true ∧ (t.cl k).codeBase = c.op 28 4 ∧ (t.cl k).codeLim = c.op 32 4) ∧ (mask.getLsbD k = false → t.cl k = s.cl k)))))
  ∧ (∀ (s : State) (c : Clu) (l : LaunchSt) (b : List (Byte × Bool)),
    s.host.launches.find? (fun l => l.clusters.contains (c : Nat)) = some l → l.img = some b ∧ b.length = l.ilen ∧ l.base + l.ilen ≤ l.lim ∧ l.lim ≤ 0x400000 → s.launchIdle c = true ∧ s.cluHeld c = false → 
    ((b.all (fun e => !e.2) = true → ∀ img, Answers (.launchClusterStart c img) s (fun t => (t.cl c).run = true ∧ (t.cl c).starting = false ∧ (t.cl c).pc = l.entry ∧ (t.cl c).gr 1 = BitVec.ofNat 64 l.arg ∧ (t.cl c).tag = l.tag
      ∧ (∀ i, i < l.ilen → t.mem1 (sramAt c (l.base + i)) = (b.map Prod.fst).getD i 0) ∧ (∀ i, l.ilen ≤ i → i < l.lim - l.base → t.mem1 (sramAt c (l.base + i)) = 0)
      ∧ (∀ a, a < sramAt c l.base ∨ sramAt c l.lim ≤ a → t.mem1 a = s.mem1 a)))
      ∧ (∀ img i, b.findIdx? (fun e => e.2) = some i → Answers (.launchClusterStart c img) s (fun t => (t.cl c).run = false ∧ (t.cl c).faulted = true ∧ (t.cl c).fcode = 0x010C ∧ (t.cl c).faddr = l.base + i))))
  ∧ (∀ (s : State) (id : Nat) (d : List (Byte × Bool)) (c : HostCmd),
    s.cmdReady id 2 = some c → c.op 36 1 ≤ 2 → 
    ((s.ringOpen c.ring = true → c.op 32 4 = 0 → Answers (.hostCopy id d) s (fun t => Completes c 0 0 s t ∧ t.mem = s.mem))
      ∧ (s.ringOpen c.ring = true → c.op 32 4 ≠ 0 → s.copyCode c.part (c.op 36 1) (c.op 16 8) (c.op 24 8) (c.op 32 4) ≠ 0 →
      Answers (.hostCopy id d) s (fun t => Completes c (s.copyCode c.part (c.op 36 1) (c.op 16 8) (c.op 24 8) (c.op 32 4)) 0 s t ∧ t.mem = s.mem))
      ∧ (c.op 32 4 ≠ 0 → s.copyCode c.part 0 (c.op 16 8) (c.op 24 8) (c.op 32 4) = 0 → c.op 36 1 = 0 → s.bit F.HST_STAT_LINK_UP = true → s.host.copies = [] → s.answersFor (c.op 24 8 / 2 ^ 48) = true →
      Answers (.hostCopy id d) s (fun t => ∃ x, t.copyOf id = some x ∧ x.run = true ∧ x.out = 0 ∧ x.len = c.op 32 4 ∧ x.dir = 0))))
  ∧ (∀ (s : State) (id : Nat) (c : CopySt) (d : HostCmd),
    s.host.copies = [c] ∧ c.id = id → c.run = true ∧ c.out = 0 → s.host.cmds.find? (fun x => x.id = id) = some d → s.ringOpen d.ring = true → 
    Answers (.copyDone id) s (fun t => Completes d c.code c.done s t ∧ t.host.copies = [] ∧ t.mem = s.mem))
  ∧ (∀ (s : State) (c : CopySt) (off k : Nat) (l : List MByte),
    c.dir = 1 → s.copyOf c.id = some c → k = (l.takeWhile (fun b => !b.2)).length ∧ k ≠ 0 → 
    ((s.copyPut c off l).host.writes = (c.host + off, plain (l.take k)) :: s.host.writes ∧ ((s.copyPut c off l).copyOf c.id).map CopySt.done = some (c.done + k)
      ∧ ((s.copyPut c off l).copyOf c.id).map CopySt.code = some (if c.code ≠ 0 then c.code else if k < l.length then 0x010C else 0) ∧ (s.copyPut c off l).mem = s.mem))
  ∧ (∀ (s : State) (id k : Nat) (p : Pkt) (c : HostCmd),
    s.cmdReady id 0x10 = some c → s.ringOpen c.ring = true → 
    ((p.opc = 0x30 → s.answersFor p.dst = false → s.viaSC p.dst k = true → Answers (.mgSend id p) s (fun t => Queued k p s t ∧ Completes c 0 0 s t))
      ∧ (p.opc = 0x30 → s.answersFor p.dst = true → s.quartz.mgq.length < 16 → Answers (.mgSend id p) s (fun t => t.quartz.mgq = s.quartz.mgq ++ [⟨p, false⟩] ∧ Completes c 0 0 s t))
      ∧ (p.opc ≠ 0x30 → p.opc ≠ 0x32 → Answers (.mgSend id p) s (Completes c 0x1103 0 s))))
  ∧ (∀ (s : State) (id : Nat) (c : HostCmd),
    s.cmdReady id 0x11 = some c → 
    Answers (.mgRecv id) s (fun t => t.host.mgbuf = s.host.mgbuf ++ [(c.id, c.op 16 8)] ∧ t.host.out = s.host.out ∧ Keeps s t []))

/-- Partitions and grants: creation, removal, granting, narrowing and revoking (R491, R492, R493, R495, R496, R497, R498, R499). -/
def Obligations.PartitionsAndGrants : Prop :=
  (∀ (s : State) (id : Nat) (d : List Byte) (c : HostCmd) (k : Fin 4),
    s.cmdReady id 8 = some c → d.length = 64 → 
    ((s.partCreateCode d ≠ 0 → s.ringOpen c.ring = true → Answers (.partCreate id d) s (fun t => Completes c (s.partCreateCode d) 0 s t ∧ t.mem = s.mem ∧ t.clu = s.clu))
      ∧ (s.partCreateCode d = 0 → (s.asgAt (leAt d 0 1)).pend = none → Answers (.partCreate id d) s (fun t => t.partExists (leAt d 0 1) = true ∧ t.bit F.HST_PART_CTL_EXPERT_EN (leAt d 0 1) = false ∧ t.rd F.QTZ_PART_QUOTA (leAt d 0 1) = leAt d 4 4 % 2 ^ F.QTZ_PART_QUOTA.w
      ∧ t.rd F.QTZ_PART_WEIGHT (leAt d 0 1) = leAt d 8 1 ∧ t.rd F.HST_PART_CTL_CLU (leAt d 0 1) k = leAt d (32 + 8 * k) 8 ∧ t.mem = s.mem ∧ t.host.out = s.host.out))))
  ∧ (∀ (s : State) (d : List Byte),
    ((15 < leAt d 0 1 ∨ leAt d 8 1 = 0 ∨ 16 < leAt d 1 1 → s.partCreateCode d = 0x1203)
      ∧ ((List.range 23).all (fun k => decide (leAt d (9 + k) 1 = 0)) = true → leAt d 0 1 < 16 → leAt d 8 1 ≠ 0 → leAt d 1 1 ≤ 16 → leAt d 2 1 ≤ 16 → leAt d 3 1 ≤ 16 → s.partExists (leAt d 0 1) = true → s.partCreateCode d = 0x4408)))
  ∧ (∀ (s : State) (id : Nat) (c : HostCmd),
    s.cmdReady id 9 = some c → 
    ((s.partExists c.part = false → s.ringOpen c.ring = true → Answers (.partDestroy id) s (fun t => Completes c 0 0 s t ∧ t.mem = s.mem))
      ∧ (s.partExists c.part = true → (∀ p, p < 16 → s.rangesOf p = []) → Answers (.partDestroy id) s (fun t => t.partExists c.part = false ∧ t.rd F.QTZ_PART_QUOTA c.part = 0 ∧ t.bit F.HST_PART_CTL_EXPERT_EN c.part = false))))
  ∧ (∀ (s : State) (id : Nat) (c : HostCmd),
    s.cmdReady id 0x0A = some c → 
    ((s.ringOpen c.ring = true → s.grantBad c = true → Answers (.grant id) s (fun t => Completes c 0x1203 0 s t ∧ t.host.grants = s.host.grants ∧ t.mem = s.mem))
      ∧ (s.ringOpen c.ring = true → s.grantBad c = false → c.grant.pages = 0 → Answers (.grant id) s (fun t => Completes c 0 0 s t ∧ t.host.grants = s.host.grants))
      ∧ (s.ringOpen c.ring = true → s.grantBad c = false → c.grant.pages ≠ 0 → hbmBase + s.hbmCap < c.grant.base + 4096 * c.grant.pages → Answers (.grant id) s (fun t => Completes c 0x0104 0 s t ∧ t.host.grants = s.host.grants))
      ∧ (s.grantBad c = false → c.grant.pages ≠ 0 → c.grant.base + 4096 * c.grant.pages ≤ s.mirrorBase → s.mirrorBase ≤ hbmBase + s.hbmCap → s.host.grants.any (fun h => decide (h.2.base < c.grant.base + 4096 * c.grant.pages ∧ c.grant.base < h.2.base + 4096 * h.2.pages)) = false
      → s.host.grants.length < 4096 → Answers (.grant id) s (fun t => SMap.find t.host.grants (freeGrant 0 s.host.grants) = some c.grant ∧ c.grant.live = false ∧ t.host.out = s.host.out ∧ Keeps s t []))))
  ∧ (∀ (s : State) (n : Fin 4096) (g : Grant) (c : HostCmd),
    s.grantFor n 0x0A = some (g, c) → s.ringOpen c.ring = true → 
    Answers (.grantFillDone n) s (fun t => SMap.find t.host.grants n = some { g with live := true, cmd := none } ∧ Completes c 0 0 s t ∧ (∀ a, g.base ≤ a ∧ a < g.base + 4096 * g.pages → t.mem1 a = 0) ∧ (∀ a, a < g.base ∨ g.base + 4096 * g.pages ≤ a → t.mem1 a = s.mem1 a)))
  ∧ (∀ (s : State) (id n : Nat) (c : HostCmd) (o : Grant),
    s.cmdReady id 0x0B = some c → s.grantNamed c.grant = some (n, o) → ∀ p, p < 16 → s.rangesOf p = [] → s.ringOpen c.ring = true → 
    ((narrows o c.grant = false → Answers (.grantMod id) s (fun t => Completes c 0x1203 0 s t ∧ t.host.grants = s.host.grants))
      ∧ (narrows o c.grant = true → c.op 28 1 ≤ 1 → c.grant.home ≤ 15 → c.grant.home = o.home → Answers (.grantMod id) s (fun t => Completes c 0 0 s t ∧ SMap.find t.host.grants n = some { c.grant with live := true, cmd := none } ∧ t.mem = s.mem))))
  ∧ (∀ (s : State) (id n : Nat) (c : HostCmd) (o : Grant),
    s.cmdReady id 0x0C = some c → s.grantNamed c.grant = some (n, o) → ∀ p, p < 16 → s.rangesOf p = [] → 
    Answers (.revoke id) s (fun t => SMap.find t.host.grants n = some { o with live := false, cmd := some id } ∧ t.host.out = s.host.out ∧ t.mem = s.mem))
  ∧ (∀ (s : State) (id : Nat) (c : HostCmd),
    s.cmdReady id 0x0C = some c ∨ s.cmdReady id 0x0B = some c → s.grantNamed c.grant = none → s.ringOpen c.ring = true → 
    ((s.cmdReady id 0x0C = some c → Answers (.revoke id) s (Completes c 0x1203 0 s)) ∧ (s.cmdReady id 0x0B = some c → Answers (.grantMod id) s (Completes c 0x1203 0 s))))
  ∧ (∀ (s : State) (n : Fin 4096) (g : Grant) (c : HostCmd),
    s.grantFor n 0x0C = some (g, c) → 
    Answers (.revokeDone n) s (fun t => SMap.find t.host.grants n = none ∧ ∀ m, m ≠ (n : Nat) → SMap.find t.host.grants m = SMap.find s.host.grants m))

/-- Mica: opening, feeding, crediting, decoding and closing a stream; the cache and its pins (R520, R523, R527, R529, R534, R536, R538, R539, R543, R544, R546, R551). -/
def Obligations.MicaStreams : Prop :=
  (∀ (s : State) (x : Iss) (ra rb : Fin 64) (imm : BitVec 24) (f : MicaFeed),
    s.issues { x with res := false } = true → s.tnsIdle x.c = true → s.micaPres = false → 
    Answers (.untMcmd x ra rb imm f) s (Faults x 1 0 s))
  ∧ (∀ (s : State) (x : Iss) (ra rb : Fin 64) (imm : BitVec 24) (f : MicaFeed) (d : List Byte) (p : Nat),
    s.issues x = true → s.tnsIdle x.c = true → s.micaPres = true ∧ s.islFailed 293 = false → x.long = true ∧ imm.toNat % 64 = 0 ∧ imm.toNat < 2 ^ 12 → s.unitDescCode x.c ((s.cl x.c).gr ra).toNat ((s.cl x.c).gr rb).toNat = (0, 0) → d = s.memL (sramAt x.c ((s.cl x.c).gr ra).toNat) 128 → s.cluPart x.c = some p → leAt d 0 1 = 0 ∧ s.openCode p d = 0 → 
    Answers (.untMcmd x ra rb imm f) s (fun t => t.memN (sramAt x.c ((s.cl x.c).gr rb).toNat) 8 = freeStream 0 s.mica.streams * 2 ^ 32 ∧ t.cl x.c = { s.cl x.c with pc := (s.cl x.c).pc + 8 }
      ∧ (∃ y, t.mst (freeStream 0 s.mica.streams) = some y ∧ y.part = p ∧ y.d = d ∧ y.res = oRes d ∧ y.credits = oNbuf d ∧ y.queue = [])))
  ∧ (∀ (s : State) (id : Nat) (c : HostCmd) (d : List Byte),
    s.micaAsks id 0 c d = true → 
    ((s.openCode c.part d = 0 → Answers (.micaOpen id d) s (fun t => Completes c 0 (freeStream 0 s.mica.streams) s t ∧ (∃ y, t.mst (freeStream 0 s.mica.streams) = some y ∧ y.part = c.part ∧ y.d = d ∧ y.res = oRes d ∧ y.credits = oNbuf d ∧ y.queue = [] ∧ y.seq = 0)
      ∧ (∀ i, i ≠ freeStream 0 s.mica.streams → t.mst i = s.mst i) ∧ Keeps s t []))
      ∧ (s.openCode c.part d ≠ 0 → s.openCode c.part d ≠ Code.busy 0x51 → Answers (.micaOpen id d) s (fun t => Completes c (s.openCode c.part d) 0 s t ∧ t.mica = s.mica))))
  ∧ (∀ (s : State) (p : Nat) (d : List Byte),
    ((openRes d = false → openBad d = true → s.openCode p d = 0x1403)
      ∧ (s.openCode p d = 0 → s.resKs + oRes d ≤ 37601280 ∧ s.mica.streams.length < 1024 ∧ oNref d * oPb d ≤ leAt d 32 8)
      ∧ (leAt d 8 2 = 1920 → leAt d 10 2 = 1080 → leAt d 12 4 = 3000 → leAt d 1 1 = 1 → leAt d 4 1 = 0 → oRes d = 62669)
      ∧ (leAt d 8 2 = 1280 → leAt d 10 2 = 720 → leAt d 12 4 = 24000 → leAt d 1 1 = 2 → leAt d 4 1 = 1 → oRes d = 331776)))
  ∧ (∀ (s : State) (id : Nat) (c : HostCmd) (d : List Byte) (x : MStream),
    s.micaAsks id 1 c d = true → s.micaNames c d x = true → leAt d 4 1 ≤ 1 ∧ leAt d 5 123 = 0 → x.queue = [] ∧ x.frames = [] → s.mica.cfgs = [] → 
    Answers (.micaClose id d) s (fun t => Completes c 0 0 s t ∧ t.mst (leAt d 2 2) = none ∧ (∀ i, i ≠ leAt d 2 2 → t.mst i = s.mst i) ∧ t.mem = s.mem))
  ∧ (∀ (s r : State) (id : Nat) (c : HostCmd) (d l : List Byte) (f : MicaFeed) (x : MStream),
    s.micaAsks id 2 c d = true → s.micaNames c d x = true → leAt d 6 2 = 0 ∧ leAt d 16 112 = 0 ∧ leAt d 4 2 ≤ 256 → (s.starting id).feedList c.part d f = (r, 0, clean l) → r.mica = s.mica ∧ r.host = (s.starting id).host ∧ r.regs = s.regs → ∀ k, k < leAt d 4 2 → leAt (feedEntry l k) 12 4 = 0 ∧ leAt (feedEntry l k) 24 8 = 0 ∧ 0 < leAt (feedEntry l k) 8 4 ∧ leAt (feedEntry l k) 8 4 ≤ 8388608 → oLive x.d = false ∧ x.lag = false ∧ x.frames = [] → x.queued = x.queue.length → s.mica.cfgs = [] → 
    ((256 < x.queued + leAt d 4 2 → Answers (.micaFeed id d f) s (fun t => Completes c 0x5308 0 s t ∧ t.mica = s.mica))
      ∧ (x.queued + leAt d 4 2 ≤ 256 → Answers (.micaFeed id d f) s (fun t => Completes c 0 x.seq s t ∧ t.mem = r.mem ∧ t.mst (leAt d 2 2) = some { x with
      queue := x.queue ++ (List.range (leAt d 4 2)).map (fun k => .unit (leAt (feedEntry l k) 0 8) (leAt (feedEntry l k) 8 4) (leAt (feedEntry l k) 16 8) ((x.seq + k) % 2 ^ 32) ((f.stamps[k]?).getD none) false)
      seq := (x.seq + leAt d 4 2) % 2 ^ 32, in_ := x.in_ + leAt d 4 2 }))))
  ∧ (∀ (s : State) (id : Nat) (c : HostCmd) (d : List Byte) (x : MStream),
    s.micaAsks id 3 c d = true → s.micaNames c d x = true → leAt d 8 120 = 0 → x.frames = [] ∧ x.queue = [] ∧ x.lag = false → s.mica.cfgs = [] → 
    ((oNbuf x.d < x.credits + leAt d 4 4 → Answers (.micaCredit id d) s (fun t => Completes c 0x1403 0 s t ∧ t.mica = s.mica))
      ∧ (x.credits + leAt d 4 4 ≤ oNbuf x.d → Answers (.micaCredit id d) s (fun t => Completes c 0 (x.credits + leAt d 4 4) s t ∧ t.mst (leAt d 2 2) = some { x with credits := x.credits + leAt d 4 4 } ∧ t.mem = s.mem))))
  ∧ (∀ (s : State) (id : Nat) (c : HostCmd) (d : List Byte),
    s.micaAsks id 4 c d = true → leAt d 2 6 = 0 ∧ leAt d 28 100 = 0 → 
    ((s.rd F.HST_RING_OWNER c.ring ≠ 31 → Answers (.cacheCfg id d) s (fun t => Completes c 0x0805 0 s t ∧ t.mica = s.mica))
      ∧ (s.rd F.HST_RING_OWNER c.ring = 31 → leAt d 16 8 % 2 ^ 21 ≠ 0 ∨ 2 ^ 24 < leAt d 24 4 → Answers (.cacheCfg id d) s (fun t => Completes c 0x1403 0 s t ∧ t.mica = s.mica))
      ∧ (s.rd F.HST_RING_OWNER c.ring = 31 → leAt d 16 8 = 0 → leAt d 24 4 = 0 → s.cacheSum c.part F.MCA_CACHE_LEN MCfg.len ≤ 64 * 2 ^ 30 → s.cacheSum c.part F.MCA_CACHE_MAX_ENT MCfg.maxEnt ≤ 2 ^ 24
      → s.mica.cfgs = [] → s.cacheServing c.part = false → (List.range 8).all (fun k => (s.pinAt (8 * c.part + k)).run.isNone && (s.pinAt (8 * c.part + k)).pend.isNone) = true
      → Answers (.cacheCfg id d) s (fun t => Completes c 0 0 s t ∧ t.mcache c.part = [] ∧ (∀ p, p ≠ c.part → t.mcache p = s.mcache p) ∧ (∀ k, k < 8 → (t.pinAt (8 * c.part + k)).range = none) ∧ t.mica.streams = s.mica.streams ∧ t.mem = s.mem))))
  ∧ (∀ (s : State) (id : Nat) (c : HostCmd) (d : List Byte),
    s.micaAsks id 5 c d = true → leAt d 2 2 = 0 ∧ leAt d 6 2 = 0 ∧ leAt d 24 104 = 0 → 
    ((leAt d 16 8 < leAt d 8 8 → Answers (.micaPin id d) s (fun t => Completes c 0x1403 0 s t ∧ t.mica = s.mica))
      ∧ (leAt d 8 8 ≤ leAt d 16 8 → leAt d 4 1 ≤ 7 → leAt d 5 1 = 0 → (s.pinAt (8 * c.part + leAt d 4 1)).run = none → Answers (.micaPin id d) s (fun t =>
      t.pinAt (8 * c.part + leAt d 4 1) = { s.pinAt (8 * c.part + leAt d 4 1) with run := some ⟨false, leAt d 8 8, leAt d 16 8, .host id⟩ } ∧ t.host.out = s.host.out ∧ t.mem = s.mem))
      ∧ (leAt d 8 8 ≤ leAt d 16 8 → leAt d 4 1 ≤ 7 → leAt d 5 1 = 1 → (s.pinAt (8 * c.part + leAt d 4 1)).run = none → Answers (.micaPin id d) s (fun t =>
      (t.pinAt (8 * c.part + leAt d 4 1)).range = none ∧ (∃ v, Completes c 0 v s t) ∧ t.mem = s.mem))))
  ∧ (∀ (s : State) (p : Part) (slot : Fin 8) (q : MPin),
    (s.pinAt (8 * (p : Nat) + slot)).run = some q ∧ (s.pinAt (8 * (p : Nat) + slot)).pend = none → s.mica.cfgs = [] → ∀ k : Fin 8, k ≠ slot → (s.pinAt (8 * (p : Nat) + k)).range = none → 
    Answers (.pinScanDone p slot) s (fun t => (t.pinAt (8 * (p : Nat) + slot)).run = none ∧ t.mem = s.mem
      ∧ (t.pinAt (8 * (p : Nat) + slot)).range = (if 7 * s.storePages p < 8 * ((s.mcache p).filter (fun e => decide (q.lo ≤ e.key ∧ e.key ≤ q.hi))).foldl (fun n e => n + e.pages) 0
      then (s.pinAt (8 * (p : Nat) + slot)).range else some (q.lo, q.hi))))
  ∧ (∀ (s u r : State) (isRef : Bool) (i : Nat) (x : MStream) (a n k sq : Nat) (cp : Option Nat) (b : Bool) (l : List MItem) (o : Nat) (bs : List Byte),
    s.mica.streams = [(i, x)] ∧ s.mica.cfgs = [] ∧ s.mica.turn = i → x.queue = .unit a n k sq cp b :: l ∧ x.frames = [] ∧ x.closing = none ∧ x.lag = false ∧ oLive x.d = false ∧ x.cost ≤ x.deficit → s.flag F.FLT_ALONE_QUIESCED x.part = false ∧ s.islResetting 293 = false → u = s.setMst i { x with deficit := x.deficit - x.cost } → u.unitRead (fun _ _ => .mica i sq 0) x.part a n = (r, 0, clean bs, o) → r.mica = u.mica → 
    Answers (.micaDecodeStart isRef) s (fun t => t.mem = r.mem ∧ (∃ f, t.mst i = some { x with queue := l, deficit := x.deficit - x.cost, frames := [f] } ∧ f.phase = .decode ∧ f.seq = sq ∧ f.key = k ∧ f.ins = b ∧ f.tStart = s.time.ft ∧ f.refOnly = false ∧ f.out = o)))
  ∧ (∀ (s : State) (i : Nat) (x : MStream) (a n k sq c : Nat) (b : Bool) (l : List MItem),
    s.mica.streams = [(i, x)] ∧ s.mica.cfgs = [] → x.queue = .unit a n k sq (some c) b :: l ∧ x.frames = [] ∧ x.closing = none ∧ x.lag = true ∧ s.lags x = true ∧ oLive x.d = true ∧ l = [] → s.flag F.FLT_ALONE_QUIESCED x.part = false ∧ s.islResetting 293 = false → c + oDeadline x.d < s.time.ft → 
    Answers (.micaDecodeStart false) s (fun t => (∃ y, t.mst i = some y ∧ y.staleS = x.staleS + 1 ∧ y.queue = [] ∧ y.frames = [] ∧ y.dec = x.dec ∧ y.err = x.err) ∧ t.mem = s.mem ∧ t.host.out = s.host.out))
  ∧ (∀ (s : State) (st : Fin 1024) (pic : MicaPic) (x : MStream) (f : MFrame),
    s.mst st = some x ∧ x.frames = [f] ∧ x.queue = [] ∧ x.closing = none ∧ x.lag = false ∧ s.mica.cfgs = [] → f.phase = .decode ∧ f.out = 0 ∧ f.refOnly = false → pic.writes = [] ∧ pic.bump = [] → 
    ((s.picCode x f pic ≠ 0 → Answers (.micaDecodeDone st pic) s (fun t => t.mst st = some { x with frames := [], err := x.err + 1, lastErr := s.picCode x f pic } ∧ t.mem = s.mem))
      ∧ (s.picCode x f pic = 0 → pic.noout = true → Answers (.micaDecodeDone st pic) s (fun t => t.mst st = some { x with frames := [], refs := pic.keep, dec := x.dec + 1, noout := x.noout + 1 } ∧ t.mem = s.mem))
      ∧ (s.picCode x f pic = 0 → pic.noout = false → pic.held = true ∨ x.credits = 0 → Answers (.micaDecodeDone st pic) s (fun t => t.mem = s.mem ∧ ∃ g, t.mst st = some { x with frames := [g], refs := pic.keep, numflg := x.numflg ||| (convert x.d pic s.free).2 }
      ∧ g.phase = (if pic.held then .held else .ready) ∧ g.data = (convert x.d pic s.free).1 ∧ g.cw = pic.cw ∧ g.ch = pic.ch ∧ g.seq = f.seq))))
  ∧ (∀ (s : State) (st : Fin 1024) (x : MStream),
    s.mst st = some x ∧ x.lag = false → s.lags x = true → 
    Answers (.micaLagBegin st) s (fun t => t.mst st = some { x with lag := true } ∧ t.bit F.MCA_STAT_LAG = true ∧ t.mem = s.mem))
  ∧ (∀ (s : State) (x : MStream) (a n k sq c : Nat) (b : Bool),
    oLive x.d = true ∧ x.queue = [.unit a n k sq (some c) b] → s.rd F.MCA_CTRL_LAG_FRAC = 4 → 
    (s.lags x = true ↔ oDeadline x.d < 2 * (s.time.ft - c)))
  ∧ (∀ (s : State) (st : Fin 1024) (src : Src) (x : MStream),
    s.mst st = some x → 
    ((src.host = .pf → Answers (.micaSnap st src) s (fun t => t.mst st = some { x with snap := x.counters } ∧ Keeps s t [])) ∧ (src.host ≠ .pf → Answers (.micaSnap st src) s (fun t => t.mica = s.mica))))

/-- Jasper: submitting a batch, its order, its blocks, its results and its completion (R552, R561, R562, R563, R564, R565, R566, R567, R568, R574, R575). -/
def Obligations.JasperBatches : Prop :=
  (∀ (s : State) (x : Iss) (ra rb : Fin 64) (imm : BitVec 24) (f : FarRead),
    s.issues { x with res := false } = true → s.tnsIdle x.c = true → s.jasperPres = false → 
    Answers (.untJcmd x ra rb imm f) s (Faults x 1 0 s))
  ∧ (∀ (s r : State) (x : Iss) (ra rb : Fin 64) (imm : BitVec 24) (f : FarRead) (d l : List Byte) (p mc : Nat),
    s.issues x = true → s.tnsIdle x.c = true → s.jasperPres = true ∧ s.islFailed 294 = false → x.long = true ∧ imm.toNat % 64 = 0 ∧ imm.toNat < 2 ^ 13 → s.unitDescCode x.c ((s.cl x.c).gr ra).toNat ((s.cl x.c).gr rb).toNat = (0, 0) → d = s.memL (sramAt x.c ((s.cl x.c).gr ra).toNat) 128 → s.cluPart x.c = some p → batchRes d = false ∧ batchBad d = false ∧ bCount d ≠ 0 → (s.pass x).modelGet p d f = (r, mc, l) → r.batchCode p d mc l = 0 → 
    Answers (.untJcmd x ra rb imm f) s (fun t => t.jasper = { r.jasper with waiting := r.jasper.waiting ++ [⟨r.jasper.nextJob, p, d, l, .clu x.c ((s.cl x.c).gr rb).toNat (imm.toNat / 64 % 64) (imm.toNat.testBit 12)⟩], nextJob := r.jasper.nextJob + 1 }
      ∧ t.clu = r.clu ∧ t.mem = r.mem ∧ t.psn = r.psn))
  ∧ (∀ (s : State) (id : Nat) (c : HostCmd) (d : List Byte) (f : FarRead),
    s.cmdReady id 0x60 = some c ∧ s.ringOpen c.ring = true ∧ s.islFailed 294 = false → 
    ((s.jasperPres = false → Answers (.jasperRun id d f) s (fun t => Completes c 1 0 s t ∧ t.jasper = s.jasper))
      ∧ (s.jasperPres = true → batchRes d = true → Answers (.jasperRun id d f) s (fun t => Completes c 0x0203 0 s t ∧ t.jasper = s.jasper))
      ∧ (s.jasperPres = true → batchRes d = false → batchBad d = true → Answers (.jasperRun id d f) s (fun t => Completes c 0x1803 0 s t ∧ t.jasper = s.jasper))
      ∧ (s.jasperPres = true → batchRes d = false → batchBad d = false → bCount d = 0 → bParam d = false → leAt d 48 8 = 0 → Answers (.jasperRun id d f) s (fun t => Completes c 0 0 s t ∧ t.jasper = s.jasper ∧ Keeps s t []))))
  ∧ (∀ (s r : State) (id : Nat) (c : HostCmd) (d l : List Byte) (f : FarRead) (mc : Nat),
    s.jasperAsks id c d = true ∧ bCount d ≠ 0 → (s.starting id).modelGet c.part d f = (r, mc, l) → r.jasper = s.jasper ∧ r.host = (s.starting id).host ∧ r.regs = s.regs → 
    ((r.batchCode c.part d mc l = 0 → Answers (.jasperRun id d f) s (fun t => t.jasper = { s.jasper with waiting := s.jasper.waiting ++ [⟨s.jasper.nextJob, c.part, d, l, .host id⟩], nextJob := s.jasper.nextJob + 1 } ∧ t.host.out = s.host.out ∧ t.mem = r.mem))
      ∧ (r.batchCode c.part d mc l ≠ 0 → Answers (.jasperRun id d f) s (fun t => Completes c (r.batchCode c.part d mc l) 0 s t ∧ t.jasper = s.jasper ∧ t.mem = r.mem))))
  ∧ (∀ (s : State) (p : Nat) (d l : List Byte),
    ((s.batchCode p d 0 l = 0 → s.jasper.places < 5 ∧ minIn (bOp d) (modelOf l).n (bNc d) ≤ leAt d 24 4 ∧ minOut (bOp d) (modelOf l).nj (modelOf l).n (bNc d) ≤ leAt d 28 4)
      ∧ (s.batchRanges d (modelOf l).nj (modelOf l).n = true → s.batchCode p d 0 l = 0x1803)
      ∧ (minIn 4 17 4 = 412 ∧ minOut 4 18 17 4 = 184 ∧ minOut 0 18 17 4 = 864 ∧ minOut 1 18 17 4 = 408)))
  ∧ (∀ (s : State) (b : JBatch),
    s.jasper.run = none ∧ s.islResetting 294 = false → s.jasper.waiting.find? (fun b => !s.flag F.FLT_ALONE_QUIESCED b.part) = some b → s.isFar (leAt b.d 16 8) = false → 
    Answers .jasperBatchStart s (fun t => (∃ r, t.jasper.run = some r ∧ r.b = b ∧ r.code = 0 ∧ r.fin = [] ∧ r.next = min b.blocks 16) ∧ t.jasper.waiting = s.jasper.waiting.filter (fun w => decide (w.job ≠ b.job)) ∧ t.mem = s.mem ∧ t.host = s.host))
  ∧ (∀ (s : State) (b : Fin 128) (r : JRun) (bl : JBlock) (t : Nat),
    s.jasper.run = some r ∧ SMap.find r.blocks b = some bl ∧ bl.out = 0 ∧ bl.wrote = false → r.code = 0 ∧ t ∈ r.b.trees b → s.idCode (bIn r.b.d t / 2 ^ 48) ≠ 0 ∧ 0 < minIn (bOp r.b.d) (modelOf r.b.model).n (bNc r.b.d) → ∀ u, u ∈ r.b.trees b → s.idCode (bIn r.b.d u / 2 ^ 48) = s.idCode (bIn r.b.d t / 2 ^ 48) → 
    Answers (.jasperBlockDone b) s (fun y => y.jasper.run = some { r with code := s.idCode (bIn r.b.d t / 2 ^ 48), blocks := SMap.del r.blocks b, fin := SMap.put r.fin b false } ∧ y.mem = s.mem))
  ∧ (∀ (s u : State) (b : Fin 128) (r q : JRun) (bl bm : JBlock) (inp : List MByte),
    s.jasper.run = some r ∧ SMap.find r.blocks b = some bl ∧ bl.out = 0 ∧ bl.wrote = false → r.b.trees b = [32 * (b : Nat)] ∧ s.treeIn r bl (32 * (b : Nat)) (minIn (bOp r.b.d) (modelOf r.b.model).n (bNc r.b.d)) = (0, inp) → u = (s.modBlock b (fun z => { z with wrote := true })).doTree r b (32 * (b : Nat)) inp → u.jasper.run = some q ∧ SMap.find q.blocks b = some bm ∧ bm.out = 0 → q.b.blocks ≤ q.next → 
    Answers (.jasperBlockDone b) s (fun t => t.mem = u.mem ∧ t.psn = u.psn ∧ t.clu = u.clu ∧ t.jasper.run = some { q with blocks := SMap.del q.blocks b, fin := SMap.put q.fin b (decide (q.code = 0)) } ∧ t.jasper.waiting = u.jasper.waiting))
  ∧ (∀ (s u : State) (r : JRun) (k t : Nat) (l : List MByte) (o a : Nat),
    s.idCode (a / 2 ^ 48) = 0 ∧ s.answersFor (a / 2 ^ 48) = true → s.jasper.run = some r ∧ r.code = 0 → s.writeSpan (reqPart r.b.part) false a l = (u, 0, t) ∧ u.jasper = s.jasper → 
    ((s.treeWrite r k o a l).mem = u.mem ∧ ∃ q, (s.treeWrite r k o a l).jasper.run = some q ∧ q.code = 0))
  ∧ (∀ (s : State) (r : JRun) (id : Nat) (c : HostCmd),
    s.jasper.run = some r ∧ r.blocks = [] → r.b.blocks ≤ r.next ∨ r.code ≠ 0 → r.b.tell = .host id ∧ leAt r.b.d 48 8 = 0 → s.host.cmds.find? (fun e => decide (e.id = id)) = some c → s.ringOpen c.ring = true → 
    Answers .jasperBatchDone s (fun t => Completes c r.code r.leading s t ∧ t.jasper = { s.jasper with run := none } ∧ t.mem = s.mem))
  ∧ (∀ (r : JRun),
    (r.leading ≤ bCount r.b.d ∧ ((∀ k, k < r.b.blocks → SMap.get r.fin false k = true) → r.leading = bCount r.b.d)))
  ∧ (∀ (d model inp : List Byte),
    2 ≤ leAt d 0 1 → 
    (((runTree d model inp).2.flags &&& 0x4F ≠ 0 → ∀ x, x ∈ (runTree d model inp).1 → x = nanF)
      ∧ ((runTree d model inp).2.flags &&& 0x4F = 0 → bitAt (leAt d 1 1) 1 = false → (runTree d model inp).2.iter ≤ 32)
      ∧ (leAt d 0 1 ≤ 3 → (runTree d model inp).2.iter = 0)))

/-- The loop channels: a tick, the converter, pulse and tach inputs, register writes and the clear of a fault (R579, R580, R582, R583, R586, R587, R588, R589, R592, R594, R597). -/
def Obligations.LoopChannels : Prop :=
  (∀ (s : State) (c : Fin 16) (fb chk : BitVec 32),
    s.rd F.LP_CTL_MODE c = 1 ∨ s.rd F.LP_CTL_MODE c = 2 → (s.lp c).waits = [] ∧ (s.lp c).initLaw = false ∧ c ≠ 15 → s.rd F.LP_CTL_OUT c ≤ 6 ∧ s.rd F.LP_CTL_LAW c = 0 ∧ s.rd F.LP_CTL_DIR c = 0 → s.rd F.LP_SRC_SP_SRC c = 0 ∧ s.rd F.LP_SRC_FB_SRC c = 9 ∧ s.rd F.LP_SRC_CHK_SRC c = 0 ∧ s.flag F.FLT_LP_GLB_PLS_LOST 0 = false → 
    (let r (f : Fld) : Lane := BitVec.ofNat 32 (s.rd f c)
      let k (n : Nat) : Lane := BitVec.ofNat 32 (if n = 0 then s.rd F.LP_COEF_LO c 0 else s.rd F.LP_COEF_HI c 0)
      let fb' := fAdd (r F.LP_PAR_FB_OFFS) (fMul (r F.LP_PAR_FB_GAIN) (BitVec.ofNat 32 (s.rd F.FLT_PLS_DUTY 0)))
      let e := fSub (r F.LP_PAR_SP_CONST) fb'
      let lo := r F.LP_PAR_UMIN
      let hi := r F.LP_PAR_UMAX
      let h := (s.lp c).uPrev
      let i := clampF (fAdd (s.lp c).i (fMul (fMul (k 1) (ratF (s.rd F.LP_CTL_PERIOD c) 1000000)) e)) lo hi
      let u := fAdd (fMul (k 0) e) i
      let w := clampF (clampF u lo hi) (fSub h (r F.LP_PAR_SLEW)) (fAdd h (r F.LP_PAR_SLEW))
      (s.rd F.LP_CTL_MODE c = 1 → isNanF u = false → isNanF i = false → Answers (.loopTick c fb chk) s (fun t => t.rd F.LP_OUT_U c = w.toNat ∧ (t.lp c).uPrev = w ∧ (t.lp c).i = i ∧ t.rd F.LP_VAL_SP c = s.rd F.LP_PAR_SP_CONST c % 2 ^ 32
      ∧ t.rd F.LP_VAL_FB c = fb'.toNat ∧ t.rd F.LP_TICKS_TICKS c = (s.rd F.LP_TICKS_TICKS c + 1) % 2 ^ 64 ∧ t.rd F.LP_STAT_STALE_RUN c = 0 ∧ t.mem = s.mem ∧ ∀ d, d ≠ (c : Nat) → t.lp d = s.lp d))
      ∧ (s.rd F.LP_CTL_MODE c = 2 → Answers (.loopTick c fb chk) s (fun t => t.rd F.LP_OUT_U c = h.toNat ∧ (t.lp c).i = (s.lp c).i ∧ t.rd F.LP_VAL_FB c = fb'.toNat ∧ t.mem = s.mem))))
  ∧ (∀ (s : State) (k : Fin 8) (code : BitVec 12),
    s.loops.adc = some k → ∀ c, c < 16 → (k : Nat) ∉ (s.lp c).waits → 
    Answers (.adcConversionDone k code) s (fun t => t.rd F.FLT_AIN_CODE k = code.toNat ∧ t.loops.ch = s.loops.ch ∧ t.loops.adc = s.loops.adcq.min? ∧ t.mem = s.mem))
  ∧ (∀ (s : State) (k : Fin 2) (high per : BitVec 32),
    ((10000 ≤ per.toNat → per.toNat ≤ 10000000 → Answers (.pulsePeriod k high per) s (fun t => t.rd F.FLT_PLS_DUTY k = (ratF high.toNat per.toNat).toNat ∧ t.rd F.FLT_PLS_PER_NS k = per.toNat ∧ t.flag F.FLT_LP_GLB_PLS_LOST k = false ∧ t.mem = s.mem))
      ∧ (per.toNat < 10000 ∨ 10000000 < per.toNat → Answers (.pulsePeriod k high per) s (fun t => t = s))
      ∧ (Answers (.pulseInputLost k) s (fun t => t.flag F.FLT_LP_GLB_PLS_LOST k = true ∧ t.mem = s.mem))))
  ∧ (∀ (s : State) (k : Fin 6),
    Answers (.tachTimeout k) s (fun t => t.rd F.FLT_TACH_RPM k = 0 ∧ t.loops = s.loops ∧ Keeps s t [F.FLT_TACH_RPM.key k 0]))
  ∧ (∀ (s : State) (c : Fin 16) (src : Src) (v : BitVec 64),
    [F.LP_CTL_LAW, F.LP_CTL_OUT, F.LP_CTL_PERIOD, F.LP_CTL_PHASE].all (fun f => decide (bitsAt v.toNat f.lo f.w = s.rd f c)) = true → src.host = .pf → 
    ((bitsAt v.toNat 0 3 = s.rd F.LP_CTL_MODE c → s.rd F.LP_CTL_MODE c = 1 → bitsAt v.toNat 5 1 ≠ s.rd F.LP_CTL_DIR c → Answers (.lpCtlWrite c src v) s (fun t => t.rd F.LP_CTL_DIR c = s.rd F.LP_CTL_DIR c ∧ t.bit F.LP_STAT_BUSY_REJ c = true ∧ t.loops = s.loops))
      ∧ (bitsAt v.toNat 0 3 = s.rd F.LP_CTL_MODE c → s.rd F.LP_CTL_MODE c ≠ 1 → Answers (.lpCtlWrite c src v) s (fun t => t.rd F.LP_CTL_DIR c = bitsAt v.toNat 5 1 ∧ t.loops = s.loops))
      ∧ (bitsAt v.toNat 0 3 = 2 → s.rd F.LP_CTL_MODE c ≠ 2 → bitsAt v.toNat 5 1 = s.rd F.LP_CTL_DIR c → Answers (.lpCtlWrite c src v) s (fun t => t.rd F.LP_CTL_MODE c = 2 ∧ t.flag F.FLT_LP_GLB_FALLBACK c = false ∧ (s.rd F.LP_CTL_MODE c = 0 → (t.lp c).uPrev = s.lpMax c) ∧ (s.rd F.LP_CTL_MODE c ≠ 0 → (t.lp c).uPrev = (s.lp c).uPrev)))
      ∧ (bitsAt v.toNat 0 3 = 1 → s.rd F.LP_CTL_MODE c = 4 → bitsAt v.toNat 5 1 = s.rd F.LP_CTL_DIR c → Answers (.lpCtlWrite c src v) s (fun t => t.rd F.LP_CTL_MODE c = 4 ∧ t.bit F.LP_STAT_BUSY_REJ c = true ∧ t.loops = s.loops))
      ∧ (bitsAt v.toNat 0 3 = 0 → c = 15 → s.rd F.LP_CTL_MODE c ≠ 0 → bitsAt v.toNat 5 1 = s.rd F.LP_CTL_DIR c → Answers (.lpCtlWrite c src v) s (fun t => t.rd F.LP_CTL_MODE c = s.rd F.LP_CTL_MODE c ∧ t.bit F.LP_STAT_FMT_REJ c = true))))
  ∧ (∀ (s : State) (c : Fin 16) (p : Part) (v : BitVec 64) (j : Fin 10) (m : Fin 13),
    (Answers (.lpCtlWrite c (.vf p) v) s (fun t => t.loops = s.loops ∧ Keeps s t [F.FLT_WR_REJ_COUNT.key 0 0]) ∧ Answers (.lpSrcWrite c (.vf p) v) s (fun t => t.loops = s.loops ∧ Keeps s t [F.FLT_WR_REJ_COUNT.key 0 0])
      ∧ Answers (.lpParWrite c j (.vf p) v) s (fun t => t.loops = s.loops ∧ Keeps s t [F.FLT_WR_REJ_COUNT.key 0 0]) ∧ Answers (.lpCoefWrite c m (.vf p) v) s (fun t => t.loops = s.loops ∧ Keeps s t [F.FLT_WR_REJ_COUNT.key 0 0])))
  ∧ (∀ (s : State) (c : Fin 16) (src : Src) (v : BitVec 64),
    [F.LP_SRC_FB_SRC, F.LP_SRC_CHK_SRC, F.LP_SRC_PL_N].all (fun f => decide (bitsAt v.toNat f.lo f.w = s.rd f c)) = true → src.host = .pf → 
    ((s.rd F.LP_CTL_MODE c = 1 → bitsAt v.toNat 0 5 ≠ s.rd F.LP_SRC_SP_SRC c → Answers (.lpSrcWrite c src v) s (fun t => t.rd F.LP_SRC_SP_SRC c = s.rd F.LP_SRC_SP_SRC c ∧ t.bit F.LP_STAT_BUSY_REJ c = true ∧ t.rd F.LP_SRC_PL_EN c = bitsAt v.toNat 15 1))
      ∧ (s.rd F.LP_CTL_MODE c ≠ 1 → bitsAt v.toNat 0 5 ≤ 10 → Answers (.lpSrcWrite c src v) s (fun t => t.rd F.LP_SRC_SP_SRC c = bitsAt v.toNat 0 5 ∧ (t.lp c).xf = none ∧ t.rd F.LP_SRC_PL_EN c = bitsAt v.toNat 15 1))
      ∧ (s.rd F.LP_CTL_MODE c ≠ 1 → 10 < bitsAt v.toNat 0 5 → bitsAt v.toNat 0 5 ≠ s.rd F.LP_SRC_SP_SRC c → Answers (.lpSrcWrite c src v) s (fun t => t.rd F.LP_SRC_SP_SRC c = s.rd F.LP_SRC_SP_SRC c ∧ t.bit F.LP_STAT_FMT_REJ c = true))))
  ∧ (∀ (s : State) (c : Fin 16) (src : Src) (v : BitVec 64),
    src.host = .pf → 
    ((finiteF (bitsAt v.toNat 0 32) = true → finiteF (bitsAt v.toNat 32 32) = true → Answers (.lpParWrite c 0 src v) s (fun t => t.rd F.LP_PAR_SP_CONST c = bitsAt v.toNat 0 32 ∧ t.rd F.LP_PAR_SP_GAIN c = bitsAt v.toNat 32 32 ∧ t.loops = s.loops
      ∧ Keeps s t [F.LP_PAR_SP_CONST.key c 0, F.LP_PAR_SP_GAIN.key c 0]))
      ∧ (finiteF (bitsAt v.toNat 0 32) = false → bitsAt v.toNat 32 32 = s.rd F.LP_PAR_SP_GAIN c → bitsAt v.toNat 0 32 ≠ s.rd F.LP_PAR_SP_CONST c → Answers (.lpParWrite c 0 src v) s (fun t => t.rd F.LP_PAR_SP_CONST c = s.rd F.LP_PAR_SP_CONST c ∧ t.bit F.LP_STAT_FMT_REJ c = true))
      ∧ (s.bit F.FLT_EXPERT_EN_EN = false → bitsAt v.toNat 0 32 ≠ s.rd F.LP_PAR_XMAX c → Answers (.lpParWrite c 9 src v) s (fun t => t.loops = s.loops ∧ Keeps s t [F.FLT_WR_REJ_COUNT.key 0 0]))))
  ∧ (∀ (s : State) (c : Fin 16) (m : Fin 13) (src : Src) (v : BitVec 64),
    src.host = .pf ∧ (m : Nat) < 7 → 
    ((s.rd F.LP_CTL_CLASS c = 0 ∨ 2 ≤ s.rd F.LP_CTL_MODE c → finiteF (bitsAt v.toNat 0 32) = true → finiteF (bitsAt v.toNat 32 32) = true → Answers (.lpCoefWrite c m src v) s (fun t => t.rd F.LP_COEF_LO c m = bitsAt v.toNat 0 32 ∧ t.rd F.LP_COEF_HI c m = bitsAt v.toNat 32 32 ∧ t.loops = s.loops
      ∧ Keeps s t [F.LP_COEF_LO.key c m, F.LP_COEF_HI.key c m]))
      ∧ (s.rd F.LP_CTL_CLASS c = 1 → s.rd F.LP_CTL_MODE c = 1 → bitsAt v.toNat 0 32 ≠ s.rd F.LP_COEF_LO c m → bitsAt v.toNat 32 32 = s.rd F.LP_COEF_HI c m → Answers (.lpCoefWrite c m src v) s (fun t => t.rd F.LP_COEF_LO c m = s.rd F.LP_COEF_LO c m ∧ t.bit F.LP_STAT_BUSY_REJ c = true ∧ t.loops = s.loops))))
  ∧ (∀ (s : State) (c : Fin 16) (src : Src),
    src.host = .pf → s.bit F.LP_STAT_PL_FAULT c = true ∧ s.rd F.LP_CTL_MODE c = 4 → 
    Answers (.plFaultClear c src) s (fun t => t.bit F.LP_STAT_PL_FAULT c = false ∧ t.rd F.LP_CTL_MODE c = 2 ∧ t.flag F.FLT_LP_GLB_FALLBACK c = false ∧ (t.lp c).uPrev = (s.lp c).uPrev ∧ (t.lp c).initM = true ∧ t.mem = s.mem))

/-- The commands of a stepper channel: push, stop, resume, flush, home, clear, set position, enable (R603, R604, R605, R606, R610, R611, R613, R619, R620, R622, R624, R628). -/
def Obligations.StepperCommands : Prop :=
  (∀ (s : State) (k : Fin 4) (tgt : Int),
    tgt = (if s.bit F.MV_TGT_REL k then (s.smCh k).queueEnd + s.rdS F.MV_TGT_TGT k else s.rdS F.MV_TGT_TGT k) → 
    ((s.smCheck k tgt ≠ 0 → Answers (.smGo k) s (fun t => t.sm = s.sm ∧ t.rd F.SM_STAT_LAST_CODE k = s.smCheck k tgt ∧ t.bit F.SM_STAT_REJ k = true ∧ t.mem = s.mem))
      ∧ (s.smCheck k tgt = 0 → (s.smCh k).st ≠ .idle → Answers (.smGo k) s (fun t => (∃ m, t.smCh k = { s.smCh k with q := (s.smCh k).q ++ [m] } ∧ m.tgt = tgt ∧ m.vmax = s.rd F.MV_PAR_VMAX k ∧ m.dwell = s.rd F.MV_PAR_DWELL k ∧ m.tag = s.rd F.MV_TGT_TAG k) ∧ Keeps s t []))
      ∧ (s.smCheck k tgt = 0 → (s.smCh k).st = .idle → (s.smCh k).q = [] → tgt ≠ (s.smCh k).pos → s.rd F.SM_CTL_LATCH_MASK k = 0 → Answers (.smGo k) s (fun t => (t.smCh k).st = .moving ∧ (t.smCh k).started = true ∧ (t.smCh k).q.map SmMove.tgt = [tgt] ∧ (t.smCh k).neg = decide (tgt < (s.smCh k).pos)
      ∧ (t.smCh k).lvmin = s.rd F.SM_VEL_VMIN k ∧ (t.smCh k).pos = (s.smCh k).pos ∧ Keeps s t []))))
  ∧ (∀ (s : State) (k : Nat) (tgt : Int),
    ((s.smCheck k tgt = 0 → s.smOwned k = false ∧ (s.smCh k).faulted = false ∧ (s.smCh k).uncertain = false ∧ (s.smCh k).st ≠ .disabled ∧ (s.smCh k).q.length < 8 ∧ s.rd F.MV_PAR_VMAX k ≤ 200000)
      ∧ (200000 < s.rd F.MV_PAR_VMAX k → s.smCheck k tgt = 0x1B03) ∧ (s.smCheck k tgt = 0x7808 → 8 ≤ (s.smCh k).q.length ∧ (s.smCh k).uncertain = false)))
  ∧ (∀ (s : State) (k : Fin 4),
    (((s.smCh k).st = .moving → (s.smCh k).v ≠ 0 → Answers (.smStop k) s (fun t => t.smCh k = { s.smCh k with st := .stopping } ∧ Keeps s t []))
      ∧ ((s.smCh k).st = .dwell → Answers (.smStop k) s (fun t => t.smCh k = { s.smCh k with st := .stopped } ∧ Keeps s t []))
      ∧ ((s.smCh k).st = .homing → Answers (.smStop k) s (fun t => (t.smCh k).st = (s.smCh k).preHome ∧ (t.smCh k).uncertain = (s.smCh k).uncertain ∧ (t.smCh k).q = (s.smCh k).q ∧ (t.smCh k).pos = (s.smCh k).pos))
      ∧ ((s.smCh k).st = .stopping ∨ (s.smCh k).st = .stopped → Answers (.smStop k) s (fun t => t = s))))
  ∧ (∀ (s : State) (k : Fin 4),
    (((s.smCh k).st ≠ .stopped → Answers (.smResume k) s (fun t => t.sm = s.sm ∧ t.rd F.SM_STAT_LAST_CODE k = 0x7B08 ∧ t.bit F.SM_STAT_REJ k = true))
      ∧ ((s.smCh k).st = .stopped → (s.smCh k).uncertain = true → Answers (.smResume k) s (fun t => t.sm = s.sm ∧ t.rd F.SM_STAT_LAST_CODE k = 0x7908 ∧ t.bit F.SM_STAT_REJ k = true))
      ∧ (∀ m, m ∈ (s.smCh k).q.head? → (s.smCh k).st = .stopped → (s.smCh k).uncertain = false → (s.smCh k).faulted = false → (s.smCh k).loopTgt = none → m.tgt ≠ (s.smCh k).pos → s.releaseBarred k (s.smCh k).pos m.tgt = false →
      Answers (.smResume k) s (fun t => (t.smCh k).st = .moving ∧ (t.smCh k).q = (s.smCh k).q ∧ (t.smCh k).v = (s.smCh k).v ∧ (t.smCh k).pos = (s.smCh k).pos ∧ Keeps s t []))
      ∧ (∀ m, m ∈ (s.smCh k).q.head? → (s.smCh k).st = .stopped → (s.smCh k).uncertain = false → (s.smCh k).faulted = false → (s.smCh k).loopTgt = none → m.tgt ≠ (s.smCh k).pos → s.releaseBarred k (s.smCh k).pos m.tgt = true →
      Answers (.smResume k) s (fun t => (t.smCh k).st = .idle ∧ (t.smCh k).q = [] ∧ t.rd F.SM_STAT_LAST_CODE k = 0x7D08 ∧ (t.smCh k).pos = (s.smCh k).pos))))
  ∧ (∀ (s : State) (k : Fin 4),
    (((s.smCh k).q ≠ [] → (s.smCh k).st = .stopped → Answers (.smFlush k) s (fun t => (t.smCh k).q = [] ∧ (t.smCh k).st = .idle ∧ (t.smCh k).pos = (s.smCh k).pos ∧ (t.smCh k).target = (s.smCh k).pos ∧ Keeps s t []))
      ∧ ((s.smCh k).st ≠ .stopped → (s.smCh k).started = true → Answers (.smFlush k) s (fun t => (t.smCh k).q = (s.smCh k).q.take 1 ∧ (t.smCh k).st = (s.smCh k).st ∧ (t.smCh k).v = (s.smCh k).v ∧ (t.smCh k).pos = (s.smCh k).pos))
      ∧ ((s.smCh k).q = [] → Answers (.smFlush k) s (fun t => t = s))))
  ∧ (∀ (s : State) (k : Fin 4),
    (((s.smCh k).faulted = true → Answers (.smHome k) s (fun t => t.sm = s.sm ∧ t.rd F.SM_STAT_LAST_CODE k = 0x7908 ∧ t.bit F.SM_STAT_REJ k = true))
      ∧ ((s.smCh k).faulted = false → (s.smCh k).st ≠ .idle → (s.smCh k).st ≠ .stopped → Answers (.smHome k) s (fun t => t.sm = s.sm ∧ t.rd F.SM_STAT_LAST_CODE k = 0x7C08))
      ∧ ((s.smCh k).faulted = false → (s.smCh k).st = .idle ∨ (s.smCh k).st = .stopped → Answers (.smHome k) s (fun t => (t.smCh k).st = .homing ∧ (t.smCh k).q = (s.smCh k).q ∧ (t.smCh k).homeSteps = 0 ∧ (t.smCh k).neg = s.bit F.SM_CTL_HOME_DIR k ∧ (t.smCh k).preHome = (s.smCh k).st
      ∧ (t.smCh k).uncertain = (s.smCh k).uncertain ∧ Keeps s t []))))
  ∧ (∀ (s : State) (k : Fin 4) (trips low : Bool),
    (s.smCh k).st = .fault → 
    ((((s.smCh k).fShort && trips) = false → ((s.smCh k).fSupply && low) = false → Answers (.smClear k trips low) s (fun t => (t.smCh k).faulted = false ∧ (t.smCh k).st = (if (s.smCh k).q = [] then .idle else .stopped) ∧ (t.smCh k).uncertain = (s.smCh k).uncertain ∧ (t.smCh k).q = (s.smCh k).q ∧ Keeps s t []))
      ∧ ((s.smCh k).fSupply = true → low = true → Answers (.smClear k trips low) s (fun t => (t.smCh k).st = .fault ∧ (t.smCh k).fSupply = true ∧ t.rd F.SM_STAT_LAST_CODE k = 0x7908 ∧ t.bit F.SM_STAT_REJ k = true))))
  ∧ (∀ (s : State) (k : Fin 4),
    ((s.bit F.FLT_EXPERT_EN_EN = false → Answers (.smSetpos k) s (fun t => t.sm = s.sm ∧ Keeps s t [F.FLT_WR_REJ_COUNT.key 0 0]))
      ∧ (s.bit F.FLT_EXPERT_EN_EN = true → (s.smCh k).st = .idle ∨ (s.smCh k).st = .stopped → (s.smCh k).faulted = false → Answers (.smSetpos k) s (fun t => (t.smCh k).pos = s.rdS F.MV_TGT_TGT k ∧ (t.smCh k).target = s.rdS F.MV_TGT_TGT k ∧ (t.smCh k).uncertain = false ∧ (t.smCh k).homed = (s.smCh k).homed ∧ Keeps s t []))
      ∧ (s.bit F.FLT_EXPERT_EN_EN = true → (s.smCh k).st = .moving → Answers (.smSetpos k) s (fun t => t.sm = s.sm ∧ t.rd F.SM_STAT_LAST_CODE k = 0x7C08))))
  ∧ (∀ (s w : State) (k : Fin 4) (v : BitVec 64),
    w = (writeFields s .pf 8 (F.SM_CTL_EN.regAddr k 0) v.toNat).1 → w.sm = s.sm → 
    ((s.bit F.SM_CTL_EN k = true → w.bit F.SM_CTL_EN k = false → Answers (.smCtlWrite k .pf v) s (fun t => t.regs = w.regs ∧ (t.smCh k).st = .disabled ∧ (t.smCh k).uncertain = true ∧ (t.smCh k).v = 0 ∧ (t.smCh k).holding = false ∧ (t.smCh k).q = (s.smCh k).q ∧ (t.smCh k).pos = (s.smCh k).pos))
      ∧ (s.bit F.SM_CTL_EN k = false → w.bit F.SM_CTL_EN k = true → (s.smCh k).faulted = false → Answers (.smCtlWrite k .pf v) s (fun t => t.regs = w.regs ∧ (t.smCh k).st = (if (s.smCh k).q = [] then .idle else .stopped) ∧ (t.smCh k).holding = true ∧ (t.smCh k).uncertain = (s.smCh k).uncertain))
      ∧ (s.bit F.SM_CTL_EN k = w.bit F.SM_CTL_EN k → Answers (.smCtlWrite k .pf v) s (fun t => t = w))))
  ∧ (∀ (s : State) (k : Fin 4) (p : Part) (v : BitVec 64),
    Answers (.smCtlWrite k (.vf p) v) s (fun t => t.sm = s.sm ∧ Keeps s t [F.FLT_WR_REJ_COUNT.key 0 0]))

/-- The profile generator's update, blending, standstill, derating and the faults of a stepper channel (R602, R606, R607, R609, R610, R612, R615, R625, R626, R627). -/
def Obligations.StepperMotion : Prop :=
  (∀ (s : State) (k : Fin 4) (m : SmMove) (v : Nat) (p : Int),
    (s.smCh k).st = .moving ∧ (s.smCh k).loopTgt = none ∧ (s.smCh k).q = [m] ∧ (s.smCh k).ljerk = false ∧ (s.smCh k).neg = false → v = (if 2 * (s.smCh k).ld * (m.tgt * 4294967296 - (s.smCh k).p).natAbs ≤ (s.smCh k).v * (s.smCh k).v then max ((s.smCh k).v - (s.smCh k).ld * 65536 / 100000) ((s.smCh k).lvmin * 65536) else min ((s.smCh k).v + (s.smCh k).la * 65536 / 100000) (min (if m.vmax = 0 then s.rd F.SM_VEL_VMAX k else m.vmax) (s.smCh k).vder * 65536)) → p = min ((s.smCh k).p + (v * 65536 / 100000 : Nat)) (m.tgt * 4294967296) → 
    ((p / 4294967296 ≠ m.tgt → Answers (.profileUpdate k) s (fun t => (t.smCh k).v = v ∧ (t.smCh k).p = p ∧ (t.smCh k).pos = p / 4294967296 ∧ (t.smCh k).st = .moving ∧ (t.smCh k).q = [m] ∧ t.mem = s.mem
      ∧ t.rd F.SM_STEPS_STEPS k = satAt 64 (s.rd F.SM_STEPS_STEPS k + (p / 4294967296 - (s.smCh k).pos).natAbs)))
      ∧ (p / 4294967296 = m.tgt → m.dwell = 0 → Answers (.profileUpdate k) s (fun t => (t.smCh k).pos = m.tgt ∧ (t.smCh k).st = .idle ∧ (t.smCh k).v = 0 ∧ (t.smCh k).q = [] ∧ t.rd F.SM_STAT_DONE_TAG k = m.tag % 2 ^ 16 ∧ t.rd F.SM_CNT_MOVES_DONE k = satAt 32 (s.rd F.SM_CNT_MOVES_DONE k + 1)))
      ∧ (p / 4294967296 = m.tgt → m.dwell ≠ 0 → (s.smCh k).dwellLeft = 0 → Answers (.profileUpdate k) s (fun t => (t.smCh k).pos = m.tgt ∧ (t.smCh k).st = .dwell ∧ (t.smCh k).dwellLeft = m.dwell))))
  ∧ (∀ (s : State) (k : Fin 4),
    (((s.smCh k).st = .dwell → 10 < (s.smCh k).dwellLeft → Answers (.profileUpdate k) s (fun t => t.smCh k = { s.smCh k with dwellLeft := (s.smCh k).dwellLeft - 10 } ∧ Keeps s t []))
      ∧ ((s.smCh k).st = .idle ∨ (s.smCh k).st = .stopped ∨ (s.smCh k).st = .disabled ∨ (s.smCh k).st = .fault → Answers (.profileUpdate k) s (fun t => t = s))))
  ∧ (∀ (s : State) (k : Nat) (c : SmCh) (m n : SmMove) (l : List SmMove),
    c.loopTgt = none ∧ c.q = m :: n :: l ∧ c.neg = false ∧ m.vmax ≠ 0 ∧ n.vmax ≠ 0 → 
    s.smJunction k c = (if m.dwell = 0 ∧ m.noblend = false ∧ m.tgt < n.tgt ∧ m.tgt ≠ c.pos then min (min m.vmax n.vmax) c.vder else 0))
  ∧ (∀ (s : State) (k : Fin 4),
    (((s.smCh k).st = .idle ∨ (s.smCh k).st = .stopped → Answers (.holdDelayExpire k) s (fun t => t.smCh k = { s.smCh k with holding := true } ∧ Keeps s t []))
      ∧ ((s.smCh k).st = .moving ∨ (s.smCh k).st = .dwell → Answers (.holdDelayExpire k) s (fun t => t = s))))
  ∧ (∀ (s : State) (k : Fin 4),
    (s.smCh k).st ≠ .disabled → 
    Answers (.lowHeadroom k) s (fun t => t.smCh k = { s.smCh k with vder := if s.bit F.SM_CTL_DERATE_EN k then max (s.rd F.SM_VEL_VMIN k) ((s.smCh k).vder * 7 / 8) else (s.smCh k).vder } ∧ t.bit F.SM_STAT_LOW_HEADROOM k = true
      ∧ t.rd F.SM_CNT_LOWHR_CNT k = satAt 16 (s.rd F.SM_CNT_LOWHR_CNT k + 1) ∧ t.mem = s.mem))
  ∧ (∀ (s : State) (k : Fin 4),
    s.bit F.SM_CTL_DERATE_EN k = true → 
    Answers (.vderRecover k) s (fun t => t.smCh k = { s.smCh k with vder := min 200000 ((s.smCh k).vder * 8 / 7) } ∧ Keeps s t []))
  ∧ (∀ (s : State) (k : Fin 4) (leg : Fin 8),
    (s.smCh k).st ≠ .disabled → 
    Answers (.faultShort k leg) s (fun t => (t.smCh k).st = .fault ∧ (t.smCh k).fShort = true ∧ (t.smCh k).uncertain = true ∧ (t.smCh k).holding = false ∧ (t.smCh k).v = 0 ∧ (t.smCh k).q = (s.smCh k).q ∧ (t.smCh k).pos = (s.smCh k).pos
      ∧ t.rd F.SM_CNT_FAULT_CNT k = satAt 16 (s.rd F.SM_CNT_FAULT_CNT k + 1) ∧ t.flag F.FLT_ALERT_STAT_CAUSE 8 = true ∧ t.mem = s.mem))
  ∧ (∀ (s : State) (k : Fin 4),
    s.bit F.SM_CTL_STALL_EN k = true ∧ s.rd F.SM_STALL_STALL_VMIN k * 65536 ≤ (s.smCh k).v → 
    (((s.smCh k).st = .moving ∨ (s.smCh k).st = .stopping → Answers (.faultStall k) s (fun t => (t.smCh k).st = .fault ∧ (t.smCh k).fStall = true ∧ (t.smCh k).uncertain = true ∧ (t.smCh k).holding = true ∧ (t.smCh k).v = 0 ∧ (t.smCh k).q = (s.smCh k).q ∧ (t.smCh k).pos = (s.smCh k).pos
      ∧ t.flag F.FLT_ALERT_STAT_CAUSE 8 = true))
      ∧ ((s.smCh k).st = .homing → s.rd F.SM_CTL_HOME_SRC k = 0 → Answers (.faultStall k) s (fun t => (t.smCh k).st = (if (s.smCh k).q = [] then .idle else .stopped) ∧ (t.smCh k).pos = s.rdS F.SM_HOME_HOME_POS k ∧ (t.smCh k).homed = true ∧ (t.smCh k).uncertain = false
      ∧ (t.smCh k).faulted = (s.smCh k).faulted ∧ (t.smCh k).q = (s.smCh k).q ∧ t.mem = s.mem))))
  ∧ (∀ (s : State),
    Answers .faultSupply s (fun t => t.mem = s.mem ∧ ∀ k, k < 4 → ((s.smCh k).st = .disabled → t.smCh k = s.smCh k) ∧ ((s.smCh k).st ≠ .disabled → (t.smCh k).st = .fault ∧ (t.smCh k).fSupply = true ∧ (t.smCh k).uncertain = true ∧ (t.smCh k).holding = false ∧ (t.smCh k).q = (s.smCh k).q ∧ (t.smCh k).pos = (s.smCh k).pos)))

/-- Crossing stalls, failed units, spare clusters and spare rows (R29, R631, R636, R639, R641, R642, R643, R644, R646, R650, R659, R662). -/
def Obligations.ErrorsAndSpares : Prop :=
  (∀ (s : State) (snd rcv : Fin 305),
    s.islPres snd = true ∧ s.islPres rcv = true ∧ s.islResetting rcv = false → s.err.stalls.any (fun x => decide (x.1 = (snd : Nat) ∧ x.2.1 = (rcv : Nat))) = false → s.err.escalated = [] → 
    Answers (.crossingStall snd rcv) s (fun t => t.err.stalls = s.err.stalls ++ [((snd : Nat), (rcv : Nat), s.now)] ∧ t.mem = s.mem ∧ ∃ r l, t.err.ring = r :: l ∧ r.kind = 0x05 ∧ r.source = rcv ∧ r.source2 = snd ∧ r.cls = 2 ∧ r.seq = s.rd F.ERR_HEAD_SEQ + 1))
  ∧ (∀ (s : State) (snd rcv : Fin 305) (room : Bool),
    (Answers (.crossingTransfer snd rcv true true) s (fun t => t = { s with err := { s.err with stalls := s.err.stalls.filter (fun x => decide (x.1 ≠ (snd : Nat) ∨ x.2.1 ≠ (rcv : Nat))) } }) ∧ Answers (.crossingTransfer snd rcv false room) s (fun t => t = s)
      ∧ Answers (.crossingTransfer snd rcv true false) s (fun t => t = s)))
  ∧ (∀ (s : State) (snd rcv : Fin 305) (x : Nat × Nat × Nat),
    s.err.stalls.find? (fun x => decide (x.1 = (snd : Nat) ∧ x.2.1 = (rcv : Nat))) = some x → 
    ((s.now + 1000000 < x.2.2 + 1000000 * s.rd F.ERR_CFG_CROSS_ESC → Answers (.crossingEscalate snd rcv) s (fun t => t = s))
      ∧ (x.2.2 + 1000000 * s.rd F.ERR_CFG_CROSS_ESC ≤ s.now + 1000000 → SMap.get s.err.cls2 [] rcv = [] → s.islResetting rcv = false → s.islFailed rcv = false → s.islPres rcv = true → (rcv : Nat) < 304 → s.start.rstOn = false → s.start.rstPend = none →
      Answers (.crossingEscalate snd rcv) s (fun t => t.islResetting rcv = true ∧ t.bit F.ISL_RST_GO rcv = true ∧ SMap.get t.err.cls2 [] rcv = [s.now] ∧ t.mem = s.mem))))
  ∧ (∀ (s : State) (c : Clu),
    s.islFailed (s.cluIsland c) = false ∧ s.clxWaiters = [] ∧ s.grps = [] → 
    Answers (.clusterFail c) s (fun t => t.islFailed (s.cluIsland c) = true ∧ t.err.waitMap = s.err.waitMap ++ [(c : Nat)] ∧ (t.cl c).run = false ∧ t.mem = s.mem ∧ ((s.cl c).run = true → (t.cl c).fcode = 0x030C ∧ (t.cl c).faulted = true) ∧ ∀ d, d ≠ (c : Nat) → t.cl d = s.cl d))
  ∧ (∀ (s : State) (ch : Fin 4) (c : Nat),
    s.bit F.ERR_CFG_SPARE_AUTO = true ∧ SMap.find s.err.mapping ch = none → s.nextMap ch = some c → 
    ((∀ p l, s.freeSpares ch = p :: l → Answers (.spareMapStart ch) s (fun t => SMap.find t.err.mapping ch = some ⟨c, p⟩ ∧ c ∉ t.err.waitMap ∧ t.bit F.ERR_SPARE_BUSY ch = true ∧ t.mem = s.mem ∧ t.clu = s.clu))
      ∧ (s.freeSpares ch = [] → Answers (.spareMapStart ch) s (fun t => t.flag F.ERR_CLU_FAIL_FAIL (c % 64) (c / 64) = true ∧ c ∉ t.err.waitMap ∧ t.err.mapping = s.err.mapping ∧ t.mem = s.mem))))
  ∧ (∀ (s : State) (ch p : Nat),
    p ∈ s.freeSpares ch → 
    (p < 68 ∧ s.islFailed (68 * ch + p) = false ∧ ∀ k, k < 64 → s.cluPos (64 * ch + k) ≠ p))
  ∧ (∀ (s : State) (ch : Fin 4) (m : SpareMap),
    SMap.find s.err.mapping ch = some m ∧ m.logical / 64 = (ch : Nat) → 
    ((Answers (.spareMapDone ch false) s (fun t => SMap.find t.err.mapping ch = none ∧ (∃ u, t.err.unflashed = s.err.unflashed ++ [(m.logical, m.pos, u)]) ∧ (∀ a, sramAt m.logical 0 ≤ a ∧ a < sramAt m.logical 0 + 0x400000 → t.mem1 a = 0)
      ∧ (∀ a, a < sramAt m.logical 0 ∨ sramAt m.logical 0 + 0x400000 ≤ a → t.mem1 a = s.mem1 a)))
      ∧ (∀ q l, s.islPres (68 * (ch : Nat) + m.pos) = true → ((s.modErr (fun e => { e with mapping := SMap.del e.mapping ch })).markFailed (68 * (ch : Nat) + m.pos) 0x0C).freeSpares ch = q :: l → Answers (.spareMapDone ch true) s (fun t => SMap.find t.err.mapping ch = some ⟨m.logical, q⟩ ∧ t.islFailed (68 * (ch : Nat) + m.pos) = true ∧ t.mem = s.mem))))
  ∧ (∀ (s : State) (ch : Fin 4) (u : Nat × Nat × Nat × Nat),
    s.err.unflashed.find? (fun u => decide (u.1 / 64 = (ch : Nat))) = some u → 
    Answers (.spareFlashDone ch) s (fun t => t.err.unflashed = s.err.unflashed.erase u ∧ t.err.flashMap = SMap.put s.err.flashMap u.1 u.2.1 ∧ t.err.ring = s.err.ring.map (fun r => if r.seq = u.2.2.2 then { r with flashed := true } else r) ∧ t.regs = s.regs ∧ t.mem = s.mem))
  ∧ (∀ (s : State) (c : Fin 256) (ph : Fin 128) (p : Part) (code : Nat),
    s.bit F.FLT_EXPERT_EN_EN = true → code = s.spareCode c ph → 
    (Answers (.spareReqGo (.vf p) c ph) s (fun t => t.err = s.err ∧ Keeps s t [F.FLT_WR_REJ_COUNT.key 0 0])
      ∧ Answers (.spareReqGo .pf c ph) s (fun t => t.rd F.ERR_SPARE_REQ_CODE = code ∧ t.mem = s.mem ∧ t.clu = s.clu ∧ (code ≠ 0 → t.err = s.err) ∧ (code = 0 → SMap.find t.err.mapping ((c : Nat) / 64) = some ⟨c, ph⟩))
      ∧ ((s.cl c).run = true → code = 0x1C03) ∧ (s.posFree ((c : Nat) / 64) ph = false → code = 0x1C03) ∧ (code = 0x4808 → (SMap.find s.err.mapping ((c : Nat) / 64)).isSome = true)))
  ∧ (∀ (s : State) (isl : Fin 288) (bank : Fin 16) (row : BitVec 16) (unc : Bool),
    272 ≤ (isl : Nat) ∧ s.islFailed isl = false → 
    ((0 < s.rd F.SLT_ROWS_LEFT ((isl : Nat) - 272) → (s.rowsOf isl).running = [] → (s.rowsOf isl).waiting = [] → Answers (.sramRowRepairStart isl bank row unc) s (fun t => t.rowsOf isl = { s.rowsOf isl with running := [(0, row.toNat)] } ∧ Keeps s t []))
      ∧ (s.rd F.SLT_ROWS_LEFT ((isl : Nat) - 272) = 0 → (s.rowsOf isl).running = [] → s.err.ring = [] → Answers (.sramRowRepairStart isl bank row false) s (fun t => t.rowsOf isl = s.rowsOf isl ∧ t.mem = s.mem ∧ ∃ r, t.err.ring = [r] ∧ r.kind = 0x11 ∧ r.cls = 1 ∧ r.source = isl))))
  ∧ (∀ (s : State) (isl : Fin 288) (bank : Fin 16) (row : Nat),
    272 ≤ (isl : Nat) ∧ (s.rowsOf isl).running = [(0, row)] ∧ (s.rowsOf isl).waiting = [] → 
    Answers (.sramRowRepairDone isl bank) s (fun t => (t.rowsOf isl).running = [] ∧ t.rd F.SLT_ROWS_LEFT ((isl : Nat) - 272) = (s.rd F.SLT_ROWS_LEFT ((isl : Nat) - 272) - 1) % 128 ∧ t.mem = s.mem))
  ∧ (∀ (s : State) (isl : Fin 305),
    (isl : Nat) = 293 ∨ (isl : Nat) = 294 → s.islPres isl = true ∧ s.islFailed isl = false → 
    Answers (.builtInTestFault isl) s (fun t => t.islFailed isl = true ∧ t.mem = s.mem ∧ t.mica = s.mica ∧ t.jasper = s.jasper ∧ ∃ r l, t.err.ring = r :: l ∧ r.kind = 0x12 ∧ r.source = isl ∧ r.cls = 2))
  ∧ (∀ (s : State) (kind i source2 : Nat) (r : ErrRec),
    s.err.ring.find? (fun r => decide (r.source = i ∧ r.cls = 2)) = some r ∧ s.islResetting i = true → 
    (((s.recordOrAbsorb kind i source2).err.ring = s.err.ring.map (fun q => if q.seq = r.seq then { q with count := satAt 32 (q.count + 1) } else q)) ∧ (s.recordOrAbsorb kind i source2).err.cls2 = s.err.cls2 ∧ (s.recordOrAbsorb kind i source2).start = s.start))

/-- Register accesses: what they cover, who may write, expert fields, ranges, and READ_REG and WRITE_REG (R16, R33, R97, R650, R692, R694). -/
def Obligations.RegisterAccess : Prop :=
  (∀ (s : State) (p : Part) (half vf : Bool) (a : BitVec 48) (v : BitVec 64),
    a.toNat % (if half then 4 else 8) ≠ 0 → 
    Answers (.registerWrite (if vf then .vf p else .pf) half a v) s (fun t => t.rd F.HST_STAT_APER_REJ = satAt F.HST_STAT_APER_REJ.w (s.rd F.HST_STAT_APER_REJ + 1) ∧ Keeps s t [F.HST_STAT_APER_REJ.key 0 0]))
  ∧ (∀ (s : State) (src : Src) (half : Bool) (a : BitVec 48) (v : BitVec 64),
    a.toNat % (if half then 4 else 8) = 0 → inRegBlock a.toNat = false → 
    Answers (.registerWrite src half a v) s (fun t => t = s))
  ∧ (∀ (s : State) (v : BitVec 64),
    Answers (.registerWrite .pf false 0xFF000A0000F8 v) s (fun t => t = s))
  ∧ (∀ (s : State) (v : BitVec 64),
    s.bit F.FLT_EXPERT_EN_EN = true → 
    Answers (.registerWrite .pf false 0xFF000A000020 v) s (fun t => t.rd F.ERR_CFG_SPARE_AUTO = v.toNat % 2 ∧ Keeps s t [F.ERR_CFG_SPARE_AUTO.key 0 0, F.ERR_CFG_CROSS_ESC.key 0 0, F.ERR_CFG_ROW_TH.key 0 0, F.ERR_CFG_FMT_REJ.key 0 0]
      ∧ t.rd F.ERR_CFG_CROSS_ESC = (if 10 ≤ v.toNat / 2 % 2 ^ 14 ∧ v.toNat / 2 % 2 ^ 14 ≤ 10000 then v.toNat / 2 % 2 ^ 14 else s.rd F.ERR_CFG_CROSS_ESC)
      ∧ t.rd F.ERR_CFG_ROW_TH = (if 1 ≤ v.toNat / 2 ^ 15 % 2 ^ 7 ∧ v.toNat / 2 ^ 15 % 2 ^ 7 ≤ 64 then v.toNat / 2 ^ 15 % 2 ^ 7 else s.rd F.ERR_CFG_ROW_TH)))
  ∧ (∀ (s : State) (v : BitVec 64),
    s.bit F.FLT_EXPERT_EN_EN = false → v.toNat % 2 = s.rd F.ERR_CFG_SPARE_AUTO ∧ v.toNat / 2 % 2 ^ 14 = s.rd F.ERR_CFG_CROSS_ESC ∧ v.toNat / 2 ^ 15 % 2 ^ 7 ≠ s.rd F.ERR_CFG_ROW_TH ∧ v.toNat / 2 ^ 22 % 2 = 0 → 
    Answers (.registerWrite .pf true 0xFF000A000020 v) s (fun t => t.rd F.FLT_WR_REJ_COUNT = satAt F.FLT_WR_REJ_COUNT.w (s.rd F.FLT_WR_REJ_COUNT + 1) ∧ ∀ (f : Fld) (i j : Nat), f ≠ F.ERR_CFG_FMT_REJ → f.key i j ≠ F.FLT_WR_REJ_COUNT.key 0 0 → f.key i j ≠ F.ERR_CFG_FMT_REJ.key 0 0 → t.rd f i j = s.rd f i j))
  ∧ (∀ (s : State) (p : Part) (v : BitVec 64),
    Answers (.registerWrite (.vf p) false 0xFF000A000020 v) s (fun t => t.rd F.FLT_WR_REJ_COUNT = satAt F.FLT_WR_REJ_COUNT.w (s.rd F.FLT_WR_REJ_COUNT + 1) ∧ Keeps s t [F.FLT_WR_REJ_COUNT.key 0 0]))
  ∧ (∀ (s : State) (b : Bool) (a : BitVec 48),
    s.flint.on = true ∧ s.mbServed 3 = true → 
    ((a.toNat % 8 = 0 → 0xFF0009000000 ≤ a.toNat → a.toNat < 0xFF000A000000 → Answers (.mbReadReg b a) s (fun t => t.mbResp b = some ⟨0, leBytes 8 (s.regRead a.toNat), false⟩ ∧ t.regs = s.regs ∧ t.mem = s.mem))
      ∧ (a.toNat % 8 ≠ 0 → Answers (.mbReadReg b a) s (fun t => t.mbResp b = some ⟨Code.addr 2, [], false⟩ ∧ t.regs = s.regs))))
  ∧ (∀ (s : State) (b : Bool) (v : BitVec 64),
    s.flint.on = true ∧ s.mbServed 4 = true → 
    (Answers (.mbWriteReg b 0xFF0009000030 v) s (fun t => t.rd F.FLT_EXPERT_EN_EN = v.toNat % 2 ∧ t.mbResp b = some ⟨0, [], false⟩ ∧ t.mem = s.mem ∧ t.clu = s.clu)
      ∧ Answers (.mbWriteReg b 0xFF0000100038 v) s (fun t => t.mbResp b = some ⟨Code.perm 0, [], false⟩ ∧ t.regs = s.regs ∧ t.mem = s.mem)))

/-- A step executes the command at the front of the queue, and every command completes (R16). -/
def Obligations.StepRunsFront : Prop :=
  (∀ (c : Instr) (s : State) (q : List Instr),
    step { s with pending := c :: q } = exec c { s with pending := q })
  ∧ (∀ (s : State),
    s.pending = [] → 
    step s = .next s.tick ∧ s.tick.now = s.now + 1)
  ∧ (∀ (c : Instr) (s : State),
    ∃ t, exec c s = .next t)

/-- What cold reset leaves (R46, R118, R132, R281, R448, R491, R602, R608, R650). -/
def Obligations.ResetValues : Prop :=
  (State.reset.memWf = true ∧ State.reset.mem = [] ∧ State.reset.pending = [])
  ∧ ((State.reset.rd F.ERR_CFG_CROSS_ESC = 100 ∧ State.reset.rd F.ERR_CFG_ROW_TH = 4 ∧ State.reset.bit F.ERR_CFG_SPARE_AUTO = true ∧ State.reset.rd F.HBM_SCRUB_PERIOD_H = 24
      ∧ State.reset.rd F.QTZ_ID_DEVID = 0xFFFF ∧ State.reset.rd F.QTZ_MGMT_TTL_INIT = 64 ∧ State.reset.rd F.ISL_PWR_CAP_CAP_W = 600 ∧ State.reset.rd F.ISL_PSTATE_DEV = 1
      ∧ State.reset.bit F.FLT_EXPERT_EN_EN = false ∧ State.reset.rd F.AGT_STAT_STATE = 0 ∧ State.reset.rd F.AGT_STAT_PEER_ID = 0xFFFF ∧ State.reset.rd F.FT_STAT_GM_ID = 0xFFFF))
  ∧ (∀ (k : Nat), k < 4 → State.reset.rd F.SM_CUR_I_RUN k = 50 ∧ State.reset.rd F.SM_VEL_VMAX k = 8000 ∧ State.reset.rd F.SM_ACC_AMAX k = 40000)
  ∧ (∀ (p : Nat), p < 16 → State.reset.rd F.QTZ_PART_WEIGHT p = 16 ∧ State.reset.rd F.QTZ_PART_QUOTA p = 0 ∧ State.reset.bit F.HST_PART_CTL_EXISTS p = false)
  ∧ (∀ (r : Nat), r < 256 → State.reset.bit F.HST_RING_ENABLE r = false ∧ State.reset.rd F.HST_RING_OWNER r = 31)
  ∧ ((∀ c, (State.reset.cl c).run = false) ∧ State.reset.grps = [] ∧ State.reset.time.run = false ∧ State.reset.pwr.en = 0 ∧ State.reset.quartz.ctx = [])

/-- The decoder of an instruction's words gives back every well-formed instruction from its encoding (R164, R165, R166, R167, R168). -/
def Obligations.EncodeDecode : Prop :=
  (∀ (i : Instr) (p : Parts),
    i.wf = true → i.parts = some p → 
    ∃ w, encodeInsn i = some w ∧ w < (if p.x.long then 2 ^ 64 else 2 ^ 32) ∧ (w % 4 = if p.x.long then 3 else 1)
      ∧ (match i with
      | .untMcmd _ _ _ _ f => ∀ m, decodeInsn p.x.c w f m = i
      | .untJcmd _ _ _ _ m => ∀ f, decodeInsn p.x.c w f m = i
      | _ => ∀ f m, decodeInsn p.x.c w f m = i))
  ∧ (∀ (c : Clu) (w : Nat) (f : MicaFeed) (m : FarRead),
    w % 2 = 0 → 
    ∃ x, decodeInsn c w f m = .undefinedInstruction x ∧ x.c = c ∧ x.long = false)

/-- Every step keeps the canonical form of the addressed memory and of the poison marks (R633, R634). -/
def Obligations.MemoryForm : Prop :=
  (∀ (s t : State),
    s.memWf = true → 
    step s = .next t → t.memWf = true)
end

