-- ==== Sys2Proof/Laws/Map.lean ====
section
/-! SUPPORT. Laws/Map.lean: the laws of a sparse map: reading after an update, and the canonical form that every update keeps. -/

namespace Sys2Proof.Machine

theorem SMap.find_put_self {α : Type} (m : SMap α) (x : Nat) (v : α) : SMap.find (SMap.put m x v) x = some v := by
  induction m with
  | nil => simp [SMap.put, SMap.find]
  | cons e t ih =>
    obtain ⟨k, w⟩ := e
    unfold SMap.put
    split
    · simp [SMap.find]
    · split
      · simp [SMap.find]
      · rename_i h; simp [SMap.find, Ne.symm h, ih]

theorem SMap.find_put_ne {α : Type} (m : SMap α) {x y : Nat} (v : α) (h : y ≠ x) : SMap.find (SMap.put m x v) y = SMap.find m y := by
  induction m with
  | nil => simp [SMap.put, SMap.find, Ne.symm h]
  | cons e t ih =>
    obtain ⟨k, w⟩ := e
    unfold SMap.put
    split
    · simp [SMap.find, Ne.symm h]
    · split
      · rename_i e; subst e; simp [SMap.find, Ne.symm h]
      · simp [SMap.find, ih]

theorem SMap.find_del_self {α : Type} (m : SMap α) (x : Nat) : SMap.find (SMap.del m x) x = none := by
  induction m with
  | nil => rfl
  | cons e t ih =>
    obtain ⟨k, w⟩ := e
    unfold SMap.del
    split
    · exact ih
    · rename_i h; simp [SMap.find, h, ih]

theorem SMap.find_del_ne {α : Type} (m : SMap α) {x y : Nat} (h : y ≠ x) : SMap.find (SMap.del m x) y = SMap.find m y := by
  induction m with
  | nil => rfl
  | cons e t ih =>
    obtain ⟨k, w⟩ := e
    unfold SMap.del
    split
    · rename_i e; subst e; simp [SMap.find, Ne.symm h, ih]
    · simp [SMap.find, ih]

/-- A key read after it is set. -/
@[simp] theorem SMap.get_set_self {α : Type} [DecidableEq α] (m : SMap α) (d : α) (x : Nat) (v : α) : SMap.get (SMap.set m d x v) d x = v := by
  unfold SMap.get SMap.set
  split
  · rename_i h; simp [SMap.find_del_self, h]
  · simp [SMap.find_put_self]

/-- Another key read after one is set. -/
theorem SMap.get_set_ne {α : Type} [DecidableEq α] (m : SMap α) (d e : α) {x y : Nat} (v : α) (h : y ≠ x) :
    SMap.get (SMap.set m d x v) e y = SMap.get m e y := by
  unfold SMap.get SMap.set
  split
  · rw [SMap.find_del_ne m h]
  · rw [SMap.find_put_ne m v h]

theorem SMap.sortedFrom_mono {α : Type} {b c : Nat} {m : SMap α} (h : c ≤ b) (hm : SMap.sortedFrom b m = true) : SMap.sortedFrom c m = true := by
  cases m with
  | nil => rfl
  | cons e t =>
    obtain ⟨k, w⟩ := e
    simp only [SMap.sortedFrom, Bool.and_eq_true, decide_eq_true_eq] at hm ⊢
    exact ⟨by omega, hm.2⟩

theorem SMap.sortedFrom_put {α : Type} (m : SMap α) (b x : Nat) (v : α) (hx : b ≤ x) (hm : SMap.sortedFrom b m = true) :
    SMap.sortedFrom b (SMap.put m x v) = true := by
  induction m generalizing b with
  | nil => simp [SMap.put, SMap.sortedFrom, hx]
  | cons e t ih =>
    obtain ⟨k, w⟩ := e
    simp only [SMap.sortedFrom, Bool.and_eq_true, decide_eq_true_eq] at hm
    unfold SMap.put
    split
    · rename_i h
      simp only [SMap.sortedFrom, Bool.and_eq_true, decide_eq_true_eq]
      exact ⟨hx, by omega, hm.2⟩
    · split
      · rename_i h; subst h
        simp only [SMap.sortedFrom, Bool.and_eq_true, decide_eq_true_eq]
        exact ⟨hx, hm.2⟩
      · simp only [SMap.sortedFrom, Bool.and_eq_true, decide_eq_true_eq]
        exact ⟨hm.1, ih (k + 1) (by omega) hm.2⟩

theorem SMap.sortedFrom_filter {α : Type} (m : SMap α) (f : Nat × α → Bool) (b : Nat) (hm : SMap.sortedFrom b m = true) :
    SMap.sortedFrom b (m.filter f) = true := by
  induction m generalizing b with
  | nil => rfl
  | cons e t ih =>
    obtain ⟨k, w⟩ := e
    simp only [SMap.sortedFrom, Bool.and_eq_true, decide_eq_true_eq] at hm
    rw [List.filter_cons]
    split
    · simp only [SMap.sortedFrom, Bool.and_eq_true, decide_eq_true_eq]
      exact ⟨hm.1, ih (k + 1) hm.2⟩
    · exact ih b (SMap.sortedFrom_mono (by omega) hm.2)

theorem SMap.del_eq_filter {α : Type} (m : SMap α) (x : Nat) : SMap.del m x = m.filter (fun e => !decide (e.1 = x)) := by
  induction m with
  | nil => rfl
  | cons e t ih =>
    obtain ⟨k, w⟩ := e
    unfold SMap.del
    rw [List.filter_cons]
    split
    · rename_i h; simp [h, ih]
    · rename_i h; simp [h, ih]

/-- Setting a key keeps the keys rising. -/
theorem SMap.sorted_set {α : Type} [DecidableEq α] (m : SMap α) (d : α) (x : Nat) (v : α) (hm : SMap.sorted m = true) :
    SMap.sorted (SMap.set m d x v) = true := by
  unfold SMap.set SMap.sorted
  split
  · rw [SMap.del_eq_filter]; exact SMap.sortedFrom_filter m _ 0 hm
  · exact SMap.sortedFrom_put m 0 x v (Nat.zero_le x) hm

theorem SMap.lean_put {α : Type} [DecidableEq α] (d : α) (m : SMap α) (x : Nat) (v : α) (hv : v ≠ d) (hm : SMap.lean d m = true) :
    SMap.lean d (SMap.put m x v) = true := by
  unfold SMap.lean at *
  induction m with
  | nil => simp [SMap.put, hv]
  | cons e t ih =>
    obtain ⟨k, w⟩ := e
    simp only [List.all_cons, Bool.and_eq_true, decide_eq_true_eq] at hm
    unfold SMap.put
    split
    · simp only [List.all_cons, Bool.and_eq_true, decide_eq_true_eq]; exact ⟨hv, hm.1, hm.2⟩
    · split
      · simp only [List.all_cons, Bool.and_eq_true, decide_eq_true_eq]; exact ⟨hv, hm.2⟩
      · simp only [List.all_cons, Bool.and_eq_true, decide_eq_true_eq]
        exact ⟨hm.1, ih hm.2⟩

theorem SMap.lean_filter {α : Type} [DecidableEq α] (d : α) (m : SMap α) (f : Nat × α → Bool) (hm : SMap.lean d m = true) :
    SMap.lean d (m.filter f) = true := by
  unfold SMap.lean at *
  rw [List.all_eq_true] at hm ⊢
  exact fun e he => hm e (List.mem_filter.mp he).1

/-- Setting a key lists no value that an unlisted key reads as. -/
theorem SMap.lean_set {α : Type} [DecidableEq α] (m : SMap α) (d : α) (x : Nat) (v : α) (hm : SMap.lean d m = true) :
    SMap.lean d (SMap.set m d x v) = true := by
  unfold SMap.set
  split
  · rw [SMap.del_eq_filter]; exact SMap.lean_filter d m _ hm
  · rename_i h; exact SMap.lean_put d m x v h hm

end Sys2Proof.Machine
end

