-- ==== Sys2Proof/Laws/Mem.lean ====
section
/-! SUPPORT. Laws/Mem.lean: the laws of the addressed memory: a byte read after a write, every other byte unchanged, and the canonical form that every operation
keeps. -/

namespace Sys2Proof.Machine

@[simp] theorem State.mem1_setMem1_self (s : State) (a : Nat) (b : Byte) : (s.setMem1 a b).mem1 a = b := by
  simp [State.mem1, State.setMem1, memGet, memSet]

theorem State.mem1_setMem1_ne (s : State) {a c : Nat} (b : Byte) (h : c ≠ a) : (s.setMem1 a b).mem1 c = s.mem1 c :=
  SMap.get_set_ne s.mem 0 0 b h

/-- Bytes outside the stored ones are as before. -/
theorem State.mem1_setMemL_out (s : State) (a c : Nat) (l : List Byte) (h : c < a ∨ a + l.length ≤ c) : (s.setMemL a l).mem1 c = s.mem1 c := by
  induction l generalizing s a with
  | nil => rfl
  | cons b t ih =>
    simp only [List.length_cons] at h
    unfold State.setMemL
    rw [ih (s.setMem1 a b) (a + 1) (by omega), State.mem1_setMem1_ne s b (by omega)]

/-- A stored byte reads as it was stored. -/
theorem State.mem1_setMemL_in (s : State) (a k : Nat) (l : List Byte) (h : k < l.length) : (s.setMemL a l).mem1 (a + k) = l[k] := by
  induction l generalizing s a k with
  | nil => simp at h
  | cons b t ih =>
    unfold State.setMemL
    cases k with
    | zero => rw [State.mem1_setMemL_out _ _ _ _ (by omega)]; simp
    | succ k =>
      rw [show a + (k + 1) = a + 1 + k by omega]
      exact ih (s.setMem1 a b) (a + 1) k (by simpa using h)

/-- Bytes outside the stored ones are as before. -/
theorem State.mem1_setMemN_out (s : State) (a c n v : Nat) (h : c < a ∨ a + n ≤ c) : (s.setMemN a n v).mem1 c = s.mem1 c := by
  induction n generalizing s a v with
  | zero => rfl
  | succ n ih =>
    unfold State.setMemN
    rw [ih (s.setMem1 a _) (a + 1) (v / 256) (by omega), State.mem1_setMem1_ne s _ (by omega)]

/-- A byte outside a zeroed range is as before, one inside reads zero. -/
theorem State.mem1_zeroMem (s : State) (a n c : Nat) : (s.zeroMem a n).mem1 c = if a ≤ c ∧ c < a + n then 0 else s.mem1 c := by
  unfold State.mem1 State.zeroMem memGet SMap.get
  simp only
  induction s.mem with
  | nil => simp [SMap.find]
  | cons e t ih =>
    obtain ⟨k, w⟩ := e
    rw [List.filter_cons]
    by_cases hk : k = c
    · subst hk
      by_cases hr : a ≤ k ∧ k < a + n
      · simp only [hr.1, hr.2, decide_true, Bool.and_self, Bool.not_true, Bool.false_eq_true, ↓reduceIte, and_self] at ih ⊢
        exact ih
      · rw [if_neg hr]
        have : (!(decide (a ≤ k) && decide (k < a + n))) = true := by
          rw [← Bool.decide_and, decide_eq_false hr]; rfl
        simp [this, SMap.find]
    · by_cases hr : (!(decide (a ≤ k) && decide (k < a + n))) = true
      · simp only [hr, if_true, SMap.find, if_neg hk]; exact ih
      · simp only [hr, SMap.find, if_neg hk]; exact ih

/-- The canonical form is kept by a byte written. -/
theorem Memory.wf_memSet (m : List Host.Cell) (a : Nat) (b : Byte) (h : Memory.wf m = true) : Memory.wf (memSet m a b) = true := by
  unfold Memory.wf at *
  rw [Bool.and_eq_true] at *
  exact ⟨SMap.sorted_set (α := Byte) m 0 a b h.1, SMap.lean_set (α := Byte) m 0 a b h.2⟩

theorem Memory.wf_setMem1 (s : State) (a : Nat) (b : Byte) (h : Memory.wf s.mem = true) : Memory.wf (s.setMem1 a b).mem = true :=
  Memory.wf_memSet s.mem a b h

theorem Memory.wf_setMemN (s : State) (a n v : Nat) (h : Memory.wf s.mem = true) : Memory.wf (s.setMemN a n v).mem = true := by
  induction n generalizing s a v with
  | zero => exact h
  | succ n ih => exact ih (s.setMem1 a _) (a + 1) (v / 256) (Memory.wf_setMem1 s a _ h)

theorem Memory.wf_setMemL (s : State) (a : Nat) (l : List Byte) (h : Memory.wf s.mem = true) : Memory.wf (s.setMemL a l).mem = true := by
  induction l generalizing s a with
  | nil => exact h
  | cons b t ih => exact ih (s.setMem1 a b) (a + 1) (Memory.wf_setMem1 s a b h)

theorem Memory.wf_zeroMem (s : State) (a n : Nat) (h : Memory.wf s.mem = true) : Memory.wf (s.zeroMem a n).mem = true := by
  unfold Memory.wf at *
  rw [Bool.and_eq_true] at *
  exact ⟨SMap.sortedFrom_filter (α := Byte) s.mem _ 0 h.1, SMap.lean_filter (α := Byte) 0 s.mem _ h.2⟩

/-- The memory right after reset is canonical. -/
theorem Memory.wf_reset : Memory.wf State.reset.mem = true := rfl

/-- The state's memories keep their form under each operation. -/
theorem State.memWf_setMem1 (s : State) (a : Nat) (b : Byte) (h : s.memWf = true) : (s.setMem1 a b).memWf = true := by
  unfold State.memWf at *
  simp only [Bool.and_eq_true] at *
  exact ⟨⟨Memory.wf_setMem1 s a b h.1.1, h.1.2⟩, h.2⟩

theorem State.memWf_setPsn (s : State) (a : Nat) (b : Bool) (h : s.memWf = true) : (s.setPsn a b).memWf = true := by
  unfold State.memWf at *
  simp only [Bool.and_eq_true] at *
  exact ⟨⟨h.1.1, SMap.sorted_set s.psn false a b h.1.2⟩, SMap.lean_set s.psn false a b h.2⟩

theorem State.memWf_zeroMem (s : State) (a n : Nat) (h : s.memWf = true) : (s.zeroMem a n).memWf = true := by
  unfold State.memWf at *
  simp only [Bool.and_eq_true] at *
  exact ⟨⟨Memory.wf_zeroMem s a n h.1.1, SMap.sortedFrom_filter s.psn _ 0 h.1.2⟩, SMap.lean_filter false s.psn _ h.2⟩

theorem State.memWf_setMemL (s : State) (a : Nat) (l : List Byte) (h : s.memWf = true) : (s.setMemL a l).memWf = true := by
  induction l generalizing s a with
  | nil => exact h
  | cons b t ih => exact ih (s.setMem1 a b) (a + 1) (State.memWf_setMem1 s a b h)

theorem State.memWf_setMemN (s : State) (a n v : Nat) (h : s.memWf = true) : (s.setMemN a n v).memWf = true := by
  induction n generalizing s a v with
  | zero => exact h
  | succ n ih => exact ih (s.setMem1 a _) (a + 1) (v / 256) (State.memWf_setMem1 s a _ h)

end Sys2Proof.Machine
end

