-- ==== Sys2Proof/Laws/State.lean ====
section
/-! SUPPORT. Laws/State.lean: what each elementary update of the state leaves as it was, field by field, and what a register field reads after a write. -/

namespace Sys2Proof.Machine

/-- A field read after it is written: the value cut to its width. -/
@[simp] theorem State.rd_wr_self (s : State) (f : Fld) (v i j : Nat) : (s.wr f v i j).rd f i j = v % 2 ^ f.w := by
  simp [State.rd, State.wr]

/-- Another field read after one is written. -/
theorem State.rd_wr_ne (s : State) (f g : Fld) (v i j k l : Nat) (h : g.key k l ≠ f.key i j) : (s.wr f v i j).rd g k l = s.rd g k l := by
  unfold State.rd State.wr
  exact SMap.get_set_ne s.regs (f.dflt i j) (g.dflt k l) (v % 2 ^ f.w) h

/-- A cluster read after it is replaced. -/
@[simp] theorem State.cl_setCl_self (s : State) (c : Nat) (k : ClusterSt) : (s.setCl c k).cl c = k := by
  simp [State.cl, State.setCl]

/-- Another cluster read after one is replaced. -/
theorem State.cl_setCl_ne (s : State) {c d : Nat} (k : ClusterSt) (h : d ≠ c) : (s.setCl c k).cl d = s.cl d :=
  SMap.get_set_ne s.clu ClusterSt.init ClusterSt.init k h

@[simp] theorem State.pending_wr (s : State) (f : Fld) (v i j : Nat) : (s.wr f v i j).pending = s.pending := rfl
@[simp] theorem State.free_wr (s : State) (f : Fld) (v i j : Nat) : (s.wr f v i j).free = s.free := rfl
@[simp] theorem State.mem_wr (s : State) (f : Fld) (v i j : Nat) : (s.wr f v i j).mem = s.mem := rfl
@[simp] theorem State.psn_wr (s : State) (f : Fld) (v i j : Nat) : (s.wr f v i j).psn = s.psn := rfl
@[simp] theorem State.now_wr (s : State) (f : Fld) (v i j : Nat) : (s.wr f v i j).now = s.now := rfl
@[simp] theorem State.log_wr (s : State) (f : Fld) (v i j : Nat) : (s.wr f v i j).log = s.log := rfl
@[simp] theorem State.traps_wr (s : State) (f : Fld) (v i j : Nat) : (s.wr f v i j).traps = s.traps := rfl
@[simp] theorem State.msix_wr (s : State) (f : Fld) (v i j : Nat) : (s.wr f v i j).msix = s.msix := rfl
@[simp] theorem State.pwr_wr (s : State) (f : Fld) (v i j : Nat) : (s.wr f v i j).pwr = s.pwr := rfl
@[simp] theorem State.fw_wr (s : State) (f : Fld) (v i j : Nat) : (s.wr f v i j).fw = s.fw := rfl
@[simp] theorem State.flint_wr (s : State) (f : Fld) (v i j : Nat) : (s.wr f v i j).flint = s.flint := rfl
@[simp] theorem State.start_wr (s : State) (f : Fld) (v i j : Nat) : (s.wr f v i j).start = s.start := rfl
@[simp] theorem State.time_wr (s : State) (f : Fld) (v i j : Nat) : (s.wr f v i j).time = s.time := rfl
@[simp] theorem State.clu_wr (s : State) (f : Fld) (v i j : Nat) : (s.wr f v i j).clu = s.clu := rfl
@[simp] theorem State.slate_wr (s : State) (f : Fld) (v i j : Nat) : (s.wr f v i j).slate = s.slate := rfl
@[simp] theorem State.hbm_wr (s : State) (f : Fld) (v i j : Nat) : (s.wr f v i j).hbm = s.hbm := rfl
@[simp] theorem State.ports_wr (s : State) (f : Fld) (v i j : Nat) : (s.wr f v i j).ports = s.ports := rfl
@[simp] theorem State.quartz_wr (s : State) (f : Fld) (v i j : Nat) : (s.wr f v i j).quartz = s.quartz := rfl
@[simp] theorem State.grps_wr (s : State) (f : Fld) (v i j : Nat) : (s.wr f v i j).grps = s.grps := rfl
@[simp] theorem State.twin_wr (s : State) (f : Fld) (v i j : Nat) : (s.wr f v i j).twin = s.twin := rfl
@[simp] theorem State.host_wr (s : State) (f : Fld) (v i j : Nat) : (s.wr f v i j).host = s.host := rfl
@[simp] theorem State.mica_wr (s : State) (f : Fld) (v i j : Nat) : (s.wr f v i j).mica = s.mica := rfl
@[simp] theorem State.jasper_wr (s : State) (f : Fld) (v i j : Nat) : (s.wr f v i j).jasper = s.jasper := rfl
@[simp] theorem State.loops_wr (s : State) (f : Fld) (v i j : Nat) : (s.wr f v i j).loops = s.loops := rfl
@[simp] theorem State.sm_wr (s : State) (f : Fld) (v i j : Nat) : (s.wr f v i j).sm = s.sm := rfl
@[simp] theorem State.err_wr (s : State) (f : Fld) (v i j : Nat) : (s.wr f v i j).err = s.err := rfl

@[simp] theorem State.pending_wb (s : State) (f : Fld) (b : Bool) (i j : Nat) : (s.wb f b i j).pending = s.pending := rfl
@[simp] theorem State.free_wb (s : State) (f : Fld) (b : Bool) (i j : Nat) : (s.wb f b i j).free = s.free := rfl
@[simp] theorem State.mem_wb (s : State) (f : Fld) (b : Bool) (i j : Nat) : (s.wb f b i j).mem = s.mem := rfl
@[simp] theorem State.psn_wb (s : State) (f : Fld) (b : Bool) (i j : Nat) : (s.wb f b i j).psn = s.psn := rfl
@[simp] theorem State.now_wb (s : State) (f : Fld) (b : Bool) (i j : Nat) : (s.wb f b i j).now = s.now := rfl
@[simp] theorem State.log_wb (s : State) (f : Fld) (b : Bool) (i j : Nat) : (s.wb f b i j).log = s.log := rfl
@[simp] theorem State.traps_wb (s : State) (f : Fld) (b : Bool) (i j : Nat) : (s.wb f b i j).traps = s.traps := rfl
@[simp] theorem State.msix_wb (s : State) (f : Fld) (b : Bool) (i j : Nat) : (s.wb f b i j).msix = s.msix := rfl
@[simp] theorem State.pwr_wb (s : State) (f : Fld) (b : Bool) (i j : Nat) : (s.wb f b i j).pwr = s.pwr := rfl
@[simp] theorem State.fw_wb (s : State) (f : Fld) (b : Bool) (i j : Nat) : (s.wb f b i j).fw = s.fw := rfl
@[simp] theorem State.flint_wb (s : State) (f : Fld) (b : Bool) (i j : Nat) : (s.wb f b i j).flint = s.flint := rfl
@[simp] theorem State.start_wb (s : State) (f : Fld) (b : Bool) (i j : Nat) : (s.wb f b i j).start = s.start := rfl
@[simp] theorem State.time_wb (s : State) (f : Fld) (b : Bool) (i j : Nat) : (s.wb f b i j).time = s.time := rfl
@[simp] theorem State.clu_wb (s : State) (f : Fld) (b : Bool) (i j : Nat) : (s.wb f b i j).clu = s.clu := rfl
@[simp] theorem State.slate_wb (s : State) (f : Fld) (b : Bool) (i j : Nat) : (s.wb f b i j).slate = s.slate := rfl
@[simp] theorem State.hbm_wb (s : State) (f : Fld) (b : Bool) (i j : Nat) : (s.wb f b i j).hbm = s.hbm := rfl
@[simp] theorem State.ports_wb (s : State) (f : Fld) (b : Bool) (i j : Nat) : (s.wb f b i j).ports = s.ports := rfl
@[simp] theorem State.quartz_wb (s : State) (f : Fld) (b : Bool) (i j : Nat) : (s.wb f b i j).quartz = s.quartz := rfl
@[simp] theorem State.grps_wb (s : State) (f : Fld) (b : Bool) (i j : Nat) : (s.wb f b i j).grps = s.grps := rfl
@[simp] theorem State.twin_wb (s : State) (f : Fld) (b : Bool) (i j : Nat) : (s.wb f b i j).twin = s.twin := rfl
@[simp] theorem State.host_wb (s : State) (f : Fld) (b : Bool) (i j : Nat) : (s.wb f b i j).host = s.host := rfl
@[simp] theorem State.mica_wb (s : State) (f : Fld) (b : Bool) (i j : Nat) : (s.wb f b i j).mica = s.mica := rfl
@[simp] theorem State.jasper_wb (s : State) (f : Fld) (b : Bool) (i j : Nat) : (s.wb f b i j).jasper = s.jasper := rfl
@[simp] theorem State.loops_wb (s : State) (f : Fld) (b : Bool) (i j : Nat) : (s.wb f b i j).loops = s.loops := rfl
@[simp] theorem State.sm_wb (s : State) (f : Fld) (b : Bool) (i j : Nat) : (s.wb f b i j).sm = s.sm := rfl
@[simp] theorem State.err_wb (s : State) (f : Fld) (b : Bool) (i j : Nat) : (s.wb f b i j).err = s.err := rfl

@[simp] theorem State.pending_bump (s : State) (f : Fld) (n i j : Nat) : (s.bump f n i j).pending = s.pending := rfl
@[simp] theorem State.free_bump (s : State) (f : Fld) (n i j : Nat) : (s.bump f n i j).free = s.free := rfl
@[simp] theorem State.mem_bump (s : State) (f : Fld) (n i j : Nat) : (s.bump f n i j).mem = s.mem := rfl
@[simp] theorem State.psn_bump (s : State) (f : Fld) (n i j : Nat) : (s.bump f n i j).psn = s.psn := rfl
@[simp] theorem State.now_bump (s : State) (f : Fld) (n i j : Nat) : (s.bump f n i j).now = s.now := rfl
@[simp] theorem State.log_bump (s : State) (f : Fld) (n i j : Nat) : (s.bump f n i j).log = s.log := rfl
@[simp] theorem State.traps_bump (s : State) (f : Fld) (n i j : Nat) : (s.bump f n i j).traps = s.traps := rfl
@[simp] theorem State.msix_bump (s : State) (f : Fld) (n i j : Nat) : (s.bump f n i j).msix = s.msix := rfl
@[simp] theorem State.pwr_bump (s : State) (f : Fld) (n i j : Nat) : (s.bump f n i j).pwr = s.pwr := rfl
@[simp] theorem State.fw_bump (s : State) (f : Fld) (n i j : Nat) : (s.bump f n i j).fw = s.fw := rfl
@[simp] theorem State.flint_bump (s : State) (f : Fld) (n i j : Nat) : (s.bump f n i j).flint = s.flint := rfl
@[simp] theorem State.start_bump (s : State) (f : Fld) (n i j : Nat) : (s.bump f n i j).start = s.start := rfl
@[simp] theorem State.time_bump (s : State) (f : Fld) (n i j : Nat) : (s.bump f n i j).time = s.time := rfl
@[simp] theorem State.clu_bump (s : State) (f : Fld) (n i j : Nat) : (s.bump f n i j).clu = s.clu := rfl
@[simp] theorem State.slate_bump (s : State) (f : Fld) (n i j : Nat) : (s.bump f n i j).slate = s.slate := rfl
@[simp] theorem State.hbm_bump (s : State) (f : Fld) (n i j : Nat) : (s.bump f n i j).hbm = s.hbm := rfl
@[simp] theorem State.ports_bump (s : State) (f : Fld) (n i j : Nat) : (s.bump f n i j).ports = s.ports := rfl
@[simp] theorem State.quartz_bump (s : State) (f : Fld) (n i j : Nat) : (s.bump f n i j).quartz = s.quartz := rfl
@[simp] theorem State.grps_bump (s : State) (f : Fld) (n i j : Nat) : (s.bump f n i j).grps = s.grps := rfl
@[simp] theorem State.twin_bump (s : State) (f : Fld) (n i j : Nat) : (s.bump f n i j).twin = s.twin := rfl
@[simp] theorem State.host_bump (s : State) (f : Fld) (n i j : Nat) : (s.bump f n i j).host = s.host := rfl
@[simp] theorem State.mica_bump (s : State) (f : Fld) (n i j : Nat) : (s.bump f n i j).mica = s.mica := rfl
@[simp] theorem State.jasper_bump (s : State) (f : Fld) (n i j : Nat) : (s.bump f n i j).jasper = s.jasper := rfl
@[simp] theorem State.loops_bump (s : State) (f : Fld) (n i j : Nat) : (s.bump f n i j).loops = s.loops := rfl
@[simp] theorem State.sm_bump (s : State) (f : Fld) (n i j : Nat) : (s.bump f n i j).sm = s.sm := rfl
@[simp] theorem State.err_bump (s : State) (f : Fld) (n i j : Nat) : (s.bump f n i j).err = s.err := rfl

@[simp] theorem State.pending_wflag (s : State) (f : Fld) (n : Nat) (b : Bool) (i j : Nat) : (s.wflag f n b i j).pending = s.pending := rfl
@[simp] theorem State.free_wflag (s : State) (f : Fld) (n : Nat) (b : Bool) (i j : Nat) : (s.wflag f n b i j).free = s.free := rfl
@[simp] theorem State.mem_wflag (s : State) (f : Fld) (n : Nat) (b : Bool) (i j : Nat) : (s.wflag f n b i j).mem = s.mem := rfl
@[simp] theorem State.psn_wflag (s : State) (f : Fld) (n : Nat) (b : Bool) (i j : Nat) : (s.wflag f n b i j).psn = s.psn := rfl
@[simp] theorem State.now_wflag (s : State) (f : Fld) (n : Nat) (b : Bool) (i j : Nat) : (s.wflag f n b i j).now = s.now := rfl
@[simp] theorem State.log_wflag (s : State) (f : Fld) (n : Nat) (b : Bool) (i j : Nat) : (s.wflag f n b i j).log = s.log := rfl
@[simp] theorem State.traps_wflag (s : State) (f : Fld) (n : Nat) (b : Bool) (i j : Nat) : (s.wflag f n b i j).traps = s.traps := rfl
@[simp] theorem State.msix_wflag (s : State) (f : Fld) (n : Nat) (b : Bool) (i j : Nat) : (s.wflag f n b i j).msix = s.msix := rfl
@[simp] theorem State.pwr_wflag (s : State) (f : Fld) (n : Nat) (b : Bool) (i j : Nat) : (s.wflag f n b i j).pwr = s.pwr := rfl
@[simp] theorem State.fw_wflag (s : State) (f : Fld) (n : Nat) (b : Bool) (i j : Nat) : (s.wflag f n b i j).fw = s.fw := rfl
@[simp] theorem State.flint_wflag (s : State) (f : Fld) (n : Nat) (b : Bool) (i j : Nat) : (s.wflag f n b i j).flint = s.flint := rfl
@[simp] theorem State.start_wflag (s : State) (f : Fld) (n : Nat) (b : Bool) (i j : Nat) : (s.wflag f n b i j).start = s.start := rfl
@[simp] theorem State.time_wflag (s : State) (f : Fld) (n : Nat) (b : Bool) (i j : Nat) : (s.wflag f n b i j).time = s.time := rfl
@[simp] theorem State.clu_wflag (s : State) (f : Fld) (n : Nat) (b : Bool) (i j : Nat) : (s.wflag f n b i j).clu = s.clu := rfl
@[simp] theorem State.slate_wflag (s : State) (f : Fld) (n : Nat) (b : Bool) (i j : Nat) : (s.wflag f n b i j).slate = s.slate := rfl
@[simp] theorem State.hbm_wflag (s : State) (f : Fld) (n : Nat) (b : Bool) (i j : Nat) : (s.wflag f n b i j).hbm = s.hbm := rfl
@[simp] theorem State.ports_wflag (s : State) (f : Fld) (n : Nat) (b : Bool) (i j : Nat) : (s.wflag f n b i j).ports = s.ports := rfl
@[simp] theorem State.quartz_wflag (s : State) (f : Fld) (n : Nat) (b : Bool) (i j : Nat) : (s.wflag f n b i j).quartz = s.quartz := rfl
@[simp] theorem State.grps_wflag (s : State) (f : Fld) (n : Nat) (b : Bool) (i j : Nat) : (s.wflag f n b i j).grps = s.grps := rfl
@[simp] theorem State.twin_wflag (s : State) (f : Fld) (n : Nat) (b : Bool) (i j : Nat) : (s.wflag f n b i j).twin = s.twin := rfl
@[simp] theorem State.host_wflag (s : State) (f : Fld) (n : Nat) (b : Bool) (i j : Nat) : (s.wflag f n b i j).host = s.host := rfl
@[simp] theorem State.mica_wflag (s : State) (f : Fld) (n : Nat) (b : Bool) (i j : Nat) : (s.wflag f n b i j).mica = s.mica := rfl
@[simp] theorem State.jasper_wflag (s : State) (f : Fld) (n : Nat) (b : Bool) (i j : Nat) : (s.wflag f n b i j).jasper = s.jasper := rfl
@[simp] theorem State.loops_wflag (s : State) (f : Fld) (n : Nat) (b : Bool) (i j : Nat) : (s.wflag f n b i j).loops = s.loops := rfl
@[simp] theorem State.sm_wflag (s : State) (f : Fld) (n : Nat) (b : Bool) (i j : Nat) : (s.wflag f n b i j).sm = s.sm := rfl
@[simp] theorem State.err_wflag (s : State) (f : Fld) (n : Nat) (b : Bool) (i j : Nat) : (s.wflag f n b i j).err = s.err := rfl

@[simp] theorem State.pending_setMem1 (s : State) (a : Nat) (b : Byte) : (s.setMem1 a b).pending = s.pending := rfl
@[simp] theorem State.free_setMem1 (s : State) (a : Nat) (b : Byte) : (s.setMem1 a b).free = s.free := rfl
@[simp] theorem State.regs_setMem1 (s : State) (a : Nat) (b : Byte) : (s.setMem1 a b).regs = s.regs := rfl
@[simp] theorem State.psn_setMem1 (s : State) (a : Nat) (b : Byte) : (s.setMem1 a b).psn = s.psn := rfl
@[simp] theorem State.now_setMem1 (s : State) (a : Nat) (b : Byte) : (s.setMem1 a b).now = s.now := rfl
@[simp] theorem State.log_setMem1 (s : State) (a : Nat) (b : Byte) : (s.setMem1 a b).log = s.log := rfl
@[simp] theorem State.traps_setMem1 (s : State) (a : Nat) (b : Byte) : (s.setMem1 a b).traps = s.traps := rfl
@[simp] theorem State.msix_setMem1 (s : State) (a : Nat) (b : Byte) : (s.setMem1 a b).msix = s.msix := rfl
@[simp] theorem State.pwr_setMem1 (s : State) (a : Nat) (b : Byte) : (s.setMem1 a b).pwr = s.pwr := rfl
@[simp] theorem State.fw_setMem1 (s : State) (a : Nat) (b : Byte) : (s.setMem1 a b).fw = s.fw := rfl
@[simp] theorem State.flint_setMem1 (s : State) (a : Nat) (b : Byte) : (s.setMem1 a b).flint = s.flint := rfl
@[simp] theorem State.start_setMem1 (s : State) (a : Nat) (b : Byte) : (s.setMem1 a b).start = s.start := rfl
@[simp] theorem State.time_setMem1 (s : State) (a : Nat) (b : Byte) : (s.setMem1 a b).time = s.time := rfl
@[simp] theorem State.clu_setMem1 (s : State) (a : Nat) (b : Byte) : (s.setMem1 a b).clu = s.clu := rfl
@[simp] theorem State.slate_setMem1 (s : State) (a : Nat) (b : Byte) : (s.setMem1 a b).slate = s.slate := rfl
@[simp] theorem State.hbm_setMem1 (s : State) (a : Nat) (b : Byte) : (s.setMem1 a b).hbm = s.hbm := rfl
@[simp] theorem State.ports_setMem1 (s : State) (a : Nat) (b : Byte) : (s.setMem1 a b).ports = s.ports := rfl
@[simp] theorem State.quartz_setMem1 (s : State) (a : Nat) (b : Byte) : (s.setMem1 a b).quartz = s.quartz := rfl
@[simp] theorem State.grps_setMem1 (s : State) (a : Nat) (b : Byte) : (s.setMem1 a b).grps = s.grps := rfl
@[simp] theorem State.twin_setMem1 (s : State) (a : Nat) (b : Byte) : (s.setMem1 a b).twin = s.twin := rfl
@[simp] theorem State.host_setMem1 (s : State) (a : Nat) (b : Byte) : (s.setMem1 a b).host = s.host := rfl
@[simp] theorem State.mica_setMem1 (s : State) (a : Nat) (b : Byte) : (s.setMem1 a b).mica = s.mica := rfl
@[simp] theorem State.jasper_setMem1 (s : State) (a : Nat) (b : Byte) : (s.setMem1 a b).jasper = s.jasper := rfl
@[simp] theorem State.loops_setMem1 (s : State) (a : Nat) (b : Byte) : (s.setMem1 a b).loops = s.loops := rfl
@[simp] theorem State.sm_setMem1 (s : State) (a : Nat) (b : Byte) : (s.setMem1 a b).sm = s.sm := rfl
@[simp] theorem State.err_setMem1 (s : State) (a : Nat) (b : Byte) : (s.setMem1 a b).err = s.err := rfl

@[simp] theorem State.pending_zeroMem (s : State) (a n : Nat) : (s.zeroMem a n).pending = s.pending := rfl
@[simp] theorem State.free_zeroMem (s : State) (a n : Nat) : (s.zeroMem a n).free = s.free := rfl
@[simp] theorem State.regs_zeroMem (s : State) (a n : Nat) : (s.zeroMem a n).regs = s.regs := rfl
@[simp] theorem State.now_zeroMem (s : State) (a n : Nat) : (s.zeroMem a n).now = s.now := rfl
@[simp] theorem State.log_zeroMem (s : State) (a n : Nat) : (s.zeroMem a n).log = s.log := rfl
@[simp] theorem State.traps_zeroMem (s : State) (a n : Nat) : (s.zeroMem a n).traps = s.traps := rfl
@[simp] theorem State.msix_zeroMem (s : State) (a n : Nat) : (s.zeroMem a n).msix = s.msix := rfl
@[simp] theorem State.pwr_zeroMem (s : State) (a n : Nat) : (s.zeroMem a n).pwr = s.pwr := rfl
@[simp] theorem State.fw_zeroMem (s : State) (a n : Nat) : (s.zeroMem a n).fw = s.fw := rfl
@[simp] theorem State.flint_zeroMem (s : State) (a n : Nat) : (s.zeroMem a n).flint = s.flint := rfl
@[simp] theorem State.start_zeroMem (s : State) (a n : Nat) : (s.zeroMem a n).start = s.start := rfl
@[simp] theorem State.time_zeroMem (s : State) (a n : Nat) : (s.zeroMem a n).time = s.time := rfl
@[simp] theorem State.clu_zeroMem (s : State) (a n : Nat) : (s.zeroMem a n).clu = s.clu := rfl
@[simp] theorem State.slate_zeroMem (s : State) (a n : Nat) : (s.zeroMem a n).slate = s.slate := rfl
@[simp] theorem State.hbm_zeroMem (s : State) (a n : Nat) : (s.zeroMem a n).hbm = s.hbm := rfl
@[simp] theorem State.ports_zeroMem (s : State) (a n : Nat) : (s.zeroMem a n).ports = s.ports := rfl
@[simp] theorem State.quartz_zeroMem (s : State) (a n : Nat) : (s.zeroMem a n).quartz = s.quartz := rfl
@[simp] theorem State.grps_zeroMem (s : State) (a n : Nat) : (s.zeroMem a n).grps = s.grps := rfl
@[simp] theorem State.twin_zeroMem (s : State) (a n : Nat) : (s.zeroMem a n).twin = s.twin := rfl
@[simp] theorem State.host_zeroMem (s : State) (a n : Nat) : (s.zeroMem a n).host = s.host := rfl
@[simp] theorem State.mica_zeroMem (s : State) (a n : Nat) : (s.zeroMem a n).mica = s.mica := rfl
@[simp] theorem State.jasper_zeroMem (s : State) (a n : Nat) : (s.zeroMem a n).jasper = s.jasper := rfl
@[simp] theorem State.loops_zeroMem (s : State) (a n : Nat) : (s.zeroMem a n).loops = s.loops := rfl
@[simp] theorem State.sm_zeroMem (s : State) (a n : Nat) : (s.zeroMem a n).sm = s.sm := rfl
@[simp] theorem State.err_zeroMem (s : State) (a n : Nat) : (s.zeroMem a n).err = s.err := rfl

@[simp] theorem State.pending_setPsn (s : State) (a : Nat) (b : Bool) : (s.setPsn a b).pending = s.pending := rfl
@[simp] theorem State.free_setPsn (s : State) (a : Nat) (b : Bool) : (s.setPsn a b).free = s.free := rfl
@[simp] theorem State.regs_setPsn (s : State) (a : Nat) (b : Bool) : (s.setPsn a b).regs = s.regs := rfl
@[simp] theorem State.mem_setPsn (s : State) (a : Nat) (b : Bool) : (s.setPsn a b).mem = s.mem := rfl
@[simp] theorem State.now_setPsn (s : State) (a : Nat) (b : Bool) : (s.setPsn a b).now = s.now := rfl
@[simp] theorem State.log_setPsn (s : State) (a : Nat) (b : Bool) : (s.setPsn a b).log = s.log := rfl
@[simp] theorem State.traps_setPsn (s : State) (a : Nat) (b : Bool) : (s.setPsn a b).traps = s.traps := rfl
@[simp] theorem State.msix_setPsn (s : State) (a : Nat) (b : Bool) : (s.setPsn a b).msix = s.msix := rfl
@[simp] theorem State.pwr_setPsn (s : State) (a : Nat) (b : Bool) : (s.setPsn a b).pwr = s.pwr := rfl
@[simp] theorem State.fw_setPsn (s : State) (a : Nat) (b : Bool) : (s.setPsn a b).fw = s.fw := rfl
@[simp] theorem State.flint_setPsn (s : State) (a : Nat) (b : Bool) : (s.setPsn a b).flint = s.flint := rfl
@[simp] theorem State.start_setPsn (s : State) (a : Nat) (b : Bool) : (s.setPsn a b).start = s.start := rfl
@[simp] theorem State.time_setPsn (s : State) (a : Nat) (b : Bool) : (s.setPsn a b).time = s.time := rfl
@[simp] theorem State.clu_setPsn (s : State) (a : Nat) (b : Bool) : (s.setPsn a b).clu = s.clu := rfl
@[simp] theorem State.slate_setPsn (s : State) (a : Nat) (b : Bool) : (s.setPsn a b).slate = s.slate := rfl
@[simp] theorem State.hbm_setPsn (s : State) (a : Nat) (b : Bool) : (s.setPsn a b).hbm = s.hbm := rfl
@[simp] theorem State.ports_setPsn (s : State) (a : Nat) (b : Bool) : (s.setPsn a b).ports = s.ports := rfl
@[simp] theorem State.quartz_setPsn (s : State) (a : Nat) (b : Bool) : (s.setPsn a b).quartz = s.quartz := rfl
@[simp] theorem State.grps_setPsn (s : State) (a : Nat) (b : Bool) : (s.setPsn a b).grps = s.grps := rfl
@[simp] theorem State.twin_setPsn (s : State) (a : Nat) (b : Bool) : (s.setPsn a b).twin = s.twin := rfl
@[simp] theorem State.host_setPsn (s : State) (a : Nat) (b : Bool) : (s.setPsn a b).host = s.host := rfl
@[simp] theorem State.mica_setPsn (s : State) (a : Nat) (b : Bool) : (s.setPsn a b).mica = s.mica := rfl
@[simp] theorem State.jasper_setPsn (s : State) (a : Nat) (b : Bool) : (s.setPsn a b).jasper = s.jasper := rfl
@[simp] theorem State.loops_setPsn (s : State) (a : Nat) (b : Bool) : (s.setPsn a b).loops = s.loops := rfl
@[simp] theorem State.sm_setPsn (s : State) (a : Nat) (b : Bool) : (s.setPsn a b).sm = s.sm := rfl
@[simp] theorem State.err_setPsn (s : State) (a : Nat) (b : Bool) : (s.setPsn a b).err = s.err := rfl

@[simp] theorem State.pending_setCl (s : State) (c : Nat) (k : ClusterSt) : (s.setCl c k).pending = s.pending := rfl
@[simp] theorem State.free_setCl (s : State) (c : Nat) (k : ClusterSt) : (s.setCl c k).free = s.free := rfl
@[simp] theorem State.regs_setCl (s : State) (c : Nat) (k : ClusterSt) : (s.setCl c k).regs = s.regs := rfl
@[simp] theorem State.mem_setCl (s : State) (c : Nat) (k : ClusterSt) : (s.setCl c k).mem = s.mem := rfl
@[simp] theorem State.psn_setCl (s : State) (c : Nat) (k : ClusterSt) : (s.setCl c k).psn = s.psn := rfl
@[simp] theorem State.now_setCl (s : State) (c : Nat) (k : ClusterSt) : (s.setCl c k).now = s.now := rfl
@[simp] theorem State.log_setCl (s : State) (c : Nat) (k : ClusterSt) : (s.setCl c k).log = s.log := rfl
@[simp] theorem State.traps_setCl (s : State) (c : Nat) (k : ClusterSt) : (s.setCl c k).traps = s.traps := rfl
@[simp] theorem State.msix_setCl (s : State) (c : Nat) (k : ClusterSt) : (s.setCl c k).msix = s.msix := rfl
@[simp] theorem State.pwr_setCl (s : State) (c : Nat) (k : ClusterSt) : (s.setCl c k).pwr = s.pwr := rfl
@[simp] theorem State.fw_setCl (s : State) (c : Nat) (k : ClusterSt) : (s.setCl c k).fw = s.fw := rfl
@[simp] theorem State.flint_setCl (s : State) (c : Nat) (k : ClusterSt) : (s.setCl c k).flint = s.flint := rfl
@[simp] theorem State.start_setCl (s : State) (c : Nat) (k : ClusterSt) : (s.setCl c k).start = s.start := rfl
@[simp] theorem State.time_setCl (s : State) (c : Nat) (k : ClusterSt) : (s.setCl c k).time = s.time := rfl
@[simp] theorem State.slate_setCl (s : State) (c : Nat) (k : ClusterSt) : (s.setCl c k).slate = s.slate := rfl
@[simp] theorem State.hbm_setCl (s : State) (c : Nat) (k : ClusterSt) : (s.setCl c k).hbm = s.hbm := rfl
@[simp] theorem State.ports_setCl (s : State) (c : Nat) (k : ClusterSt) : (s.setCl c k).ports = s.ports := rfl
@[simp] theorem State.quartz_setCl (s : State) (c : Nat) (k : ClusterSt) : (s.setCl c k).quartz = s.quartz := rfl
@[simp] theorem State.grps_setCl (s : State) (c : Nat) (k : ClusterSt) : (s.setCl c k).grps = s.grps := rfl
@[simp] theorem State.twin_setCl (s : State) (c : Nat) (k : ClusterSt) : (s.setCl c k).twin = s.twin := rfl
@[simp] theorem State.host_setCl (s : State) (c : Nat) (k : ClusterSt) : (s.setCl c k).host = s.host := rfl
@[simp] theorem State.mica_setCl (s : State) (c : Nat) (k : ClusterSt) : (s.setCl c k).mica = s.mica := rfl
@[simp] theorem State.jasper_setCl (s : State) (c : Nat) (k : ClusterSt) : (s.setCl c k).jasper = s.jasper := rfl
@[simp] theorem State.loops_setCl (s : State) (c : Nat) (k : ClusterSt) : (s.setCl c k).loops = s.loops := rfl
@[simp] theorem State.sm_setCl (s : State) (c : Nat) (k : ClusterSt) : (s.setCl c k).sm = s.sm := rfl
@[simp] theorem State.err_setCl (s : State) (c : Nat) (k : ClusterSt) : (s.setCl c k).err = s.err := rfl

@[simp] theorem State.pending_modCl (s : State) (c : Nat) (g : ClusterSt → ClusterSt) : (s.modCl c g).pending = s.pending := rfl
@[simp] theorem State.free_modCl (s : State) (c : Nat) (g : ClusterSt → ClusterSt) : (s.modCl c g).free = s.free := rfl
@[simp] theorem State.regs_modCl (s : State) (c : Nat) (g : ClusterSt → ClusterSt) : (s.modCl c g).regs = s.regs := rfl
@[simp] theorem State.mem_modCl (s : State) (c : Nat) (g : ClusterSt → ClusterSt) : (s.modCl c g).mem = s.mem := rfl
@[simp] theorem State.psn_modCl (s : State) (c : Nat) (g : ClusterSt → ClusterSt) : (s.modCl c g).psn = s.psn := rfl
@[simp] theorem State.now_modCl (s : State) (c : Nat) (g : ClusterSt → ClusterSt) : (s.modCl c g).now = s.now := rfl
@[simp] theorem State.log_modCl (s : State) (c : Nat) (g : ClusterSt → ClusterSt) : (s.modCl c g).log = s.log := rfl
@[simp] theorem State.traps_modCl (s : State) (c : Nat) (g : ClusterSt → ClusterSt) : (s.modCl c g).traps = s.traps := rfl
@[simp] theorem State.msix_modCl (s : State) (c : Nat) (g : ClusterSt → ClusterSt) : (s.modCl c g).msix = s.msix := rfl
@[simp] theorem State.pwr_modCl (s : State) (c : Nat) (g : ClusterSt → ClusterSt) : (s.modCl c g).pwr = s.pwr := rfl
@[simp] theorem State.fw_modCl (s : State) (c : Nat) (g : ClusterSt → ClusterSt) : (s.modCl c g).fw = s.fw := rfl
@[simp] theorem State.flint_modCl (s : State) (c : Nat) (g : ClusterSt → ClusterSt) : (s.modCl c g).flint = s.flint := rfl
@[simp] theorem State.start_modCl (s : State) (c : Nat) (g : ClusterSt → ClusterSt) : (s.modCl c g).start = s.start := rfl
@[simp] theorem State.time_modCl (s : State) (c : Nat) (g : ClusterSt → ClusterSt) : (s.modCl c g).time = s.time := rfl
@[simp] theorem State.slate_modCl (s : State) (c : Nat) (g : ClusterSt → ClusterSt) : (s.modCl c g).slate = s.slate := rfl
@[simp] theorem State.hbm_modCl (s : State) (c : Nat) (g : ClusterSt → ClusterSt) : (s.modCl c g).hbm = s.hbm := rfl
@[simp] theorem State.ports_modCl (s : State) (c : Nat) (g : ClusterSt → ClusterSt) : (s.modCl c g).ports = s.ports := rfl
@[simp] theorem State.quartz_modCl (s : State) (c : Nat) (g : ClusterSt → ClusterSt) : (s.modCl c g).quartz = s.quartz := rfl
@[simp] theorem State.grps_modCl (s : State) (c : Nat) (g : ClusterSt → ClusterSt) : (s.modCl c g).grps = s.grps := rfl
@[simp] theorem State.twin_modCl (s : State) (c : Nat) (g : ClusterSt → ClusterSt) : (s.modCl c g).twin = s.twin := rfl
@[simp] theorem State.host_modCl (s : State) (c : Nat) (g : ClusterSt → ClusterSt) : (s.modCl c g).host = s.host := rfl
@[simp] theorem State.mica_modCl (s : State) (c : Nat) (g : ClusterSt → ClusterSt) : (s.modCl c g).mica = s.mica := rfl
@[simp] theorem State.jasper_modCl (s : State) (c : Nat) (g : ClusterSt → ClusterSt) : (s.modCl c g).jasper = s.jasper := rfl
@[simp] theorem State.loops_modCl (s : State) (c : Nat) (g : ClusterSt → ClusterSt) : (s.modCl c g).loops = s.loops := rfl
@[simp] theorem State.sm_modCl (s : State) (c : Nat) (g : ClusterSt → ClusterSt) : (s.modCl c g).sm = s.sm := rfl
@[simp] theorem State.err_modCl (s : State) (c : Nat) (g : ClusterSt → ClusterSt) : (s.modCl c g).err = s.err := rfl

@[simp] theorem State.pending_modQ (s : State) (g : QuartzSt → QuartzSt) : (s.modQ g).pending = s.pending := rfl
@[simp] theorem State.free_modQ (s : State) (g : QuartzSt → QuartzSt) : (s.modQ g).free = s.free := rfl
@[simp] theorem State.regs_modQ (s : State) (g : QuartzSt → QuartzSt) : (s.modQ g).regs = s.regs := rfl
@[simp] theorem State.mem_modQ (s : State) (g : QuartzSt → QuartzSt) : (s.modQ g).mem = s.mem := rfl
@[simp] theorem State.psn_modQ (s : State) (g : QuartzSt → QuartzSt) : (s.modQ g).psn = s.psn := rfl
@[simp] theorem State.now_modQ (s : State) (g : QuartzSt → QuartzSt) : (s.modQ g).now = s.now := rfl
@[simp] theorem State.log_modQ (s : State) (g : QuartzSt → QuartzSt) : (s.modQ g).log = s.log := rfl
@[simp] theorem State.traps_modQ (s : State) (g : QuartzSt → QuartzSt) : (s.modQ g).traps = s.traps := rfl
@[simp] theorem State.msix_modQ (s : State) (g : QuartzSt → QuartzSt) : (s.modQ g).msix = s.msix := rfl
@[simp] theorem State.pwr_modQ (s : State) (g : QuartzSt → QuartzSt) : (s.modQ g).pwr = s.pwr := rfl
@[simp] theorem State.fw_modQ (s : State) (g : QuartzSt → QuartzSt) : (s.modQ g).fw = s.fw := rfl
@[simp] theorem State.flint_modQ (s : State) (g : QuartzSt → QuartzSt) : (s.modQ g).flint = s.flint := rfl
@[simp] theorem State.start_modQ (s : State) (g : QuartzSt → QuartzSt) : (s.modQ g).start = s.start := rfl
@[simp] theorem State.time_modQ (s : State) (g : QuartzSt → QuartzSt) : (s.modQ g).time = s.time := rfl
@[simp] theorem State.clu_modQ (s : State) (g : QuartzSt → QuartzSt) : (s.modQ g).clu = s.clu := rfl
@[simp] theorem State.slate_modQ (s : State) (g : QuartzSt → QuartzSt) : (s.modQ g).slate = s.slate := rfl
@[simp] theorem State.hbm_modQ (s : State) (g : QuartzSt → QuartzSt) : (s.modQ g).hbm = s.hbm := rfl
@[simp] theorem State.ports_modQ (s : State) (g : QuartzSt → QuartzSt) : (s.modQ g).ports = s.ports := rfl
@[simp] theorem State.grps_modQ (s : State) (g : QuartzSt → QuartzSt) : (s.modQ g).grps = s.grps := rfl
@[simp] theorem State.twin_modQ (s : State) (g : QuartzSt → QuartzSt) : (s.modQ g).twin = s.twin := rfl
@[simp] theorem State.host_modQ (s : State) (g : QuartzSt → QuartzSt) : (s.modQ g).host = s.host := rfl
@[simp] theorem State.mica_modQ (s : State) (g : QuartzSt → QuartzSt) : (s.modQ g).mica = s.mica := rfl
@[simp] theorem State.jasper_modQ (s : State) (g : QuartzSt → QuartzSt) : (s.modQ g).jasper = s.jasper := rfl
@[simp] theorem State.loops_modQ (s : State) (g : QuartzSt → QuartzSt) : (s.modQ g).loops = s.loops := rfl
@[simp] theorem State.sm_modQ (s : State) (g : QuartzSt → QuartzSt) : (s.modQ g).sm = s.sm := rfl
@[simp] theorem State.err_modQ (s : State) (g : QuartzSt → QuartzSt) : (s.modQ g).err = s.err := rfl

@[simp] theorem State.pending_drawn (s : State) : (s.drawn).pending = s.pending := rfl
@[simp] theorem State.regs_drawn (s : State) : (s.drawn).regs = s.regs := rfl
@[simp] theorem State.mem_drawn (s : State) : (s.drawn).mem = s.mem := rfl
@[simp] theorem State.psn_drawn (s : State) : (s.drawn).psn = s.psn := rfl
@[simp] theorem State.now_drawn (s : State) : (s.drawn).now = s.now := rfl
@[simp] theorem State.log_drawn (s : State) : (s.drawn).log = s.log := rfl
@[simp] theorem State.traps_drawn (s : State) : (s.drawn).traps = s.traps := rfl
@[simp] theorem State.msix_drawn (s : State) : (s.drawn).msix = s.msix := rfl
@[simp] theorem State.pwr_drawn (s : State) : (s.drawn).pwr = s.pwr := rfl
@[simp] theorem State.fw_drawn (s : State) : (s.drawn).fw = s.fw := rfl
@[simp] theorem State.flint_drawn (s : State) : (s.drawn).flint = s.flint := rfl
@[simp] theorem State.start_drawn (s : State) : (s.drawn).start = s.start := rfl
@[simp] theorem State.time_drawn (s : State) : (s.drawn).time = s.time := rfl
@[simp] theorem State.clu_drawn (s : State) : (s.drawn).clu = s.clu := rfl
@[simp] theorem State.slate_drawn (s : State) : (s.drawn).slate = s.slate := rfl
@[simp] theorem State.hbm_drawn (s : State) : (s.drawn).hbm = s.hbm := rfl
@[simp] theorem State.ports_drawn (s : State) : (s.drawn).ports = s.ports := rfl
@[simp] theorem State.quartz_drawn (s : State) : (s.drawn).quartz = s.quartz := rfl
@[simp] theorem State.grps_drawn (s : State) : (s.drawn).grps = s.grps := rfl
@[simp] theorem State.twin_drawn (s : State) : (s.drawn).twin = s.twin := rfl
@[simp] theorem State.host_drawn (s : State) : (s.drawn).host = s.host := rfl
@[simp] theorem State.mica_drawn (s : State) : (s.drawn).mica = s.mica := rfl
@[simp] theorem State.jasper_drawn (s : State) : (s.drawn).jasper = s.jasper := rfl
@[simp] theorem State.loops_drawn (s : State) : (s.drawn).loops = s.loops := rfl
@[simp] theorem State.sm_drawn (s : State) : (s.drawn).sm = s.sm := rfl
@[simp] theorem State.err_drawn (s : State) : (s.drawn).err = s.err := rfl

@[simp] theorem State.pending_setMemL (s : State) (a : Nat) (l : List Byte) : (s.setMemL a l).pending = s.pending := by
  induction l generalizing s a with
  | nil => rfl
  | cons b t ih => exact ih (s.setMem1 a b) (a + 1)
@[simp] theorem State.free_setMemL (s : State) (a : Nat) (l : List Byte) : (s.setMemL a l).free = s.free := by
  induction l generalizing s a with
  | nil => rfl
  | cons b t ih => exact ih (s.setMem1 a b) (a + 1)
@[simp] theorem State.regs_setMemL (s : State) (a : Nat) (l : List Byte) : (s.setMemL a l).regs = s.regs := by
  induction l generalizing s a with
  | nil => rfl
  | cons b t ih => exact ih (s.setMem1 a b) (a + 1)
@[simp] theorem State.psn_setMemL (s : State) (a : Nat) (l : List Byte) : (s.setMemL a l).psn = s.psn := by
  induction l generalizing s a with
  | nil => rfl
  | cons b t ih => exact ih (s.setMem1 a b) (a + 1)
@[simp] theorem State.now_setMemL (s : State) (a : Nat) (l : List Byte) : (s.setMemL a l).now = s.now := by
  induction l generalizing s a with
  | nil => rfl
  | cons b t ih => exact ih (s.setMem1 a b) (a + 1)
@[simp] theorem State.log_setMemL (s : State) (a : Nat) (l : List Byte) : (s.setMemL a l).log = s.log := by
  induction l generalizing s a with
  | nil => rfl
  | cons b t ih => exact ih (s.setMem1 a b) (a + 1)
@[simp] theorem State.traps_setMemL (s : State) (a : Nat) (l : List Byte) : (s.setMemL a l).traps = s.traps := by
  induction l generalizing s a with
  | nil => rfl
  | cons b t ih => exact ih (s.setMem1 a b) (a + 1)
@[simp] theorem State.msix_setMemL (s : State) (a : Nat) (l : List Byte) : (s.setMemL a l).msix = s.msix := by
  induction l generalizing s a with
  | nil => rfl
  | cons b t ih => exact ih (s.setMem1 a b) (a + 1)
@[simp] theorem State.pwr_setMemL (s : State) (a : Nat) (l : List Byte) : (s.setMemL a l).pwr = s.pwr := by
  induction l generalizing s a with
  | nil => rfl
  | cons b t ih => exact ih (s.setMem1 a b) (a + 1)
@[simp] theorem State.fw_setMemL (s : State) (a : Nat) (l : List Byte) : (s.setMemL a l).fw = s.fw := by
  induction l generalizing s a with
  | nil => rfl
  | cons b t ih => exact ih (s.setMem1 a b) (a + 1)
@[simp] theorem State.flint_setMemL (s : State) (a : Nat) (l : List Byte) : (s.setMemL a l).flint = s.flint := by
  induction l generalizing s a with
  | nil => rfl
  | cons b t ih => exact ih (s.setMem1 a b) (a + 1)
@[simp] theorem State.start_setMemL (s : State) (a : Nat) (l : List Byte) : (s.setMemL a l).start = s.start := by
  induction l generalizing s a with
  | nil => rfl
  | cons b t ih => exact ih (s.setMem1 a b) (a + 1)
@[simp] theorem State.time_setMemL (s : State) (a : Nat) (l : List Byte) : (s.setMemL a l).time = s.time := by
  induction l generalizing s a with
  | nil => rfl
  | cons b t ih => exact ih (s.setMem1 a b) (a + 1)
@[simp] theorem State.clu_setMemL (s : State) (a : Nat) (l : List Byte) : (s.setMemL a l).clu = s.clu := by
  induction l generalizing s a with
  | nil => rfl
  | cons b t ih => exact ih (s.setMem1 a b) (a + 1)
@[simp] theorem State.slate_setMemL (s : State) (a : Nat) (l : List Byte) : (s.setMemL a l).slate = s.slate := by
  induction l generalizing s a with
  | nil => rfl
  | cons b t ih => exact ih (s.setMem1 a b) (a + 1)
@[simp] theorem State.hbm_setMemL (s : State) (a : Nat) (l : List Byte) : (s.setMemL a l).hbm = s.hbm := by
  induction l generalizing s a with
  | nil => rfl
  | cons b t ih => exact ih (s.setMem1 a b) (a + 1)
@[simp] theorem State.ports_setMemL (s : State) (a : Nat) (l : List Byte) : (s.setMemL a l).ports = s.ports := by
  induction l generalizing s a with
  | nil => rfl
  | cons b t ih => exact ih (s.setMem1 a b) (a + 1)
@[simp] theorem State.quartz_setMemL (s : State) (a : Nat) (l : List Byte) : (s.setMemL a l).quartz = s.quartz := by
  induction l generalizing s a with
  | nil => rfl
  | cons b t ih => exact ih (s.setMem1 a b) (a + 1)
@[simp] theorem State.grps_setMemL (s : State) (a : Nat) (l : List Byte) : (s.setMemL a l).grps = s.grps := by
  induction l generalizing s a with
  | nil => rfl
  | cons b t ih => exact ih (s.setMem1 a b) (a + 1)
@[simp] theorem State.twin_setMemL (s : State) (a : Nat) (l : List Byte) : (s.setMemL a l).twin = s.twin := by
  induction l generalizing s a with
  | nil => rfl
  | cons b t ih => exact ih (s.setMem1 a b) (a + 1)
@[simp] theorem State.host_setMemL (s : State) (a : Nat) (l : List Byte) : (s.setMemL a l).host = s.host := by
  induction l generalizing s a with
  | nil => rfl
  | cons b t ih => exact ih (s.setMem1 a b) (a + 1)
@[simp] theorem State.mica_setMemL (s : State) (a : Nat) (l : List Byte) : (s.setMemL a l).mica = s.mica := by
  induction l generalizing s a with
  | nil => rfl
  | cons b t ih => exact ih (s.setMem1 a b) (a + 1)
@[simp] theorem State.jasper_setMemL (s : State) (a : Nat) (l : List Byte) : (s.setMemL a l).jasper = s.jasper := by
  induction l generalizing s a with
  | nil => rfl
  | cons b t ih => exact ih (s.setMem1 a b) (a + 1)
@[simp] theorem State.loops_setMemL (s : State) (a : Nat) (l : List Byte) : (s.setMemL a l).loops = s.loops := by
  induction l generalizing s a with
  | nil => rfl
  | cons b t ih => exact ih (s.setMem1 a b) (a + 1)
@[simp] theorem State.sm_setMemL (s : State) (a : Nat) (l : List Byte) : (s.setMemL a l).sm = s.sm := by
  induction l generalizing s a with
  | nil => rfl
  | cons b t ih => exact ih (s.setMem1 a b) (a + 1)
@[simp] theorem State.err_setMemL (s : State) (a : Nat) (l : List Byte) : (s.setMemL a l).err = s.err := by
  induction l generalizing s a with
  | nil => rfl
  | cons b t ih => exact ih (s.setMem1 a b) (a + 1)

@[simp] theorem State.pending_msi (s : State) (fn vec : Nat) : (s.msi fn vec).pending = s.pending := by unfold State.msi; split <;> rfl
@[simp] theorem State.free_msi (s : State) (fn vec : Nat) : (s.msi fn vec).free = s.free := by unfold State.msi; split <;> rfl
@[simp] theorem State.mem_msi (s : State) (fn vec : Nat) : (s.msi fn vec).mem = s.mem := by unfold State.msi; split <;> rfl
@[simp] theorem State.psn_msi (s : State) (fn vec : Nat) : (s.msi fn vec).psn = s.psn := by unfold State.msi; split <;> rfl
@[simp] theorem State.now_msi (s : State) (fn vec : Nat) : (s.msi fn vec).now = s.now := by unfold State.msi; split <;> rfl
@[simp] theorem State.log_msi (s : State) (fn vec : Nat) : (s.msi fn vec).log = s.log := by unfold State.msi; split <;> rfl
@[simp] theorem State.traps_msi (s : State) (fn vec : Nat) : (s.msi fn vec).traps = s.traps := by unfold State.msi; split <;> rfl
@[simp] theorem State.pwr_msi (s : State) (fn vec : Nat) : (s.msi fn vec).pwr = s.pwr := by unfold State.msi; split <;> rfl
@[simp] theorem State.fw_msi (s : State) (fn vec : Nat) : (s.msi fn vec).fw = s.fw := by unfold State.msi; split <;> rfl
@[simp] theorem State.flint_msi (s : State) (fn vec : Nat) : (s.msi fn vec).flint = s.flint := by unfold State.msi; split <;> rfl
@[simp] theorem State.start_msi (s : State) (fn vec : Nat) : (s.msi fn vec).start = s.start := by unfold State.msi; split <;> rfl
@[simp] theorem State.time_msi (s : State) (fn vec : Nat) : (s.msi fn vec).time = s.time := by unfold State.msi; split <;> rfl
@[simp] theorem State.clu_msi (s : State) (fn vec : Nat) : (s.msi fn vec).clu = s.clu := by unfold State.msi; split <;> rfl
@[simp] theorem State.slate_msi (s : State) (fn vec : Nat) : (s.msi fn vec).slate = s.slate := by unfold State.msi; split <;> rfl
@[simp] theorem State.hbm_msi (s : State) (fn vec : Nat) : (s.msi fn vec).hbm = s.hbm := by unfold State.msi; split <;> rfl
@[simp] theorem State.ports_msi (s : State) (fn vec : Nat) : (s.msi fn vec).ports = s.ports := by unfold State.msi; split <;> rfl
@[simp] theorem State.quartz_msi (s : State) (fn vec : Nat) : (s.msi fn vec).quartz = s.quartz := by unfold State.msi; split <;> rfl
@[simp] theorem State.grps_msi (s : State) (fn vec : Nat) : (s.msi fn vec).grps = s.grps := by unfold State.msi; split <;> rfl
@[simp] theorem State.twin_msi (s : State) (fn vec : Nat) : (s.msi fn vec).twin = s.twin := by unfold State.msi; split <;> rfl
@[simp] theorem State.host_msi (s : State) (fn vec : Nat) : (s.msi fn vec).host = s.host := by unfold State.msi; split <;> rfl
@[simp] theorem State.mica_msi (s : State) (fn vec : Nat) : (s.msi fn vec).mica = s.mica := by unfold State.msi; split <;> rfl
@[simp] theorem State.jasper_msi (s : State) (fn vec : Nat) : (s.msi fn vec).jasper = s.jasper := by unfold State.msi; split <;> rfl
@[simp] theorem State.loops_msi (s : State) (fn vec : Nat) : (s.msi fn vec).loops = s.loops := by unfold State.msi; split <;> rfl
@[simp] theorem State.sm_msi (s : State) (fn vec : Nat) : (s.msi fn vec).sm = s.sm := by unfold State.msi; split <;> rfl
@[simp] theorem State.err_msi (s : State) (fn vec : Nat) : (s.msi fn vec).err = s.err := by unfold State.msi; split <;> rfl
@[simp] theorem State.regs_msi (s : State) (fn vec : Nat) : (s.msi fn vec).regs = s.regs := by unfold State.msi; split <;> rfl

@[simp] theorem State.pending_alert (s : State) (a : Alert) : (s.alert a).pending = s.pending := by unfold State.alert; split <;> simp
@[simp] theorem State.free_alert (s : State) (a : Alert) : (s.alert a).free = s.free := by unfold State.alert; split <;> simp
@[simp] theorem State.mem_alert (s : State) (a : Alert) : (s.alert a).mem = s.mem := by unfold State.alert; split <;> simp
@[simp] theorem State.psn_alert (s : State) (a : Alert) : (s.alert a).psn = s.psn := by unfold State.alert; split <;> simp
@[simp] theorem State.now_alert (s : State) (a : Alert) : (s.alert a).now = s.now := by unfold State.alert; split <;> simp
@[simp] theorem State.log_alert (s : State) (a : Alert) : (s.alert a).log = s.log := by unfold State.alert; split <;> simp
@[simp] theorem State.traps_alert (s : State) (a : Alert) : (s.alert a).traps = s.traps := by unfold State.alert; split <;> simp
@[simp] theorem State.pwr_alert (s : State) (a : Alert) : (s.alert a).pwr = s.pwr := by unfold State.alert; split <;> simp
@[simp] theorem State.fw_alert (s : State) (a : Alert) : (s.alert a).fw = s.fw := by unfold State.alert; split <;> simp
@[simp] theorem State.flint_alert (s : State) (a : Alert) : (s.alert a).flint = s.flint := by unfold State.alert; split <;> simp
@[simp] theorem State.start_alert (s : State) (a : Alert) : (s.alert a).start = s.start := by unfold State.alert; split <;> simp
@[simp] theorem State.time_alert (s : State) (a : Alert) : (s.alert a).time = s.time := by unfold State.alert; split <;> simp
@[simp] theorem State.clu_alert (s : State) (a : Alert) : (s.alert a).clu = s.clu := by unfold State.alert; split <;> simp
@[simp] theorem State.slate_alert (s : State) (a : Alert) : (s.alert a).slate = s.slate := by unfold State.alert; split <;> simp
@[simp] theorem State.hbm_alert (s : State) (a : Alert) : (s.alert a).hbm = s.hbm := by unfold State.alert; split <;> simp
@[simp] theorem State.ports_alert (s : State) (a : Alert) : (s.alert a).ports = s.ports := by unfold State.alert; split <;> simp
@[simp] theorem State.quartz_alert (s : State) (a : Alert) : (s.alert a).quartz = s.quartz := by unfold State.alert; split <;> simp
@[simp] theorem State.grps_alert (s : State) (a : Alert) : (s.alert a).grps = s.grps := by unfold State.alert; split <;> simp
@[simp] theorem State.twin_alert (s : State) (a : Alert) : (s.alert a).twin = s.twin := by unfold State.alert; split <;> simp
@[simp] theorem State.host_alert (s : State) (a : Alert) : (s.alert a).host = s.host := by unfold State.alert; split <;> simp
@[simp] theorem State.mica_alert (s : State) (a : Alert) : (s.alert a).mica = s.mica := by unfold State.alert; split <;> simp
@[simp] theorem State.jasper_alert (s : State) (a : Alert) : (s.alert a).jasper = s.jasper := by unfold State.alert; split <;> simp
@[simp] theorem State.loops_alert (s : State) (a : Alert) : (s.alert a).loops = s.loops := by unfold State.alert; split <;> simp
@[simp] theorem State.sm_alert (s : State) (a : Alert) : (s.alert a).sm = s.sm := by unfold State.alert; split <;> simp
@[simp] theorem State.err_alert (s : State) (a : Alert) : (s.alert a).err = s.err := by unfold State.alert; split <;> simp

@[simp] theorem State.pending_logRing (s : State) (e : LogEntry) (b : Bool) : (s.logRing e b).pending = s.pending := rfl
@[simp] theorem State.pending_logPut (s : State) (e : LogEntry) : (s.logPut e).pending = s.pending := by
  unfold State.logPut State.logFull; simp only []; split
  · simp
  · split
    · simp
    · split <;> simp
@[simp] theorem State.free_logRing (s : State) (e : LogEntry) (b : Bool) : (s.logRing e b).free = s.free := rfl
@[simp] theorem State.free_logPut (s : State) (e : LogEntry) : (s.logPut e).free = s.free := by
  unfold State.logPut State.logFull; simp only []; split
  · simp
  · split
    · simp
    · split <;> simp
@[simp] theorem State.mem_logRing (s : State) (e : LogEntry) (b : Bool) : (s.logRing e b).mem = s.mem := rfl
@[simp] theorem State.mem_logPut (s : State) (e : LogEntry) : (s.logPut e).mem = s.mem := by
  unfold State.logPut State.logFull; simp only []; split
  · simp
  · split
    · simp
    · split <;> simp
@[simp] theorem State.psn_logRing (s : State) (e : LogEntry) (b : Bool) : (s.logRing e b).psn = s.psn := rfl
@[simp] theorem State.psn_logPut (s : State) (e : LogEntry) : (s.logPut e).psn = s.psn := by
  unfold State.logPut State.logFull; simp only []; split
  · simp
  · split
    · simp
    · split <;> simp
@[simp] theorem State.now_logRing (s : State) (e : LogEntry) (b : Bool) : (s.logRing e b).now = s.now := rfl
@[simp] theorem State.now_logPut (s : State) (e : LogEntry) : (s.logPut e).now = s.now := by
  unfold State.logPut State.logFull; simp only []; split
  · simp
  · split
    · simp
    · split <;> simp
@[simp] theorem State.traps_logRing (s : State) (e : LogEntry) (b : Bool) : (s.logRing e b).traps = s.traps := rfl
@[simp] theorem State.traps_logPut (s : State) (e : LogEntry) : (s.logPut e).traps = s.traps := by
  unfold State.logPut State.logFull; simp only []; split
  · simp
  · split
    · simp
    · split <;> simp
@[simp] theorem State.pwr_logRing (s : State) (e : LogEntry) (b : Bool) : (s.logRing e b).pwr = s.pwr := rfl
@[simp] theorem State.pwr_logPut (s : State) (e : LogEntry) : (s.logPut e).pwr = s.pwr := by
  unfold State.logPut State.logFull; simp only []; split
  · simp
  · split
    · simp
    · split <;> simp
@[simp] theorem State.fw_logRing (s : State) (e : LogEntry) (b : Bool) : (s.logRing e b).fw = s.fw := rfl
@[simp] theorem State.fw_logPut (s : State) (e : LogEntry) : (s.logPut e).fw = s.fw := by
  unfold State.logPut State.logFull; simp only []; split
  · simp
  · split
    · simp
    · split <;> simp
@[simp] theorem State.flint_logRing (s : State) (e : LogEntry) (b : Bool) : (s.logRing e b).flint = s.flint := rfl
@[simp] theorem State.flint_logPut (s : State) (e : LogEntry) : (s.logPut e).flint = s.flint := by
  unfold State.logPut State.logFull; simp only []; split
  · simp
  · split
    · simp
    · split <;> simp
@[simp] theorem State.start_logRing (s : State) (e : LogEntry) (b : Bool) : (s.logRing e b).start = s.start := rfl
@[simp] theorem State.start_logPut (s : State) (e : LogEntry) : (s.logPut e).start = s.start := by
  unfold State.logPut State.logFull; simp only []; split
  · simp
  · split
    · simp
    · split <;> simp
@[simp] theorem State.time_logRing (s : State) (e : LogEntry) (b : Bool) : (s.logRing e b).time = s.time := rfl
@[simp] theorem State.time_logPut (s : State) (e : LogEntry) : (s.logPut e).time = s.time := by
  unfold State.logPut State.logFull; simp only []; split
  · simp
  · split
    · simp
    · split <;> simp
@[simp] theorem State.clu_logRing (s : State) (e : LogEntry) (b : Bool) : (s.logRing e b).clu = s.clu := rfl
@[simp] theorem State.clu_logPut (s : State) (e : LogEntry) : (s.logPut e).clu = s.clu := by
  unfold State.logPut State.logFull; simp only []; split
  · simp
  · split
    · simp
    · split <;> simp
@[simp] theorem State.slate_logRing (s : State) (e : LogEntry) (b : Bool) : (s.logRing e b).slate = s.slate := rfl
@[simp] theorem State.slate_logPut (s : State) (e : LogEntry) : (s.logPut e).slate = s.slate := by
  unfold State.logPut State.logFull; simp only []; split
  · simp
  · split
    · simp
    · split <;> simp
@[simp] theorem State.hbm_logRing (s : State) (e : LogEntry) (b : Bool) : (s.logRing e b).hbm = s.hbm := rfl
@[simp] theorem State.hbm_logPut (s : State) (e : LogEntry) : (s.logPut e).hbm = s.hbm := by
  unfold State.logPut State.logFull; simp only []; split
  · simp
  · split
    · simp
    · split <;> simp
@[simp] theorem State.ports_logRing (s : State) (e : LogEntry) (b : Bool) : (s.logRing e b).ports = s.ports := rfl
@[simp] theorem State.ports_logPut (s : State) (e : LogEntry) : (s.logPut e).ports = s.ports := by
  unfold State.logPut State.logFull; simp only []; split
  · simp
  · split
    · simp
    · split <;> simp
@[simp] theorem State.quartz_logRing (s : State) (e : LogEntry) (b : Bool) : (s.logRing e b).quartz = s.quartz := rfl
@[simp] theorem State.quartz_logPut (s : State) (e : LogEntry) : (s.logPut e).quartz = s.quartz := by
  unfold State.logPut State.logFull; simp only []; split
  · simp
  · split
    · simp
    · split <;> simp
@[simp] theorem State.grps_logRing (s : State) (e : LogEntry) (b : Bool) : (s.logRing e b).grps = s.grps := rfl
@[simp] theorem State.grps_logPut (s : State) (e : LogEntry) : (s.logPut e).grps = s.grps := by
  unfold State.logPut State.logFull; simp only []; split
  · simp
  · split
    · simp
    · split <;> simp
@[simp] theorem State.twin_logRing (s : State) (e : LogEntry) (b : Bool) : (s.logRing e b).twin = s.twin := rfl
@[simp] theorem State.twin_logPut (s : State) (e : LogEntry) : (s.logPut e).twin = s.twin := by
  unfold State.logPut State.logFull; simp only []; split
  · simp
  · split
    · simp
    · split <;> simp
@[simp] theorem State.host_logRing (s : State) (e : LogEntry) (b : Bool) : (s.logRing e b).host = s.host := rfl
@[simp] theorem State.host_logPut (s : State) (e : LogEntry) : (s.logPut e).host = s.host := by
  unfold State.logPut State.logFull; simp only []; split
  · simp
  · split
    · simp
    · split <;> simp
@[simp] theorem State.mica_logRing (s : State) (e : LogEntry) (b : Bool) : (s.logRing e b).mica = s.mica := rfl
@[simp] theorem State.mica_logPut (s : State) (e : LogEntry) : (s.logPut e).mica = s.mica := by
  unfold State.logPut State.logFull; simp only []; split
  · simp
  · split
    · simp
    · split <;> simp
@[simp] theorem State.jasper_logRing (s : State) (e : LogEntry) (b : Bool) : (s.logRing e b).jasper = s.jasper := rfl
@[simp] theorem State.jasper_logPut (s : State) (e : LogEntry) : (s.logPut e).jasper = s.jasper := by
  unfold State.logPut State.logFull; simp only []; split
  · simp
  · split
    · simp
    · split <;> simp
@[simp] theorem State.loops_logRing (s : State) (e : LogEntry) (b : Bool) : (s.logRing e b).loops = s.loops := rfl
@[simp] theorem State.loops_logPut (s : State) (e : LogEntry) : (s.logPut e).loops = s.loops := by
  unfold State.logPut State.logFull; simp only []; split
  · simp
  · split
    · simp
    · split <;> simp
@[simp] theorem State.sm_logRing (s : State) (e : LogEntry) (b : Bool) : (s.logRing e b).sm = s.sm := rfl
@[simp] theorem State.sm_logPut (s : State) (e : LogEntry) : (s.logPut e).sm = s.sm := by
  unfold State.logPut State.logFull; simp only []; split
  · simp
  · split
    · simp
    · split <;> simp
@[simp] theorem State.err_logRing (s : State) (e : LogEntry) (b : Bool) : (s.logRing e b).err = s.err := rfl
@[simp] theorem State.err_logPut (s : State) (e : LogEntry) : (s.logPut e).err = s.err := by
  unfold State.logPut State.logFull; simp only []; split
  · simp
  · split
    · simp
    · split <;> simp

@[simp] theorem State.pending_logE (s : State) (code source sev : Nat) (data : List Nat) : (s.logE code source sev data).pending = s.pending := by
  unfold State.logE
  split
  · rfl
  · split
    · simp only []; split <;> rfl
    · split
      · split
        · rfl
        · simp
      · simp
@[simp] theorem State.free_logE (s : State) (code source sev : Nat) (data : List Nat) : (s.logE code source sev data).free = s.free := by
  unfold State.logE
  split
  · rfl
  · split
    · simp only []; split <;> rfl
    · split
      · split
        · rfl
        · simp
      · simp
@[simp] theorem State.mem_logE (s : State) (code source sev : Nat) (data : List Nat) : (s.logE code source sev data).mem = s.mem := by
  unfold State.logE
  split
  · rfl
  · split
    · simp only []; split <;> rfl
    · split
      · split
        · rfl
        · simp
      · simp
@[simp] theorem State.psn_logE (s : State) (code source sev : Nat) (data : List Nat) : (s.logE code source sev data).psn = s.psn := by
  unfold State.logE
  split
  · rfl
  · split
    · simp only []; split <;> rfl
    · split
      · split
        · rfl
        · simp
      · simp
@[simp] theorem State.now_logE (s : State) (code source sev : Nat) (data : List Nat) : (s.logE code source sev data).now = s.now := by
  unfold State.logE
  split
  · rfl
  · split
    · simp only []; split <;> rfl
    · split
      · split
        · rfl
        · simp
      · simp
@[simp] theorem State.traps_logE (s : State) (code source sev : Nat) (data : List Nat) : (s.logE code source sev data).traps = s.traps := by
  unfold State.logE
  split
  · rfl
  · split
    · simp only []; split <;> rfl
    · split
      · split
        · rfl
        · simp
      · simp
@[simp] theorem State.pwr_logE (s : State) (code source sev : Nat) (data : List Nat) : (s.logE code source sev data).pwr = s.pwr := by
  unfold State.logE
  split
  · rfl
  · split
    · simp only []; split <;> rfl
    · split
      · split
        · rfl
        · simp
      · simp
@[simp] theorem State.fw_logE (s : State) (code source sev : Nat) (data : List Nat) : (s.logE code source sev data).fw = s.fw := by
  unfold State.logE
  split
  · rfl
  · split
    · simp only []; split <;> rfl
    · split
      · split
        · rfl
        · simp
      · simp
@[simp] theorem State.flint_logE (s : State) (code source sev : Nat) (data : List Nat) : (s.logE code source sev data).flint = s.flint := by
  unfold State.logE
  split
  · rfl
  · split
    · simp only []; split <;> rfl
    · split
      · split
        · rfl
        · simp
      · simp
@[simp] theorem State.start_logE (s : State) (code source sev : Nat) (data : List Nat) : (s.logE code source sev data).start = s.start := by
  unfold State.logE
  split
  · rfl
  · split
    · simp only []; split <;> rfl
    · split
      · split
        · rfl
        · simp
      · simp
@[simp] theorem State.time_logE (s : State) (code source sev : Nat) (data : List Nat) : (s.logE code source sev data).time = s.time := by
  unfold State.logE
  split
  · rfl
  · split
    · simp only []; split <;> rfl
    · split
      · split
        · rfl
        · simp
      · simp
@[simp] theorem State.clu_logE (s : State) (code source sev : Nat) (data : List Nat) : (s.logE code source sev data).clu = s.clu := by
  unfold State.logE
  split
  · rfl
  · split
    · simp only []; split <;> rfl
    · split
      · split
        · rfl
        · simp
      · simp
@[simp] theorem State.slate_logE (s : State) (code source sev : Nat) (data : List Nat) : (s.logE code source sev data).slate = s.slate := by
  unfold State.logE
  split
  · rfl
  · split
    · simp only []; split <;> rfl
    · split
      · split
        · rfl
        · simp
      · simp
@[simp] theorem State.hbm_logE (s : State) (code source sev : Nat) (data : List Nat) : (s.logE code source sev data).hbm = s.hbm := by
  unfold State.logE
  split
  · rfl
  · split
    · simp only []; split <;> rfl
    · split
      · split
        · rfl
        · simp
      · simp
@[simp] theorem State.ports_logE (s : State) (code source sev : Nat) (data : List Nat) : (s.logE code source sev data).ports = s.ports := by
  unfold State.logE
  split
  · rfl
  · split
    · simp only []; split <;> rfl
    · split
      · split
        · rfl
        · simp
      · simp
@[simp] theorem State.quartz_logE (s : State) (code source sev : Nat) (data : List Nat) : (s.logE code source sev data).quartz = s.quartz := by
  unfold State.logE
  split
  · rfl
  · split
    · simp only []; split <;> rfl
    · split
      · split
        · rfl
        · simp
      · simp
@[simp] theorem State.grps_logE (s : State) (code source sev : Nat) (data : List Nat) : (s.logE code source sev data).grps = s.grps := by
  unfold State.logE
  split
  · rfl
  · split
    · simp only []; split <;> rfl
    · split
      · split
        · rfl
        · simp
      · simp
@[simp] theorem State.twin_logE (s : State) (code source sev : Nat) (data : List Nat) : (s.logE code source sev data).twin = s.twin := by
  unfold State.logE
  split
  · rfl
  · split
    · simp only []; split <;> rfl
    · split
      · split
        · rfl
        · simp
      · simp
@[simp] theorem State.host_logE (s : State) (code source sev : Nat) (data : List Nat) : (s.logE code source sev data).host = s.host := by
  unfold State.logE
  split
  · rfl
  · split
    · simp only []; split <;> rfl
    · split
      · split
        · rfl
        · simp
      · simp
@[simp] theorem State.mica_logE (s : State) (code source sev : Nat) (data : List Nat) : (s.logE code source sev data).mica = s.mica := by
  unfold State.logE
  split
  · rfl
  · split
    · simp only []; split <;> rfl
    · split
      · split
        · rfl
        · simp
      · simp
@[simp] theorem State.jasper_logE (s : State) (code source sev : Nat) (data : List Nat) : (s.logE code source sev data).jasper = s.jasper := by
  unfold State.logE
  split
  · rfl
  · split
    · simp only []; split <;> rfl
    · split
      · split
        · rfl
        · simp
      · simp
@[simp] theorem State.loops_logE (s : State) (code source sev : Nat) (data : List Nat) : (s.logE code source sev data).loops = s.loops := by
  unfold State.logE
  split
  · rfl
  · split
    · simp only []; split <;> rfl
    · split
      · split
        · rfl
        · simp
      · simp
@[simp] theorem State.sm_logE (s : State) (code source sev : Nat) (data : List Nat) : (s.logE code source sev data).sm = s.sm := by
  unfold State.logE
  split
  · rfl
  · split
    · simp only []; split <;> rfl
    · split
      · split
        · rfl
        · simp
      · simp
@[simp] theorem State.err_logE (s : State) (code source sev : Nat) (data : List Nat) : (s.logE code source sev data).err = s.err := by
  unfold State.logE
  split
  · rfl
  · split
    · simp only []; split <;> rfl
    · split
      · split
        · rfl
        · simp
      · simp

end Sys2Proof.Machine
end

