-- ==== Sys2Proof/Laws/Regs.lean ====
section
/-! SUPPORT. Laws/Regs.lean: the register fields that the shared operations leave as they were. -/

namespace Sys2Proof.Machine

/-- The keys of the fields that logging may write. -/
def logKeys : List Nat := [F.FLT_LOG_HEAD_SEQ.key 0 0, F.FLT_LOG_HEAD_LOG_LOST.key 0 0, F.FLT_ALERT_STAT_CAUSE.key 0 0]

@[simp] theorem State.rd_msi (s : State) (fn vec : Nat) (f : Fld) (i j : Nat) : (s.msi fn vec).rd f i j = s.rd f i j := by
  unfold State.rd; simp

theorem State.rd_wflag_ne (s : State) (f g : Fld) (b : Nat) (x : Bool) (i j k l : Nat) (h : g.key k l ≠ f.key i j) :
    (s.wflag f b x i j).rd g k l = s.rd g k l := State.rd_wr_ne s f g _ i j k l h

theorem State.rd_bump_ne (s : State) (f g : Fld) (n i j k l : Nat) (h : g.key k l ≠ f.key i j) :
    (s.bump f n i j).rd g k l = s.rd g k l := State.rd_wr_ne s f g _ i j k l h

/-- Raising an alert writes the alert register only. -/
theorem State.rd_alert_ne (s : State) (a : Alert) (g : Fld) (k l : Nat) (h : g.key k l ≠ F.FLT_ALERT_STAT_CAUSE.key 0 0) :
    (s.alert a).rd g k l = s.rd g k l := by
  unfold State.alert
  split
  · rfl
  · rw [State.rd_msi]; exact State.rd_wflag_ne s _ g _ _ 0 0 k l h

/-- Appending an entry writes the log's SEQ only. -/
theorem State.rd_logRing_ne (s : State) (e : LogEntry) (b : Bool) (g : Fld) (k l : Nat) (h : g.key k l ≠ F.FLT_LOG_HEAD_SEQ.key 0 0) :
    (s.logRing e b).rd g k l = s.rd g k l := State.rd_wr_ne s _ g _ 0 0 k l h

/-- Writing an entry writes the log's own fields and the alert register only. -/
theorem State.rd_logPut_ne (s : State) (e : LogEntry) (g : Fld) (k l : Nat) (h : g.key k l ∉ logKeys) :
    (s.logPut e).rd g k l = s.rd g k l := by
  simp only [logKeys, List.mem_cons, List.not_mem_nil, or_false, not_or] at h
  have ring : ∀ (t : State) (x : LogEntry) (b : Bool), (t.logRing x b).rd g k l = t.rd g k l := fun t x b => State.rd_logRing_ne t x b g k l h.1
  have lost : ∀ t : State, (t.bump F.FLT_LOG_HEAD_LOG_LOST).rd g k l = t.rd g k l := fun t => State.rd_bump_ne t _ g _ 0 0 k l h.2.1
  unfold State.logPut
  split
  · exact ring _ _ _
  · split
    · exact ring _ _ _
    · unfold State.logFull
      simp only []
      split
      · rw [lost, ring]
      · rw [lost, ring, State.rd_alert_ne _ _ _ _ _ h.2.2, lost, ring]

/-- Logging writes the log's own fields and the alert register only. -/
theorem State.rd_logE_ne (s : State) (code source sev : Nat) (data : List Nat) (g : Fld) (k l : Nat) (h : g.key k l ∉ logKeys) :
    (s.logE code source sev data).rd g k l = s.rd g k l := by
  unfold State.logE
  split
  · rfl
  · split
    · simp only []; split <;> rfl
    · split
      · split
        · rfl
        · exact State.rd_logPut_ne s _ g k l h
      · exact State.rd_logPut_ne s _ g k l h

end Sys2Proof.Machine
end

