-- ==== Sys2Proof/Laws/Seq.lean ====
section
/-! SUPPORT. Laws/Seq.lean: what the shared operations of a sequencer do: the issue of an instruction, its end with a result, a branch, and the delivery of a
fault. -/

namespace Sys2Proof.Machine

/-- An instruction that issues has its own effect. -/
theorem State.issue_eq (s : State) (x : Iss) (f : State → State) (h : s.issues x = true) : s.issue x 0 f = f s := by
  unfold State.issues State.reaches at h
  simp only [Bool.and_eq_true, Bool.not_eq_true'] at h
  obtain ⟨⟨⟨⟨⟨⟨h1, h2⟩, h3⟩, h4⟩, h5⟩, h6⟩, h7⟩ := h
  simp [State.issue, h1, h2, h3, h4, h5, h6, h7]

/-- A false guard only passes the instruction. -/
theorem State.issue_guard (s : State) (x : Iss) (f : State → State) (h : s.reaches x = true) (hr : x.res = false) (hg : (s.cl x.c).guard x = false) :
    s.issue x 0 f = s.pass x := by
  unfold State.reaches at h
  simp only [Bool.and_eq_true, Bool.not_eq_true'] at h
  obtain ⟨⟨⟨⟨h1, h2⟩, h3⟩, h4⟩, h5⟩ := h
  simp [State.issue, h1, h2, h3, h4, h5, hr, hg]

/-- A nonzero reserved field faults with FORMAT 0x02, whatever the guard. -/
theorem State.issue_reserved (s : State) (x : Iss) (f : State → State) (h : s.reaches x = true) (hr : x.res = true) :
    s.issue x 0 f = s.fault x (Code.format 2) := by
  unfold State.reaches at h
  simp only [Bool.and_eq_true, Bool.not_eq_true'] at h
  obtain ⟨⟨⟨⟨h1, h2⟩, h3⟩, h4⟩, h5⟩ := h
  simp [State.issue, h1, h2, h3, h4, h5, hr]

/-- Everything that issuing can do: nothing, a fault, the pass of a guarded instruction, or the instruction's effect. -/
theorem State.issue_cases (s : State) (x : Iss) (enc : Nat) (f : State → State) :
    s.issue x enc f = s ∨ (∃ code addr, s.issue x enc f = s.fault x code addr) ∨ s.issue x enc f = s.pass x ∨ (s.issues x = true ∧ s.issue x enc f = f s) := by
  unfold State.issue
  dsimp only
  split
  · exact .inl rfl
  · rename_i h1
    simp only [not_or, Bool.not_eq_false, Bool.not_eq_true] at h1
    split
    · exact .inr (.inl ⟨_, _, rfl⟩)
    · rename_i h2
      split
      · exact .inr (.inl ⟨_, _, rfl⟩)
      · rename_i h3
        split
        · exact .inr (.inl ⟨_, _, rfl⟩)
        · split
          · exact .inr (.inl ⟨_, _, rfl⟩)
          · rename_i h5
            split
            · exact .inr (.inr (.inl rfl))
            · rename_i h6
              refine .inr (.inr (.inr ⟨?_, rfl⟩))
              simp only [Bool.or_eq_true, Bool.and_eq_true, not_or, not_and, Bool.not_eq_true] at h3
              simp only [Bool.not_eq_true, Bool.not_eq_false] at h2 h5 h6
              unfold State.issues State.reaches
              simp only [Bool.and_eq_true, Bool.not_eq_true', h1.1, h1.2, h2, h3.1, h5, h6, and_true, true_and]
              cases hl : x.long with
              | false => simp
              | true => simpa using h3.2 hl

/-- An instruction that ends with a cluster's new state changes that cluster alone. -/
theorem State.done_else (s : State) (x : Iss) (k : ClusterSt) : ElseKept x.c s (s.done x k) := by
  refine ⟨rfl, fun d hd => ?_⟩
  exact State.cl_setCl_ne s _ hd

@[simp] theorem State.cl_done (s : State) (x : Iss) (k : ClusterSt) : (s.done x k).cl x.c = { k with pc := k.pc + ilen x.long } :=
  State.cl_setCl_self s x.c _

/-- A pass changes PC alone. -/
theorem State.pass_passes (s : State) (x : Iss) : Passes x (s.cl x.c) s (s.pass x) := ⟨State.cl_done s x _, State.done_else s x _⟩

/-- A g register read after it is set: g0 stays zero. -/
theorem ClusterSt.gr_setG_self (k : ClusterSt) (n : Nat) (v : Word) : (k.setG n v).gr n = if n = 0 then 0 else v := by
  unfold ClusterSt.setG ClusterSt.gr
  split <;> simp_all

/-- Another g register read after one is set. -/
theorem ClusterSt.gr_setG_ne (k : ClusterSt) {n m : Nat} (v : Word) (h : m ≠ n) : (k.setG n v).gr m = k.gr m := by
  unfold ClusterSt.setG ClusterSt.gr
  by_cases hm : m = 0
  · simp [hm]
  · by_cases hn : n = 0
    · simp [hn]
    · simp only [hn, if_false]
      first
        | exact SMap.get_set_ne k.g 0 0 v h
        | (simp only [hm, if_false]; exact SMap.get_set_ne k.g 0 0 v h)

/-- An instruction that ends with a result in a g register sets it and nothing else. -/
theorem State.done_setsG (s : State) (x : Iss) (rd : Nat) (v : Word) : SetsG x rd v s (s.done x ((s.cl x.c).setG rd v)) := by
  refine ⟨?_, fun r hr => ?_, ?_, ?_, State.done_else s x _⟩
  · rw [State.cl_done]
    exact ClusterSt.gr_setG_self (s.cl x.c) rd v
  · rw [State.cl_done]
    exact ClusterSt.gr_setG_ne (s.cl x.c) v hr
  · rw [State.cl_done]
    unfold ClusterSt.setG
    split <;> rfl
  · rw [State.cl_done]
    unfold ClusterSt.setG
    split <;> rfl

end Sys2Proof.Machine
end

