-- ==== Sys2Proof/Laws/Report.lean ====
section
/-! SUPPORT. Laws/Report.lean: what the shared reports leave as they were (interrupts, alerts, log entries, traps, error records, completion entries): memory, poison
marks, sequencers and the queue; and what the delivery of a fault leaves. -/

namespace Sys2Proof.Machine

@[simp] theorem State.mem_setPair (s : State) (st : Nat) : (s.setPair st).mem = s.mem := by
  unfold State.setPair
  try dsimp only
  repeat' split
  all_goals try simp
@[simp] theorem State.psn_setPair (s : State) (st : Nat) : (s.setPair st).psn = s.psn := by
  unfold State.setPair
  try dsimp only
  repeat' split
  all_goals try simp
@[simp] theorem State.clu_setPair (s : State) (st : Nat) : (s.setPair st).clu = s.clu := by
  unfold State.setPair
  try dsimp only
  repeat' split
  all_goals try simp
@[simp] theorem State.pending_setPair (s : State) (st : Nat) : (s.setPair st).pending = s.pending := by
  unfold State.setPair
  try dsimp only
  repeat' split
  all_goals try simp

@[simp] theorem State.mem_logFull (s : State) (e : LogEntry) : (s.logFull e).mem = s.mem := by
  unfold State.logFull
  try dsimp only
  repeat' split
  all_goals try simp
@[simp] theorem State.psn_logFull (s : State) (e : LogEntry) : (s.logFull e).psn = s.psn := by
  unfold State.logFull
  try dsimp only
  repeat' split
  all_goals try simp
@[simp] theorem State.clu_logFull (s : State) (e : LogEntry) : (s.logFull e).clu = s.clu := by
  unfold State.logFull
  try dsimp only
  repeat' split
  all_goals try simp
@[simp] theorem State.pending_logFull (s : State) (e : LogEntry) : (s.logFull e).pending = s.pending := by
  unfold State.logFull
  try dsimp only
  repeat' split
  all_goals try simp

@[simp] theorem State.mem_trap (s : State) (c x : Nat) (d : List Nat) : (s.trap c x d).mem = s.mem := by
  unfold State.trap
  try dsimp only
  repeat' split
  all_goals try simp
@[simp] theorem State.psn_trap (s : State) (c x : Nat) (d : List Nat) : (s.trap c x d).psn = s.psn := by
  unfold State.trap
  try dsimp only
  repeat' split
  all_goals try simp
@[simp] theorem State.clu_trap (s : State) (c x : Nat) (d : List Nat) : (s.trap c x d).clu = s.clu := by
  unfold State.trap
  try dsimp only
  repeat' split
  all_goals try simp
@[simp] theorem State.pending_trap (s : State) (c x : Nat) (d : List Nat) : (s.trap c x d).pending = s.pending := by
  unfold State.trap
  try dsimp only
  repeat' split
  all_goals try simp

@[simp] theorem State.mem_errPut (s : State) (r : ErrRec) : (s.errPut r).mem = s.mem := by
  unfold State.errPut
  try dsimp only
  repeat' split
  all_goals try simp
@[simp] theorem State.psn_errPut (s : State) (r : ErrRec) : (s.errPut r).psn = s.psn := by
  unfold State.errPut
  try dsimp only
  repeat' split
  all_goals try simp
@[simp] theorem State.clu_errPut (s : State) (r : ErrRec) : (s.errPut r).clu = s.clu := by
  unfold State.errPut
  try dsimp only
  repeat' split
  all_goals try simp
@[simp] theorem State.pending_errPut (s : State) (r : ErrRec) : (s.errPut r).pending = s.pending := by
  unfold State.errPut
  try dsimp only
  repeat' split
  all_goals try simp

@[simp] theorem State.mem_errCount (s : State) (c : Nat) : (s.errCount c).mem = s.mem := by
  unfold State.errCount
  try dsimp only
  repeat' split
  all_goals try simp
@[simp] theorem State.psn_errCount (s : State) (c : Nat) : (s.errCount c).psn = s.psn := by
  unfold State.errCount
  try dsimp only
  repeat' split
  all_goals try simp
@[simp] theorem State.clu_errCount (s : State) (c : Nat) : (s.errCount c).clu = s.clu := by
  unfold State.errCount
  try dsimp only
  repeat' split
  all_goals try simp
@[simp] theorem State.pending_errCount (s : State) (c : Nat) : (s.errCount c).pending = s.pending := by
  unfold State.errCount
  try dsimp only
  repeat' split
  all_goals try simp

@[simp] theorem State.mem_errReport (s : State) (k x c a p : Nat) : (s.errReport k x c a p).mem = s.mem := by
  unfold State.errReport
  try dsimp only
  repeat' split
  all_goals try simp
@[simp] theorem State.psn_errReport (s : State) (k x c a p : Nat) : (s.errReport k x c a p).psn = s.psn := by
  unfold State.errReport
  try dsimp only
  repeat' split
  all_goals try simp
@[simp] theorem State.clu_errReport (s : State) (k x c a p : Nat) : (s.errReport k x c a p).clu = s.clu := by
  unfold State.errReport
  try dsimp only
  repeat' split
  all_goals try simp
@[simp] theorem State.pending_errReport (s : State) (k x c a p : Nat) : (s.errReport k x c a p).pending = s.pending := by
  unfold State.errReport
  try dsimp only
  repeat' split
  all_goals try simp

@[simp] theorem State.mem_errRec (s : State) (k x c v a p y : Nat) (d : List Nat) : (s.errRec k x c v a p y d).mem = s.mem := by
  unfold State.errRec
  try dsimp only
  repeat' split
  all_goals try simp
@[simp] theorem State.psn_errRec (s : State) (k x c v a p y : Nat) (d : List Nat) : (s.errRec k x c v a p y d).psn = s.psn := by
  unfold State.errRec
  try dsimp only
  repeat' split
  all_goals try simp
@[simp] theorem State.clu_errRec (s : State) (k x c v a p y : Nat) (d : List Nat) : (s.errRec k x c v a p y d).clu = s.clu := by
  unfold State.errRec
  try dsimp only
  repeat' split
  all_goals try simp
@[simp] theorem State.pending_errRec (s : State) (k x c v a p y : Nat) (d : List Nat) : (s.errRec k x c v a p y d).pending = s.pending := by
  unfold State.errRec
  try dsimp only
  repeat' split
  all_goals try simp

@[simp] theorem State.mem_setRing (s : State) (r : Nat) (x : RingSt) : (s.setRing r x).mem = s.mem := by
  unfold State.setRing
  try dsimp only
  repeat' split
  all_goals try simp
@[simp] theorem State.psn_setRing (s : State) (r : Nat) (x : RingSt) : (s.setRing r x).psn = s.psn := by
  unfold State.setRing
  try dsimp only
  repeat' split
  all_goals try simp
@[simp] theorem State.clu_setRing (s : State) (r : Nat) (x : RingSt) : (s.setRing r x).clu = s.clu := by
  unfold State.setRing
  try dsimp only
  repeat' split
  all_goals try simp
@[simp] theorem State.pending_setRing (s : State) (r : Nat) (x : RingSt) : (s.setRing r x).pending = s.pending := by
  unfold State.setRing
  try dsimp only
  repeat' split
  all_goals try simp

@[simp] theorem State.mem_ringSignal (s : State) (r : Nat) : (s.ringSignal r).mem = s.mem := by
  unfold State.ringSignal
  try dsimp only
  repeat' split
  all_goals try simp
@[simp] theorem State.psn_ringSignal (s : State) (r : Nat) : (s.ringSignal r).psn = s.psn := by
  unfold State.ringSignal
  try dsimp only
  repeat' split
  all_goals try simp
@[simp] theorem State.clu_ringSignal (s : State) (r : Nat) : (s.ringSignal r).clu = s.clu := by
  unfold State.ringSignal
  try dsimp only
  repeat' split
  all_goals try simp
@[simp] theorem State.pending_ringSignal (s : State) (r : Nat) : (s.ringSignal r).pending = s.pending := by
  unfold State.ringSignal
  try dsimp only
  repeat' split
  all_goals try simp

@[simp] theorem State.mem_cqWrite (s : State) (r : Nat) (e : CqEnt) : (s.cqWrite r e).mem = s.mem := by
  unfold State.cqWrite
  try dsimp only
  repeat' split
  all_goals try simp
@[simp] theorem State.psn_cqWrite (s : State) (r : Nat) (e : CqEnt) : (s.cqWrite r e).psn = s.psn := by
  unfold State.cqWrite
  try dsimp only
  repeat' split
  all_goals try simp
@[simp] theorem State.clu_cqWrite (s : State) (r : Nat) (e : CqEnt) : (s.cqWrite r e).clu = s.clu := by
  unfold State.cqWrite
  try dsimp only
  repeat' split
  all_goals try simp
@[simp] theorem State.pending_cqWrite (s : State) (r : Nat) (e : CqEnt) : (s.cqWrite r e).pending = s.pending := by
  unfold State.cqWrite
  try dsimp only
  repeat' split
  all_goals try simp

@[simp] theorem State.mem_cqPost (s : State) (r : Nat) (e : CqEnt) : (s.cqPost r e).mem = s.mem := by
  unfold State.cqPost
  try dsimp only
  repeat' split
  all_goals try simp
@[simp] theorem State.psn_cqPost (s : State) (r : Nat) (e : CqEnt) : (s.cqPost r e).psn = s.psn := by
  unfold State.cqPost
  try dsimp only
  repeat' split
  all_goals try simp
@[simp] theorem State.clu_cqPost (s : State) (r : Nat) (e : CqEnt) : (s.cqPost r e).clu = s.clu := by
  unfold State.cqPost
  try dsimp only
  repeat' split
  all_goals try simp
@[simp] theorem State.pending_cqPost (s : State) (r : Nat) (e : CqEnt) : (s.cqPost r e).pending = s.pending := by
  unfold State.cqPost
  try dsimp only
  repeat' split
  all_goals try simp

@[simp] theorem State.mem_cmdDone (s : State) (c : HostCmd) (v w : Nat) : (s.cmdDone c v w).mem = s.mem := by
  unfold State.cmdDone
  try dsimp only
  repeat' split
  all_goals try simp
@[simp] theorem State.psn_cmdDone (s : State) (c : HostCmd) (v w : Nat) : (s.cmdDone c v w).psn = s.psn := by
  unfold State.cmdDone
  try dsimp only
  repeat' split
  all_goals try simp
@[simp] theorem State.clu_cmdDone (s : State) (c : HostCmd) (v w : Nat) : (s.cmdDone c v w).clu = s.clu := by
  unfold State.cmdDone
  try dsimp only
  repeat' split
  all_goals try simp
@[simp] theorem State.pending_cmdDone (s : State) (c : HostCmd) (v w : Nat) : (s.cmdDone c v w).pending = s.pending := by
  unfold State.cmdDone
  try dsimp only
  repeat' split
  all_goals try simp

@[simp] theorem State.mem_cmdDoneId (s : State) (i v w : Nat) : (s.cmdDoneId i v w).mem = s.mem := by
  unfold State.cmdDoneId
  try dsimp only
  repeat' split
  all_goals try simp
@[simp] theorem State.psn_cmdDoneId (s : State) (i v w : Nat) : (s.cmdDoneId i v w).psn = s.psn := by
  unfold State.cmdDoneId
  try dsimp only
  repeat' split
  all_goals try simp
@[simp] theorem State.clu_cmdDoneId (s : State) (i v w : Nat) : (s.cmdDoneId i v w).clu = s.clu := by
  unfold State.cmdDoneId
  try dsimp only
  repeat' split
  all_goals try simp
@[simp] theorem State.pending_cmdDoneId (s : State) (i v w : Nat) : (s.cmdDoneId i v w).pending = s.pending := by
  unfold State.cmdDoneId
  try dsimp only
  repeat' split
  all_goals try simp

/-- A cluster's LAUNCH that it leaves changes nothing of memory. -/
@[simp] theorem State.mem_launchLeave (s : State) (c : Nat) : (s.launchLeave c).mem = s.mem := by
  unfold State.launchLeave
  try dsimp only
  repeat' split
  all_goals rfl
@[simp] theorem State.psn_launchLeave (s : State) (c : Nat) : (s.launchLeave c).psn = s.psn := by
  unfold State.launchLeave
  try dsimp only
  repeat' split
  all_goals rfl

/-- It leaves the cluster's sequencer but for the command that it ran for. -/
theorem State.cl_launchLeave (s : State) (c : Nat) : (s.launchLeave c).cl c = { s.cl c with cmd := none } := by
  unfold State.launchLeave
  split
  · rename_i h
    show s.cl c = _
    rw [← h]
  · dsimp only
    split
    · exact State.cl_setCl_self s c _
    · exact State.cl_setCl_self s c _

/-- The delivery of a fault: the CTL registers that record it, and where the sequencer goes (R197 to R199). -/
theorem State.fault_faults (s : State) (x : Iss) (code addr : Nat) : Faults x code addr s (s.fault x code addr) := by
  have cl_post (t : State) (c : Nat) (r : Nat) (e : CqEnt) : (t.cqPost r e).cl c = t.cl c := by
    unfold State.cl
    rw [State.clu_cqPost]
  unfold Faults FaultsAt State.fault State.deliver
  dsimp only
  by_cases h : (s.cl x.c).fmode = 0 ∨ (s.cl x.c).inh = true
  · rw [if_pos h, if_pos h]
    simp only [State.postEnd, State.cl_launchLeave, cl_post, State.cl_setCl_self, State.mem_launchLeave, State.psn_launchLeave, State.mem_cqPost, State.psn_cqPost]
    refine ⟨trivial, trivial, trivial, by omega, trivial, trivial, trivial, rfl, rfl, trivial, trivial, trivial, trivial⟩
  · rw [if_neg h, if_neg h]
    simp only [State.cl_setCl_self]
    refine ⟨trivial, trivial, trivial, by omega, trivial, trivial, trivial, rfl, rfl, trivial, trivial, trivial⟩

end Sys2Proof.Machine
end

