-- ==== Sys2Proof/Laws/Write.lean ====
section
/-! SUPPORT. Laws/Write.lean: every shared write of SRAM, scratch and HBM, Slate's write-backs and fills among them, keeps the canonical form of the memory and of
the poison marks. -/

namespace Sys2Proof.Machine

/-- The form depends on the memory and the marks alone. -/
theorem State.memWf_congr {s t : State} (hm : t.mem = s.mem) (hp : t.psn = s.psn) : t.memWf = s.memWf := by
  unfold State.memWf
  rw [hm, hp]

/-- What each step of a fold keeps, the fold keeps. -/
theorem foldl_keeps {α β : Type} (p : α → Prop) (f : α → β → α) (l : List β) (a : α) (h : p a) (hf : ∀ b x, p b → p (f b x)) : p (l.foldl f a) := by
  induction l generalizing a with
  | nil => exact h
  | cons x t ih => exact ih (f a x) (hf a x h)

/-- What both branches have, the choice has. -/
theorem ite_keeps {α : Type} (p : α → Prop) (c : Prop) [Decidable c] (x y : α) (hx : p x) (hy : p y) : p (if c then x else y) := by
  split
  · exact hx
  · exact hy

/-- What leaves the memory and the marks alone keeps the form. -/
theorem State.memWf_of {s t : State} (h : s.memWf = true) (hm : t.mem = s.mem) (hp : t.psn = s.psn) : t.memWf = true :=
  (State.memWf_congr hm hp).trans h

theorem State.memWf_wr (s : State) (f : Fld) (v i j : Nat) (h : s.memWf = true) : (s.wr f v i j).memWf = true := State.memWf_of h rfl rfl

theorem State.memWf_bump (s : State) (f : Fld) (n i j : Nat) (h : s.memWf = true) : (s.bump f n i j).memWf = true := State.memWf_wr s f _ i j h

theorem State.memWf_dropLine (s : State) (a : Nat) (h : s.memWf = true) : (s.dropLine a).memWf = true := State.memWf_of h rfl rfl

theorem State.memWf_setLine (s : State) (a : Nat) (l : SLine) (h : s.memWf = true) : (s.setLine a l).memWf = true := State.memWf_of h rfl rfl

theorem State.memWf_setHbm (s : State) (x : HbmAll) (h : s.memWf = true) : ({ s with hbm := x } : State).memWf = true := State.memWf_of h rfl rfl

theorem State.memWf_setSlate (s : State) (x : SlateSt) (h : s.memWf = true) : ({ s with slate := x } : State).memWf = true := State.memWf_of h rfl rfl

theorem State.memWf_errRec (s : State) (k x c v a p y : Nat) (d : List Nat) (h : s.memWf = true) : (s.errRec k x c v a p y d).memWf = true := by
  rw [State.memWf_congr (State.mem_errRec s k x c v a p y d) (State.psn_errRec s k x c v a p y d)]
  exact h

theorem State.memWf_sramWrite (s : State) (a : Nat) (l : List MByte) (h : s.memWf = true) : (s.sramWrite a l).memWf = true := by
  unfold State.sramWrite
  refine foldl_keeps (fun t : State => t.memWf = true) _ _ _ h (fun t p ht => ?_)
  dsimp only
  have h1 := State.memWf_setMemL t p.1 (plain p.2) ht
  split
  · exact State.memWf_setPsn _ _ _ h1
  · split
    · exact State.memWf_setPsn _ _ _ h1
    · exact h1

theorem State.memWf_burstWrite (s : State) (a : Nat) (l : List MByte) (h : s.memWf = true) : (s.burstWrite a l).1.memWf = true := by
  unfold State.burstWrite
  refine ite_keeps (fun r : State × Nat => r.1.memWf = true) _ _ _ h ?_
  refine ite_keeps (fun r : State × Nat => r.1.memWf = true) _ _ _ ?_ ?_
  · cases s.homeOf a with
    | none => exact State.memWf_errRec _ _ _ _ _ _ _ _ _ h
    | some p => exact State.memWf_errRec _ _ _ _ _ _ _ _ _ (State.memWf_setHbm _ _ h)
  · refine State.memWf_setPsn _ _ _ ?_
    have h1 := State.memWf_setMemL s a (plain l) h
    refine ite_keeps (fun r : State => r.memWf = true) _ _ _ (State.memWf_wr _ _ _ _ _ h1) ?_
    exact ite_keeps (fun r : State => r.memWf = true) _ _ _ (State.memWf_wr _ _ _ _ _ h1) h1

/-- A fold that carries a state and the first nonzero code keeps what each of its steps keeps of the state. -/
theorem fold_pair {σ β : Type} (p : σ → Prop) (g : σ → β → σ × Nat) (hg : ∀ s x, p s → p (g s x).1) (q : List β) (r : σ × Nat) (h : p r.1) :
    p (q.foldl (fun r x =>
      let t := g r.1 x
      (t.1, if r.2 = 0 then t.2 else r.2)) r).1 :=
  foldl_keeps (fun r : σ × Nat => p r.1) _ q r h (fun b x hb => hg b.1 x hb)

theorem State.memWf_hbmWriteRaw (s : State) (a : Nat) (l : List MByte) (h : s.memWf = true) : (s.hbmWriteRaw a l).1.memWf = true := by
  have hb := State.memWf_burstWrite
  unfold State.hbmWriteRaw
  obtain ⟨g, hg⟩ : ∃ g : State → Nat → List MByte → State × Nat, ∀ s a l, s.burstWrite a l = g s a l := ⟨_, fun _ _ _ => rfl⟩
  simp only [hg] at hb ⊢
  exact fold_pair (fun t : State => t.memWf = true) (fun s p => g s p.1 p.2) (fun s p h => hb s p.1 p.2 h) (cutAt 32 l.length a l) (s, 0) h

theorem State.memWf_lineWriteBack (s : State) (a : Nat) (h : s.memWf = true) : (s.lineWriteBack a).memWf = true := by
  unfold State.lineWriteBack
  cases s.lineAt a with
  | none => exact h
  | some x =>
    refine ite_keeps (fun r : State => r.memWf = true) _ _ _ h ?_
    have h1 := State.memWf_bump s F.SLT_WB 1 x.slice 0 h
    have h3 := ite_keeps (fun r : State => r.memWf = true) (x.dirty = 2 ^ 128 - 1) _ _ h1 (State.memWf_bump _ F.SLT_PWB 1 x.slice 0 h1)
    refine ite_keeps (fun r : State => r.memWf = true) _ _ _ (State.memWf_errRec _ _ _ _ _ _ _ _ _ (State.memWf_dropLine _ _ h3)) ?_
    refine State.memWf_setLine _ _ _ (ite_keeps (fun r : State => r.memWf = true) _ _ _ (State.memWf_hbmWriteRaw _ _ _ h3) ?_)
    refine foldl_keeps (fun t : State => t.memWf = true) _ _ _ h3 (fun t w ht => ?_)
    refine foldl_keeps (fun t : State => t.memWf = true) _ _ _ ht (fun t k ht => ?_)
    exact ite_keeps (fun r : State => r.memWf = true) _ _ _ (State.memWf_burstWrite _ _ _ ht) ht

theorem State.memWf_makeRoom (s t : State) (sl a : Nat) (h : s.memWf = true) (ht : s.makeRoom sl a = some t) : t.memWf = true := by
  unfold State.makeRoom at ht
  dsimp only at ht
  split at ht
  · cases ht; exact h
  · split at ht
    · cases ht; exact h
    · split at ht
      · cases ht
        exact State.memWf_lineWriteBack s.drawn _ h
      · cases ht

theorem State.memWf_lineWrite (s : State) (sl a : Nat) (l : List MByte) (h : s.memWf = true) : (s.lineWrite sl a l).memWf = true := by
  unfold State.lineWrite
  exact foldl_keeps (fun t : State => t.memWf = true) _ _ _ h (fun t p ht => ht)

theorem State.memWf_hbmLineWrite (s : State) (part : Option Nat) (na : Bool) (a : Nat) (l : List MByte) (h : s.memWf = true) :
    (s.hbmLineWrite part na a l).1.memWf = true := by
  unfold State.hbmLineWrite
  split
  · exact State.memWf_hbmWriteRaw _ _ _ h
  · split
    · exact State.memWf_hbmWriteRaw _ _ _ h
    · split
      · split
        · rename_i t ht
          exact State.memWf_lineWrite _ _ _ _ (State.memWf_makeRoom s t _ _ h ht)
        · exact State.memWf_hbmWriteRaw _ _ _ h
      · exact State.memWf_hbmWriteRaw _ _ _ h

theorem State.memWf_hbmWrite (s : State) (part : Option Nat) (na : Bool) (a : Nat) (l : List MByte) (h : s.memWf = true) :
    (s.hbmWrite part na a l).1.memWf = true := by
  unfold State.hbmWrite
  exact foldl_keeps (fun r : State × Nat => r.1.memWf = true) _ _ _ h (fun r p hr => State.memWf_hbmLineWrite _ _ _ _ _ hr)

theorem State.memWf_lineFill (s : State) (sl a : Nat) (h : s.memWf = true) : (s.lineFill sl a).memWf = true := by
  unfold State.lineFill
  cases ht : s.makeRoom sl (a - a % 128) with
  | none => simp only [ht]; exact h
  | some t =>
    simp only [ht]
    refine foldl_keeps (fun t : State => t.memWf = true) _ _ _ (State.memWf_setLine _ _ _ (State.memWf_makeRoom s t _ _ h ht)) (fun u k hu => ?_)
    exact ite_keeps (fun r : State => r.memWf = true) _ _ _ hu (State.memWf_setSlate _ _ hu)

theorem State.memWf_touchRead (s : State) (part : Option Nat) (na : Bool) (a n : Nat) (h : s.memWf = true) : (s.touchRead part na a n).memWf = true := by
  unfold State.touchRead
  refine foldl_keeps (fun t : State => t.memWf = true) _ _ _ h (fun t p ht => ?_)
  unfold State.lineRead
  dsimp only
  repeat' split
  all_goals first | exact ht | exact State.memWf_bump _ _ _ _ _ ht | exact State.memWf_lineFill _ _ _ (State.memWf_bump _ _ _ _ _ ht)

theorem State.memWf_memWrite (s : State) (part : Option Nat) (na : Bool) (a : Nat) (l : List MByte) (h : s.memWf = true) :
    (s.memWrite part na a l).1.memWf = true := by
  unfold State.memWrite
  split
  · exact State.memWf_hbmWrite _ _ _ _ _ h
  · exact State.memWf_sramWrite _ _ _ h

theorem State.memWf_readAs (s : State) (part : Option Nat) (na : Bool) (d a n : Nat) (h : s.memWf = true) : (s.readAs part na d a n).1.memWf = true := by
  unfold State.readAs
  dsimp only
  repeat' split
  all_goals first | exact h | exact State.memWf_touchRead s part na a n h

theorem State.memWf_writeAs (s : State) (part : Option Nat) (na : Bool) (d a : Nat) (l : List MByte) (h : s.memWf = true) :
    (s.writeAs part na d a l).1.memWf = true := by
  unfold State.writeAs
  dsimp only
  repeat' split
  all_goals first | exact h | exact State.memWf_hbmWriteRaw s _ _ h | exact State.memWf_memWrite s _ _ _ _ h

end Sys2Proof.Machine
end

