-- ==== Sys2Proof/Tests/Slice0.lean ====
section
/-! SUPPORT. Tests/Slice0.lean: the model's own small tests, and for each clause of a statement a state that meets its hypotheses. -/

namespace Sys2Proof.Tests

set_option Elab.async false

open Sys2Proof Machine

/-- The reset state with other supplies. -/
def withPwr (f : PowerSt → PowerSt) : State := { State.reset with pwr := f State.reset.pwr }

/-- A module in operation: rails up, FABRIC_READY. -/
def running : State :=
  { (State.reset.wr F.FLT_START_STAGE 8) with
    pwr := { State.reset.pwr with en := 127, good := 127, step := 6 },
    start := { State.reset.start with dieInit := true, memInit := true, perst := true } }

/-- Partition 0 with cluster 0 and its expert level. -/
def expert0 : State := ((running.wflag F.HST_PART_CTL_CLU 0 true 0 0).wb F.HST_PART_CTL_EXISTS true 0).wb F.HST_PART_CTL_EXPERT_EN true 0

/-- Idle time passes. -/
theorem test_step_idle : (match step State.reset with | .next t => t.now | _ => 0) = 1 := by decide +kernel

/-- A running module whose die watches are armed. -/
def armed : State := { running with flint := { running.flint with hbArmed := List.replicate 5 true, errArmed := List.replicate 5 true } }

/-- Host and twin silent for more than 2 s. -/
def silent : State :=
  { (running.wb F.FLT_STAT_HOST_SIL true).wr F.FLT_STAT_TWIN_RX 2 with
    now := 3000000000, flint := { running.flint with twinArmed := true, hostSince := some 0, twinSince := some 0 } }

/-- Partition 1 asked to quiesce. -/
def asked1 : State := { running with flint := { running.flint with quiesceReq := 2 } }

/-- A log entry. -/
def logged : LogEntry := ⟨0, true, 1, 0x0110, 0xF000, 1, false, false, 0, []⟩

/-- A module that has reached a stage, no work of it done. -/
def atStage (n : Nat) : State :=
  { (State.reset.wr F.FLT_START_STAGE n) with
    pwr := { State.reset.pwr with en := 127, good := 127, step := 6 }, start := { State.reset.start with memInit := decide (6 ≤ n) } }

/-- Fabric time that runs, the last valid edge and the time. -/
def ftState (last : Option Nat) (now : Nat) : State := { running with now := now, time := { TimeSt.init with run := true, ppsLast := last } }

/-- A packet with an opcode and zeros for its data. -/
def pktOf (opc : Nat) : Pkt := State.reset.mkPkt opc 0 0 0xFFFF 0 0 0 (List.replicate 64 0)

/-- A context that a partition reset has orphaned. -/
def orphan : Ctx := ⟨.bind, 0, 0, pktOf 1, 0, 0, none, true⟩


/-- A program that runs in cluster 0 of partition 0. -/
def k0 : ClusterSt := { ClusterSt.init with run := true, pc := 0x100, codeBase := 0x100, codeLim := 0x200, g := [(1, 5), (2, 7)] }

/-- A module whose cluster 0 runs a program. -/
def progK (f : ClusterSt → ClusterSt) : State := { expert0 with clu := [(0, f k0)] }

/-- The same with its launch values. -/
def prog : State := progK id

/-- The same with other g registers. -/
def progG (g : SMap Word) : State := progK (fun k => { k with g := g })

/-- The issue of a short, and of a long, instruction with no guard. -/
def x0 : Iss := ⟨0, 0, false, false, false⟩
def xl : Iss := ⟨0, 0, false, true, false⟩

/-- A program with vectors. -/
def vprog : State := progK (fun k => { k with v := [(1, List.replicate 64 0x00000005), (2, List.replicate 64 0x00000003)], g := [(2, 0x200000)] })

/-- A module whose HBM serves a page of partition 0, which holds slice 0 as LOCAL and slice 4 as SCRATCH. -/
def hbm0 : State :=
  { (expert0.wr F.HBM_STAT_B 3) with
    host := { expert0.host with grants := [(0, ⟨0x1000000000, 1, false, 0, 0, true, none⟩)] },
    slate := { SlateSt.init with slices := [(0, (1, 0)), (4, (3, 0))] },
    clu := [(0, k0)] }

/-- The same with a line of the page in slice 0. -/
def line0 (valid dirty : Nat) : State := { hbm0 with slate := { hbm0.slate with lines := [(0x20000000, ⟨0, valid, dirty⟩)] } }

/-- The same with a running region request. -/
def rgn0 (s : State) (q : RgnReq) : State := { s with slate := { s.slate with rgn := [(0, ⟨some q, none, 1⟩)] } }

/-- A running module with a port in a state. -/
def port (n st : Nat) (f : PortSt → PortSt) : State := (running.wr F.QTZ_PORT_STAT_STATE st n).modPt n f

/-- A route entry with the candidates C0 and C1, their VC actions, and SC. -/
def rte (c0 c1 vca sc : Nat) : Nat := c0 + c1 * 32 + 31 * 2 ^ 10 + 31 * 2 ^ 15 + vca * 2 ^ 20 + sc * 2 ^ 28 + 31 * 2 ^ 33 + 31 * 2 ^ 38 + 31 * 2 ^ 43 + 2 ^ 53

/-- Device D of the ring of four (the worked case after R373): ports 0 and 1 up, its route entries loaded. -/
def fab : State :=
  let s := ((expert0.wr F.QTZ_ID_DEVID 0x0103).wb F.QTZ_ID_ID_OK true).wr F.QTZ_PORT_STAT_STATE 7 0 |>.wr F.QTZ_PORT_STAT_STATE 7 1
  let s := (s.wb F.QTZ_NBR_DOWN false 0).wb F.QTZ_NBR_DOWN false 1
  ((s.wr F.RT_MEMBER_ENTRY (rte 0 31 1 0) 0 0).wr F.RT_MEMBER_ENTRY (rte 0 1 1 0) 0 1).wr F.RT_MEMBER_ENTRY (rte 1 31 0 0) 0 2

/-- A packet of device A for an ID. -/
def pktA (opc vc dst w1 w2 w3 len : Nat) : Pkt := (fab.wr F.QTZ_ID_DEVID 0x0100).mkPkt opc vc 0 dst w1 w2 w3 (List.replicate (64 * len) 1)

/-- A management request of device A: command, count, argument and one word of data. -/
def mgA (cmd n arg data : Nat) : Pkt :=
  (fab.wr F.QTZ_ID_DEVID 0x0100).mkPkt 0x30 7 0 0x0103 0 0 0 (plain (leM 6 0 ++ leM 1 cmd ++ leM 1 n ++ leM 8 arg ++ leM 8 data) ++ List.replicate 40 0)

/-- Device D with a management request in progress. -/
def mgRunning (p : Pkt) : State := fab.modQ (fun q => { q with mgq := [⟨p, false⟩], mgBusy := true })

/-- A group record of partition 0: its ports, members and the barrier it is, if its parent is port p. -/
def grp0 (st p : Nat) (ins : List ClxIn) (w : List GrpWait) : ClxRec :=
  ⟨5, 0, st, 0, 1, 0, 0, 0, 1, 0, p, 0, 7, ins, w, 0, 0, [], 0, [], [], 0, 0⟩

/-- Device D, cluster 0 in a program, with a record. -/
def grpS (r : ClxRec) (f : ClusterSt → ClusterSt) : State := { fab with clu := [(0, f k0)], grps := [(3, r)] }

/-- Cluster 0 as a member, and the node behind port 1 as a child. -/
def inM : ClxIn := ⟨0, false, 0, 0⟩
def inC : ClxIn := ⟨1, true, 9, 0⟩

/-- A slot of cluster 0 with a barrier step open. -/
def slotB : ClxSlot := { ClxSlot.init with busy := true, grp := 5, kind := .vecAr, ready := true }

/-- A collective packet. -/
def pktC (opc w2 : Nat) (step : Nat) (d : List Byte) : Pkt :=
  fab.mkPkt opc 1 0 0 (clxW1 5 step 0 0) w2 0 d

/-- A mark of the record `grp0` from its child. -/
def markC : Pkt := pktC 0x18 (64 * 2 ^ 17) 0xFFFFF (plain (leM 4 7 ++ leM 2 9 ++ leM 1 0 ++ leM 1 1 ++ leM 4 0 ++ leM 4 1 ++ leM 1 0 ++ leM 1 1 ++ leM 1 0 ++ leM 1 0) ++ List.replicate 44 0)

/-- Device D whose cluster 0 holds a group descriptor at 0x1000: parent and one input entry. -/
def grpD (p : Nat) (e : Nat) : State :=
  let s : State := { fab with clu := [(0, { k0 with g := [(1, 0x1000), (2, 0x2000)] })] }
  (s.setMemL 0x1000 (plain (leM 2 5 ++ leM 1 0 ++ leM 1 1 ++ leM 1 0 ++ leM 1 0 ++ leM 2 0 ++ leM 4 0 ++ leM 4 1 ++ leM 2 0 ++ leM 2 0 ++ leM 2 1 ++ leM 1 p ++ leM 1 0 ++ leM 4 0 ++ leM 4 7))).setMemL 0x1040 (plain (leM 8 e))

/-- Device D with its Agate port UP and the partner 0x0102, in a pair state. -/
def tw (st : Nat) (f : TwinSt → TwinSt) : State :=
  { ((((((fab.wr F.AGT_STAT_STATE st).wr F.AGT_STAT_PEER_ID 0x0102).wr F.QTZ_PORT_STAT_STATE 7 16).wb F.QTZ_NBR_DOWN false 16).wr F.HBM_STAT_B 3).wr
      F.HBM_MIRROR_SIZE_GIB 6) with twin := f TwinSt.init }

/-- A packet of the partner. -/
def pktT (opc vc part w1 w2 w3 : Nat) (d : List MByte) : Pkt :=
  (fab.wr F.QTZ_ID_DEVID 0x0102).mkPkt opc vc part 0x0103 w1 w2 w3 (if d = [] then [] else unit64 d)

/-- The partner's TW_BIND. -/
def bindP : Pkt := pktT 0x22 0 0 0 0 0 (leM 8 2 ++ leM 2 0x0102 ++ leM 2 0xFFFF ++ leM 2 1 ++ leM 1 0 ++ leM 1 6 ++ leM 2 96)

/-- The request it makes. -/
def bindQ : BindReq := ⟨2, 0x0102, 0xFFFF, 1, 0, 6, 96⟩

/-- The pair with mirror range 0 of partition 0: an EPOCH range of 2 MiB with its grant. -/
def twR (st : Nat) (f : TwinSt → TwinSt) : State :=
  let s := tw st f
  { (((s.wr F.AGT_MR_LBASE 0x1000000000 0).wr F.AGT_MR_LEN 0x200000 0).wr F.AGT_MR_KIND 1 0).wb F.AGT_MR_VALID true 0 with
    host := { s.host with grants := [(0, ⟨0x1000000000, 512, false, 0, 0, true, none⟩)] } }

/-- An epoch that runs. -/
def run0 : EpochRun := ⟨1, false, [], 0, 0, false, false, false, 0, none⟩

/-- Device D with the host link up, ring 40 of 64 entries enabled with its completion tail at 39, and HBM. -/
def hst (f : HostSt → HostSt) : State :=
  let s := ((((fab.wb F.HST_STAT_LINK_UP true).wr F.HST_RING_SIZE_LOG2 6 40).wb F.HST_RING_ENABLE true 40).wr F.HBM_STAT_B 3).wr F.HST_RING_CQ_TAIL 39 40
  { s with host := f s.host }

/-- A host command of ring 40. -/
def cmdT (opc part : Nat) (ops : List MByte) : HostCmd := ⟨0, 40, 7, opc, part, false, (plain ops).map BitVec.toNat, false, false⟩

/-- The same state with that command waiting to start. -/
def hstC (opc part : Nat) (ops : List MByte) : State := hst (fun h => { h with cmds := [cmdT opc part ops] })

/-- The same once it has started. -/
def cmdS (opc part : Nat) (ops : List MByte) : HostCmd := { cmdT opc part ops with started := true }

/-- Operands of a LAUNCH: an image of 8 bytes from the host, code from 0x100 to 0x200. -/
def launchOps : List MByte := leM 8 0x5000 ++ leM 4 8 ++ leM 4 0x100 ++ leM 4 0x200 ++ leM 4 0x104 ++ leM 8 77 ++ leM 8 0x6000 ++ leM 1 1

/-- That launch once accepted for cluster 0. -/
def launch0 (img : Option (List (Byte × Bool))) : LaunchSt := ⟨0, 40, 7, 0, [0], true, 0x5000, 8, 0x100, 0x200, 0x104, 77, false, img⟩

/-- A grant of page 0 to partition 0. -/
def grant0 (live : Bool) (cmd : Option Nat) : Grant := ⟨0x1000000000, 1, false, 1, 0, live, cmd⟩

/-- Operands of a GRANT, GRANT_MOD or REVOKE of it. -/
def grantOps (ro : Nat) : List MByte := leM 8 0x1000000000 ++ leM 4 1 ++ leM 1 ro ++ leM 1 0 ++ leM 2 1 ++ leM 1 0


/-- Descriptor bytes of a Mica command: CMD, the bytes from 2 on. -/
def mcd (k : Nat) (l : List MByte) : List Byte := plain (leM 1 k ++ leM 1 0 ++ l ++ leM (126 - l.length) 0)

/-- An OPEN descriptor: H.265 Main, 16 by 16 at 30 fps, RECORDED, output 16 by 16 by 1 in FP32. -/
def openD : List Byte :=
  plain (leM 1 0 ++ leM 1 1 ++ leM 6 0 ++ leM 2 16 ++ leM 2 16 ++ leM 4 3000 ++ leM 8 0 ++ leM 8 0x0103001000000000 ++ leM 8 6528 ++ leM 8 0x0103001000002000 ++ leM 4 1088
    ++ leM 2 1 ++ leM 2 16 ++ leM 2 16 ++ leM 1 0 ++ leM 1 1 ++ leM 68 0)

/-- The same, LIVE with a deadline of 40 ms. -/
def openL : List Byte := openD.take 6 ++ plain (leM 1 1) ++ (openD.drop 7).take 9 ++ plain (leM 4 40000) ++ openD.drop 20

/-- A stream with such a descriptor. -/
def mst0 (d : List Byte) : MStream :=
  { part := 0, d := d, res := 8, closing := none, credits := 0, queue := [], frames := [], seq := 5, slot := 0, refs := [], lag := false, deficit := 50, lastErr := 0,
    numflg := 0, in_ := 1, dec := 0, staleS := 0, staleD := 0, err := 0, hit := 0, noout := 0, skip := 0, future := 0, nostamp := 0, lagN := 0, preempt := 0, secS := 0,
    secD := 0, snap := [] }

/-- A module with ring 40 and its command, a grant of 16 pages to partition 0, and stream 3. -/
def mic (opc : Nat) (x : Option MStream) : State :=
  let s := (hstC opc 0 []).wb F.HST_PART_CTL_EXISTS true 0
  let s := { s with host := { s.host with grants := [(0, ⟨0x1000000000, 16, false, 1, 0, true, none⟩)] } }
  match x with
  | some x => s.setMst 3 x
  | none => s

/-- The model of the worked case of R575: one prismatic joint along +z, a body of 2 kg, gravity −9.81 along z. -/
def modelZ : List Byte :=
  plain (leM 1 1 ++ leM 3 0 ++ leM 8 0 ++ leM 4 0xC11CF5C3 ++ leM 48 0 ++ leM 1 0xFF ++ leM 1 2 ++ leM 2 0 ++ leM 8 0 ++ leM 4 0x3F800000
    ++ leM 4 0x3F800000 ++ leM 12 0 ++ leM 4 0x3F800000 ++ leM 12 0 ++ leM 4 0x3F800000 ++ leM 12 0 ++ leM 4 0x40000000 ++ leM 60 0)

/-- Its batch: STEP of count trees, DT 0.001, NCMAX 1. -/
def stepD (count sig : Nat) : List Byte :=
  plain (leM 1 4 ++ leM 3 0 ++ leM 4 count ++ leM 8 0x0103001000000000 ++ leM 8 0x0103001000001000 ++ leM 4 80 ++ leM 4 32 ++ leM 8 0x0103001000002000
    ++ leM 8 0x0103001000003000 ++ leM 8 sig ++ leM 8 0 ++ leM 4 0x3A83126F ++ leM 4 0 ++ leM 2 1 ++ leM 54 0)

/-- Its input record: at rest, one contact at the body's origin with normal +z, MU 0.5, DEPTH 0. -/
def stepIn : List Byte :=
  plain (leM 12 0 ++ leM 4 1 ++ leM 12 0 ++ leM 4 0 ++ leM 12 0 ++ leM 8 0 ++ leM 4 0x3F800000 ++ leM 4 0x3F000000 ++ leM 16 0)

/-- The worked case: status word 0x200 (two sweeps, nothing wrong), q and qd 0. -/
theorem test_worked_contact :
    (runTree (stepD 1 0) modelZ stepIn).2.word false = 0x200 ∧ ((runTree (stepD 1 0) modelZ stepIn).1.take 2).map (fun x => x.toNat) = [0, 0] := by decide +kernel

/-- A batch of it, accepted. -/
def batch0 (count sig : Nat) : JBatch := ⟨7, 0, stepD count sig, modelZ, .host 0⟩

/-- A module with ring 40, its command, a grant of 16 pages to partition 0, the model in HBM, and a state of Jasper. -/
def jas (opc : Nat) (j : JasperSt) : State := { (mic opc none).setMemL 0x1000000000 modelZ with jasper := j }

/-- The worked case of R595, tick 0: from 108, an error of −110 W gives 104. -/
theorem test_envelope_tick0 :
    (let x : LpSt := { LpSt.init with i := 0x42D80000, uPrev := 0x42D80000, initLaw := false,
                                      lat := (State.reset.lpLatch 15).set (lpParams.findIdx (fun f => f = F.LP_PAR_UMAX)) 0x42D80000 }
     let r := x.law 0xC2DC0000
     (r.1.limit r.2).toNat = 0x42D00000) := by decide +kernel

/-- Channel 1 in a mode, with a pulse input for its feedback. -/
def lpS (mode : Nat) (f : LpSt → LpSt) : State :=
  ((((running.wr F.LP_CTL_MODE mode 1).wr F.LP_SRC_FB_SRC 9 1).wr F.FLT_LP_GLB_PLS_LOST 0).wr F.FLT_PLS_DUTY 0x3F000000 0).modLp 1 f

/-- A write of LP_CTL of channel 1 in which the fields are as they are but MODE and DIR. -/
def lpV (s : State) (mode dir : Nat) : BitVec 64 :=
  BitVec.ofNat 64 (mode + 32 * dir + 8 * s.rd F.LP_CTL_LAW 1 + 128 * s.rd F.LP_CTL_OUT 1 + 2 ^ 12 * s.rd F.LP_CTL_PERIOD 1 + 2 ^ 22 * s.rd F.LP_CTL_PHASE 1)

/-- A move to a position. -/
def mv0 (tgt : Int) (dwell : Nat) : SmMove := ⟨tgt, 0, dwell, false, 9, 0, 0, 0⟩

/-- A homed channel at rest in a state. -/
def ch0 (st : SmState) : SmCh := { SmCh.init with st := st, uncertain := false, homed := true }

/-- Stepper channel 1 as given, enabled. -/
def smS (c : SmCh) : State := (running.wb F.SM_CTL_EN true 1).setSm 1 c

/-- It on a move that it has begun. -/
def ch1 (st : SmState) (tgt : Int) : SmCh :=
  { ch0 st with q := [mv0 tgt 0], started := true, la := 40000, ld := 40000, lj := 4000000, lvmin := 200, v := 13107200, neg := decide (tgt < 0) }
/-- A state that meets the hypotheses of SupplySequence, clause 1. -/
theorem witness_SupplySequence_1 : ∃ (s : State), (s.rd F.FLT_START_STAGE = 2) ∧ (s.pwr.off = false) ∧ (s.pwr.lockout = 0) ∧ (s.fw.recovery = false) ∧ (s.pwr.fails < 2) ∧ (s.pwr.retry = false) :=
  ⟨State.reset.wr F.FLT_START_STAGE 2, by decide +kernel⟩

/-- A state that meets the hypotheses of SupplySequence, clause 2. -/
theorem witness_SupplySequence_2 : ∃ (s : State) (r : Fin 7), (bitAt s.pwr.en r = true) :=
  ⟨withPwr (fun p => { p with en := 3, step := 3 }), 1, by decide +kernel⟩

/-- A state that meets the hypotheses of SupplySequence, clause 3. -/
theorem witness_SupplySequence_3 : ∃ (s : State) (r : Fin 7), (3 ≤ s.pwr.step ∧ s.pwr.step ≤ 5) ∧ (bitAt s.pwr.en r = true) ∧ (bitAt s.pwr.good r = false) :=
  ⟨withPwr (fun p => { p with en := 3, step := 3 }), 1, by decide +kernel⟩

/-- A state that meets the hypotheses of SupplySequence, clause 4. -/
theorem witness_SupplySequence_4 : ∃ (s : State), (s.pwr.retry = true) ∧ (s.pwr.off = false) ∧ (s.pwr.lockout = 0) :=
  ⟨withPwr (fun p => { p with retry := true, fails := 1 }), by decide +kernel⟩

/-- A state that meets the hypotheses of SupplySequence, clause 5. -/
theorem witness_SupplySequence_5 : ∃ (s : State) (above : Bool), (s.flint.on = true) ∧ (s.pwr.lockout = 0) ∧ (s.pwr.step ≠ 0) ∧ (3 ≤ s.rd F.FLT_START_STAGE) ∧ (s.start.rstPend = none) ∧ (s.start.rstOn = false) :=
  ⟨running, true, by decide +kernel⟩

/-- A state that meets the hypotheses of SupplySequence, clause 6. -/
theorem witness_SupplySequence_6 : ∃ (s : State), (s.pwr.lockout ≠ 0) ∧ (s.pwr.off = false) ∧ (s.pwr.fails < 2) ∧ (s.pwr.retry = false) ∧ (s.fw.recovery = false) ∧ (2 ≤ s.rd F.FLT_START_STAGE) :=
  ⟨(withPwr (fun p => { p with lockout := 1 })).wr F.FLT_START_STAGE 3, by decide +kernel⟩

/-- A state that meets the hypotheses of SupplySequence, clause 7. -/
theorem witness_SupplySequence_7 : ∃ (s : State) (r : Fin 7), (2 ≤ (r : Nat)) ∧ (s.pwr.step = 6) ∧ (bitAt s.pwr.good r = true) ∧ (s.start.rstOn = false) ∧ (s.start.rstPend = none) :=
  ⟨running, 3, by decide +kernel⟩

/-- A state that meets the hypotheses of SupplySequence, clause 8. -/
theorem witness_SupplySequence_8 : ∃ (s : State), (s.pwr.step = 6) ∧ (bitAt s.pwr.good 2 = false) ∧ (3 ≤ s.rd F.FLT_START_STAGE) ∧ (s.start.rstPend = none) ∧ (s.start.rstOn = false) :=
  ⟨{ running with pwr := { running.pwr with good := 123 } }, by decide +kernel⟩

/-- A state that meets the hypotheses of RailSetPoint, clause 1. -/
theorem witness_RailSetPoint_1 : ∃ (c : Nat), (16 ≤ c) ∧ (c ≤ 128) :=
  ⟨17, by decide +kernel⟩

/-- A state that meets the hypotheses of Ceilings, clause 1. -/
theorem witness_Ceilings_1 : ∃ (s : State) (c code : Nat) (f : Fld), (code < 256) ∧ (f ∈ [F.ISL_CEIL_CEIL_SAG, F.ISL_CEIL_CEIL_ENV, F.ISL_CEIL_CEIL_FLT]) :=
  ⟨State.reset, 0, 80, F.ISL_CEIL_CEIL_SAG, by decide +kernel⟩

/-- A state that meets the hypotheses of Ceilings, clause 2. -/
theorem witness_Ceilings_2 : ∃ (s : State), (s.rd F.ISL_CEIL_V48_LVL = 2) ∧ (4150 ≤ s.pwr.v48.getD 0) :=
  ⟨(withPwr (fun p => { p with v48 := some 4150 })).wr F.ISL_CEIL_V48_LVL 2, by decide +kernel⟩

/-- A state that meets the hypotheses of Ceilings, clause 3. -/
theorem witness_Ceilings_3 : ∃ (s : State), (s.rd F.ISL_CEIL_V48_LVL = 1) ∧ (4300 ≤ s.pwr.v48.getD 0) :=
  ⟨(withPwr (fun p => { p with v48 := some 4300 })).wr F.ISL_CEIL_V48_LVL 1, by decide +kernel⟩

/-- A state that meets the hypotheses of Ceilings, clause 4. -/
theorem witness_Ceilings_4 : ∃ (s : State), (s.pwr.v12lost = false) :=
  ⟨State.reset, by decide +kernel⟩

/-- A state that meets the hypotheses of Ceilings, clause 5. -/
theorem witness_Ceilings_5 : ∃ (s : State), (s.pwr.v12lost = true) :=
  ⟨withPwr (fun p => { p with v12lost := true }), by decide +kernel⟩

/-- A state that meets the hypotheses of FrequencyTransitions, clause 1. -/
theorem witness_FrequencyTransitions_1 : ∃ (s : State) (i r code : Nat), ((s.islClk i).run = some r) :=
  ⟨running.setClk 5 ⟨16, some 108, some 80, false, false, false, 0⟩, 5, 108, 128, by decide +kernel⟩

/-- A state that meets the hypotheses of FrequencyTransitions, clause 2. -/
theorem witness_FrequencyTransitions_2 : ∃ (s : State) (i : Fin 305) (r : Nat), ((s.islClk i).run = some r) :=
  ⟨running.setClk 5 ⟨16, some 108, some 80, false, false, false, 0⟩, 5, 108, by decide +kernel⟩

/-- A state that meets the hypotheses of StretchAndSensors, clause 1. -/
theorem witness_StretchAndSensors_1 : ∃ (s : State) (i : Fin 305) (mv : BitVec 12), (s.senses i = true) ∧ (s.rd F.ISL_FREQ_STR_LVL i < 3) :=
  ⟨running, 5, 700, by decide +kernel⟩

/-- A state that meets the hypotheses of StretchAndSensors, clause 2. -/
theorem witness_StretchAndSensors_2 : ∃ (s : State) (i : Fin 305), (s.senses i = true) ∧ ((s.islClk i).low = true) ∧ (s.rd F.ISL_FREQ_STR_LVL i ≤ 3) :=
  ⟨running.setClk 5 ⟨16, none, none, true, false, false, 0⟩, 5, by decide +kernel⟩

/-- A state that meets the hypotheses of StretchAndSensors, clause 3. -/
theorem witness_StretchAndSensors_3 : ∃ (s : State) (i : Fin 305), (s.senses i = true) ∧ (s.rd F.ISL_FREQ_STR_LVL i ≤ 3) :=
  ⟨running, 5, by decide +kernel⟩

/-- A state that meets the hypotheses of StretchAndSensors, clause 4. -/
theorem witness_StretchAndSensors_4 : ∃ (s : State) (i : Fin 305), (s.senses i = true) :=
  ⟨running, 5, by decide +kernel⟩

/-- A state that meets the hypotheses of StretchAndSensors, clause 5. -/
theorem witness_StretchAndSensors_5 : ∃ (s : State) (i : Fin 305), (s.rd F.ISL_FREQ_STR_LVL i = 3) ∧ ((s.islClk i).persist = false) :=
  ⟨running.wr F.ISL_FREQ_STR_LVL 3 5, 5, by decide +kernel⟩

/-- A state that meets the hypotheses of StretchAndSensors, clause 6. -/
theorem witness_StretchAndSensors_6 : ∃ (s : State) (i : Fin 305), ((s.islClk i).persist = true) :=
  ⟨running.setClk 5 ⟨16, none, none, true, false, true, 0⟩, 5, by decide +kernel⟩

/-- A state that meets the hypotheses of StretchAndSensors, clause 7. -/
theorem witness_StretchAndSensors_7 : ∃ (s : State) (r : Fin 7), (bitAt s.pwr.lowered r = true) :=
  ⟨withPwr (fun p => { p with lowered := 8 }), 3, by decide +kernel⟩

/-- A state that meets the hypotheses of StretchAndSensors, clause 8. -/
theorem witness_StretchAndSensors_8 : ∃ (s : State) (i : Fin 305) (n : BitVec 16), (s.pwr.refclk = true) ∧ (s.islPres i = true) :=
  ⟨State.reset, 5, 1000, by decide +kernel⟩

/-- A state that meets the hypotheses of PowerSettings, clause 1. -/
theorem witness_PowerSettings_1 : ∃ (s : State) (v : BitVec 64), (250 ≤ bitsAt v.toNat 0 10) ∧ (bitsAt v.toNat 0 10 ≤ 600) :=
  ⟨State.reset, 300, by decide +kernel⟩

/-- A state that meets the hypotheses of PowerSettings, clause 2. -/
theorem witness_PowerSettings_2 : ∃ (s : State) (v : BitVec 64), (bitsAt v.toNat 0 10 < 250 ∨ 600 < bitsAt v.toNat 0 10) :=
  ⟨State.reset, 601, by decide +kernel⟩

/-- A state that meets the hypotheses of PowerSettings, clause 3. -/
theorem witness_PowerSettings_3 : ∃ (s : State) (i : Fin 305) (v : BitVec 64), (s.islPres i = true) ∧ (s.islExpert i = true) ∧ (bitsAt v.toNat 0 8 = 0 ∨ (16 ≤ bitsAt v.toNat 0 8 ∧ bitsAt v.toNat 0 8 ≤ 128)) :=
  ⟨expert0, 0, 108, by decide +kernel⟩

/-- A state that meets the hypotheses of PowerSettings, clause 4. -/
theorem witness_PowerSettings_4 : ∃ (s : State) (i : Fin 305) (v : BitVec 64), (s.islPres i = true) ∧ (s.islExpert i = false) ∧ (bitsAt v.toNat 0 8 ≠ s.rd F.ISL_FREQ_REQ_CODE i) :=
  ⟨State.reset, 0, 108, by decide +kernel⟩

/-- A state that meets the hypotheses of PowerSettings, clause 5. -/
theorem witness_PowerSettings_5 : ∃ (s : State) (i : Fin 305) (v : BitVec 64), (s.islPres i = true) ∧ (s.islExpert i = true) ∧ (bitsAt v.toNat 0 8 ≠ s.rd F.ISL_FREQ_REQ_CODE i) ∧ ((1 ≤ bitsAt v.toNat 0 8 ∧ bitsAt v.toNat 0 8 ≤ 15) ∨ 128 < bitsAt v.toNat 0 8) :=
  ⟨expert0, 0, 15, by decide +kernel⟩

/-- A state that meets the hypotheses of PowerSettings, clause 6. -/
theorem witness_PowerSettings_6 : ∃ (s : State) (i : Fin 305) (v : BitVec 64), (s.islPres i = true) ∧ (s.islExpert i = true) ∧ (2 ≤ bitsAt v.toNat 0 6) ∧ (bitsAt v.toNat 0 6 ≤ 32) :=
  ⟨expert0, 0, 32, by decide +kernel⟩

/-- A state that meets the hypotheses of DieAndTwinWatches, clause 1. -/
theorem witness_DieAndTwinWatches_1 : ∃ (s : State) (d : Fin 5), (s.pwr.step = 6) ∧ (s.flint.hbArmed.length = 5) :=
  ⟨running, 2, by decide +kernel⟩

/-- A state that meets the hypotheses of DieAndTwinWatches, clause 2. -/
theorem witness_DieAndTwinWatches_2 : ∃ (s : State), (s.flint.hbArmed.getD 0 false = true) ∧ (3 ≤ s.rd F.FLT_START_STAGE) ∧ (s.start.rstPend = none) ∧ (s.start.rstOn = false) :=
  ⟨armed, by decide +kernel⟩

/-- A state that meets the hypotheses of DieAndTwinWatches, clause 3. -/
theorem witness_DieAndTwinWatches_3 : ∃ (s : State) (rec : List (BitVec 32)), (s.flint.errArmed.getD 0 false = true) ∧ (3 ≤ s.rd F.FLT_START_STAGE) ∧ (s.start.rstPend = none) ∧ (s.start.rstOn = false) :=
  ⟨armed, [], by decide +kernel⟩

/-- A state that meets the hypotheses of DieAndTwinWatches, clause 4. -/
theorem witness_DieAndTwinWatches_4 : ∃ (s : State), (s.flint.twinArmed = true) ∧ (s.flint.window = none) :=
  ⟨{ running with flint := { running.flint with twinArmed := true } }, by decide +kernel⟩

/-- A state that meets the hypotheses of DieAndTwinWatches, clause 5. -/
theorem witness_DieAndTwinWatches_5 : ∃ (s : State) (w : Nat), (s.flint.window = some w) ∧ (w ≤ s.now) ∧ (s.flint.beatSeen = false) ∧ (s.rd F.FLT_STAT_TWIN_RX ≠ 0) :=
  ⟨{ running.wr F.FLT_STAT_TWIN_RX 2 with flint := { running.flint with window := some 0 } }, 0, by decide +kernel⟩

/-- A state that meets the hypotheses of DieAndTwinWatches, clause 6. -/
theorem witness_DieAndTwinWatches_6 : ∃ (s : State), (s.pwr.refclk = true) ∧ (∀ n, n < 17 → s.portUp n = false ∧ (s.pt n).restExit = false) :=
  ⟨running, by decide +kernel⟩

/-- A state that meets the hypotheses of DieAndTwinWatches, clause 7. -/
theorem witness_DieAndTwinWatches_7 : ∃ (s : State), (s.start.memInit = false) :=
  ⟨{ withPwr (fun p => { p with refclk := false }) with start := { State.reset.start with memInit := false } }, by decide +kernel⟩

/-- A state that meets the hypotheses of DieAndTwinWatches, clause 8. -/
theorem witness_DieAndTwinWatches_8 : ∃ (s : State) (d : Fin 5), ((d : Nat) = 0) ∧ (s.flint.errArmed.getD 0 false = true) ∧ (3 ≤ s.rd F.FLT_START_STAGE) ∧ (s.start.rstPend = none ∧ s.start.rstOn = false) :=
  ⟨armed, 0, by decide +kernel⟩

/-- A state that meets the hypotheses of HostWatchAndActingAlone, clause 1. -/
theorem witness_HostWatchAndActingAlone_1 : ∃ (s : State), (s.flint.on = true) ∧ (s.bit F.FLT_HOST_HB_ARMED = true) ∧ (s.bit F.FLT_STAT_HOST_SIL = false) ∧ (s.rd F.FLT_HOST_HB_WORD = s.flint.hostWord) ∧ (s.bit F.HST_STAT_LINK_UP = false ∨ s.rd F.FLT_HB_CFG_HOST_T * 10000000 ≤ s.now - s.flint.hostAt) :=
  ⟨running.wb F.FLT_HOST_HB_ARMED true, by decide +kernel⟩

/-- A state that meets the hypotheses of HostWatchAndActingAlone, clause 2. -/
theorem witness_HostWatchAndActingAlone_2 : ∃ (s : State), (s.flint.on = true) ∧ (s.bit F.FLT_STAT_HOST_SIL = true) ∧ (s.rd F.FLT_HOST_HB_WORD ≠ s.flint.hostWord) ∧ (s.bit F.HST_STAT_LINK_UP = true) :=
  ⟨((running.wb F.FLT_STAT_HOST_SIL true).wr F.FLT_HOST_HB_WORD 7).wb F.HST_STAT_LINK_UP true, by decide +kernel⟩

/-- A state that meets the hypotheses of HostWatchAndActingAlone, clause 3. -/
theorem witness_HostWatchAndActingAlone_3 : ∃ (s : State) (h w : Nat), (s.flint.on = true) ∧ (s.bit F.FLT_ALONE_ACTIVE = false) ∧ (s.bit F.FLT_STAT_HOST_SIL = true) ∧ (s.rd F.FLT_HOST_HB_WORD = s.flint.hostWord) ∧ (s.flint.hostSince = some h) ∧ (s.flint.twinSince = some w) ∧ (s.twinContact = false) ∧ (s.rd F.FLT_HB_CFG_SILENCE_T * 10000000 < s.now - max h w) :=
  ⟨silent, 0, 0, by decide +kernel⟩

/-- A state that meets the hypotheses of HostWatchAndActingAlone, clause 4. -/
theorem witness_HostWatchAndActingAlone_4 : ∃ (s : State), (s.flint.on = true) ∧ (s.bit F.FLT_ALONE_ACTIVE = true) ∧ (s.bit F.FLT_STAT_HOST_SIL = true) ∧ (s.rd F.FLT_HOST_HB_WORD = s.flint.hostWord) ∧ (s.twinContact = true) :=
  ⟨(running.wb F.FLT_ALONE_ACTIVE true).wb F.FLT_STAT_HOST_SIL true, by decide +kernel⟩

/-- A state that meets the hypotheses of HostWatchAndActingAlone, clause 5. -/
theorem witness_HostWatchAndActingAlone_5 : ∃ (s : State) (p : Part), (bitAt s.flint.quiesceReq p = true) ∧ (s.flag F.FLT_ALONE_QUIESCED p = false) ∧ (s.partQuiet p = true) :=
  ⟨asked1, 1, by decide +kernel⟩

/-- A state that meets the hypotheses of HostWatchAndActingAlone, clause 6. -/
theorem witness_HostWatchAndActingAlone_6 : ∃ (s : State) (p : Part), (bitAt s.flint.quiesceReq p = true) ∧ (s.flag F.FLT_ALONE_QUIESCED p = false) ∧ (s.flint.quiesceAt + s.rd F.FLT_HB_CFG_QUIESCE_T * 1000000000 ≤ s.now) ∧ (s.quartz.ctx = []) ∧ (s.jasper.run = none) :=
  ⟨{ asked1 with now := 10000000000 }, 1, by decide +kernel⟩

/-- A state that meets the hypotheses of AlertsAndTiming, clause 1. -/
theorem witness_AlertsAndTiming_1 : ∃ (s : State), (s.flint.on = true) :=
  ⟨State.reset, by decide +kernel⟩

/-- A state that meets the hypotheses of AlertsAndTiming, clause 2. -/
theorem witness_AlertsAndTiming_2 : ∃ (s : State) (mask : BitVec 64) (k : Nat), (k < 11) :=
  ⟨running, 64, 6, by decide +kernel⟩

/-- A state that meets the hypotheses of AlertsAndTiming, clause 3. -/
theorem witness_AlertsAndTiming_3 : ∃ (s : State) (b : Bool) (mask : BitVec 64) (k : Nat), (s.flint.on = true) ∧ (s.mbServed 0x0B = true) ∧ (k < 11) :=
  ⟨running, true, 1, 0, by decide +kernel⟩

/-- A state that meets the hypotheses of AlertsAndTiming, clause 4. -/
theorem witness_AlertsAndTiming_4 : ∃ (s : State) (v : BitVec 64), (s.bit F.FLT_EXPERT_EN_EN = true) :=
  ⟨State.reset.wb F.FLT_EXPERT_EN_EN true, 5, by decide +kernel⟩

/-- A state that meets the hypotheses of AlertsAndTiming, clause 5. -/
theorem witness_AlertsAndTiming_5 : ∃ (s : State) (v : BitVec 64), (s.bit F.FLT_EXPERT_EN_EN = false) :=
  ⟨State.reset, 5, by decide +kernel⟩

/-- A state that meets the hypotheses of AlertsAndTiming, clause 6. -/
theorem witness_AlertsAndTiming_6 : ∃ (s : State) (b : Bool) (seq : BitVec 32), (s.flint.on = true) ∧ (s.mbServed 6 = true) :=
  ⟨running, false, 3, by decide +kernel⟩

/-- A state that meets the hypotheses of AlertsAndTiming, clause 7. -/
theorem witness_AlertsAndTiming_7 : ∃ (s : State) (dev : Fin 6) (ins : TapIns), (s.bit F.FLT_SCAN_SCAN_EN = true) ∧ (s.pwr.step = 6) ∧ (s.start.rstOn = true) ∧ (s.flint.tap.length = 6) ∧ ((ins = .extestPulse ∨ ins = .extestTrain) → dev = 1) :=
  ⟨{ running.wb F.FLT_SCAN_SCAN_EN true with start := { running.start with rstOn := true } }, 1, .extest, by decide +kernel⟩

/-- A state that meets the hypotheses of AlertsAndTiming, clause 8. -/
theorem witness_AlertsAndTiming_8 : ∃ (s : State) (ins : TapIns), (s.bit F.FLT_SCAN_SCAN_EN = false) ∧ (tapTestMode ins = true) ∧ (s.flint.tap.length = 6) :=
  ⟨running, .clamp, by decide +kernel⟩

/-- A state that meets the hypotheses of EventLogEntries, clause 1. -/
theorem witness_EventLogEntries_1 : ∃ (s : State) (e : LogEntry) (r : List LogEntry) (code src sev : Nat) (d : List Nat), (s.flint.on = true) ∧ (s.fw.exchanging = false) ∧ (s.log.ring = e :: r) ∧ (e.code = code ∧ e.source = src) ∧ (s.now ≤ s.log.lastAt + 1000000) :=
  ⟨{ running with log := ⟨[logged], [], [], 0⟩ }, logged, [], 0x0110, 0xF000, 1, [], by decide +kernel⟩

/-- A state that meets the hypotheses of EventLogEntries, clause 2. -/
theorem witness_EventLogEntries_2 : ∃ (s : State) (e : LogEntry) (r : List LogEntry) (code src sev : Nat) (d : List Nat), (s.flint.on = true) ∧ (s.fw.exchanging = false) ∧ (s.log.ring = e :: r) ∧ (¬ (e.code = code ∧ e.source = src) ∨ s.log.lastAt + 1000000 < s.now) ∧ (sev < 3 ∨ s.logRoom = true) :=
  ⟨{ running with log := ⟨[logged], [], [], 0⟩ }, logged, [], 0x0111, 304, 3, [], by decide +kernel⟩

/-- A state that meets the hypotheses of EventLogEntries, clause 3. -/
theorem witness_EventLogEntries_3 : ∃ (s : State) (code src sev : Nat) (d : List Nat), (s.flint.on = true) ∧ (s.fw.exchanging = false) ∧ (s.log.ring = []) ∧ (3 ≤ sev) ∧ (s.logRoom = false) :=
  ⟨{ running with log := ⟨[], List.replicate 1024 logged, [], 0⟩ }, 0x0111, 304, 3, [], by decide +kernel⟩

/-- A state that meets the hypotheses of ManagementBusCommands, clause 1. -/
theorem witness_ManagementBusCommands_1 : ∃ (s : State) (b : Bool) (cmd len : BitVec 8) (n : Nat) (ok : Bool), (s.flint.on = true) ∧ (ok = false ∨ len.toNat ≠ n ∨ 250 < len.toNat) :=
  ⟨running, true, 1, 0, 0, false, by decide +kernel⟩

/-- A state that meets the hypotheses of ManagementBusCommands, clause 2. -/
theorem witness_ManagementBusCommands_2 : ∃ (s : State) (b : Bool) (cmd len : BitVec 8) (n : Nat) (r : MbResp), (s.flint.on = true) ∧ (len.toNat = n) ∧ (n ≤ 250) ∧ (s.mbResp b = some r) ∧ (r.ready = false) :=
  ⟨{ running with flint := { running.flint with mb0 := some ⟨0, [], false⟩ } }, false, 1, 0, 0, ⟨0, [], false⟩, by decide +kernel⟩

/-- A state that meets the hypotheses of ManagementBusCommands, clause 3. -/
theorem witness_ManagementBusCommands_3 : ∃ (s : State) (b : Bool) (cmd len : BitVec 8) (n : Nat), (s.flint.on = true) ∧ (len.toNat = n) ∧ (n ≤ 250) ∧ (s.mbResp b = none) ∧ (mbKnown cmd.toNat = true) ∧ (mbLenOk cmd.toNat n = true) ∧ (s.mbServed cmd.toNat = true) :=
  ⟨running, true, 1, 0, 0, by decide +kernel⟩

/-- A state that meets the hypotheses of ManagementBusCommands, clause 4. -/
theorem witness_ManagementBusCommands_4 : ∃ (s : State) (b : Bool) (r : MbResp), (s.mbResp b = some r) :=
  ⟨{ running with flint := { running.flint with mb0 := some ⟨0, [], false⟩ } }, false, ⟨0, [], false⟩, by decide +kernel⟩

/-- A state that meets the hypotheses of ManagementBusCommands, clause 5. -/
theorem witness_ManagementBusCommands_5 : ∃ (s : State) (b : Bool), (s.flint.on = true) ∧ (s.mbServed 1 = true) :=
  ⟨running, true, by decide +kernel⟩

/-- A state that meets the hypotheses of ManagementBusCommands, clause 6. -/
theorem witness_ManagementBusCommands_6 : ∃ (s : State) (b : Bool), (s.flint.on = true) ∧ (s.mbServed 2 = true) :=
  ⟨running, true, by decide +kernel⟩

/-- A state that meets the hypotheses of ManagementBusCommands, clause 7. -/
theorem witness_ManagementBusCommands_7 : ∃ (s : State) (b : Bool) (seq : BitVec 32) (e : LogEntry) (r : List LogEntry), (s.flint.on = true) ∧ (s.mbServed 5 = true) ∧ (s.log.ring = e :: r) ∧ (e.seq = seq.toNat) :=
  ⟨{ running with log := ⟨[logged], [], [], 0⟩ }, true, 1, logged, [], by decide +kernel⟩

/-- A state that meets the hypotheses of ManagementBusCommands, clause 8. -/
theorem witness_ManagementBusCommands_8 : ∃ (s : State) (b : Bool) (w : BitVec 16), (s.flint.on = true) ∧ (s.mbServed 7 = true) ∧ (250 ≤ w.toNat) ∧ (w.toNat ≤ 600) :=
  ⟨running, true, 250, by decide +kernel⟩

/-- A state that meets the hypotheses of ManagementBusCommands, clause 9. -/
theorem witness_ManagementBusCommands_9 : ∃ (s : State) (b : Bool), (s.flint.on = true) ∧ (s.mbServed 8 = true) ∧ (s.pwr.step = 0) :=
  ⟨withPwr (fun p => { p with off := true }), true, by decide +kernel⟩

/-- A state that meets the hypotheses of ManagementBusCommands, clause 10. -/
theorem witness_ManagementBusCommands_10 : ∃ (s : State) (b : Bool), (s.flint.on = true) ∧ (s.mbServed 9 = true) ∧ (s.pwr.step ≠ 0) :=
  ⟨running, true, by decide +kernel⟩

/-- A state that meets the hypotheses of ManagementBusCommands, clause 11. -/
theorem witness_ManagementBusCommands_11 : ∃ (s : State) (b : Bool), (3 ≤ s.rd F.FLT_START_STAGE) ∧ (s.start.rstPend = none) ∧ (s.start.rstOn = false) :=
  ⟨running, true, by decide +kernel⟩

/-- A state that meets the hypotheses of FirmwareBanks, clause 1. -/
theorem witness_FirmwareBanks_1 : ∃ (s : State) (b : Bool) (off : BitVec 32) (data : List Byte), (s.flint.on = true) ∧ (s.mbServed 0x10 = true) ∧ (s.bankInactive 1 = true) ∧ (s.fw.session = none) :=
  ⟨running, true, 0, [1], by decide +kernel⟩

/-- A state that meets the hypotheses of FirmwareBanks, clause 2. -/
theorem witness_FirmwareBanks_2 : ∃ (s : State) (b : Bool) (bank : BitVec 8) (off : BitVec 32) (data : List Byte), (s.flint.on = true) ∧ (s.mbServed 0x10 = true) ∧ (bank.toNat ≤ 1) ∧ (s.bankInactive bank.toNat = false) :=
  ⟨running, true, 0, 0, [1], by decide +kernel⟩

/-- A state that meets the hypotheses of FirmwareBanks, clause 3. -/
theorem witness_FirmwareBanks_3 : ∃ (s : State) (b : Bool) (ver : BitVec 32), (s.flint.on = true) ∧ (s.mbServed 0x11 = true) ∧ (s.bankInactive 1 = true) ∧ (s.fw.session = none ∨ s.fw.session = some (1, .mb b)) :=
  ⟨running, true, 2, by decide +kernel⟩

/-- A state that meets the hypotheses of FirmwareBanks, clause 4. -/
theorem witness_FirmwareBanks_4 : ∃ (s : State) (b : Bool) (ver : BitVec 32), (s.flint.on = true) ∧ (s.mbServed 0x11 = true) ∧ (s.bankInactive 1 = true) ∧ (s.fw.session = none ∨ s.fw.session = some (1, .mb b)) :=
  ⟨running, true, 2, by decide +kernel⟩

/-- A state that meets the hypotheses of FirmwareBanks, clause 5. -/
theorem witness_FirmwareBanks_5 : ∃ (s : State) (b : Bool), (s.flint.on = true) ∧ (s.mbServed 0x14 = true) ∧ (s.bankInactive 1 = true) ∧ (s.fw.session = some (1, .mb b)) :=
  ⟨{ running with fw := { running.fw with session := some (1, .mb true) } }, true, by decide +kernel⟩

/-- A state that meets the hypotheses of FirmwareBanks, clause 6. -/
theorem witness_FirmwareBanks_6 : ∃ (s : State) (b : Bool), (s.flint.on = true) ∧ (s.mbServed 0x12 = true) ∧ (s.swapBusy = false) ∧ ((s.fw.bank (1 - s.fw.run)).valid = true) :=
  ⟨running, true, by decide +kernel⟩

/-- A state that meets the hypotheses of FirmwareBanks, clause 7. -/
theorem witness_FirmwareBanks_7 : ∃ (s : State), (s.fw.exchanging = true) :=
  ⟨{ running with fw := { running.fw with exchanging := true } }, by decide +kernel⟩

/-- A state that meets the hypotheses of FirmwareBanks, clause 8. -/
theorem witness_FirmwareBanks_8 : ∃ (s : State) (b : Bool), (s.flint.on = true) ∧ (s.mbServed 0x13 = true) ∧ (s.fw.trial = true) :=
  ⟨{ running with fw := { running.fw with trial := true, run := 1 } }, true, by decide +kernel⟩

/-- A state that meets the hypotheses of FirmwareBanks, clause 9. -/
theorem witness_FirmwareBanks_9 : ∃ (s : State), (s.fw.trial = true) :=
  ⟨{ running with fw := { running.fw with trial := true, run := 1 } }, by decide +kernel⟩

/-- A state that meets the hypotheses of FirmwareBanks, clause 10. -/
theorem witness_FirmwareBanks_10 : ∃ (s : State), (s.flint.on = true) ∧ (2 ≤ s.rd F.FLT_START_STAGE) ∧ (s.fw.restarts = []) :=
  ⟨running, by decide +kernel⟩

/-- A state that meets the hypotheses of FirmwareBanks, clause 11. -/
theorem witness_FirmwareBanks_11 : ∃ (s : State), (s.rd F.FLT_START_STAGE = 1) ∧ ((s.fw.bank s.fw.act).valid = true) :=
  ⟨State.reset, by decide +kernel⟩

/-- A state that meets the hypotheses of FirmwareBanks, clause 12. -/
theorem witness_FirmwareBanks_12 : ∃ (s : State), (s.rd F.FLT_START_STAGE = 1) ∧ ((s.fw.bank s.fw.act).valid = false) ∧ ((s.fw.bank (1 - s.fw.act)).valid = false) :=
  ⟨{ State.reset with fw := { State.reset.fw with a := ⟨false, 1, []⟩, b := ⟨false, 1, []⟩ } }, by decide +kernel⟩

/-- A state that meets the hypotheses of FirmwareBanks, clause 13. -/
theorem witness_FirmwareBanks_13 : ∃ (s : State), (s.rd F.FLT_START_STAGE = 1) ∧ ((s.fw.bank (1 - s.fw.act)).valid = true) :=
  ⟨State.reset, by decide +kernel⟩

/-- A state that meets the hypotheses of StartUpStages, clause 1. -/
theorem witness_StartUpStages_1 : ∃ (s : State), (s.stage = 4) ∧ (s.start.dieInit = false) ∧ (s.start.memInit = false) ∧ (s.start.rstOn = false) ∧ (s.rd F.FLT_START_HOLD_AT = 0) :=
  ⟨atStage 4, by decide +kernel⟩

/-- A state that meets the hypotheses of StartUpStages, clause 2. -/
theorem witness_StartUpStages_2 : ∃ (s : State), (s.stage = 4) ∧ (s.start.rstOn = false) ∧ (s.start.rstPend = none) ∧ (s.flint.hbArmed.getD 0 false = false) :=
  ⟨atStage 4, by decide +kernel⟩

/-- A state that meets the hypotheses of StartUpStages, clause 3. -/
theorem witness_StartUpStages_3 : ∃ (s : State), (s.inMemInit = true) ∧ (s.pwr.refclk = true) ∧ (s.start.keepMirror = false) :=
  ⟨{ atStage 5 with start := { (atStage 5).start with dieInit := true } }, by decide +kernel⟩

/-- A state that meets the hypotheses of StartUpStages, clause 4. -/
theorem witness_StartUpStages_4 : ∃ (s : State), (s.inMemInit = true) ∧ (s.pwr.refclk = false) :=
  ⟨{ atStage 5 with pwr := { (atStage 5).pwr with refclk := false }, start := { (atStage 5).start with dieInit := true } }, by decide +kernel⟩

/-- A state that meets the hypotheses of StartUpStages, clause 5. -/
theorem witness_StartUpStages_5 : ∃ (s : State), (s.stage = 5) ∧ (s.start.memInit = true) ∧ (s.start.perst = true) ∧ (s.start.rstOn = false) ∧ (s.rd F.FLT_START_HOLD_AT = 0) :=
  ⟨{ atStage 5 with start := { running.start with linkLimit := false } }, by decide +kernel⟩

/-- A state that meets the hypotheses of StartUpStages, clause 6. -/
theorem witness_StartUpStages_6 : ∃ (s : State), (s.stage = 6) ∧ (s.start.memInit = true) ∧ (s.start.linkLimit = false) ∧ (s.start.rstOn = false) ∧ (s.rd F.FLT_START_HOLD_AT = 0) :=
  ⟨atStage 6, by decide +kernel⟩

/-- A state that meets the hypotheses of StartUpStages, clause 7. -/
theorem witness_StartUpStages_7 : ∃ (s : State) (v : BitVec 64), (s.bit F.FLT_EXPERT_EN_EN = true) ∧ (4 ≤ bitsAt v.toNat 4 4) ∧ (bitsAt v.toNat 4 4 ≤ 8) :=
  ⟨State.reset.wb F.FLT_EXPERT_EN_EN true, 0x40, by decide +kernel⟩

/-- A state that meets the hypotheses of StartUpStages, clause 8. -/
theorem witness_StartUpStages_8 : ∃ (s : State), (s.stage = 7) ∧ (s.start.rstOn = false) ∧ (s.bit F.DEV_START_ID_OK = true) ∧ (s.bit F.DEV_START_RT_OK = true) ∧ (s.bit F.DEV_START_FT_OK = true) ∧ (s.rd F.FLT_START_HOLD_AT = 0) :=
  ⟨((((atStage 7).wb F.DEV_START_ID_OK true).wb F.DEV_START_RT_OK true).wb F.DEV_START_FT_OK true), by decide +kernel⟩

/-- A state that meets the hypotheses of ModuleAndColdReset, clause 1. -/
theorem witness_ModuleAndColdReset_1 : ∃ (s : State), (3 ≤ s.rd F.FLT_START_STAGE) ∧ (s.start.rstPend = none) ∧ (s.start.rstOn = false) :=
  ⟨running, by decide +kernel⟩

/-- A state that meets the hypotheses of ModuleAndColdReset, clause 2. -/
theorem witness_ModuleAndColdReset_2 : ∃ (s : State) (c : Nat), (s.start.rstPend = some c) ∧ (c < 16) :=
  ⟨{ running with start := { running.start with rstPend := some 3 } }, 3, by decide +kernel⟩

/-- A state that meets the hypotheses of ModuleAndColdReset, clause 3. -/
theorem witness_ModuleAndColdReset_3 : ∃ (s : State), (s.start.rstOn = true) ∧ (s.pwr.lockout = 0) ∧ (s.bit F.FLT_STAT_PKG_FAIL = false) ∧ (s.rd F.AGT_STAT_STATE ≠ 9) ∧ (s.pwr.step = 6) ∧ (s.rd F.FLT_START_HOLD_AT ≠ 4) :=
  ⟨{ running with start := { running.start with rstOn := true } }, by decide +kernel⟩

/-- A state that meets the hypotheses of ModuleAndColdReset, clause 4. -/
theorem witness_ModuleAndColdReset_4 : ∃ (s : State), (s.start.modLow = true) ∧ (s.start.modLong = false) :=
  ⟨{ running with start := { running.start with modLow := true } }, by decide +kernel⟩

/-- A state that meets the hypotheses of PartitionIslandLinkReset, clause 1. -/
theorem witness_PartitionIslandLinkReset_1 : ∃ (s : State) (p : Part), (s.partExists p = true) ∧ (6 ≤ s.stage) ∧ (s.flag F.DEV_RST_PART_BUSY p = false) ∧ (s.start.rstPend = none) ∧ (s.start.rstOn = false) :=
  ⟨expert0, 0, by decide +kernel⟩

/-- A state that meets the hypotheses of PartitionIslandLinkReset, clause 2. -/
theorem witness_PartitionIslandLinkReset_2 : ∃ (s : State) (p : Part), (s.partExists p = false) :=
  ⟨running, 3, by decide +kernel⟩

/-- A state that meets the hypotheses of PartitionIslandLinkReset, clause 3. -/
theorem witness_PartitionIslandLinkReset_3 : ∃ (s : State) (p : Part), (s.flag F.DEV_RST_PART_BUSY p = true) :=
  ⟨running.wflag F.DEV_RST_PART_BUSY 2 true, 2, by decide +kernel⟩

/-- A state that meets the hypotheses of PartitionIslandLinkReset, clause 4. -/
theorem witness_PartitionIslandLinkReset_4 : ∃ (s : State) (i : Fin 131072) (c : Ctx), (SMap.find s.quartz.ctx i = some c) ∧ (c.orphan = true) ∧ (c.since + 100000000 ≤ s.now) :=
  ⟨{ running with now := 100000000, quartz := { QuartzSt.init with ctx := [(5, orphan)] } }, 5, orphan, by decide +kernel⟩

/-- A state that meets the hypotheses of PartitionIslandLinkReset, clause 5. -/
theorem witness_PartitionIslandLinkReset_5 : ∃ (s : State) (i : Fin 305), ((i : Nat) ≠ 304) ∧ (s.islPres i = true) ∧ ((match s.islPart i with | some p => s.bit F.HST_PART_CTL_EXPERT_EN p | none => s.bit F.FLT_EXPERT_EN_EN) = true) ∧ (6 ≤ s.stage) ∧ (s.start.rstPend = none) ∧ (s.start.rstOn = false) ∧ (s.islResetting i = false) :=
  ⟨running.wb F.FLT_EXPERT_EN_EN true, 293, by decide +kernel⟩

/-- A state that meets the hypotheses of PartitionIslandLinkReset, clause 6. -/
theorem witness_PartitionIslandLinkReset_6 : ∃ (s : State) (i : Fin 305), (SMap.find s.start.isl i = some 1) :=
  ⟨{ running with start := { running.start with isl := [(293, 1)] } }, 293, by decide +kernel⟩

/-- A state that meets the hypotheses of PartitionIslandLinkReset, clause 7. -/
theorem witness_PartitionIslandLinkReset_7 : ∃ (s : State) (i : Fin 305), (SMap.find s.start.isl i = some 2) ∧ (s.islHeld i = false) ∧ ((i : Nat) < 288) :=
  ⟨{ running with start := { running.start with isl := [(20, 2)] } }, 20, by decide +kernel⟩

/-- A state that meets the hypotheses of PartitionIslandLinkReset, clause 8. -/
theorem witness_PartitionIslandLinkReset_8 : ∃ (s : State) (i : Fin 305), ((i : Nat) = 293 ∨ (i : Nat) = 294) ∧ (s.islResetting i = true) ∧ (s.islPres i = true) ∧ (s.islFailed i = false) :=
  ⟨{ running with start := { running.start with isl := [(293, 2)] } }, 293, by decide +kernel⟩

/-- A state that meets the hypotheses of PartitionIslandLinkReset, clause 9. -/
theorem witness_PartitionIslandLinkReset_9 : ∃ (s : State), (s.start.rstPend = none) ∧ (s.start.rstOn = false) :=
  ⟨running, by decide +kernel⟩

/-- A state that meets the hypotheses of FabricTime, clause 1. -/
theorem witness_FabricTime_1 : ∃ (t : TimeSt), (t.ft + 3 < 2 ^ 64) ∧ (t.trim.natAbs < 1000000000 ∧ t.frac.natAbs < 1000000000) :=
  ⟨TimeSt.init, by decide +kernel⟩

/-- A state that meets the hypotheses of FabricTime, clause 2. -/
theorem witness_FabricTime_2 : ∃ (s : State) (off : Int), (s.time.locked1 = true) ∧ (0 ≤ (s.time.ft : Int) - off) ∧ ((s.time.ft : Int) - off < 2 ^ 64) :=
  ⟨{ running with time := { TimeSt.init with locked1 := true, ft := 5000 } }, 2000, by decide +kernel⟩

/-- A state that meets the hypotheses of FabricTime, clause 3. -/
theorem witness_FabricTime_3 : ∃ (s : State) (l : Nat), (s.time.run = true) ∧ (s.start.rstOn = false) ∧ (s.time.ppsLast = some l) ∧ (l + 999900000 ≤ s.now) ∧ (s.now ≤ l + 1000100000) ∧ (s.rd F.FT_CFG_MODE = 1) ∧ (s.bit F.FT_CFG_NEXT_ARM = true) ∧ (s.time.locked1 = false) ∧ (s.rd F.FT_NEXT_TIME < 2 ^ 64) :=
  ⟨((ftState (some 0) 1000000000).wr F.FT_CFG_MODE 1).wb F.FT_CFG_NEXT_ARM true, 0, by decide +kernel⟩

/-- A state that meets the hypotheses of FabricTime, clause 4. -/
theorem witness_FabricTime_4 : ∃ (s : State) (l : Nat), (s.time.run = true) ∧ (s.start.rstOn = false) ∧ (s.time.ppsLast = some l) ∧ (s.now < l + 999900000) :=
  ⟨ftState (some 0) 5, 0, by decide +kernel⟩

/-- A state that meets the hypotheses of FabricTime, clause 5. -/
theorem witness_FabricTime_5 : ∃ (s : State) (l : Nat), (s.time.ppsLast = some l) ∧ (l + 3000000000 ≤ s.now) ∧ (s.rd F.FT_CFG_MODE = 1) :=
  ⟨(ftState (some 0) 3000000000).wr F.FT_CFG_MODE 1, 0, by decide +kernel⟩

/-- A state that meets the hypotheses of FabricTime, clause 6. -/
theorem witness_FabricTime_6 : ∃ (s : State) (n : Nat), (s.rd F.FT_CFG_MODE = 2) ∧ (s.time.follow = some n) ∧ (SMap.find s.time.offers n = none) ∧ (n ≠ 31) :=
  ⟨{ (ftState none 0).wr F.FT_CFG_MODE 2 with time := { TimeSt.init with follow := some 3 } }, 3, by decide +kernel⟩

/-- A state that meets the hypotheses of FabricTime, clause 7. -/
theorem witness_FabricTime_7 : ∃ (s : State) (h : Nat), (s.time.holdSince = some h) ∧ (s.bit F.FT_STAT_HOLDOVER = true) ∧ (h + 1000000000 ≤ s.now) :=
  ⟨{ (ftState none 1000000000).wb F.FT_STAT_HOLDOVER true with time := { TimeSt.init with holdSince := some 0 } }, 0, by decide +kernel⟩

/-- A state that meets the hypotheses of FabricTime, clause 8. -/
theorem witness_FabricTime_8 : ∃ (s : State) (n : Port), (s.rd F.FT_CFG_MODE = 2) ∧ (s.time.run = true) ∧ (s.start.rstOn = false) ∧ (s.portUp n = true) ∧ (s.bit F.FT_CFG_GM_ELIG = false) ∧ (s.time.offers = []) :=
  ⟨(((ftState none 0).wr F.FT_CFG_MODE 2).wb F.FT_CFG_GM_ELIG false).wr F.QTZ_PORT_STAT_STATE 7 3, 3, by decide +kernel⟩

/-- A state that meets the hypotheses of FabricTime, clause 9. -/
theorem witness_FabricTime_9 : ∃ (s : State) (n : Port) (p : Pkt) (rank hops src : BitVec 16), (p.opc = 6) ∧ (s.portUp n = true) ∧ (p.badHdr (decide ((n : Nat) = 16)) = false) :=
  ⟨(ftState none 0).wr F.QTZ_PORT_STAT_STATE 7 3, 3, pktOf 6, 0, 1, 5, by decide +kernel⟩

/-- A state that meets the hypotheses of FabricTime, clause 10. -/
theorem witness_FabricTime_10 : ∃ (s : State) (n : Port) (p : Pkt) (rank hops src : BitVec 16) (t2 t3 : BitVec 64), (p.opc = 7) ∧ (s.portUp n = true) ∧ (p.badHdr (decide ((n : Nat) = 16)) = false) ∧ (SMap.find s.time.sent n = none) :=
  ⟨(ftState none 0).wr F.QTZ_PORT_STAT_STATE 7 3, 3, pktOf 7, 0, 1, 5, 0, 0, by decide +kernel⟩

/-- A state that meets the hypotheses of ScalarResults, clause 1. -/
theorem witness_ScalarResults_1 : ∃ (s : State) (x : Iss) (rd ra rb : Fin 64) (a b : Word), (s.issues x = true) ∧ ((s.cl x.c).gr ra = a) ∧ ((s.cl x.c).gr rb = b) :=
  ⟨prog, x0, 3, 1, 2, 5, 7, by decide +kernel⟩

/-- A state that meets the hypotheses of ScalarResults, clause 2. -/
theorem witness_ScalarResults_2 : ∃ (s : State) (x : Iss) (rd ra rb : Fin 64) (a b : Word), (s.issues x = true) ∧ ((s.cl x.c).gr ra = a) ∧ ((s.cl x.c).gr rb = b) :=
  ⟨prog, x0, 3, 1, 2, 5, 7, by decide +kernel⟩

/-- A state that meets the hypotheses of ScalarResults, clause 3. -/
theorem witness_ScalarResults_3 : ∃ (s : State) (x : Iss) (rd ra rb : Fin 64) (a b : Word), (s.issues x = true) ∧ ((s.cl x.c).gr ra = a) ∧ ((s.cl x.c).gr rb = b) :=
  ⟨prog, x0, 3, 1, 2, 5, 7, by decide +kernel⟩

/-- A state that meets the hypotheses of ScalarResults, clause 4. -/
theorem witness_ScalarResults_4 : ∃ (s : State) (x : Iss) (rd ra : Fin 64) (a : Word), (s.issues x = true) ∧ ((s.cl x.c).gr ra = a) :=
  ⟨prog, x0, 3, 1, 5, by decide +kernel⟩

/-- A state that meets the hypotheses of ScalarResults, clause 5. -/
theorem witness_ScalarResults_5 : ∃ (s : State) (x : Iss) (rd ra : Fin 64) (sh : Fin 64) (imm : BitVec 24) (a : Word), (s.issues x = true) ∧ ((s.cl x.c).gr ra = a) :=
  ⟨prog, x0, 3, 1, 4, 0xFFFFFF, 5, by decide +kernel⟩

/-- A state that meets the hypotheses of ScalarResults, clause 6. -/
theorem witness_ScalarResults_6 : ∃ (s : State) (x : Iss) (rd ra rb : Fin 64) (p : Fin 8) (n : Fin 64), (s.issues x = true) :=
  ⟨prog, xl, 3, 1, 2, 0, 3, by decide +kernel⟩

/-- A state that meets the hypotheses of PredicateResults, clause 1. -/
theorem witness_PredicateResults_1 : ∃ (s : State) (x : Iss) (rd : Fin 8) (ra rb : Fin 64) (a b : Word), (s.issues x = true) ∧ ((s.cl x.c).gr ra = a) ∧ ((s.cl x.c).gr rb = b) :=
  ⟨prog, x0, 3, 1, 2, 5, 7, by decide +kernel⟩

/-- A state that meets the hypotheses of PredicateResults, clause 2. -/
theorem witness_PredicateResults_2 : ∃ (s : State) (x : Iss) (rd : Fin 8) (ra : Fin 64) (imm : BitVec 24) (a : Word), (s.issues x = true) ∧ ((s.cl x.c).gr ra = a) :=
  ⟨prog, x0, 3, 1, 0xFFFFFF, 5, by decide +kernel⟩

/-- A state that meets the hypotheses of PredicateResults, clause 3. -/
theorem witness_PredicateResults_3 : ∃ (s : State) (x : Iss) (rd ra rb : Fin 8) (a b : Bool), (s.issues x = true) ∧ ((s.cl x.c).pr ra = a) ∧ ((s.cl x.c).pr rb = b) :=
  ⟨prog, x0, 3, 0, 1, true, false, by decide +kernel⟩

/-- A state that meets the hypotheses of PredicateResults, clause 4. -/
theorem witness_PredicateResults_4 : ∃ (s : State) (x : Iss) (rd ra rb : Fin 64) (n : Fin 64) (imm : BitVec 24), (s.reaches x = true) ∧ (x.res = false) ∧ ((s.cl x.c).guard x = false) :=
  ⟨prog, ⟨0, 1, false, true, false⟩, 3, 1, 2, 0, 0, by decide +kernel⟩

/-- A state that meets the hypotheses of BranchTargets, clause 1. -/
theorem witness_BranchTargets_1 : ∃ (s : State) (x : Iss) (rd ra : Fin 64) (n : Nat), (s.issues x = true) ∧ (((s.cl x.c).gr ra).toNat = n) :=
  ⟨progG [(1, 0x1F0)], x0, 3, 1, 0x1F0, by decide +kernel⟩

/-- A state that meets the hypotheses of BranchTargets, clause 2. -/
theorem witness_BranchTargets_2 : ∃ (s : State) (x : Iss) (rd : Fin 64) (off : BitVec 24) (n : Nat), (s.issues x = true) ∧ ((BitVec.ofInt 64 ((s.cl x.c).pc + off.toInt * 4)).toNat = n) :=
  ⟨prog, xl, 3, 8, 0x120, by decide +kernel⟩

/-- A state that meets the hypotheses of BranchTargets, clause 3. -/
theorem witness_BranchTargets_3 : ∃ (s : State) (x : Iss) (p : Fin 8) (inv : Bool) (off : BitVec 14) (n : Nat), (s.issues x = true) ∧ ((BitVec.ofInt 64 ((s.cl x.c).pc + off.toInt * 4)).toNat = n) :=
  ⟨prog, x0, 0, false, 8, 0x120, by decide +kernel⟩

/-- A state that meets the hypotheses of LoadsAndStores, clause 1. -/
theorem witness_LoadsAndStores_1 : ∃ (s : State) (x : Iss) (rd ra : Fin 64) (imm : BitVec 24) (off : Nat), (s.issues x = true) ∧ (s.tnsIdle x.c = true) ∧ (((s.cl x.c).gr ra + imm.signExtend 64).toNat = off) ∧ (off < 0x400000) ∧ (s.psnAt (sramAt x.c off - sramAt x.c off % 8) = false) :=
  ⟨progG [(1, 0x3FFFFF)], x0, 3, 1, 0, 0x3FFFFF, by decide +kernel⟩

/-- A state that meets the hypotheses of LoadsAndStores, clause 2. -/
theorem witness_LoadsAndStores_2 : ∃ (s : State) (x : Iss) (rd ra : Fin 64) (imm : BitVec 24) (off : Nat), (s.issues x = true) ∧ (s.tnsIdle x.c = true) ∧ (((s.cl x.c).gr ra + imm.signExtend 64 * 2).toNat = off) ∧ (off < 0x400000) ∧ (off % 2 = 0) ∧ (s.psnAt (sramAt x.c off - sramAt x.c off % 8) = false) :=
  ⟨progG [(1, 0x3FFFFE)], x0, 3, 1, 0, 0x3FFFFE, by decide +kernel⟩

/-- A state that meets the hypotheses of LoadsAndStores, clause 3. -/
theorem witness_LoadsAndStores_3 : ∃ (s : State) (x : Iss) (rd ra : Fin 64) (imm : BitVec 24) (off : Nat), (s.issues x = true) ∧ (s.tnsIdle x.c = true) ∧ (((s.cl x.c).gr ra + imm.signExtend 64 * 4).toNat = off) ∧ (off < 0x400000) ∧ (off % 4 = 0) ∧ (s.psnAt (sramAt x.c off - sramAt x.c off % 8) = false) :=
  ⟨progG [(1, 0x3FFFFC)], x0, 3, 1, 0, 0x3FFFFC, by decide +kernel⟩

/-- A state that meets the hypotheses of LoadsAndStores, clause 4. -/
theorem witness_LoadsAndStores_4 : ∃ (s : State) (x : Iss) (rd ra : Fin 64) (imm : BitVec 24) (off : Nat), (s.issues x = true) ∧ (s.tnsIdle x.c = true) ∧ (((s.cl x.c).gr ra + imm.signExtend 64 * 8).toNat = off) ∧ (off < 0x400000) ∧ (off % 8 = 0) ∧ (s.psnAt (sramAt x.c off) = false) :=
  ⟨progG [(1, 0x3FFFF0)], x0, 3, 1, 1, 0x3FFFF8, by decide +kernel⟩

/-- A state that meets the hypotheses of LoadsAndStores, clause 5. -/
theorem witness_LoadsAndStores_5 : ∃ (s : State) (x : Iss) (rd ra : Fin 64) (imm : BitVec 24) (off : Nat), (s.issues x = true) ∧ (s.tnsIdle x.c = true) ∧ (((s.cl x.c).gr ra + imm.signExtend 64 * 8).toNat = off) :=
  ⟨progG [(1, 0x400000)], x0, 3, 1, 0, 0x400000, by decide +kernel⟩

/-- A state that meets the hypotheses of LoadsAndStores, clause 6. -/
theorem witness_LoadsAndStores_6 : ∃ (s : State) (x : Iss) (rd : Fin 32) (ra : Fin 64) (imm : BitVec 24) (off : Nat), (s.issues x = true) ∧ (s.tnsIdle x.c = true) ∧ (((s.cl x.c).gr ra + imm.signExtend 64 * 64).toNat = off) ∧ (off + 256 ≤ 0x400000) ∧ (off % 64 = 0) ∧ (bitAt (s.cl x.c).vBusy rd = false) ∧ (s.psnRange (sramAt x.c off) 256 = false) :=
  ⟨progG [(1, 0x3FFF00)], x0, 3, 1, 0, 0x3FFF00, by decide +kernel⟩

/-- A state that meets the hypotheses of LoadsAndStores, clause 7. -/
theorem witness_LoadsAndStores_7 : ∃ (s : State) (x : Iss) (rd : Fin 32) (ra : Fin 64) (imm : BitVec 24) (off : Nat), (s.issues x = true) ∧ (s.tnsIdle x.c = true) ∧ (((s.cl x.c).gr ra + imm.signExtend 64 * 64).toNat = off) ∧ (bitAt (s.cl x.c).vBusy rd = false) ∧ (off < 0x400000 ∧ off % 64 ≠ 0) :=
  ⟨progG [(1, 0x3FFF01)], x0, 3, 1, 0, 0x3FFF01, by decide +kernel⟩

/-- A state that meets the hypotheses of AtomicsAndFaultDelivery, clause 1. -/
theorem witness_AtomicsAndFaultDelivery_1 : ∃ (s : State) (x : Iss) (rd ra rb : Fin 64) (op : BitVec 4) (off p : Nat), (s.issues x = true) ∧ (s.tnsIdle x.c = true) ∧ ((s.cl x.c).gr ra = BitVec.ofNat 64 (0xFFFE * 2 ^ 48 + sramAt x.c off)) ∧ (off < 0x400000) ∧ (s.cluPart x.c = some p) ∧ (s.islResetting (s.cluIsland x.c) = false) ∧ (s.fenced 0xFFFE = false) ∧ (s.rd F.QTZ_ID_ASSUMED ≠ 0xFFFE) ∧ (s.psnAt (sramAt x.c off - sramAt x.c off % 8) = false) :=
  ⟨progG [(1, 0xFFFE000000300000), (2, 5)], xl, 3, 1, 2, 0, 0x300000, 0, by decide +kernel⟩

/-- A state that meets the hypotheses of AtomicsAndFaultDelivery, clause 2. -/
theorem witness_AtomicsAndFaultDelivery_2 : ∃ (s : State) (x : Iss) (rd ra rb : Fin 64) (op : BitVec 4) (a : Nat), (s.issues x = true) ∧ (s.tnsIdle x.c = true) ∧ (((s.cl x.c).gr ra).toNat = a) :=
  ⟨progG [(1, 0xFFFF000000300000)], xl, 3, 1, 2, 0, 0xFFFF000000300000, by decide +kernel⟩

/-- A state that meets the hypotheses of AtomicsAndFaultDelivery, clause 3. -/
theorem witness_AtomicsAndFaultDelivery_3 : ∃ (s : State) (x : Iss), (s.reaches x = true) :=
  ⟨progK (fun k => { k with fmode := 1, fvec := 0x180 }), ⟨0, 1, false, true, true⟩, by decide +kernel⟩

/-- A state that meets the hypotheses of AtomicsAndFaultDelivery, clause 4. -/
theorem witness_AtomicsAndFaultDelivery_4 : ∃ (s : State) (x : Iss), ((s.cl x.c).ready = true) ∧ (s.cluHeld x.c = false) ∧ ((s.cl x.c).inCode x.long = false) :=
  ⟨progK (fun k => { k with pc := 0x200 }), x0, by decide +kernel⟩

/-- A state that meets the hypotheses of AtomicsAndFaultDelivery, clause 5. -/
theorem witness_AtomicsAndFaultDelivery_5 : ∃ (s : State) (x : Iss), (s.issues x = true) :=
  ⟨progK (fun k => { k with inh := true, fpc := 0x110 }), x0, by decide +kernel⟩

/-- A state that meets the hypotheses of AtomicsAndFaultDelivery, clause 6. -/
theorem witness_AtomicsAndFaultDelivery_6 : ∃ (s : State) (x : Iss) (rd n : Fin 64) (v : Nat), (s.issues x = true) :=
  ⟨prog, x0, 3, 16, 0, by decide +kernel⟩

/-- A state that meets the hypotheses of AtomicsAndFaultDelivery, clause 7. -/
theorem witness_AtomicsAndFaultDelivery_7 : ∃ (s : State) (x : Iss) (ra : Fin 64) (v : Nat), (s.issues x = true) ∧ (((s.cl x.c).gr ra).toNat = v) :=
  ⟨progG [(1, 1)], x0, 1, 1, by decide +kernel⟩

/-- A state that meets the hypotheses of DmaTransfers, clause 1. -/
theorem witness_DmaTransfers_1 : ∃ (s : State) (x : Iss) (rd ra rb : Fin 64) (imm : BitVec 24) (d a n : Nat), (s.issues x = true) ∧ (s.tnsIdle x.c = true) ∧ (imm.toNat < 2 ^ 13) ∧ (((s.cl x.c).slotAt (imm.toNat % 64)).busy = false) ∧ (((s.cl x.c).slotAt (imm.toNat % 64)).unrep = false) ∧ (((s.cl x.c).gr rd).toNat = d) ∧ (((s.cl x.c).gr ra).toNat = a) ∧ (((s.cl x.c).gr rb).toNat = n) ∧ (n < 2 ^ 32 ∧ d / 2 ^ 48 ≠ 0xFFFF ∧ a / 2 ^ 48 ≠ 0xFFFF) ∧ (d % 2 ^ 48 + n ≤ a % 2 ^ 48 ∨ a % 2 ^ 48 + n ≤ d % 2 ^ 48) :=
  ⟨progG [(1, 0xFFFE000000200000), (2, 0xFFFE000000300000), (3, 64)], xl, 1, 2, 3, 0x1041, 0xFFFE000000200000, 0xFFFE000000300000, 64, by decide +kernel⟩

/-- A state that meets the hypotheses of DmaTransfers, clause 2. -/
theorem witness_DmaTransfers_2 : ∃ (s : State) (x : Iss) (ra : Fin 64) (imm : BitVec 24) (m : Xfer), (s.issues x = true) ∧ (s.tnsIdle x.c = true) ∧ (imm.toNat < 2 ^ 13) ∧ (((s.cl x.c).slotAt (imm.toNat % 64)).busy = false) ∧ (((s.cl x.c).slotAt (imm.toNat % 64)).unrep = false) ∧ (s.dmaDesc x.c ⟨.cp2, false, 0, ra, 0, imm.toNat⟩ = (0, m)) ∧ (s.xferCode m = 0) :=
  ⟨progG [(1, 0x200000)], xl, 1, 0, Xfer.init, by decide +kernel⟩

/-- A state that meets the hypotheses of DmaTransfers, clause 3. -/
theorem witness_DmaTransfers_3 : ∃ (s : State) (x : Iss) (ra : Fin 64) (imm : BitVec 24) (m : Xfer), (s.issues x = true) ∧ (s.tnsIdle x.c = true) ∧ (imm.toNat < 2 ^ 13) ∧ (s.cluExpert x.c = true) ∧ (((s.cl x.c).slotAt (imm.toNat % 64)).busy = false) ∧ (((s.cl x.c).slotAt (imm.toNat % 64)).unrep = false) ∧ (s.dmaDesc x.c ⟨.cpx, false, 0, ra, 0, imm.toNat⟩ = (0, m)) ∧ (s.xferCode m = 0) :=
  ⟨progG [(1, 0x200000)], xl, 1, 0, Xfer.init, by decide +kernel⟩

/-- A state that meets the hypotheses of DmaTransfers, clause 4. -/
theorem witness_DmaTransfers_4 : ∃ (s : State) (x : Iss) (rd ra rb : Fin 64) (imm : BitVec 24), (s.issues x = true) ∧ (s.tnsIdle x.c = true) ∧ (imm.toNat < 2 ^ 13) :=
  ⟨prog, xl, 1, 2, 3, 0, by decide +kernel⟩

/-- A state that meets the hypotheses of DmaTransfers, clause 5. -/
theorem witness_DmaTransfers_5 : ∃ (s : State) (c : Clu) (r : DmaReq) (m : Xfer), ((s.cl c).wait = some (.dmaSlot r (r.imm % 64))) ∧ (((s.cl c).slotAt (r.imm % 64)).busy = false) ∧ (((s.cl c).slotAt (r.imm % 64)).unrep = false) ∧ (s.dmaDesc c r = (0, m)) ∧ (s.xferCode m = 0) :=
  ⟨progK (fun k => { k with wait := some (.dmaSlot ⟨.cp, false, 0, 0, 0, 0⟩ 0) }), 0, ⟨.cp, false, 0, 0, 0, 0⟩, { Xfer.init with rows := 1 }, by decide +kernel⟩

/-- A state that meets the hypotheses of DmaTransfers, clause 6. -/
theorem witness_DmaTransfers_6 : ∃ (s : State) (c : Clu) (n : Fin 64) (a b len p : Nat), (s.cl c = { s.cl c with slots := [((n : Nat), { DmaSlot.init with busy := true, x := { Xfer.init with dst := 0xFFFE * 2 ^ 48 + a, src := 0xFFFE * 2 ^ 48 + b, rowBytes := len, rows := 1 } })] }) ∧ (s.cluPart c = some p) ∧ (s.islResetting (s.cluIsland c) = false) ∧ (s.fenced 0xFFFE = false) ∧ (s.rd F.QTZ_ID_ASSUMED ≠ 0xFFFE) ∧ (0 < len ∧ len ≤ 4096) ∧ (sramAt c 0 ≤ a ∧ a + len ≤ sramAt c 0 + 0x400000) ∧ (sramAt c 0 ≤ b ∧ b + len ≤ sramAt c 0 + 0x400000) ∧ ((s.cl c).run = false ∨ a + len ≤ sramAt c (s.cl c).codeBase ∨ sramAt c (s.cl c).codeLim ≤ a) ∧ (s.psnRange b len = false) :=
  ⟨progK (fun k => { k with slots := [(3, { DmaSlot.init with busy := true, x := { Xfer.init with dst := 0xFFFE * 2 ^ 48 + 0x300000, src := 0xFFFE * 2 ^ 48 + 0x100, rowBytes := 64, rows := 1 } })] }), 0, 3, 0x300000, 0x100, 64, 0, by decide +kernel⟩

/-- A state that meets the hypotheses of DmaTransfers, clause 7. -/
theorem witness_DmaTransfers_7 : ∃ (s : State) (c : Clu) (n : Fin 64) (m : DmaSlot), ((s.cl c).slotAt n = m) ∧ (m.finished = true) ∧ (m.x.sigDest = false) :=
  ⟨progK (fun k => { k with slots := [(3, { DmaSlot.init with busy := true, x := { Xfer.init with sig := true, sem := 4 } })] }), 0, 3, { DmaSlot.init with busy := true, x := { Xfer.init with sig := true, sem := 4 } }, by decide +kernel⟩

/-- A state that meets the hypotheses of DmaTransfers, clause 8. -/
theorem witness_DmaTransfers_8 : ∃ (s : State) (x : Iss) (n : Fin 64), (s.issues x = true) ∧ (((s.cl x.c).slotAt n).busy = false) :=
  ⟨progK (fun k => { k with slots := [(3, { DmaSlot.init with code := 0x0305, unrep := true })] }), x0, 3, by decide +kernel⟩

/-- A state that meets the hypotheses of DmaTransfers, clause 9. -/
theorem witness_DmaTransfers_9 : ∃ (s : State) (x : Iss), (s.issues x = true) ∧ ((s.cl x.c).slots = []) :=
  ⟨prog, x0, by decide +kernel⟩

/-- A state that meets the hypotheses of DmaTransfers, clause 10. -/
theorem witness_DmaTransfers_10 : ∃ (s : State) (c : Clu) (n : Nat), ((s.cl c).wait = some (.dmaWait n)) ∧ (((s.cl c).slotAt n).busy = false) ∧ (((s.cl c).slotAt n).unrep = false) :=
  ⟨progK (fun k => { k with wait := some (.dmaWait 3) }), 0, 3, by decide +kernel⟩

/-- A state that meets the hypotheses of DmaTransfers, clause 11. -/
theorem witness_DmaTransfers_11 : ∃ (s : State) (x : Iss) (rd n : Fin 64), (s.issues x = true) :=
  ⟨prog, x0, 1, 3, by decide +kernel⟩

/-- A state that meets the hypotheses of SemaphoresAndSignals, clause 1. -/
theorem witness_SemaphoresAndSignals_1 : ∃ (s : State) (x : Iss) (n : Fin 64) (imm : BitVec 24), (s.issues x = true) ∧ (s.tnsIdle x.c = true) :=
  ⟨prog, x0, 3, 1, by decide +kernel⟩

/-- A state that meets the hypotheses of SemaphoresAndSignals, clause 2. -/
theorem witness_SemaphoresAndSignals_2 : ∃ (s : State) (x : Iss) (ra rb : Fin 64) (c : Clu) (n : Fin 64), (s.issues x = true) ∧ (s.tnsIdle x.c = true) ∧ ((s.cl x.c).gr ra = BitVec.ofNat 64 (0xFFFE * 2 ^ 48 + c * 256 + n)) ∧ (s.rd F.QTZ_ID_ASSUMED ≠ 0xFFFE) :=
  ⟨progG [(1, 0xFFFE000000000503), (2, 1)], x0, 1, 2, 5, 3, by decide +kernel⟩

/-- A state that meets the hypotheses of SemaphoresAndSignals, clause 3. -/
theorem witness_SemaphoresAndSignals_3 : ∃ (s : State) (c : Clu) (n : Fin 64) (src v : Nat) (p : Nat), (s.quartz.sigs = [⟨src, c, n, v⟩]) ∧ (src ≠ c) ∧ (s.cluPart src = some p) :=
  ⟨{ (prog.wflag F.HST_PART_CTL_CLU 1 true 0 0) with quartz := { prog.quartz with sigs := [⟨1, 0, 3, 2⟩] } }, 0, 3, 1, 2, 0, by decide +kernel⟩

/-- A state that meets the hypotheses of SemaphoresAndSignals, clause 4. -/
theorem witness_SemaphoresAndSignals_4 : ∃ (s : State) (x : Iss) (n : Fin 64) (imm : BitVec 24) (rd : Fin 8) (m : Sem), (s.issues x = true) ∧ ((s.cl x.c).semAt n = m) :=
  ⟨progK (fun k => { k with sems := [(3, ⟨2, false, false⟩)] }), x0, 3, 1, 1, ⟨2, false, false⟩, by decide +kernel⟩

/-- A state that meets the hypotheses of SemaphoresAndSignals, clause 5. -/
theorem witness_SemaphoresAndSignals_5 : ∃ (s : State) (c : Clu) (n need since : Nat), ((s.cl c).wait = some (.sem n need since)) ∧ (((s.cl c).semAt n).psn = false) :=
  ⟨progK (fun k => { k with wait := some (.sem 3 1 0) }), 0, 3, 1, 0, by decide +kernel⟩

/-- A state that meets the hypotheses of SemaphoresAndSignals, clause 6. -/
theorem witness_SemaphoresAndSignals_6 : ∃ (s : State) (x : Iss) (ra : Fin 64) (v : Nat), (s.issues x = true) ∧ (((s.cl x.c).gr ra).toNat = v) :=
  ⟨prog, x0, 3, 0, by decide +kernel⟩

/-- A state that meets the hypotheses of SemaphoresAndSignals, clause 7. -/
theorem witness_SemaphoresAndSignals_7 : ∃ (s : State) (c : Clu) (v : Nat), ((s.cl c).wait = some (.time v)) ∧ (v ≤ s.time.ft) :=
  ⟨progK (fun k => { k with wait := some (.time 0) }), 0, 0, by decide +kernel⟩

/-- A state that meets the hypotheses of SemaphoresAndSignals, clause 8. -/
theorem witness_SemaphoresAndSignals_8 : ∃ (s : State) (x : Iss), (s.issues x = true) ∧ ((s.cl x.c).sigOut = 0) ∧ ((s.cl x.c).sigerr = 0) :=
  ⟨prog, x0, by decide +kernel⟩

/-- A state that meets the hypotheses of SemaphoresAndSignals, clause 9. -/
theorem witness_SemaphoresAndSignals_9 : ∃ (s : State) (c : Clu), ((s.cl c).wait = some .drain) ∧ ((s.cl c).sigOut = 0) ∧ ((s.cl c).sigerr = 0) :=
  ⟨progK (fun k => { k with wait := some .drain }), 0, by decide +kernel⟩

/-- A state that meets the hypotheses of SemaphoresAndSignals, clause 10. -/
theorem witness_SemaphoresAndSignals_10 : ∃ (s : State) (x : Iss) (ra : Fin 64), (s.issues x = true) :=
  ⟨prog, x0, 1, by decide +kernel⟩

/-- A state that meets the hypotheses of SemaphoresAndSignals, clause 11. -/
theorem witness_SemaphoresAndSignals_11 : ∃ (s : State) (c : Clu) (v : Nat), ((s.cl c).wait = some (.post v)) ∧ (s.postBlocked (s.cl c).ring = false) :=
  ⟨progK (fun k => { k with wait := some (.post 9) }), 0, 9, by decide +kernel⟩

/-- A state that meets the hypotheses of SemaphoresAndSignals, clause 12. -/
theorem witness_SemaphoresAndSignals_12 : ∃ (s : State) (x : Iss), (s.issues x = true) ∧ (s.haltReady x.c = true) ∧ ((s.cl x.c).slots = []) ∧ ((s.cl x.c).clx = []) ∧ ((s.cl x.c).sigCodes = []) :=
  ⟨prog, x0, by decide +kernel⟩

/-- A state that meets the hypotheses of SemaphoresAndSignals, clause 13. -/
theorem witness_SemaphoresAndSignals_13 : ∃ (s : State) (c : Clu), ((s.cl c).wait = some .halt) ∧ (s.haltReady c = true) ∧ ((s.cl c).slots = []) ∧ ((s.cl c).clx = []) ∧ ((s.cl c).sigCodes = []) :=
  ⟨progK (fun k => { k with wait := some .halt }), 0, by decide +kernel⟩

/-- A state that meets the hypotheses of VectorIntegerAndLanes, clause 1. -/
theorem witness_VectorIntegerAndLanes_1 : ∃ (s : State) (x : Iss) (vd va vb : Fin 32) (a b : List Lane) (p : Bool), (s.issues x = true) ∧ (s.tnsIdle x.c = true) ∧ ((s.cl x.c).vBusy = 0) ∧ ((s.cl x.c).vr va = a) ∧ ((s.cl x.c).vr vb = b) ∧ (p = (bitAt (s.cl x.c).vpsn va || bitAt (s.cl x.c).vpsn vb)) :=
  ⟨vprog, x0, 3, 1, 2, (vprog.cl 0).vr 1, (vprog.cl 0).vr 2, false, by decide +kernel⟩

/-- A state that meets the hypotheses of VectorIntegerAndLanes, clause 2. -/
theorem witness_VectorIntegerAndLanes_2 : ∃ (s : State) (x : Iss) (vd va vb vm : Fin 32) (ra : Fin 64) (a b : List Lane) (p : Bool), (s.issues x = true) ∧ (s.tnsIdle x.c = true) ∧ ((s.cl x.c).vBusy = 0) ∧ ((s.cl x.c).vr va = a) ∧ ((s.cl x.c).vr vb = b) ∧ (p = (bitAt (s.cl x.c).vpsn va || bitAt (s.cl x.c).vpsn vb)) :=
  ⟨vprog, xl, 3, 1, 2, 1, 1, (vprog.cl 0).vr 1, (vprog.cl 0).vr 2, false, by decide +kernel⟩

/-- A state that meets the hypotheses of VectorIntegerAndLanes, clause 3. -/
theorem witness_VectorIntegerAndLanes_3 : ∃ (s : State) (x : Iss) (vd va : Fin 32) (rd ra : Fin 64) (imm : BitVec 24), (s.issues x = true) ∧ (s.tnsIdle x.c = true) ∧ ((s.cl x.c).vBusy = 0) ∧ (((s.cl x.c).vr vd).length = 64) :=
  ⟨vprog, x0, 3, 1, 3, 1, 63, by decide +kernel⟩

/-- A state that meets the hypotheses of VectorIntegerAndLanes, clause 4. -/
theorem witness_VectorIntegerAndLanes_4 : ∃ (s : State) (x : Iss) (va : Fin 32) (rd : Fin 64), (s.issues x = true) ∧ (s.tnsIdle x.c = true) ∧ ((s.cl x.c).vBusy = 0) ∧ (bitAt (s.cl x.c).vpsn va = false) ∧ ((rd : Nat) ≠ 0) ∧ (((s.cl x.c).vr va).length = 64) :=
  ⟨vprog, x0, 1, 3, by decide +kernel⟩

/-- A state that meets the hypotheses of VectorFloatAndMemory, clause 1. -/
theorem witness_VectorFloatAndMemory_1 : ∃ (s : State) (x : Iss) (vd va vb : Fin 32) (a b : List Lane) (p : Bool), (s.issues x = true) ∧ (s.tnsIdle x.c = true) ∧ ((s.cl x.c).vBusy = 0) ∧ ((s.cl x.c).vr va = a) ∧ ((s.cl x.c).vr vb = b) ∧ (p = (bitAt (s.cl x.c).vpsn va || bitAt (s.cl x.c).vpsn vb)) :=
  ⟨vprog, x0, 3, 1, 2, (vprog.cl 0).vr 1, (vprog.cl 0).vr 2, false, by decide +kernel⟩

/-- A state that meets the hypotheses of VectorFloatAndMemory, clause 2. -/
theorem witness_VectorFloatAndMemory_2 : ∃ (s : State) (x : Iss) (vd va : Fin 32) (a : List Lane) (p : Bool), (s.issues x = true) ∧ (s.tnsIdle x.c = true) ∧ ((s.cl x.c).vBusy = 0) ∧ ((s.cl x.c).vr va = a) ∧ (p = bitAt (s.cl x.c).vpsn va) :=
  ⟨vprog, x0, 3, 1, (vprog.cl 0).vr 1, false, by decide +kernel⟩

/-- A state that meets the hypotheses of VectorFloatAndMemory, clause 3. -/
theorem witness_VectorFloatAndMemory_3 : ∃ (s : State) (x : Iss) (rd : Fin 64) (va : Fin 32), (s.issues x = true) ∧ (s.tnsIdle x.c = true) ∧ ((s.cl x.c).vBusy = 0) ∧ (bitAt (s.cl x.c).vpsn va = false) ∧ (((s.cl x.c).vr va).length = 64) :=
  ⟨vprog, x0, 3, 1, by decide +kernel⟩

/-- A state that meets the hypotheses of VectorFloatAndMemory, clause 4. -/
theorem witness_VectorFloatAndMemory_4 : ∃ (f : Lane → Lane → Lane × NumFlags) (n : Nat) (l : List Lane), (l.length = 2 ^ (n + 1)) :=
  ⟨addF, 0, [0, 0], by decide +kernel⟩

/-- A state that meets the hypotheses of VectorFloatAndMemory, clause 5. -/
theorem witness_VectorFloatAndMemory_5 : ∃ (s : State) (x : Iss) (rd : Fin 64) (va : Fin 32), (s.issues x = true) ∧ (s.tnsIdle x.c = true) ∧ ((s.cl x.c).vBusy = 0) ∧ (bitAt (s.cl x.c).vpsn va = true) :=
  ⟨progK (fun k => { k with vpsn := 2 }), x0, 3, 1, by decide +kernel⟩

/-- A state that meets the hypotheses of VectorFloatAndMemory, clause 6. -/
theorem witness_VectorFloatAndMemory_6 : ∃ (s : State) (x : Iss) (vd va : Fin 32) (rb : Fin 64) (a : List Lane) (w : Word), (s.issues x = true) ∧ (s.tnsIdle x.c = true) ∧ ((s.cl x.c).vBusy = 0) ∧ ((s.cl x.c).vr va = a) ∧ ((s.cl x.c).gr rb = w) ∧ (a.length = 64) ∧ (∀ k, k < 64 → (w + (lane a k).setWidth 64 * 4).toNat < 0x400000 ∧ (w + (lane a k).setWidth 64 * 4).toNat % 4 = 0) :=
  ⟨vprog, xl, 3, 1, 2, (vprog.cl 0).vr 1, 0x200000, by decide +kernel⟩

/-- A state that meets the hypotheses of VectorFloatAndMemory, clause 7. -/
theorem witness_VectorFloatAndMemory_7 : ∃ (s : State) (x : Iss) (vd va : Fin 32) (rb : Fin 64) (l : Lane), (s.issues x = true) ∧ (s.tnsIdle x.c = true) ∧ ((s.cl x.c).vBusy = 0) ∧ ((s.cl x.c).vr va = List.replicate 64 l) ∧ (0x400000 ≤ ((s.cl x.c).gr rb + l.setWidth 64 * 4).toNat) :=
  ⟨progG [(2, 0x400000)], xl, 3, 1, 2, 0, by decide +kernel⟩

/-- A state that meets the hypotheses of FormatsAndConversions, clause 1. -/
theorem witness_FormatsAndConversions_1 : ∃ (s : State) (x : Iss) (vd va : Fin 32) (a : List Lane), (s.issues x = true) ∧ (s.tnsIdle x.c = true) ∧ ((s.cl x.c).vBusy = 0) ∧ ((s.cl x.c).vr va = a) ∧ (a.length = 64) :=
  ⟨progK (fun k => { k with v := [(1, List.replicate 64 0xC0200000)] }), xl, 3, 1, List.replicate 64 0xC0200000, by decide +kernel⟩

/-- A state that meets the hypotheses of FormatsAndConversions, clause 2. -/
theorem witness_FormatsAndConversions_2 : ∃ (s : State) (x : Iss) (vd va : Fin 32) (rb : Fin 64) (a : List Lane), (s.issues x = true) ∧ (s.tnsIdle x.c = true) ∧ ((s.cl x.c).vBusy = 0) ∧ ((s.cl x.c).vr va = a) ∧ ((rb : Nat) ≠ 0) :=
  ⟨vprog, xl, 3, 1, 2, (vprog.cl 0).vr 1, by decide +kernel⟩

/-- A state that meets the hypotheses of TensorUnits, clause 1. -/
theorem witness_TensorUnits_1 : ∃ (s : State) (x : Iss) (ra : Fin 64) (imm : BitVec 24) (c : TileCfg) (u : Fin 4), (s.issues x = true) ∧ (s.tnsIdle x.c = true) ∧ (imm = BitVec.ofNat 24 (2 ^ (u : Nat))) ∧ (s.tileDesc x.c ((s.cl x.c).gr ra).toNat = (0, c)) :=
  ⟨progG [(1, 0x200000)], xl, 1, 4, ⟨0, false, 0, 0, 0, 0, 0, 0, 0, 0⟩, 2, by decide +kernel⟩

/-- A state that meets the hypotheses of TensorUnits, clause 2. -/
theorem witness_TensorUnits_2 : ∃ (s : State) (x : Iss) (ra rb : Fin 64) (c : TileCfg) (u : Fin 4) (ta : Fin 8) (z : Bool), (s.issues x = true) ∧ (SMap.find (s.cl x.c).cfg u = some c) ∧ ((SMap.get (s.cl x.c).tq [] u).length < 4) :=
  ⟨progK (fun k => { k with cfg := [(2, ⟨0, false, 0, 0, 0, 128, 0, 0, 0, 0⟩)], g := [(1, 0x200000)] }), xl, 1, 1, ⟨0, false, 0, 0, 0, 128, 0, 0, 0, 0⟩, 2, 3, true, by decide +kernel⟩

/-- A state that meets the hypotheses of TensorUnits, clause 3. -/
theorem witness_TensorUnits_3 : ∃ (s : State) (x : Iss) (ra rb : Fin 64) (u : Fin 4) (ta : Fin 8), (s.issues x = true) ∧ (SMap.find (s.cl x.c).cfg u = none) :=
  ⟨prog, xl, 1, 1, 2, 3, by decide +kernel⟩

/-- A state that meets the hypotheses of TensorUnits, clause 4. -/
theorem witness_TensorUnits_4 : ∃ (s : State) (x : Iss) (v : Fin 32) (u : Fin 4) (ta : Fin 8) (r : Fin 16), (s.issues x = true) ∧ ((s.cl x.c).vBusy = 0) ∧ ((SMap.get (s.cl x.c).tq [] u).length < 4) :=
  ⟨prog, xl, 1, 2, 3, 5, by decide +kernel⟩

/-- A state that meets the hypotheses of TensorUnits, clause 5. -/
theorem witness_TensorUnits_5 : ∃ (s : State) (x : Iss) (u : Fin 4) (ta : Fin 8), (s.issues x = true) ∧ (4 ≤ (SMap.get (s.cl x.c).tq [] u).length) :=
  ⟨progK (fun k => { k with tq := [(2, List.replicate 4 (plainOp 2 0 .zero))] }), x0, 2, 3, by decide +kernel⟩

/-- A state that meets the hypotheses of TensorUnits, clause 6. -/
theorem witness_TensorUnits_6 : ∃ (s : State) (c : Clu) (o : TnsOp), ((s.cl c).wait = some (.tns o)) ∧ ((s.cl c).room o = true) ∧ (o.kind = .zero) :=
  ⟨progK (fun k => { k with wait := some (.tns (plainOp 2 0 .zero)) }), 0, plainOp 2 0 .zero, by decide +kernel⟩

/-- A state that meets the hypotheses of TensorUnits, clause 7. -/
theorem witness_TensorUnits_7 : ∃ (s : State) (c : Clu) (u : Fin 4) (o : TnsOp) (l : List TnsOp), (SMap.find (s.cl c).trun u = none) ∧ (SMap.get (s.cl c).tq [] u = o :: l) ∧ ((s.cl c).tnsAll.any (fun e => o.after e) = false) :=
  ⟨progK (fun k => { k with tq := [(2, [plainOp 2 0 .zero])] }), 0, 2, plainOp 2 0 .zero, [], by decide +kernel⟩

/-- A state that meets the hypotheses of TensorUnits, clause 8. -/
theorem witness_TensorUnits_8 : ∃ (s : State) (c : Clu) (u : Fin 4) (o : TnsOp) (f : Nat × Nat × Bool × Bool) (a b : Nat) (z : Bool), (SMap.find (s.cl c).trun u = some o) ∧ (o.kind = .mm a b z none) ∧ (tfmtOf o.cfg.tfmt = some f) ∧ (o.cfg.k ≠ 0 ∨ z = true) :=
  ⟨progK (fun k => { k with trun := [(2, ⟨2, 3, .mm 0 0 true none, ⟨0, false, 0, 0, 0, 0, 0, 0, 0, 0⟩, 0⟩)] }), 0, 2, ⟨2, 3, .mm 0 0 true none, ⟨0, false, 0, 0, 0, 0, 0, 0, 0, 0⟩, 0⟩, (1, 1, false, false), 0, 0, true, by decide +kernel⟩

/-- A state that meets the hypotheses of TensorUnits, clause 9. -/
theorem witness_TensorUnits_9 : ∃ (s : State) (c : Clu) (u : Fin 4) (o : TnsOp) (a : Nat), (SMap.find (s.cl c).trun u = some o) ∧ (o.kind = .st a 0 false false false) :=
  ⟨progK (fun k => { k with trun := [(2, ⟨2, 3, .st 0x200000 0 false false false, ⟨0, false, 0, 0, 0, 128, 0, 0, 0, 0⟩, 0⟩)] }), 0, 2, ⟨2, 3, .st 0x200000 0 false false false, ⟨0, false, 0, 0, 0, 128, 0, 0, 0, 0⟩, 0⟩, 0x200000, by decide +kernel⟩

/-- A state that meets the hypotheses of TensorUnits, clause 10. -/
theorem witness_TensorUnits_10 : ∃ (s : State) (c : Clu) (u : Fin 4) (o : TnsOp) (vd r : Nat), (SMap.find (s.cl c).trun u = some o) ∧ (o.kind = .tov vd r) :=
  ⟨progK (fun k => { k with trun := [(2, plainOp 2 3 (.tov 5 1))] }), 0, 2, plainOp 2 3 (.tov 5 1), 5, 1, by decide +kernel⟩

/-- A state that meets the hypotheses of SlateAccesses, clause 1. -/
theorem witness_SlateAccesses_1 : ∃ (s : State) (r : Rq) (na : Bool) (l h sl : Nat) (n : Fin 129) (x : SLine), (l < 2 ^ 48 ∧ 0 < (n : Nat) ∧ l % 128 + (n : Nat) ≤ 128) ∧ (regionNum l = 5) ∧ (s.rd F.QTZ_ID_ASSUMED ≠ 0xFFFE) ∧ (s.accCode (s.rqPart r) false l n = 0) ∧ (s.accWaits l = false) ∧ (s.homeOf l = some h) ∧ (s.localSlice h l = some sl) ∧ (s.lineAt l = some x) ∧ (x.valid &&& maskOf (l % 128) n = maskOf (l % 128) n) :=
  ⟨line0 0xFF 0, .clu 0, false, 0x1000000000, 0, 0, 8, ⟨0, 0xFF, 0⟩, by decide +kernel⟩

/-- A state that meets the hypotheses of SlateAccesses, clause 2. -/
theorem witness_SlateAccesses_2 : ∃ (s : State) (r : Rq) (l h sl : Nat) (n : Fin 129), (l < 2 ^ 48 ∧ 0 < (n : Nat) ∧ l % 128 + (n : Nat) ≤ 128) ∧ (regionNum l = 5) ∧ (s.rd F.QTZ_ID_ASSUMED ≠ 0xFFFE) ∧ (s.rqPart r = some h) ∧ (s.accCode (s.rqPart r) false l n = 0) ∧ (s.accWaits l = false) ∧ (s.homeOf l = some h) ∧ (s.localSlice h l = some sl) ∧ (s.lineAt l = none) ∧ (s.fillAt sl (l - l % 128) = none) ∧ (s.fillCount sl < 512) :=
  ⟨hbm0, .clu 0, 0x1000000000, 0, 0, 8, by decide +kernel⟩

/-- A state that meets the hypotheses of SlateAccesses, clause 3. -/
theorem witness_SlateAccesses_3 : ∃ (s : State) (r : Rq) (l h sl : Nat) (b : Byte), (regionNum l = 5) ∧ (s.rd F.QTZ_ID_ASSUMED ≠ 0xFFFE) ∧ (s.fenced 0xFFFE = false) ∧ (s.rqPart r = some h) ∧ (s.accCode (s.rqPart r) true l 1 = 0) ∧ (s.accWaits l = false) ∧ (s.homeOf l = some h) ∧ (s.localSlice h l = some sl) ∧ ((s.lineAt l).isSome = true ∨ (s.setLines sl l).length < 16) :=
  ⟨hbm0, .clu 0, 0x1000000005, 0, 0, 7, by decide +kernel⟩

/-- A state that meets the hypotheses of SlateAccesses, clause 4. -/
theorem witness_SlateAccesses_4 : ∃ (s : State) (r : Rq) (l p sl : Nat) (op : BitVec 4) (v : BitVec 64), (regionOf l = .scratch sl (l % 0x4000000)) ∧ (s.rd F.QTZ_ID_ASSUMED ≠ 0xFFFE) ∧ (s.fenced 0xFFFE = false) ∧ (s.rqPart r = some p) ∧ (SMap.get s.slate.slices (0, 0) sl = (3, p)) ∧ (s.bit F.SLT_SLICE_FAILED sl = false ∧ s.bit F.SLT_SLICE_BUSY sl = false ∧ s.islResetting (272 + sl) = false) ∧ (l % 8 = 0) ∧ (s.psnAt l = false) ∧ (op.toNat < 9) :=
  ⟨hbm0, .clu 0, 0x110000000, 0, 4, 0, 5, by decide +kernel⟩

/-- A state that meets the hypotheses of SlateAccesses, clause 5. -/
theorem witness_SlateAccesses_5 : ∃ (s : State) (sl : Fin 16) (line : Nat) (f : SFill) (x : SLine), (line % 128 = 0 ∧ line < 2 ^ 48) ∧ (s.fillAt sl line = some f) ∧ (f.remote = false ∧ f.drop = false ∧ f.waiters.length ≤ 1) ∧ (s.lineAt line = some x) :=
  ⟨{ line0 0xFF 0 with slate := { (line0 0xFF 0).slate with fills := [⟨0, 0x1000000000, false, [0], false⟩] } }, 0, 0x1000000000, ⟨0, 0x1000000000, false, [0], false⟩, ⟨0, 0xFF, 0⟩, by decide +kernel⟩

/-- A state that meets the hypotheses of SlateAccesses, clause 6. -/
theorem witness_SlateAccesses_6 : ∃ (s : State) (sl : Fin 16) (line : BitVec 64) (f : SFill) (code : BitVec 16) (data : List Byte), (line.toNat % 128 = 0) ∧ (s.fillAt sl line.toNat = some f) ∧ (f.remote = true ∧ f.drop = false ∧ f.waiters.length ≤ 1) ∧ ((SMap.find s.slate.rlines (line.toNat / 128)).isSome = true ∨ (s.remoteSet sl line.toNat).length < 16) :=
  ⟨{ hbm0 with slate := { hbm0.slate with fills := [⟨5, 0x5001000000000, true, [0], false⟩] } }, 5, 0x5001000000000, ⟨5, 0x5001000000000, true, [0], false⟩, 0x0305, [1, 2], by decide +kernel⟩

/-- A state that meets the hypotheses of SlateAccesses, clause 7. -/
theorem witness_SlateAccesses_7 : ∃ (s : State) (sl : Fin 16) (w : SWait), (s.slate.waits = [w]) ∧ (w.slice = sl ∧ w.remote = false) ∧ (s.fillAt sl w.line = none) ∧ (s.fillCount sl < 512) :=
  ⟨{ hbm0 with slate := { hbm0.slate with waits := [⟨0, 0x1000000000, false, 0⟩] } }, 0, ⟨0, 0x1000000000, false, 0⟩, by decide +kernel⟩

/-- A state that meets the hypotheses of SlateAccesses, clause 8. -/
theorem witness_SlateAccesses_8 : ∃ (s t : State) (sl a : Nat), (s.makeRoom sl a = some t) :=
  ⟨line0 0xFF 0, line0 0xFF 0, 0, 0x1000000080, by decide +kernel⟩

/-- A state that meets the hypotheses of NearCache, clause 1. -/
theorem witness_NearCache_1 : ∃ (s : State) (x : Iss) (rd ra rb : Fin 64) (imm : BitVec 24) (d a n : Nat), (s.issues x = true) ∧ (s.tnsIdle x.c = true) ∧ (imm.toNat < 2 ^ 13) ∧ (((s.cl x.c).slotAt (imm.toNat % 64)).busy = false) ∧ (((s.cl x.c).slotAt (imm.toNat % 64)).unrep = false) ∧ (((s.cl x.c).gr rd).toNat = d) ∧ (((s.cl x.c).gr ra).toNat = a) ∧ (((s.cl x.c).gr rb).toNat = n) ∧ (n < 2 ^ 32 ∧ d / 2 ^ 48 ≠ 0xFFFF ∧ a / 2 ^ 48 ≠ 0xFFFF) ∧ (d % 2 ^ 48 + n ≤ a % 2 ^ 48 ∨ a % 2 ^ 48 + n ≤ d % 2 ^ 48) :=
  ⟨progG [(1, 0xFFFE000000200000), (2, 0xFFFE000000300000), (3, 64)], xl, 1, 2, 3, 0x1041, 0xFFFE000000200000, 0xFFFE000000300000, 64, by decide +kernel⟩

/-- A state that meets the hypotheses of NearCache, clause 2. -/
theorem witness_NearCache_2 : ∃ (s : State) (x : Iss) (ra : Fin 64) (imm : BitVec 24) (m : Xfer), (s.issues x = true) ∧ (s.tnsIdle x.c = true) ∧ (imm.toNat < 2 ^ 13) ∧ (((s.cl x.c).slotAt (imm.toNat % 64)).busy = false) ∧ (((s.cl x.c).slotAt (imm.toNat % 64)).unrep = false) ∧ (s.dmaDesc x.c ⟨.cp2, true, 0, ra, 0, imm.toNat⟩ = (0, m)) ∧ (s.xferCode m = 0) :=
  ⟨progG [(1, 0x200000)], xl, 1, 0, { Xfer.init with ro := true }, by decide +kernel⟩

/-- A state that meets the hypotheses of NearCache, clause 3. -/
theorem witness_NearCache_3 : ∃ (s : State) (x : Iss), (s.issues x = true) :=
  ⟨progK (fun k => { k with near := [⟨0x1000000000, [], 0⟩], fills := [⟨0x1000000080, 0, [], false⟩] }), x0, by decide +kernel⟩

/-- A state that meets the hypotheses of NearCache, clause 4. -/
theorem witness_NearCache_4 : ∃ (s : State) (c : Clu) (line : BitVec 64) (data : List Byte) (f : NearFill), (line.toNat % 128 = 0) ∧ ((s.cl c).fills = [f]) ∧ (f.line = line.toNat ∧ f.stale = false ∧ f.pieces = []) :=
  ⟨progK (fun k => { k with fills := [⟨0x1000000080, 3, [], false⟩] }), 0, 0x1000000080, [1], ⟨0x1000000080, 3, [], false⟩, by decide +kernel⟩

/-- A state that meets the hypotheses of NearCache, clause 5. -/
theorem witness_NearCache_5 : ∃ (s : State) (c : Clu) (line : BitVec 64) (data : List Byte) (f : NearFill), (line.toNat % 128 = 0) ∧ ((s.cl c).fills = [f]) ∧ (f.line = line.toNat ∧ f.stale = true ∧ f.pieces = []) :=
  ⟨progK (fun k => { k with fills := [⟨0x1000000080, 3, [], true⟩] }), 0, 0x1000000080, [1], ⟨0x1000000080, 3, [], true⟩, by decide +kernel⟩

/-- A state that meets the hypotheses of RegionMaintenance, clause 1. -/
theorem witness_RegionMaintenance_1 : ∃ (s : State) (x : Iss) (ra rb : Fin 64) (imm : BitVec 24) (off st p base len op : Nat), (s.issues x = true) ∧ (s.tnsIdle x.c = true) ∧ (imm.toNat < 8) ∧ (((s.cl x.c).gr ra).toNat = off ∧ ((s.cl x.c).gr rb).toNat = st) ∧ (off + 32 ≤ 0x400000 ∧ off % 32 = 0 ∧ st + 8 ≤ 0x400000 ∧ st % 8 = 0) ∧ ((s.cl x.c).hitsCode st 8 = false) ∧ (s.psnRange (sramAt x.c off) 32 = false) ∧ (s.memN (sramAt x.c off + 17) 15 = 0) ∧ (s.cluPart x.c = some p) ∧ (s.memN (sramAt x.c off) 8 = base ∧ s.memN (sramAt x.c off + 8) 8 = len ∧ s.memN (sramAt x.c off + 16) 1 = op) ∧ (s.rgnCode p (s.cluExpert x.c) base len op = 0) :=
  ⟨{ ((hbm0.setMemN 0x200000 8 0xFFFE001000000000).setMemN 0x200008 8 128) with clu := [(0, { k0 with g := [(1, 0x200000), (2, 0x200040)] })] }, xl, 1, 2, 0, 0x200000, 0x200040, 0, 0xFFFE001000000000, 128, 0, by decide +kernel⟩

/-- A state that meets the hypotheses of RegionMaintenance, clause 2. -/
theorem witness_RegionMaintenance_2 : ∃ (s : State) (x : Iss) (ra rb : Fin 64) (imm : BitVec 24) (off : Nat), (s.issues x = true) ∧ (s.tnsIdle x.c = true) ∧ (imm.toNat < 8) ∧ (((s.cl x.c).gr ra).toNat = off) ∧ (off + 32 ≤ 0x400000) ∧ (off % 32 ≠ 0) :=
  ⟨progG [(1, 0x200001)], xl, 1, 2, 0, 0x200001, by decide +kernel⟩

/-- A state that meets the hypotheses of RegionMaintenance, clause 3. -/
theorem witness_RegionMaintenance_3 : ∃ (s : State) (p : Part) (r : Fin 8) (q : RgnReq), ((s.rgnAt (8 * (p : Nat) + r)).run = none) ∧ ((s.rgnAt (8 * (p : Nat) + r)).pend = some q) ∧ ((s.asgAt p).run = none) :=
  ⟨{ hbm0 with slate := { hbm0.slate with rgn := [(0, ⟨none, some ⟨0, 0xFFFE001000000000, 128, 1, none, 0, 0, false, 0, false⟩, 1⟩)] } }, 0, 0, ⟨0, 0xFFFE001000000000, 128, 1, none, 0, 0, false, 0, false⟩, by decide +kernel⟩

/-- A state that meets the hypotheses of RegionMaintenance, clause 4. -/
theorem witness_RegionMaintenance_4 : ∃ (s : State) (p : Part) (r : Fin 8) (q : RgnReq) (a : Nat) (l : SLine), ((s.rgnAt (8 * (p : Nat) + r)).run = some q) ∧ (q.worked = false) ∧ (s.rgnFills q = []) ∧ (s.rgnLines p q = [a]) ∧ (a % 128 = 0) ∧ (s.lineAt a = some l) ∧ (l.dirty ≠ 0) ∧ (s.stackOk (s.stackOf (a - hbmBase)) = true) :=
  ⟨rgn0 (line0 0xFF 0xF) ⟨0, 0xFFFE001000000000, 128, 1, none, 0, 0, false, 0, false⟩, 0, 0, ⟨0, 0xFFFE001000000000, 128, 1, none, 0, 0, false, 0, false⟩, 0x1000000000, ⟨0, 0xFF, 0xF⟩, by decide +kernel⟩

/-- A state that meets the hypotheses of RegionMaintenance, clause 5. -/
theorem witness_RegionMaintenance_5 : ∃ (s : State) (p : Part) (r : Fin 8) (q : RgnReq) (l sl : Nat), ((s.rgnAt (8 * (p : Nat) + r)).run = some q) ∧ (q.worked = false ∧ q.op = 3 ∧ q.len = 128) ∧ (q.base = 0xFFFE * 2 ^ 48 + l ∧ l < 2 ^ 48) ∧ (s.rd F.QTZ_ID_ASSUMED ≠ 0xFFFE) ∧ (s.homeOf l = some (p : Nat)) ∧ (s.localSlice p l = some sl) ∧ (s.fillAt sl l = none) ∧ ((s.lineAt l).isSome = true ∨ (s.setLines sl l).length < 16) :=
  ⟨rgn0 hbm0 ⟨3, 0xFFFE001000000000, 128, 1, none, 0, 0, false, 0, false⟩, 0, 0, ⟨3, 0xFFFE001000000000, 128, 1, none, 0, 0, false, 0, false⟩, 0x1000000000, 0, by decide +kernel⟩

/-- A state that meets the hypotheses of RegionMaintenance, clause 6. -/
theorem witness_RegionMaintenance_6 : ∃ (s : State) (p : Part) (r : Fin 8) (q : RgnReq) (l : Nat), ((s.rgnAt (8 * (p : Nat) + r)).run = some q) ∧ (q.worked = false ∧ q.op = 4) ∧ (q.base = 0xFFFE * 2 ^ 48 + l ∧ l < 2 ^ 48) ∧ (regionNum l = 2) :=
  ⟨rgn0 hbm0 ⟨4, 0xFFFE000110000000, 128, 1, none, 0, 0, false, 0, false⟩, 0, 0, ⟨4, 0xFFFE000110000000, 128, 1, none, 0, 0, false, 0, false⟩, 0x110000000, by decide +kernel⟩

/-- A state that meets the hypotheses of RegionMaintenance, clause 7. -/
theorem witness_RegionMaintenance_7 : ∃ (s : State) (p : Part) (r : Fin 8) (q : RgnReq) (c : Clu), ((s.rgnAt (8 * (p : Nat) + r)).run = some q) ∧ (q.worked = false) ∧ (s.cluPart c = some (p : Nat)) :=
  ⟨rgn0 hbm0 ⟨5, 0xFFFE001000000000, 128, 1, none, 0, 0, false, 0, false⟩, 0, 0, ⟨5, 0xFFFE001000000000, 128, 1, none, 0, 0, false, 0, false⟩, 0, by decide +kernel⟩

/-- A state that meets the hypotheses of RegionMaintenance, clause 8. -/
theorem witness_RegionMaintenance_8 : ∃ (s : State) (p : Part) (r : Fin 8) (q : RgnReq) (c : Clu), ((s.rgnAt (8 * (p : Nat) + r)).run = some q) ∧ (q.worked = true ∧ q.clu = some (c : Nat) ∧ q.sig = false) ∧ (q.code < 2 ^ 16 ∧ q.ticket < 2 ^ 16) ∧ (s.rgnFills q = []) ∧ ((s.slicesAll p).any (fun k => s.islResetting (272 + k)) = false) :=
  ⟨rgn0 hbm0 ⟨0, 0xFFFE001000000000, 128, 1, some 0, 0x200000, 0, false, 0, true⟩, 0, 0, ⟨0, 0xFFFE001000000000, 128, 1, some 0, 0x200000, 0, false, 0, true⟩, 0, by decide +kernel⟩

/-- A state that meets the hypotheses of SliceAssignment, clause 1. -/
theorem witness_SliceAssignment_1 : ∃ (s u : State) (v : BitVec 64) (p : Nat) (r : AsgReq), ((writeFields s .pf 8 F.SLT_ASSIGN_PART.addr v.toNat).1 = u) ∧ (v.getLsbD 19 = true) ∧ (u.rd F.SLT_ASSIGN_PART = p) ∧ (r = .whole (u.rd F.SLT_ASSIGN_N_LOCAL) (u.rd F.SLT_ASSIGN_N_REMOTE) (u.rd F.SLT_ASSIGN_N_SCRATCH)) :=
  ⟨{ expert0 with slate := SlateSt.init }, (writeFields { expert0 with slate := SlateSt.init } .pf 8 F.SLT_ASSIGN_PART.addr 0x80010).1, 0x80010, 0, .whole 1 0 0, by decide +kernel⟩

/-- A state that meets the hypotheses of SliceAssignment, clause 2. -/
theorem witness_SliceAssignment_2 : ∃ (s : State) (p : Part) (r : AsgOne), ((s.asgAt p).pend = some r) ∧ (s.asgMayStart p r.req = true) ∧ (s.asgCode p r.req = 0) ∧ ((s.asgOther p r.req) = none) :=
  ⟨{ expert0 with slate := { SlateSt.init with asg := [(0, ⟨none, [], some ⟨.whole 1 0 0, none⟩⟩)] } }, 0, ⟨.whole 1 0 0, none⟩, by decide +kernel⟩

/-- A state that meets the hypotheses of SliceAssignment, clause 3. -/
theorem witness_SliceAssignment_3 : ∃ (s : State) (p : Part), ((s.asgAt p).run = some ⟨.whole 0 0 0, none⟩) :=
  ⟨{ hbm0 with slate := { hbm0.slate with asg := [(0, ⟨some ⟨.whole 0 0 0, none⟩, [0, 4], none⟩)] } }, 0, by decide +kernel⟩

/-- A state that meets the hypotheses of SliceAssignment, clause 4. -/
theorem witness_SliceAssignment_4 : ∃ (s u : State) (sl : Fin 16) (v : BitVec 64) (p mode : Nat), ((writeFields s .pf 8 (F.SLT_SLICE_OWNER.regAddr sl 0) v.toNat).1 = u) ∧ (s.bit F.FLT_EXPERT_EN_EN = true) ∧ (u.rd F.SLT_SLICE_OWNER sl = p ∧ u.rd F.SLT_SLICE_MODE sl = mode ∧ mode ≠ 0) ∧ (v.getLsbD 6 = true) ∧ (u.asgCode p (.one sl p mode) = 0) ∧ (u.asgAt p = ⟨none, [], none⟩) ∧ (u.asgMayStart p (.one sl p mode) = true) ∧ (u.asgOther p (.one sl p mode) = none) :=
  ⟨expert0.wb F.FLT_EXPERT_EN_EN true, (writeFields (expert0.wb F.FLT_EXPERT_EN_EN true) .pf 8 (F.SLT_SLICE_OWNER.regAddr 3 0) 0x50).1, 3, 0x50, 0, 1, by decide +kernel⟩

/-- A state that meets the hypotheses of HbmBursts, clause 1. -/
theorem witness_HbmBursts_1 : ∃ (s : State), (s.rd F.HBM_STAT_B = 3) ∧ (s.rd F.HBM_STAT_G0 = 0) :=
  ⟨hbm0, by decide +kernel⟩

/-- A state that meets the hypotheses of HbmBursts, clause 2. -/
theorem witness_HbmBursts_2 : ∃ (s : State) (a : BitVec 48) (lane : BitVec 11) (o n : Nat), (regionOf a.toNat = .hbm o) ∧ (o < s.hbmCap) ∧ (s.stackOf o = n) ∧ (s.stackOk n = true) ∧ (s.hbmWaits n (s.stackAddr o) = false) ∧ (s.localOf n (s.stackAddr o) = a.toNat) :=
  ⟨hbm0, 0x1234567A00, 0, 0x000234567A00, 4, by decide +kernel⟩

/-- A state that meets the hypotheses of HbmBursts, clause 3. -/
theorem witness_HbmBursts_3 : ∃ (s : State) (a : BitVec 48) (parity : Fin 6) (lane : BitVec 11) (sev : Fin 4) (o : Nat), (regionOf a.toNat = .hbm o) ∧ (s.stackOk (s.stackOf o) = false) :=
  ⟨{ hbm0 with pwr := { hbm0.pwr with refclk := false } }, 0x1000000000, 0, 0, 0, 0, by decide +kernel⟩

/-- A state that meets the hypotheses of HbmBursts, clause 4. -/
theorem witness_HbmBursts_4 : ∃ (s : State) (a : BitVec 48) (d : List (Byte × Bool)) (lane : BitVec 11) (o n : Nat), (regionOf a.toNat = .hbm o) ∧ (d ≠ [] ∧ o % 32 + d.length ≤ 32) ∧ (o + d.length ≤ s.hbmCap) ∧ (s.stackOf o = n) ∧ (s.hbmWaits n (s.stackAddr o) = false) ∧ (s.stackOk n = true) ∧ (s.rd F.HBM_PSN_USED n < 4096) :=
  ⟨hbm0, 0x1234567A03, [(1, false), (2, true)], 0, 0x000234567A03, 4, by decide +kernel⟩

/-- A state that meets the hypotheses of HbmBursts, clause 5. -/
theorem witness_HbmBursts_5 : ∃ (s : State) (n : Fin 8) (lane : BitVec 11), (s.inGroup n = true) ∧ (s.stackOk n = true) ∧ (s.hbm.modeRun = none) ∧ ((s.hb n).run = none) ∧ ((s.hb n).patrol + 32 < stackEnd) :=
  ⟨hbm0, 3, 0, by decide +kernel⟩

/-- A state that meets the hypotheses of HbmBursts, clause 6. -/
theorem witness_HbmBursts_6 : ∃ (s : State) (n : Fin 8), ((n : Nat) < s.stacks) ∧ (s.flag F.HBM_STAT_INSVC_FAIL n = false) :=
  ⟨hbm0, 3, by decide +kernel⟩

/-- A state that meets the hypotheses of HbmModesAndMirror, clause 1. -/
theorem witness_HbmModesAndMirror_1 : ∃ (s : State) (m n k : Nat) (l : List Nat), ((s.hb n).run = none) :=
  ⟨{ hbm0 with hbm := { hbm0.hbm with modeRun := some (1, [2, 3]) } }, 1, 2, 3, [], by decide +kernel⟩

/-- A state that meets the hypotheses of HbmModesAndMirror, clause 2. -/
theorem witness_HbmModesAndMirror_2 : ∃ (s : State) (v : BitVec 64), (v.getLsbD 6 = false) ∧ (v.toNat % 64 ≠ s.rd F.HBM_MIRROR_SIZE_GIB) :=
  ⟨{ hbm0 with host := { hbm0.host with grants := [] } }, 5, by decide +kernel⟩

/-- A state that meets the hypotheses of HbmModesAndMirror, clause 3. -/
theorem witness_HbmModesAndMirror_3 : ∃ (s : State) (v : BitVec 64), (s.bit F.FLT_EXPERT_EN_EN = true) ∧ (1 ≤ bitsAt v.toNat 0 8 ∧ bitsAt v.toNat 0 8 ≤ 168 ∧ 1 ≤ bitsAt v.toNat 9 7 ∧ bitsAt v.toNat 9 7 ≤ 64) :=
  ⟨hbm0.wb F.FLT_EXPERT_EN_EN true, 0x10A18, by decide +kernel⟩

/-- A state that meets the hypotheses of HbmModesAndMirror, clause 4. -/
theorem witness_HbmModesAndMirror_4 : ∃ (s u : State) (v : BitVec 64), (s.bit F.FLT_EXPERT_EN_EN = true) ∧ ((writeFields s .pf 8 F.HBM_RPR_REQ_STACK.addr v.toNat).1 = u) ∧ (v.getLsbD 28 = true) :=
  ⟨hbm0.wb F.FLT_EXPERT_EN_EN true, (writeFields (hbm0.wb F.FLT_EXPERT_EN_EN true) .pf 8 F.HBM_RPR_REQ_STACK.addr 0x10004123).1, 0x10004123, by decide +kernel⟩

/-- A state that meets the hypotheses of RowRepair, clause 1. -/
theorem witness_RowRepair_1 : ∃ (s : State) (n : Fin 8) (r : HbmRow) (l : List HbmRow), ((s.hb n).run = none) ∧ ((s.hb n).queue = r :: l) ∧ (s.retraining n = false) ∧ (s.stackOk n = true) :=
  ⟨hbm0.modHb 2 (fun x => { x with queue := [⟨1, 0, 3, 7⟩, ⟨2, 0, 0, 0⟩] }), 2, ⟨1, 0, 3, 7⟩, [⟨2, 0, 0, 0⟩], by decide +kernel⟩

/-- A state that meets the hypotheses of RowRepair, clause 2. -/
theorem witness_RowRepair_2 : ∃ (s : State) (n : Fin 8) (r : HbmRow), ((s.hb n).run = some r) :=
  ⟨hbm0.modHb 2 (fun x => { x with run := some ⟨1, 0, 3, 7⟩ }), 2, ⟨1, 0, 3, 7⟩, by decide +kernel⟩

/-- A state that meets the hypotheses of RowRepair, clause 3. -/
theorem witness_RowRepair_3 : ∃ (s : State) (n : Nat) (r : HbmRow) (l : List (Nat × HbmRow)), (s.hbm.unflashed = (n, r) :: l) ∧ (s.hbm.records.length < 4096) :=
  ⟨{ hbm0 with hbm := { hbm0.hbm with unflashed := [(2, ⟨1, 0, 3, 7⟩)] } }, 2, ⟨1, 0, 3, 7⟩, [], by decide +kernel⟩

/-- A state that meets the hypotheses of LinkBlocks, clause 1. -/
theorem witness_LinkBlocks_1 : ∃ (s : State) (n : Port) (u : Nat), (s.pstate n = 7) ∧ (s.rd F.QTZ_PORT_STAT_TX_PWR n = 0) ∧ ((s.pt n).swapRx = none) ∧ (0 < u ∧ u ≤ 41) :=
  ⟨port 3 7 (fun p => { p with sending := [(17, false)] }), 3, 17, by decide +kernel⟩

/-- A state that meets the hypotheses of LinkBlocks, clause 2. -/
theorem witness_LinkBlocks_2 : ∃ (s : State) (n : Port) (b : LinkBlk) (want : Nat), (s.pstate n = 7) ∧ (s.rd F.QTZ_PORT_STAT_RX_PWR n = 0) ∧ (b.ackV = false ∧ b.nak = false ∧ b.ty = 1) ∧ ((match (s.pt n).rxSeq with | some q => (q + 1) % 65536 | none => 0) = want) :=
  ⟨port 3 7 id, 3, ⟨1, 0, 0, false, false, 1, 0, 0, 0, []⟩, 0, by decide +kernel⟩

/-- A state that meets the hypotheses of LinkBlocks, clause 3. -/
theorem witness_LinkBlocks_3 : ∃ (s : State) (n : Port) (b : LinkBlk), (s.pstate n = 7) ∧ ((s.pt n).uncorr < 7) :=
  ⟨port 3 7 id, 3, ⟨1, 0, 0, false, false, 1, 0, 0, 0, []⟩, by decide +kernel⟩

/-- A state that meets the hypotheses of LinkBlocks, clause 4. -/
theorem witness_LinkBlocks_4 : ∃ (s : State) (n : Port) (b : LinkBlk) (q u f e r : Nat), (s.pstate n = 7) ∧ (s.rd F.QTZ_PORT_STAT_RX_PWR n = 0) ∧ (SMap.get s.quartz.unacked [] n = []) ∧ (b.ty = 2 ∧ b.ackV = true ∧ b.ack = q ∧ q ≠ r) ∧ ((s.pt n).nakRun = 0) ∧ ((s.pt n).store = [(q, u, f, e), (r, u, f, e)]) :=
  ⟨port 3 7 (fun p => { p with store := [(4, 1, 0, 0), (5, 1, 0, 0)] }), 3, ⟨2, 0, 4, true, true, 0, 63, 0, 0, []⟩, 4, 1, 0, 0, 5, by decide +kernel⟩

/-- A state that meets the hypotheses of LinkBlocks, clause 5. -/
theorem witness_LinkBlocks_5 : ∃ (s : State) (n : Port) (time echo : BitVec 32) (proc skew : BitVec 12), (s.pstate n = 7) ∧ ((s.pt n).swapRx = none) :=
  ⟨port 3 7 id, 3, 7, 0, 0, 0, by decide +kernel⟩

/-- A state that meets the hypotheses of LinkBlocks, clause 6. -/
theorem witness_LinkBlocks_6 : ∃ (s : State) (n : Port) (time echo : BitVec 32) (proc skew : BitVec 12) (r : Nat), (s.pstate n = 5) ∧ (skew.toNat ≤ 32) ∧ ((s.pt n).swapRx = none) ∧ ((s.now + 2 ^ 32 - echo.toNat) % 2 ^ 32 - proc.toNat = r) ∧ (r ≤ 3000) :=
  ⟨{ port 3 5 id with now := 2000 }, 3, 7, 1000, 200, 0, 800, by decide +kernel⟩

/-- A state that meets the hypotheses of LinkBlocks, clause 7. -/
theorem witness_LinkBlocks_7 : ∃ (s : State) (n : Port) (arg : BitVec 9) (q : Nat), (s.portPres n = true) ∧ (q ∈ portQueues n) :=
  ⟨running, 3, 0x21, 5, by decide +kernel⟩

/-- A state that meets the hypotheses of BringUp, clause 1. -/
theorem witness_BringUp_1 : ∃ (s : State) (n : Port) (lane : Fin 9) (f : TrainFrame), (s.portPres n = true) ∧ (s.pstate n = 1 ∨ s.pstate n = 2) ∧ ((lane : Nat) < physCount n) :=
  ⟨port 3 1 id, 3, 2, ⟨true, 2, 5, 1, 0, 0, 0, true, false⟩, by decide +kernel⟩

/-- A state that meets the hypotheses of BringUp, clause 2. -/
theorem witness_BringUp_2 : ∃ (s : State) (n : Port) (lane : Fin 9) (f : TrainFrame), (s.portPres n = true) ∧ (s.pstate n = 3) ∧ ((lane : Nat) < physCount n) ∧ (f.nlane.toNat ≠ physCount n) ∧ ((s.pt n).restExit = false ∧ (s.pt n).fails < 3) :=
  ⟨port 3 3 id, 3, 2, ⟨true, 2, 9, 3, 0, 0, 0, true, false⟩, by decide +kernel⟩

/-- A state that meets the hypotheses of BringUp, clause 3. -/
theorem witness_BringUp_3 : ∃ (s : State) (n : Port), (s.portPres n = true) ∧ ((s.pt n).peerReady = true) :=
  ⟨port 3 2 (fun p => { p with peerReady := true }), 3, by decide +kernel⟩

/-- A state that meets the hypotheses of BringUp, clause 4. -/
theorem witness_BringUp_4 : ∃ (s : State) (n : Port), (s.portPres n = true) ∧ ((s.pt n).peerReady = true) ∧ (s.pstate n = 3) ∧ (laneCount n ≤ (s.seenLanes n).length) :=
  ⟨port 3 3 (fun p => { p with seen := 31, planes := [(0, 0), (1, 1), (2, 2), (3, 3), (4, 4)], peerReady := true }), 3, by decide +kernel⟩

/-- A state that meets the hypotheses of BringUp, clause 5. -/
theorem witness_BringUp_5 : ∃ (s : State) (n : Port), (s.portPres n = true) ∧ ((s.pt n).peerReady = true) ∧ (s.pstate n = 4) ∧ ((s.activeLanes n).all (fun l => s.laneGood n l) = true) :=
  ⟨((port 3 4 (fun p => { p with seen := 1, peerReady := true })).wr F.QTZ_LANE_RX_LOGICAL 0 3 0 |>.wr F.QTZ_LANE_RX_FOM 200 3 0).wr F.QTZ_LANE_RX_CLASS 0 3 0, 3, by decide +kernel⟩

/-- A state that meets the hypotheses of BringUp, clause 6. -/
theorem witness_BringUp_6 : ∃ (s : State) (n : Port), (s.portPres n = true) ∧ (s.pstate n = 6) ∧ (s.rd F.FLT_START_STAGE = 8) :=
  ⟨port 3 6 id, 3, by decide +kernel⟩

/-- A state that meets the hypotheses of BringUp, clause 7. -/
theorem witness_BringUp_7 : ∃ (s : State) (n : Port) (cause : Fin 7), (s.portPres n = true) ∧ (2 ≤ s.pstate n ∧ s.pstate n ≤ 6) ∧ ((s.pt n).restExit = false) :=
  ⟨port 3 2 id, 3, 1, by decide +kernel⟩

/-- A state that meets the hypotheses of BringUp, clause 8. -/
theorem witness_BringUp_8 : ∃ (s : State) (n : Port), (s.pwr.refclk = true) :=
  ⟨port 3 0 (fun p => { p with hold := true }), 3, by decide +kernel⟩

/-- A state that meets the hypotheses of BringUp, clause 9. -/
theorem witness_BringUp_9 : ∃ (s : State) (n : Port), (s.portPres n = true) ∧ (s.pwr.refclk = true) ∧ (s.rd F.QTZ_PORT_STAT_QSTATE n ≠ 2) ∧ (s.portUp n = false ∧ (s.pt n).restExit = false) ∧ (s.txOf n = [] ∧ SMap.get s.quartz.unacked [] n = []) ∧ (s.clxWaiters = []) :=
  ⟨port 3 2 id, 3, by decide +kernel⟩

/-- A state that meets the hypotheses of LaneServiceSleepQuiesce, clause 1. -/
theorem witness_LaneServiceSleepQuiesce_1 : ∃ (s : State) (n : Port) (lane : Fin 9) (errors : BitVec 28), (s.portPres n = true) ∧ ((lane : Nat) < physCount n) ∧ (s.pstate n = 7) ∧ (s.rd F.QTZ_LANE_RX_LOGICAL n lane < 4) ∧ (96 ≤ fomOf errors.toNat (2 ^ 27)) :=
  ⟨(port 3 7 id).wr F.QTZ_LANE_RX_LOGICAL 2 3 2, 3, 2, 9000, by decide +kernel⟩

/-- A state that meets the hypotheses of LaneServiceSleepQuiesce, clause 2. -/
theorem witness_LaneServiceSleepQuiesce_2 : ∃ (s : State) (n : Port) (lane : Fin 9) (errors : BitVec 28), (s.portPres n = true) ∧ ((lane : Nat) < physCount n) ∧ (s.pstate n = 7) ∧ (s.rd F.QTZ_LANE_RX_LOGICAL n lane < 4) ∧ ((s.pt n).swapRx = none) ∧ (s.rd F.QTZ_PORT_STAT_SPARE_RX n = 15 ∧ s.bit F.QTZ_PORT_STAT_SPARE_BAD n = false) ∧ (fomOf errors.toNat (2 ^ 27) < 64) :=
  ⟨((port 3 7 id).wr F.QTZ_LANE_RX_LOGICAL 2 3 2).wr F.QTZ_PORT_STAT_SPARE_RX 15 3, 3, 2, 2000000, by decide +kernel⟩

/-- A state that meets the hypotheses of LaneServiceSleepQuiesce, clause 3. -/
theorem witness_LaneServiceSleepQuiesce_3 : ∃ (s : State) (n : Port) (k : Fin 8) (w : SwapRx), (s.pstate n = 7) :=
  ⟨port 3 7 (fun p => { p with swapTx := some 1 }), 3, 1, ⟨1, 0, false, 0, 0⟩, by decide +kernel⟩

/-- A state that meets the hypotheses of LaneServiceSleepQuiesce, clause 4. -/
theorem witness_LaneServiceSleepQuiesce_4 : ∃ (s : State) (n : Port) (lane : Fin 9), (s.portPres n = true) ∧ ((lane : Nat) < physCount n) ∧ (s.pstate n = 7) ∧ ((s.pt n).silent = false ∧ s.rd F.QTZ_PORT_STAT_QSTATE n = 0) ∧ (s.rd F.QTZ_LANE_RX_LOGICAL n lane < 4) ∧ ((s.pt n).swapRx = none) ∧ (s.rd F.QTZ_PORT_STAT_SPARE_RX n = 15 ∧ s.bit F.QTZ_PORT_STAT_SPARE_BAD n = false) ∧ ((s.activeLanes n).all (fun m => m = lane || !s.bit F.QTZ_LANE_RX_LOS n m) = true) :=
  ⟨((port 3 7 id).wr F.QTZ_LANE_RX_LOGICAL 2 3 2).wr F.QTZ_PORT_STAT_SPARE_RX 15 3, 3, 2, by decide +kernel⟩

/-- A state that meets the hypotheses of LaneServiceSleepQuiesce, clause 5. -/
theorem witness_LaneServiceSleepQuiesce_5 : ∃ (s : State) (n : Port), ((n : Nat) ≠ 16) ∧ (s.pstate n = 7) ∧ (s.rd F.QTZ_PORT_STAT_TX_PWR n = 0) ∧ (s.rd F.QTZ_PORT_STAT_RX_PWR n = 0) ∧ (s.bit F.QTZ_PORT_PWR_DOZE_EN n = true) ∧ (s.txOf n = [] ∧ (s.pt n).sending = [] ∧ (s.pt n).store = [] ∧ (s.pt n).ctl = [] ∧ (s.pt n).nakDue = false) :=
  ⟨port 3 7 id, 3, by decide +kernel⟩

/-- A state that meets the hypotheses of LaneServiceSleepQuiesce, clause 6. -/
theorem witness_LaneServiceSleepQuiesce_6 : ∃ (s : State) (n : Port), ((n : Nat) ≠ 16) ∧ (s.pstate n = 7) :=
  ⟨port 3 7 id, 3, by decide +kernel⟩

/-- A state that meets the hypotheses of LaneServiceSleepQuiesce, clause 7. -/
theorem witness_LaneServiceSleepQuiesce_7 : ∃ (s : State) (n : Port) (p : Part), ((n : Nat) ≠ 16) ∧ (s.portPres n = true) ∧ (s.pwr.refclk = true) :=
  ⟨(port 3 9 id).wr F.QTZ_PORT_STAT_QSTATE 2 3, 3, 0, by decide +kernel⟩

/-- A state that meets the hypotheses of LaneServiceSleepQuiesce, clause 8. -/
theorem witness_LaneServiceSleepQuiesce_8 : ∃ (s : State) (n : Port) (k : Fin 8) (lane : Fin 9) (test loop : Bool) (v : BitVec 64), (s.portPres n = true) ∧ (s.bit F.FLT_EXPERT_EN_EN = true) :=
  ⟨(port 3 7 id).wb F.FLT_EXPERT_EN_EN true, 3, 2, 1, true, false, 0x14000000, by decide +kernel⟩

/-- A state that meets the hypotheses of PacketsServed, clause 1. -/
theorem witness_PacketsServed_1 : ∃ (s : State) (n : Port) (p : Pkt), (s.portUp n = true) ∧ (p.opc = 1) ∧ (p.badHdr (decide ((n : Nat) = 16)) = true) :=
  ⟨fab, 0, pktA 1 0 0x0103 0x200000 (8 * 2 ^ 17) 0 1, by decide +kernel⟩

/-- A state that meets the hypotheses of PacketsServed, clause 2. -/
theorem witness_PacketsServed_2 : ∃ (s : State) (n : Port) (p : Pkt), (s.takes n p = true) ∧ (s.rd F.QTZ_Q_ACC n (pktQueue p) + p.size < 2 ^ 64 ∧ s.rd F.QTZ_Q_FWD n (pktQueue p) + p.size < 2 ^ 64 ∧ s.rd F.QTZ_Q_OCC n (pktQueue p) + p.size < 2 ^ 23) :=
  ⟨fab, 0, pktA 1 2 0x0103 0x200000 (8 * 2 ^ 17) 0 1, by decide +kernel⟩

/-- A state that meets the hypotheses of PacketsServed, clause 3. -/
theorem witness_PacketsServed_3 : ∃ (s u v : State) (n : Port) (p : Pkt) (c k : Nat), (s.takes n p = true) ∧ (s.taken n p = u) ∧ (u.answersFor p.dst = true) ∧ ((n : Nat) ≠ 16) ∧ (v.viaSC (if p.opc = 3 then p.code else p.src) k = true) :=
  ⟨fab, fab.taken 0 (pktA 1 2 0x0103 0x200000 (8 * 2 ^ 17) 0 1), ((fab.taken 0 (pktA 1 2 0x0103 0x200000 (8 * 2 ^ 17) 0 1)).pktStore (pktA 1 2 0x0103 0x200000 (8 * 2 ^ 17) 0 1)).1, 0, pktA 1 2 0x0103 0x200000 (8 * 2 ^ 17) 0 1, 0, 0, by decide +kernel⟩

/-- A state that meets the hypotheses of PacketsServed, clause 4. -/
theorem witness_PacketsServed_4 : ∃ (s u : State) (p : Pkt) (k : Nat), (p.bytes ≤ 4096) :=
  ⟨fab, fab, pktA 1 2 0x0103 0x300000000 (8 * 2 ^ 17) 0 1, 0, by decide +kernel⟩

/-- A state that meets the hypotheses of PacketsServed, clause 5. -/
theorem witness_PacketsServed_5 : ∃ (s : State) (n : Port) (p : Pkt), (s.takes n p = true) ∧ (p.opc = 2) ∧ ((s.taken n p).answersFor p.dst = true) ∧ ((s.taken n p).pktCode p false = 0) ∧ (s.quartz.agent.length < 256) :=
  ⟨fab, 0, pktA 2 0 0x0103 0x200000 (8 * 2 ^ 17) 0x0100000000200000 0, by decide +kernel⟩

/-- A state that meets the hypotheses of PacketsServed, clause 6. -/
theorem witness_PacketsServed_6 : ∃ (s v : State) (r : RdEnt) (l : List RdEnt) (c k : Nat) (d : List MByte), (s.quartz.agent = r :: l) ∧ ((s.modQ (fun q => { q with agent := l })).readSpan (some r.pkt.part) false (r.pkt.dst * 2 ^ 48 + r.pkt.addr) r.pkt.bytes = (v, c, d)) :=
  ⟨fab.modQ (fun q => { q with agent := [⟨pktA 2 0 0x0103 0x200000 (8 * 2 ^ 17) 0x0100000000200000 0, 0⟩] }), fab, ⟨pktA 2 0 0x0103 0x200000 (8 * 2 ^ 17) 0x0100000000200000 0, 0⟩, [], 0, 0, List.replicate 8 (0, false), by decide +kernel⟩

/-- A state that meets the hypotheses of PacketsServed, clause 7. -/
theorem witness_PacketsServed_7 : ∃ (s : State) (n : Port) (p : Pkt) (x : Ctx) (c : Clu) (m : Fin 64) (b : Nat), (s.takes n p = true) ∧ (p.opc = 0x10) ∧ ((n : Nat) ≠ 16) ∧ ((s.taken n p).answersFor p.dst = true) ∧ (p.ctx < 131072) :=
  ⟨fab, 0, pktA 0x10 0 0x0103 0 0 0 0, ⟨.dma 0 0 8, 0, 0x0100, pktA 1 2 0x0100 0 0 0 1, 0, 0, none, false⟩, 0, 0, 8, by decide +kernel⟩

/-- A state that meets the hypotheses of Routing, clause 1. -/
theorem witness_Routing_1 : ∃ (s : State) (n : Nat), (s.rd F.QTZ_PORT_STAT_RTT_NS n = 1200) ∧ (n < 16) :=
  ⟨running.wr F.QTZ_PORT_STAT_RTT_NS 1200 3, 3, by decide +kernel⟩

/-- A state that meets the hypotheses of Routing, clause 2. -/
theorem witness_Routing_2 : ∃ (s : State) (l : List (Nat × Nat)) (c : Nat × Nat), (s.fewest l = some c) :=
  ⟨fab, [(0, 1), (1, 0)], (0, 1), by decide +kernel⟩

/-- A state that meets the hypotheses of Routing, clause 3. -/
theorem witness_Routing_3 : ∃ (vc : Nat), (2 ≤ vc ∧ vc ≤ 5) :=
  ⟨3, by decide +kernel⟩

/-- A state that meets the hypotheses of Routing, clause 4. -/
theorem witness_Routing_4 : ∃ (s : State) (n : Port) (p : Pkt) (k : Nat), (s.takes n p = true) ∧ (opcRouted p.opc = true) ∧ ((s.accept n p).1.answersFor p.dst = false) ∧ ((s.accept n p).1.heldHere p = false) :=
  ⟨fab, 1, pktA 5 0 0x0100 0x0005 0 1 0, 0, by decide +kernel⟩

/-- A state that meets the hypotheses of Routing, clause 5. -/
theorem witness_Routing_5 : ∃ (s : State) (e : TxEnt) (c : Nat × Nat) (v : Nat), (s.quartz.stuck = [e]) ∧ (opcBulk e.pkt.opc = true ∧ e.pkt.fix = false) ∧ (s.twinAnswers e.pkt.dst = false) ∧ (bitAt (s.routeEntry e.pkt.dst) 53 = true ∧ bitAt (s.routeEntry e.pkt.dst) 52 = false) ∧ ((candidates (s.routeEntry e.pkt.dst)).filter (fun d => s.portUsable d.1) = [c]) ∧ (vcAct e.pkt.vc c.2 = some v) ∧ (s.queueOn c.1 (queueOf v false) = true) :=
  ⟨fab.modQ (fun q => { q with stuck := [{ pkt := pktA 1 2 0x0100 0x200000 (8 * 2 ^ 17) 0 1, src := 31, at_ := 0 }] }), { pkt := pktA 1 2 0x0100 0x200000 (8 * 2 ^ 17) 0 1, src := 31, at_ := 0 }, (0, 1), 3, by decide +kernel⟩

/-- A state that meets the hypotheses of Routing, clause 6. -/
theorem witness_Routing_6 : ∃ (s : State) (n : Port) (e : TxEnt) (k : Nat), (s.portUsable n = false) ∧ ((n : Nat) ≠ 16 ∧ k ≠ n) ∧ (s.txOf n = [e] ∧ SMap.get s.quartz.unacked [] n = []) ∧ (e.pkt.opc = 0x10) ∧ (s.viaSC e.pkt.dst k = true) :=
  ⟨fab.enqueue 3 { pkt := pktA 0x10 0 0x0100 0 0 0 0, src := 31, at_ := 0 }, 3, { pkt := pktA 0x10 0 0x0100 0 0 0 0, src := 31, at_ := 0 }, 0, by decide +kernel⟩

/-- A state that meets the hypotheses of Routing, clause 7. -/
theorem witness_Routing_7 : ∃ (s : State) (n : Port) (e : TxEnt), (s.pstate n = 7) ∧ (s.rd F.QTZ_PORT_STAT_TX_PWR n = 0) ∧ (s.serveFixed n = some e) :=
  ⟨fab.enqueue 0 { pkt := pktA 0x10 0 0x0100 0 0 0 0, src := 31, at_ := 0 }, 0, { pkt := pktA 0x10 0 0x0100 0 0 0 0, src := 31, at_ := 0 }, by decide +kernel⟩

/-- A state that meets the hypotheses of TransactionContexts, clause 1. -/
theorem witness_TransactionContexts_1 : ∃ (s : State) (i : Fin 131072) (x : Ctx) (c : Clu), (SMap.find s.quartz.ctx i = some x) ∧ (x.orphan = false ∧ x.owner = .sig c ∧ x.part < 16) ∧ (x.since + s.ctxT x.part ≤ s.now) ∧ (s.ctxHeld x = false) :=
  ⟨{ fab with now := 100000000 }.modQ (fun q => { q with ctx := [(7, ⟨.sig 0, 0, 0x0100, pktA 5 0 0x0100 0 0 0 0, 0, 0, none, false⟩)] }), 7, ⟨.sig 0, 0, 0x0100, pktA 5 0 0x0100 0 0 0 0, 0, 0, none, false⟩, 0, by decide +kernel⟩

/-- A state that meets the hypotheses of TransactionContexts, clause 2. -/
theorem witness_TransactionContexts_2 : ∃ (s : State) (part : Fin 16) (w : QWait), (s.firstWait part = some w) ∧ (w.part = part) ∧ ((s.ctxCnt part).1 < s.ctxLimit part) :=
  ⟨(fab.wr F.QTZ_PART_QUOTA 5 0).modQ (fun q => { q with qwait := [⟨.sig 0, 0, 0x0100, pktA 5 0 0x0100 0 0 0 0, 0⟩] }), 0, ⟨.sig 0, 0, 0x0100, pktA 5 0 0x0100 0 0 0 0, 0⟩, by decide +kernel⟩

/-- A state that meets the hypotheses of TransactionContexts, clause 3. -/
theorem witness_TransactionContexts_3 : ∃ (s : State) (part : Fin 16) (w : QWait) (c : Clu), (s.firstWait part = some w) ∧ (w.part = part ∧ w.owner = .sig c) ∧ (s.ctxLimit part ≤ (s.ctxCnt part).1) ∧ (w.since + 1000000 * s.rd F.QTZ_PART_QUOTA_WAIT part ≤ s.now) :=
  ⟨{ fab with now := 10000000 }.modQ (fun q => { q with qwait := [⟨.sig 0, 0, 0x0100, pktA 5 0 0x0100 0 0 0 0, 0⟩] }), 0, ⟨.sig 0, 0, 0x0100, pktA 5 0 0x0100 0 0 0 0, 0⟩, 0, by decide +kernel⟩

/-- A state that meets the hypotheses of TransactionContexts, clause 4. -/
theorem witness_TransactionContexts_4 : ∃ (s : State) (i : Fin 131072) (x : Ctx) (at_ k : Nat), (SMap.find s.quartz.ctx i = some x) ∧ (x.orphan = false ∧ x.part < 16 ∧ x.retry = some at_) ∧ (at_ + 2000 ≤ s.now) ∧ (opcBulk x.pkt.opc = false) ∧ (s.viaSC x.pkt.dst k = true) :=
  ⟨{ fab with now := 2000 }.modQ (fun q => { q with ctx := [(7, ⟨.sig 0, 0, 0x0100, pktA 5 0 0x0100 0 0 0 0, 0, 0, some 0, false⟩)] }), 7, ⟨.sig 0, 0, 0x0100, pktA 5 0 0x0100 0 0 0 0, 0, 0, some 0, false⟩, 0, 0, by decide +kernel⟩

/-- A state that meets the hypotheses of TransactionContexts, clause 5. -/
theorem witness_TransactionContexts_5 : ∃ (s : State) (p : Part) (v : BitVec 64) (o : Nat), ((List.range 16).foldl (fun m k => if k = (p : Nat) then m else m + s.rd F.QTZ_PART_QUOTA k) 0 = o) :=
  ⟨fab, 0, 0x400005, 0, by decide +kernel⟩

/-- A state that meets the hypotheses of TransactionContexts, clause 6. -/
theorem witness_TransactionContexts_6 : ∃ (s : State) (p : Part), ((s.ctxCnt p).1 < 2 ^ 18 ∧ (s.ctxCnt p).2.1 < 2 ^ 64 ∧ (s.ctxCnt p).2.2 < 2 ^ 64) :=
  ⟨fab, 0, by decide +kernel⟩

/-- A state that meets the hypotheses of DiscoveryAndManagement, clause 1. -/
theorem witness_DiscoveryAndManagement_1 : ∃ (s : State) (n : Port) (p : Pkt) (sr : Nat), (s.portPres n = true) ∧ (s.portUp n = true) :=
  ⟨{ fab with now := 1000000000 }, 0, pktA 0x34 7 0xFFFF 0 0 0 1, 0x0101010101010101, by decide +kernel⟩

/-- A state that meets the hypotheses of DiscoveryAndManagement, clause 2. -/
theorem witness_DiscoveryAndManagement_2 : ∃ (s : State) (n : Port) (p : Pkt) (ptr : Nat), (s.takes n p = true) ∧ (bitsAt (Pkt.pathV p) 115 5 = ptr) ∧ (ptr + 1 = bitsAt (Pkt.pathV p) 120 5 ∧ ptr < 23) ∧ ((s.taken n p).answersFor p.dst = true) ∧ (s.host.mgbuf = [] ∧ s.rd F.AGT_STAT_STATE ≠ 4) ∧ (s.quartz.mgq.length < 16) :=
  ⟨fab, 0, pktA 0x32 7 0x0103 0 0x0100000000000000 0 1, 0, by decide +kernel⟩

/-- A state that meets the hypotheses of DiscoveryAndManagement, clause 3. -/
theorem witness_DiscoveryAndManagement_3 : ∃ (s : State) (n : Port) (p : Pkt) (b : Nat × Nat), (s.takes n p = true) ∧ (p.opc = 0x31 ∨ p.opc = 0x35) ∧ ((s.taken n p).answersFor p.dst = true) ∧ (s.host.mgbuf = [b] ∧ s.host.cmds = [] ∧ s.rd F.AGT_STAT_STATE ≠ 4) :=
  ⟨{ fab with host := { fab.host with mgbuf := [(1, 0x5000)] } }, 0, pktA 0x35 7 0x0103 0 0 0 1, (1, 0x5000), by decide +kernel⟩

/-- A state that meets the hypotheses of DiscoveryAndManagement, clause 4. -/
theorem witness_DiscoveryAndManagement_4 : ∃ (s : State) (e : MgEnt) (l : List MgEnt), (s.quartz.mgq = e :: l ∧ s.quartz.mgBusy = false) ∧ (s.isAssumed e.pkt.dst = false ∧ s.answersFor e.pkt.src = false ∧ e.path = false) :=
  ⟨fab.modQ (fun q => { q with mgq := [⟨mgA 1 1 0xFF0000000000 0, false⟩] }), ⟨mgA 1 1 0xFF0000000000 0, false⟩, [], by decide +kernel⟩

/-- A state that meets the hypotheses of DiscoveryAndManagement, clause 5. -/
theorem witness_DiscoveryAndManagement_5 : ∃ (s : State) (e : MgEnt) (l : List MgEnt) (k a n : Nat), (s.quartz.mgq = e :: l ∧ s.quartz.mgBusy = true ∧ e.path = false) ∧ (s.answersFor e.pkt.src = false) ∧ (s.viaSC e.pkt.src k = true) ∧ (mgArg e.pkt = a ∧ mgN e.pkt = n) :=
  ⟨mgRunning (mgA 1 1 0xFF0000000000 0), ⟨mgA 1 1 0xFF0000000000 0, false⟩, [], 0, 0xFF0000000000, 1, by decide +kernel⟩

/-- A state that meets the hypotheses of DiscoveryAndManagement, clause 6. -/
theorem witness_DiscoveryAndManagement_6 : ∃ (s u : State) (e : MgEnt) (l : List MgEnt) (a c : Nat), (s.quartz.mgq = e :: l ∧ s.quartz.mgBusy = true ∧ e.path = false) ∧ (mgArg e.pkt = a) ∧ (u.answersFor e.pkt.src = false) ∧ (s.rd F.FLT_START_STAGE = 8) :=
  ⟨mgRunning (mgA 7 0 0x105 0), mgRunning (mgA 7 0 0x105 0), ⟨mgA 7 0 0x105 0, false⟩, [], 0x105, 0, by decide +kernel⟩

/-- A state that meets the hypotheses of DiscoveryAndManagement, clause 7. -/
theorem witness_DiscoveryAndManagement_7 : ∃ (s : State) (n : Port) (p : Pkt), (s.takes n p = true) ∧ (s.quartz.floods.contains (p.src, p.num 4 4) = false) ∧ (1 < p.ttl) ∧ (s.quartz.ctx = []) ∧ (p.num 0 2 / 256 = s.rd F.QTZ_ID_DEVID / 256) :=
  ⟨fab, 0, { pktA 0x36 7 0xFFFF 0 0 0 0 with w0 := BitVec.ofNat 64 (putBits (pktA 0x36 7 0xFFFF 0 0 0 0).w0.toNat 12 7 1), data := plain (leM 2 0x0102 ++ leM 2 0x0100 ++ leM 4 9) }, by decide +kernel⟩

/-- A state that meets the hypotheses of GroupRecords, clause 1. -/
theorem witness_GroupRecords_1 : ∃ (s : State) (x : Iss) (ra rb : Fin 64) (imm : BitVec 24) (off st : Nat) (d : ClxRec), (s.issues x = true) ∧ (s.tnsIdle x.c = true) ∧ (imm.toNat % 64 = 0 ∧ imm.toNat < 2 ^ 13) ∧ (((s.cl x.c).gr ra).toNat = off ∧ ((s.cl x.c).gr rb).toNat = st) ∧ (s.clxDesc (sramAt x.c off) ((s.cluPart x.c).getD 16) = (d, false)) ∧ (s.defines x.c off st d = true) ∧ (s.recOf d.part d.handle = none) ∧ (s.grps.length < 1024 ∧ clxStore s.grps + 16384 * (d.inputs.length + 1) ≤ 16 * 2 ^ 20) :=
  ⟨grpD 31 0, x0, 1, 2, 0x40, 0x1000, 0x2000, ((grpD 31 0).clxDesc 0x1000 0).1, by decide +kernel⟩

/-- A state that meets the hypotheses of GroupRecords, clause 2. -/
theorem witness_GroupRecords_2 : ∃ (s : State) (x : Iss) (ra rb : Fin 64) (imm : BitVec 24) (off st r : Nat) (d y : ClxRec), (s.issues x = true) ∧ (s.tnsIdle x.c = true) ∧ (imm.toNat % 64 = 0 ∧ imm.toNat < 2 ^ 13) ∧ (((s.cl x.c).gr ra).toNat = off ∧ ((s.cl x.c).gr rb).toNat = st) ∧ (s.clxDesc (sramAt x.c off) ((s.cluPart x.c).getD 16) = (d, false)) ∧ (s.defines x.c off st d = true) ∧ (s.recOf d.part d.handle = some (r, y)) ∧ (SMap.find s.grps r = some y) :=
  ⟨{ grpD 31 0 with grps := [(3, grp0 2 31 [inM] [])] }, x0, 1, 2, 0x40, 0x1000, 0x2000, 3, ((grpD 31 0).clxDesc 0x1000 0).1, grp0 2 31 [inM] [], by decide +kernel⟩

/-- A state that meets the hypotheses of GroupRecords, clause 3. -/
theorem witness_GroupRecords_3 : ∃ (s : State) (x : Iss) (imm : BitVec 24) (rd : Fin 64) (r : Nat) (y : ClxRec), (s.issues x = true) ∧ (imm.toNat < 4096) ∧ (s.recOf ((s.cluPart x.c).getD 16) imm.toNat = some (r, y)) :=
  ⟨grpS (grp0 2 31 [inM] []) id, x0, 5, 7, 3, grp0 2 31 [inM] [], by decide +kernel⟩

/-- A state that meets the hypotheses of GroupRecords, clause 4. -/
theorem witness_GroupRecords_4 : ∃ (s : State) (x : Iss) (imm : BitVec 24) (rd : Fin 64), (s.issues x = true) ∧ (imm.toNat < 4096) ∧ (s.recOf ((s.cluPart x.c).getD 16) imm.toNat = none) :=
  ⟨grpS (grp0 2 31 [inM] []) id, x0, 6, 7, by decide +kernel⟩

/-- A state that meets the hypotheses of GroupRecords, clause 5. -/
theorem witness_GroupRecords_5 : ∃ (s : State) (x : Iss) (imm : BitVec 24) (r : Nat) (y : ClxRec), (s.issues x = true) ∧ (imm.toNat < 4096) ∧ (s.recOf ((s.cluPart x.c).getD 16) imm.toNat = some (r, y)) ∧ (SMap.find s.grps r = some y) ∧ (y.waits = [] ∧ s.recSteps y = [] ∧ s.clxWaiters = []) :=
  ⟨grpS (grp0 2 31 [inM] []) id, x0, 5, 3, grp0 2 31 [inM] [], by decide +kernel⟩

/-- A state that meets the hypotheses of GroupRecords, clause 6. -/
theorem witness_GroupRecords_6 : ∃ (s : State) (x : Iss) (n : Fin 64), (s.issues x = true) ∧ (8 ≤ (n : Nat) ∧ (n : Nat) ≠ 63) :=
  ⟨prog, x0, 62, by decide +kernel⟩

/-- A state that meets the hypotheses of GroupRecords, clause 7. -/
theorem witness_GroupRecords_7 : ∃ (s : State) (x : Iss) (n : Fin 64), (s.issues x = true) ∧ ((n : Nat) < 8 ∨ (n : Nat) = 63) :=
  ⟨prog, x0, 63, by decide +kernel⟩

/-- A state that meets the hypotheses of GroupRecords, clause 8. -/
theorem witness_GroupRecords_8 : ∃ (s : State) (n : Port) (p : Pkt) (r : Nat) (x : ClxRec) (g : GrpWait), (s.takes n p = true) ∧ (p.opc = 0x18 ∧ bitsAt p.w1.toNat 12 20 = 0xFFFFF) ∧ (s.recOf p.part (bitsAt p.w1.toNat 0 12) = some (r, x)) ∧ (SMap.find s.grps r = some x) ∧ (x.state = 1 ∧ x.ports = [(n : Nat)]) ∧ (s.clxWaiters = []) :=
  ⟨grpS (grp0 1 31 [inC] [⟨0, 0x2000, 0, false⟩]) id, 1, markC, 3, grp0 1 31 [inC] [⟨0, 0x2000, 0, false⟩], ⟨0, 0x2000, 0, false⟩, by decide +kernel⟩

/-- A state that meets the hypotheses of GroupRecords, clause 9. -/
theorem witness_GroupRecords_9 : ∃ (s : State) (r : Fin 1024) (x : ClxRec) (k : Nat), (SMap.find s.grps r = some x) ∧ (x.state = 1) ∧ (x.ports = [k]) ∧ (bitAt x.matched k = false) :=
  ⟨grpS (grp0 1 1 [inM] []) id, 3, grp0 1 1 [inM] [], 1, by decide +kernel⟩

/-- A state that meets the hypotheses of GroupRecords, clause 10. -/
theorem witness_GroupRecords_10 : ∃ (s : State) (r : Fin 1024) (x : ClxRec) (g : GrpWait), (SMap.find s.grps r = some x) ∧ (x.state ≠ 2) ∧ (x.waits = [g] ∧ g.sig = false ∧ s.recSteps x = [] ∧ s.clxWaiters = []) :=
  ⟨grpS (grp0 1 1 [inM] [⟨0, 0x2000, 0, false⟩]) id, 3, grp0 1 1 [inM] [⟨0, 0x2000, 0, false⟩], ⟨0, 0x2000, 0, false⟩, by decide +kernel⟩

/-- A state that meets the hypotheses of CollectiveSteps, clause 1. -/
theorem witness_CollectiveSteps_1 : ∃ (s : State) (x : Iss) (rd ra rb : Fin 64) (md : BitVec 6) (imm : BitVec 24) (n r : Nat) (y : ClxRec) (kd : ClxKind), (s.issues x = true) ∧ (s.tnsIdle x.c = true) ∧ ((s.cl x.c).vBusy = 0) ∧ (imm.toNat < 2 ^ 22 ∧ clxReserved ⟨kd, rd, ra, rb, md.toNat, imm.toNat⟩ = false) ∧ (bitsAt imm.toNat 12 3 = n) ∧ (((s.cl x.c).clxAt n).busy = false ∧ ((s.cl x.c).clxAt n).unrep = false) ∧ (s.recOf ((s.cluPart x.c).getD 16) (bitsAt imm.toNat 0 12) = some (r, y)) ∧ (SMap.find s.grps r = some y) ∧ ((y.member x.c).isSome = true ∧ y.state = 2 ∧ (s.cl x.c).clxOpen y.handle = none) ∧ (clxSuits (s.cl x.c) y ⟨kd, rd, ra, rb, md.toNat, imm.toNat⟩ = true ∧ clxCountOk (s.cl x.c) y ⟨kd, rd, ra, rb, md.toNat, imm.toNat⟩ = true) ∧ (s.clxOperands x.c y ⟨kd, rd, ra, rb, md.toNat, imm.toNat⟩ = (0, 0)) ∧ (SMap.find y.aborts (SMap.get y.next 0 x.c) = none) ∧ (s.clxWaiters = []) :=
  ⟨grpS (grp0 2 31 [inM] []) id, x0, 0, 1, 2, 2, 0x007005, 7, 3, grp0 2 31 [inM] [], .vecAr, by decide +kernel⟩

/-- A state that meets the hypotheses of CollectiveSteps, clause 2. -/
theorem witness_CollectiveSteps_2 : ∃ (s : State) (x : Iss) (rd ra rb : Fin 64) (md : BitVec 6) (imm : BitVec 24) (n : Nat), (s.issues x = true) ∧ (s.tnsIdle x.c = true) ∧ (imm.toNat < 2 ^ 22) ∧ (bitsAt imm.toNat 12 3 = n) ∧ (((s.cl x.c).clxAt n).busy = false ∧ ((s.cl x.c).clxAt n).unrep = false) ∧ (s.clxWaiters = []) :=
  ⟨prog, x0, 0, 1, 2, 2, 0x007005, 7, by decide +kernel⟩

/-- A state that meets the hypotheses of CollectiveSteps, clause 3. -/
theorem witness_CollectiveSteps_3 : ∃ (s : State) (c : Clu) (q : ClxReq) (t0 : Nat), ((s.cl c).wait = some (.clx q true t0)) ∧ ((s.cl c).waitLim ≠ 0) :=
  ⟨progK (fun k => { k with wait := some (.clx ⟨.vecAr, 0, 1, 2, 2, 5⟩ true 0), waitLim := 9 }), 0, ⟨.vecAr, 0, 1, 2, 2, 5⟩, 0, by decide +kernel⟩

/-- A state that meets the hypotheses of CollectiveSteps, clause 4. -/
theorem witness_CollectiveSteps_4 : ∃ (s : State) (c : Clu) (k : Fin 8) (q : ClxSlot) (r : Nat) (x : ClxRec) (i j : ClxIn) (l : List ClxIn), ((s.cl c).clxAt k = q) ∧ (q.busy = true ∧ q.ready = true ∧ q.sent = 0 ∧ q.kind = .vecAr) ∧ (s.recOf ((s.cluPart c).getD 16) q.grp = some (r, x)) ∧ (SMap.find s.grps r = some x) ∧ (x.inputs = i :: j :: l) ∧ (x.member c = some i) ∧ (x.kind = 0 ∧ x.state ≠ 3 ∧ x.takes q.step = true ∧ x.stepOf q.step = none ∧ 0 < x.e) ∧ (s.clxWaiters = []) :=
  ⟨grpS (grp0 2 31 [inM, inC] []) (fun k => k.setClx 7 slotB), 0, 7, slotB, 3, grp0 2 31 [inM, inC] [], inM, inC, [], by decide +kernel⟩

/-- A state that meets the hypotheses of CollectiveSteps, clause 5. -/
theorem witness_CollectiveSteps_5 : ∃ (s : State) (n : Port) (p : Pkt) (r step : Nat) (x : ClxRec) (i : ClxIn), (s.takes n p = true) ∧ (bitsAt p.w1.toNat 12 20 = step ∧ bitsAt p.w1.toNat 44 12 = 0 ∧ step < 0xFFFFE) ∧ (s.recOf p.part (bitsAt p.w1.toNat 0 12) = some (r, x)) ∧ (SMap.find s.grps r = some x) ∧ (x.kind = 0 ∧ x.state = 2 ∧ x.parent = 31 ∧ x.base = step ∧ x.open_ = [] ∧ x.aborts = [] ∧ x.chunks = 1) ∧ (x.inputs = [i]) ∧ (i.child = true ∧ i.id = (n : Nat)) ∧ (s.clxWaiters = []) ∧ (p.opc = 0x18) :=
  ⟨grpS (grp0 2 31 [inC] []) id, 1, pktC 0x18 0 0 [], 3, 0, grp0 2 31 [inC] [], inC, by decide +kernel⟩

/-- A state that meets the hypotheses of CollectiveSteps, clause 6. -/
theorem witness_CollectiveSteps_6 : ∃ (s : State) (n : Port) (p : Pkt) (r step k : Nat) (x : ClxRec) (i : ClxIn), (s.takes n p = true) ∧ (bitsAt p.w1.toNat 12 20 = step ∧ bitsAt p.w1.toNat 44 12 = 0 ∧ step < 0xFFFFE) ∧ (s.recOf p.part (bitsAt p.w1.toNat 0 12) = some (r, x)) ∧ (SMap.find s.grps r = some x) ∧ (x.kind = 0 ∧ x.state = 2 ∧ x.parent = (n : Nat) ∧ x.base = step ∧ x.open_ = [] ∧ x.aborts = [] ∧ x.chunks = 1 ∧ x.waits = []) ∧ (x.inputs = [i]) ∧ (i.child = false) ∧ (s.clxWaiters = []) ∧ ((s.cl i.id).clxOpen x.handle = some k) ∧ (((s.cl i.id).clxAt k).step = step ∧ ((s.cl i.id).clxAt k).kind = .vecAr ∧ ((s.cl i.id).clxAt k).vreg = false ∧ ((s.cl i.id).clxAt k).got = [] ∧ ((s.cl i.id).clxAt k).sig = false) :=
  ⟨grpS (grp0 2 1 [inM] []) (fun k => k.setClx 7 slotB), 1, pktC 0x19 0 0 [], 3, 0, 7, grp0 2 1 [inM] [], inM, by decide +kernel⟩

/-- A state that meets the hypotheses of CollectiveSteps, clause 7. -/
theorem witness_CollectiveSteps_7 : ∃ (s : State) (r : Fin 1024) (x : ClxRec) (e : ClxStep) (l : List ClxStep), (SMap.find s.grps r = some x) ∧ (x.open_ = e :: l) ∧ (x.takes e.step = true ∧ x.parent = 31 ∧ x.inputs = []) ∧ (s.clxWaiters = []) :=
  ⟨grpS { grp0 2 31 [] [] with open_ := [⟨0, 0, [], [], [], false⟩] } id, 3, { grp0 2 31 [] [] with open_ := [⟨0, 0, [], [], [], false⟩] }, ⟨0, 0, [], [], [], false⟩, [], by decide +kernel⟩

/-- A state that meets the hypotheses of CollectiveSteps, clause 8. -/
theorem witness_CollectiveSteps_8 : ∃ (s : State) (c : Clu) (k : Fin 8) (r : Nat) (x : ClxRec), (((s.cl c).clxAt k).busy = true ∧ ((s.cl c).clxAt k).sig = false) ∧ (s.recOf ((s.cluPart c).getD 16) ((s.cl c).clxAt k).grp = some (r, x)) ∧ (SMap.find s.grps r = some x) ∧ (x.state ≠ 3 ∧ x.waits = []) ∧ (s.clxWaiters = []) :=
  ⟨grpS (grp0 2 1 [inM] []) (fun k => k.setClx 7 slotB), 0, 7, 3, grp0 2 1 [inM] [], by decide +kernel⟩

/-- A state that meets the hypotheses of TwinBinding, clause 1. -/
theorem witness_TwinBinding_1 : ∃ (s : State), (s.portUp 16 = true) :=
  ⟨tw 2 id, by decide +kernel⟩

/-- A state that meets the hypotheses of TwinBinding, clause 2. -/
theorem witness_TwinBinding_2 : ∃ (s : State) (p : Pkt), (s.takes 16 p = true) ∧ (p.opc = 0x21) :=
  ⟨tw 3 id, pktT 0x21 0 0 0 0 (0x0102 + 0xFFFF * 2 ^ 16 + 2 * 2 ^ 48) [], by decide +kernel⟩

/-- A state that meets the hypotheses of TwinBinding, clause 3. -/
theorem witness_TwinBinding_3 : ∃ (s : State) (h : Nat), (s.portUp 16 = true ∧ (SMap.find s.quartz.hello 16).isSome = true) ∧ (s.flint.serial < s.rd F.QTZ_NBR_SERIAL 16) ∧ (s.rd F.AGT_STAT_STATE = h ∧ (h = 0 ∨ h = 1 ∨ h = 5)) ∧ (s.twin.bindSince = none) ∧ ((s.ctxCnt 17).1 < 4096 ∧ s.quartz.qwait = []) :=
  ⟨{ (tw 0 id).wr F.QTZ_NBR_SERIAL 2 16 with quartz := { fab.quartz with hello := [(16, [])] } }, 0, by decide +kernel⟩

/-- A state that meets the hypotheses of TwinBinding, clause 4. -/
theorem witness_TwinBinding_4 : ∃ (s : State) (p : Pkt) (q : BindReq), (s.takes 16 p = true) ∧ (p.opc = 0x22) ∧ ((⟨p.num 0 8, p.num 8 2, p.num 10 2, p.num 12 2, p.num 14 1, p.num 15 1, p.num 16 2⟩ : BindReq) = q) :=
  ⟨tw 0 id, bindP, bindQ, by decide +kernel⟩

/-- A state that meets the hypotheses of TwinBinding, clause 5. -/
theorem witness_TwinBinding_5 : ∃ (s : State) (q : BindReq), (s.twin.req = some q) ∧ (s.twin.reqAt + 2000000000 ≤ s.now) ∧ (s.rd F.AGT_STAT_STATE = 1) :=
  ⟨{ tw 1 (fun t => { t with req := some bindQ }) with now := 2000000000 }, bindQ, by decide +kernel⟩

/-- A state that meets the hypotheses of TwinBinding, clause 6. -/
theorem witness_TwinBinding_6 : ∃ (s : State) (src : Src), (src.host ≠ .pf) :=
  ⟨tw 2 id, .vf 3, by decide +kernel⟩

/-- A state that meets the hypotheses of TwinBinding, clause 7. -/
theorem witness_TwinBinding_7 : ∃ (s : State), (s.rd F.AGT_STAT_STATE = 2) ∧ (s.twin.epochs = [] ∧ s.twin.yielding = false) ∧ ((s.ctxCnt 17).1 < 4096 ∧ s.quartz.qwait = []) :=
  ⟨tw 2 id, by decide +kernel⟩

/-- A state that meets the hypotheses of TwinBinding, clause 8. -/
theorem witness_TwinBinding_8 : ∃ (s : State) (p : Pkt), (s.takes 16 p = true) :=
  ⟨tw 2 id, pktT 0x25 0 0 0 0 0 [], by decide +kernel⟩

/-- A state that meets the hypotheses of TwinBinding, clause 9. -/
theorem witness_TwinBinding_9 : ∃ (s : State), (s.rd F.AGT_STAT_STATE = 2 ∨ s.rd F.AGT_STAT_STATE = 6 ∨ s.rd F.AGT_STAT_STATE = 8) :=
  ⟨tw 2 (fun t => { t with imgRun := true }), by decide +kernel⟩

/-- A state that meets the hypotheses of MirrorEpochs, clause 1. -/
theorem witness_MirrorEpochs_1 : ∃ (s : State) (r : Nat), (r < 64 ∧ s.bit F.AGT_MR_VALID r = true) ∧ (2 * 2 ^ 20 + ((List.range 64).filter (fun q => s.bit F.AGT_MR_VALID q)).foldl (fun n q => n + s.rangeFoot q) 0 < 2 ^ 42) :=
  ⟨twR 2 id, 0, by decide +kernel⟩

/-- A state that meets the hypotheses of MirrorEpochs, clause 2. -/
theorem witness_MirrorEpochs_2 : ∃ (s t0 : State) (r : Fin 64) (reg : Fin 3) (v : BitVec 64), ((writeFields s .pf 8 (F.AGT_MR_LBASE.regAddr r 0 + 8 * (reg : Nat)) v.toNat).1 = t0) :=
  ⟨twR 2 id, (writeFields (twR 2 id) .pf 8 (F.AGT_MR_LBASE.regAddr 0 0 + 8 * (2 : Nat)) 0x30).1, 0, 2, 0x30, by decide +kernel⟩

/-- A state that meets the hypotheses of MirrorEpochs, clause 3. -/
theorem witness_MirrorEpochs_3 : ∃ (s : State) (p : Part) (e : EpochRun), ((s.epAt p).run = some e) ∧ (e.started = false) :=
  ⟨twR 2 (fun t => { t with epochs := [(0, ⟨1, some run0, none, false⟩)] }), 0, run0, by decide +kernel⟩

/-- A state that meets the hypotheses of MirrorEpochs, clause 4. -/
theorem witness_MirrorEpochs_4 : ∃ (s : State) (p : Pkt) (q n : Nat), (s.takes 16 p = true) ∧ (p.opc = 0x23) ∧ (p.num 0 1 = q ∧ q < 16) ∧ (p.num 4 4 = n) :=
  ⟨tw 2 id, pktT 0x23 6 0 0 (7 * 2 ^ 32 + 2 * 2 ^ 48) 0 (leM 4 0 ++ leM 4 7 ++ leM 8 0), 0, 7, by decide +kernel⟩

/-- A state that meets the hypotheses of MirrorEpochs, clause 5. -/
theorem witness_MirrorEpochs_5 : ∃ (s u : State) (p : Pkt) (n c : Nat) (f : Bool), (s.takes 16 p = true) ∧ (p.opc = 0x20) ∧ ((s.taken 16 p).hbmWriteRaw (s.mirrorBase + p.addr) p.marked = (u, c)) ∧ (p.addr + p.bytes ≤ s.rd F.HBM_MIRROR_SIZE_GIB * 2 ^ 30) :=
  ⟨tw 2 (fun t => { t with dir := [(0, ⟨some (7, false), some 6, none⟩)] }), ((tw 2 (fun t => { t with dir := [(0, ⟨some (7, false), some 6, none⟩)] })).taken 16 (pktT 0x20 6 0 0x200000 (64 * 2 ^ 17 + 7 * 2 ^ 32) 0 (leM 8 5))).hbmWriteRaw ((tw 2 id).mirrorBase + 0x200000) (pktT 0x20 6 0 0x200000 (64 * 2 ^ 17 + 7 * 2 ^ 32) 0 (leM 8 5)).marked |>.1, pktT 0x20 6 0 0x200000 (64 * 2 ^ 17 + 7 * 2 ^ 32) 0 (leM 8 5), 7, 0, false, by decide +kernel⟩

/-- A state that meets the hypotheses of MirrorEpochs, clause 6. -/
theorem witness_MirrorEpochs_6 : ∃ (s : State) (p : Pkt), (s.takes 16 p = true) ∧ (p.opc = 0x20) ∧ (s.rd F.HBM_MIRROR_SIZE_GIB * 2 ^ 30 < p.addr + p.bytes) :=
  ⟨tw 2 id, pktT 0x20 6 0 (6 * 2 ^ 30) (64 * 2 ^ 17 + 7 * 2 ^ 32) 0 (leM 8 5), by decide +kernel⟩

/-- A state that meets the hypotheses of TakeoverAndReturn, clause 1. -/
theorem witness_TakeoverAndReturn_1 : ∃ (s : State) (w : Nat), (s.twin.confirmed = some w) ∧ (s.rd F.AGT_STAT_STATE = 2 ∨ s.rd F.AGT_STAT_STATE = 3 ∨ s.rd F.AGT_STAT_STATE = 8) ∧ (s.quartz.ctx = [] ∧ s.quartz.qwait = [] ∧ s.twin.epochs = []) ∧ (s.txOf 16 = [] ∧ SMap.find s.quartz.unacked 16 = none) :=
  ⟨tw 3 (fun t => { t with confirmed := some 0 }), 0, by decide +kernel⟩

/-- A state that meets the hypotheses of TakeoverAndReturn, clause 2. -/
theorem witness_TakeoverAndReturn_2 : ∃ (s : State) (k : Nat), (s.rd F.AGT_STAT_STATE = 4) ∧ (s.twin.confirmDown = false) :=
  ⟨tw 4 id, 1, by decide +kernel⟩

/-- A state that meets the hypotheses of TakeoverAndReturn, clause 3. -/
theorem witness_TakeoverAndReturn_3 : ∃ (s : State) (a b : Bool), (s.rd F.AGT_STAT_STATE = 4) ∧ (s.twin.confirmDown = true ∨ 10 ≤ s.twin.probes) ∧ (s.bit F.FLT_ALONE_ACTIVE = false) ∧ (s.rd F.AGT_STAT_PEER_ID ≠ 0xFFFF) :=
  ⟨tw 4 (fun t => { t with confirmDown := true }), true, false, by decide +kernel⟩

/-- A state that meets the hypotheses of TakeoverAndReturn, clause 4. -/
theorem witness_TakeoverAndReturn_4 : ∃ (s u : State) (p : Pkt) (c : Nat), (s.takes 16 p = true) ∧ (p.opc = 0x27) ∧ ((s.taken 16 p).hbmWrite none false p.addr p.marked = (u, c)) :=
  ⟨tw 8 id, ((tw 8 id).taken 16 (pktT 0x27 6 0 0x1000000000 (64 * 2 ^ 17) 0 (leM 8 5))).hbmWrite none false 0x1000000000 (pktT 0x27 6 0 0x1000000000 (64 * 2 ^ 17) 0 (leM 8 5)).marked |>.1, pktT 0x27 6 0 0x1000000000 (64 * 2 ^ 17) 0 (leM 8 5), 0, by decide +kernel⟩

/-- A state that meets the hypotheses of TakeoverAndReturn, clause 5. -/
theorem witness_TakeoverAndReturn_5 : ∃ (s : State), (s.rd F.AGT_STAT_STATE = 6) ∧ (s.twin.todo = [] ∧ s.restoring = false ∧ s.bit F.AGT_RSV_CONVERGED = false) :=
  ⟨tw 6 (fun t => { t with dirty := [(5, true)] }), by decide +kernel⟩

/-- A state that meets the hypotheses of TakeoverAndReturn, clause 6. -/
theorem witness_TakeoverAndReturn_6 : ∃ (s : State) (p : Pkt), (s.takes 16 p = true) ∧ (p.opc = 0x26) :=
  ⟨(tw 8 id).wb F.AGT_STAT_HELD true, pktT 0x26 0 0 0 0 0 (leM 2 0x0103 ++ leM 6 0 ++ leM 8 0), by decide +kernel⟩

/-- A state that meets the hypotheses of HostRings, clause 1. -/
theorem witness_HostRings_1 : ∃ (s : State) (src : Src) (r : Fin 256) (v : BitVec 32), (s.barServed = true) :=
  ⟨hst id, .pf, 40, 5, by decide +kernel⟩

/-- A state that meets the hypotheses of HostRings, clause 2. -/
theorem witness_HostRings_2 : ∃ (s : State) (r : Fin 256) (v : BitVec 32) (n h : Nat), (s.barServed = true) ∧ (s.bit F.HST_RING_ENABLE r = true ∧ n = 2 ^ s.rd F.HST_RING_SIZE_LOG2 r ∧ v.toNat < n) ∧ ((s.ringSt r).cqHead = h) :=
  ⟨hst id, 40, 39, 64, 0, by decide +kernel⟩

/-- A state that meets the hypotheses of HostRings, clause 3. -/
theorem witness_HostRings_3 : ∃ (s : State) (r n : Nat) (e : CqEnt), (n = 2 ^ s.rd F.HST_RING_SIZE_LOG2 r) ∧ (s.rd F.HST_RING_CQ_TAIL r < n ∧ n ≤ 2 ^ 16 ∧ s.rd F.HST_RING_PHASE r ≤ 1) :=
  ⟨(hst id).wr F.HST_RING_CQ_TAIL 63 40, 40, 64, ⟨7, 0, 1, 64, 0, 0, 0, false⟩, by decide +kernel⟩

/-- A state that meets the hypotheses of HostRings, clause 4. -/
theorem witness_HostRings_4 : ∃ (s : State) (r : Fin 256), (s.ringLive r = true) ∧ ((s.ringSt r).unsig ≠ 0) ∧ ((s.ringSt r).since + 1000 * s.rd F.HST_RING_TIME_US r ≤ s.now) :=
  ⟨hst (fun h => { h with rings := [(40, { RingSt.init with unsig := 7 })] }), 40, by decide +kernel⟩

/-- A state that meets the hypotheses of HostRings, clause 5. -/
theorem witness_HostRings_5 : ∃ (s t0 : State) (r : Fin 256) (v : BitVec 64), ((writeFields s .pf 8 (F.HST_RING_ENABLE.regAddr r 0) v.toNat).1 = t0) :=
  ⟨hst id, (writeFields (hst id) .pf 8 (F.HST_RING_ENABLE.regAddr 40 0) 0).1, 40, 0, by decide +kernel⟩

/-- A state that meets the hypotheses of HostRings, clause 6. -/
theorem witness_HostRings_6 : ∃ (s : State) (r : Fin 256) (p : Part) (src : Src) (v : BitVec 64), (src.host ≠ .pf) :=
  ⟨hst id, 40, 0, .vf 0, 1, by decide +kernel⟩

/-- A state that meets the hypotheses of HostRings, clause 7. -/
theorem witness_HostRings_7 : ∃ (s : State) (r : Nat) (e : List Byte), (s.barServed = true) ∧ (s.fetchRing = some r) :=
  ⟨(hst id).wr F.HST_RING_SQ_TAIL 1 40, 40, List.replicate 64 0, by decide +kernel⟩

/-- A state that meets the hypotheses of HostRings, clause 8. -/
theorem witness_HostRings_8 : ∃ (s : State) (r : Fin 256), (s.bit F.HST_STAT_LINK_UP = true) :=
  ⟨hst id, 40, by decide +kernel⟩

/-- A state that meets the hypotheses of HostRings, clause 9. -/
theorem witness_HostRings_9 : ∃ (s : State) (rate : Fin 4) (width : Fin 32) (flit : Bool), (s.bit F.HST_STAT_LINK_UP = false ∧ 4 ≤ s.stage ∧ s.start.rstOn = false ∧ s.start.perst = true ∧ s.islResetting 303 = false) :=
  ⟨fab, 3, 16, true, by decide +kernel⟩

/-- A state that meets the hypotheses of HostRings, clause 10. -/
theorem witness_HostRings_10 : ∃ (s u : State) (src : Src) (off n a c : Nat) (part : Option Nat) (d : List MByte), (s.barServed = true) ∧ (s.aperAt src off n = some (a, part)) ∧ (s.readSpan part false (State.localAddr a) n = (u, c, d)) :=
  ⟨hst id, hst id, .pf, 0x100, 8, 0x100, 0, none, List.replicate 8 (0, false), by decide +kernel⟩

/-- A state that meets the hypotheses of HostRings, clause 11. -/
theorem witness_HostRings_11 : ∃ (s : State) (src : Src) (off a : Nat) (part : Option Nat) (l : List MByte), (s.barServed = true) ∧ (s.aperAt src off l.length = some (a, part)) :=
  ⟨hst id, .pf, 0x100, 0x100, none, leM 8 5, by decide +kernel⟩

/-- A state that meets the hypotheses of HostCommands, clause 1. -/
theorem witness_HostCommands_1 : ∃ (s : State) (id : Nat) (c : HostCmd), (s.cmdReady id 0 = some c) ∧ (s.ringOpen c.ring = true) :=
  ⟨hstC 0 16 [], 0, cmdT 0 16 [], by decide +kernel⟩

/-- A state that meets the hypotheses of HostCommands, clause 2. -/
theorem witness_HostCommands_2 : ∃ (s : State) (id : Nat) (c : HostCmd), (s.cmdReady id 3 = some c) ∧ (c.part < 16) ∧ (s.bit F.AGT_STAT_LINK_FAULT = false) :=
  ⟨hstC 3 0 [], 0, cmdT 3 0 [], by decide +kernel⟩

/-- A state that meets the hypotheses of HostCommands, clause 3. -/
theorem witness_HostCommands_3 : ∃ (s : State) (id : Nat) (mask : BitVec 256) (c : HostCmd), (s.cmdReady id 1 = some c) ∧ (s.ringOpen c.ring = true) :=
  ⟨hstC 1 0 launchOps, 0, 1, cmdT 1 0 launchOps, by decide +kernel⟩

/-- A state that meets the hypotheses of HostCommands, clause 4. -/
theorem witness_HostCommands_4 : ∃ (s : State) (c : Clu) (l : LaunchSt) (b : List (Byte × Bool)), (s.host.launches.find? (fun l => l.clusters.contains (c : Nat)) = some l) ∧ (l.img = some b ∧ b.length = l.ilen ∧ l.base + l.ilen ≤ l.lim ∧ l.lim ≤ 0x400000) ∧ (s.launchIdle c = true ∧ s.cluHeld c = false) :=
  ⟨{ hst (fun h => { h with cmds := [cmdS 1 0 launchOps], launches := [launch0 (some (leM 8 5))] }) with clu := [(0, { k0 with starting := true, cmd := some 0 })] }, 0, launch0 (some (leM 8 5)), leM 8 5, by decide +kernel⟩

/-- A state that meets the hypotheses of HostCommands, clause 5. -/
theorem witness_HostCommands_5 : ∃ (s : State) (id : Nat) (d : List (Byte × Bool)) (c : HostCmd), (s.cmdReady id 2 = some c) ∧ (c.op 36 1 ≤ 2) :=
  ⟨hstC 2 0 (leM 8 0x5000 ++ leM 8 (0x0103 * 2 ^ 48 + 0x2000) ++ leM 4 8 ++ leM 1 0), 0, leM 8 5, cmdT 2 0 (leM 8 0x5000 ++ leM 8 (0x0103 * 2 ^ 48 + 0x2000) ++ leM 4 8 ++ leM 1 0), by decide +kernel⟩

/-- A state that meets the hypotheses of HostCommands, clause 6. -/
theorem witness_HostCommands_6 : ∃ (s : State) (id : Nat) (c : CopySt) (d : HostCmd), (s.host.copies = [c] ∧ c.id = id) ∧ (c.run = true ∧ c.out = 0) ∧ (s.host.cmds.find? (fun x => x.id = id) = some d) ∧ (s.ringOpen d.ring = true) :=
  ⟨hst (fun h => { h with cmds := [cmdS 2 0 []], copies := [⟨0, 0, 0, 0, 8, 8, 0, true, 0, 0, []⟩] }), 0, ⟨0, 0, 0, 0, 8, 8, 0, true, 0, 0, []⟩, cmdS 2 0 [], by decide +kernel⟩

/-- A state that meets the hypotheses of HostCommands, clause 7. -/
theorem witness_HostCommands_7 : ∃ (s : State) (c : CopySt) (off k : Nat) (l : List MByte), (c.dir = 1) ∧ (s.copyOf c.id = some c) ∧ (k = (l.takeWhile (fun b => !b.2)).length ∧ k ≠ 0) :=
  ⟨hst (fun h => { h with copies := [⟨0, 1, 0x5000, 0, 16, 0, 0, true, 0, 0, []⟩] }), ⟨0, 1, 0x5000, 0, 16, 0, 0, true, 0, 0, []⟩, 0, 8, leM 8 5 ++ List.replicate 8 (0, true), by decide +kernel⟩

/-- A state that meets the hypotheses of HostCommands, clause 8. -/
theorem witness_HostCommands_8 : ∃ (s : State) (id k : Nat) (p : Pkt) (c : HostCmd), (s.cmdReady id 0x10 = some c) ∧ (s.ringOpen c.ring = true) :=
  ⟨hstC 0x10 16 [], 0, 0, mgA 1 1 0 0, cmdT 0x10 16 [], by decide +kernel⟩

/-- A state that meets the hypotheses of HostCommands, clause 9. -/
theorem witness_HostCommands_9 : ∃ (s : State) (id : Nat) (c : HostCmd), (s.cmdReady id 0x11 = some c) :=
  ⟨hstC 0x11 16 (leM 8 0x7000), 0, cmdT 0x11 16 (leM 8 0x7000), by decide +kernel⟩

/-- A state that meets the hypotheses of PartitionsAndGrants, clause 1. -/
theorem witness_PartitionsAndGrants_1 : ∃ (s : State) (id : Nat) (d : List Byte) (c : HostCmd) (k : Fin 4), (s.cmdReady id 8 = some c) ∧ (d.length = 64) :=
  ⟨hstC 8 16 [], 0, plain (leM 1 2 ++ leM 3 0 ++ leM 4 100 ++ leM 1 3 ++ leM 23 0 ++ leM 8 0 ++ leM 8 0xFF ++ leM 16 0), cmdT 8 16 [], 1, by decide +kernel⟩

/-- A state that meets the hypotheses of PartitionsAndGrants, clause 2. -/
theorem witness_PartitionsAndGrants_2 : ∃ (s : State) (id : Nat) (c : HostCmd), (s.cmdReady id 9 = some c) :=
  ⟨hstC 9 5 [], 0, cmdT 9 5 [], by decide +kernel⟩

/-- A state that meets the hypotheses of PartitionsAndGrants, clause 3. -/
theorem witness_PartitionsAndGrants_3 : ∃ (s : State) (id : Nat) (c : HostCmd), (s.cmdReady id 0x0A = some c) :=
  ⟨hstC 0x0A 16 (grantOps 0), 0, cmdT 0x0A 16 (grantOps 0), by decide +kernel⟩

/-- A state that meets the hypotheses of PartitionsAndGrants, clause 4. -/
theorem witness_PartitionsAndGrants_4 : ∃ (s : State) (n : Fin 4096) (g : Grant) (c : HostCmd), (s.grantFor n 0x0A = some (g, c)) ∧ (s.ringOpen c.ring = true) :=
  ⟨hst (fun h => { h with cmds := [cmdS 0x0A 16 (grantOps 0)], grants := [(0, grant0 false (some 0))] }), 0, grant0 false (some 0), cmdS 0x0A 16 (grantOps 0), by decide +kernel⟩

/-- A state that meets the hypotheses of PartitionsAndGrants, clause 5. -/
theorem witness_PartitionsAndGrants_5 : ∃ (s : State) (id n : Nat) (c : HostCmd) (o : Grant), (s.cmdReady id 0x0B = some c) ∧ (s.grantNamed c.grant = some (n, o)) ∧ (∀ p, p < 16 → s.rangesOf p = []) ∧ (s.ringOpen c.ring = true) :=
  ⟨hst (fun h => { h with cmds := [cmdT 0x0B 16 (grantOps 1)], grants := [(0, grant0 true none)] }), 0, 0, cmdT 0x0B 16 (grantOps 1), grant0 true none, by decide +kernel⟩

/-- A state that meets the hypotheses of PartitionsAndGrants, clause 6. -/
theorem witness_PartitionsAndGrants_6 : ∃ (s : State) (id n : Nat) (c : HostCmd) (o : Grant), (s.cmdReady id 0x0C = some c) ∧ (s.grantNamed c.grant = some (n, o)) ∧ (∀ p, p < 16 → s.rangesOf p = []) :=
  ⟨hst (fun h => { h with cmds := [cmdT 0x0C 16 (grantOps 0)], grants := [(0, grant0 true none)] }), 0, 0, cmdT 0x0C 16 (grantOps 0), grant0 true none, by decide +kernel⟩

/-- A state that meets the hypotheses of PartitionsAndGrants, clause 7. -/
theorem witness_PartitionsAndGrants_7 : ∃ (s : State) (id : Nat) (c : HostCmd), (s.cmdReady id 0x0C = some c ∨ s.cmdReady id 0x0B = some c) ∧ (s.grantNamed c.grant = none) ∧ (s.ringOpen c.ring = true) :=
  ⟨hstC 0x0C 16 (grantOps 0), 0, cmdT 0x0C 16 (grantOps 0), by decide +kernel⟩

/-- A state that meets the hypotheses of PartitionsAndGrants, clause 8. -/
theorem witness_PartitionsAndGrants_8 : ∃ (s : State) (n : Fin 4096) (g : Grant) (c : HostCmd), (s.grantFor n 0x0C = some (g, c)) :=
  ⟨hst (fun h => { h with cmds := [cmdS 0x0C 16 (grantOps 0)], grants := [(0, grant0 false (some 0))] }), 0, grant0 false (some 0), cmdS 0x0C 16 (grantOps 0), by decide +kernel⟩

/-- A state that meets the hypotheses of MicaStreams, clause 1. -/
theorem witness_MicaStreams_1 : ∃ (s : State) (x : Iss) (ra rb : Fin 64) (imm : BitVec 24) (f : MicaFeed), (s.issues { x with res := false } = true) ∧ (s.tnsIdle x.c = true) ∧ (s.micaPres = false) :=
  ⟨{ progK (fun k => { k with g := [(1, 0x1000), (2, 0x2000)] }) with flint := { (State.reset).flint with variant := 2 } }, xl, 1, 2, 0, ⟨⟨0, []⟩, []⟩, by decide +kernel⟩

/-- A state that meets the hypotheses of MicaStreams, clause 2. -/
theorem witness_MicaStreams_2 : ∃ (s : State) (x : Iss) (ra rb : Fin 64) (imm : BitVec 24) (f : MicaFeed) (d : List Byte) (p : Nat), (s.issues x = true) ∧ (s.tnsIdle x.c = true) ∧ (s.micaPres = true ∧ s.islFailed 293 = false) ∧ (x.long = true ∧ imm.toNat % 64 = 0 ∧ imm.toNat < 2 ^ 12) ∧ (s.unitDescCode x.c ((s.cl x.c).gr ra).toNat ((s.cl x.c).gr rb).toNat = (0, 0)) ∧ (d = s.memL (sramAt x.c ((s.cl x.c).gr ra).toNat) 128) ∧ (s.cluPart x.c = some p) ∧ (leAt d 0 1 = 0 ∧ s.openCode p d = 0) :=
  ⟨{ ((mic 0x40 none).wflag F.HST_PART_CTL_CLU 0 true 0 0).setMemL 0x1000 openD with clu := [(0, { k0 with g := [(1, 0x1000), (2, 0x2000)] })] }, xl, 1, 2, 0, ⟨⟨0, []⟩, []⟩, openD, 0, by decide +kernel⟩

/-- A state that meets the hypotheses of MicaStreams, clause 3. -/
theorem witness_MicaStreams_3 : ∃ (s : State) (id : Nat) (c : HostCmd) (d : List Byte), (s.micaAsks id 0 c d = true) :=
  ⟨mic 0x40 none, 0, cmdT 0x40 0 [], openD, by decide +kernel⟩

/-- A state that meets the hypotheses of MicaStreams, clause 4. -/
theorem witness_MicaStreams_4 : ∃ (s : State) (id : Nat) (c : HostCmd) (d : List Byte) (x : MStream), (s.micaAsks id 1 c d = true) ∧ (s.micaNames c d x = true) ∧ (leAt d 4 1 ≤ 1 ∧ leAt d 5 123 = 0) ∧ (x.queue = [] ∧ x.frames = []) ∧ (s.mica.cfgs = []) :=
  ⟨mic 0x41 (some (mst0 openD)), 0, cmdT 0x41 0 [], mcd 1 (leM 2 3), mst0 openD, by decide +kernel⟩

/-- A state that meets the hypotheses of MicaStreams, clause 5. -/
theorem witness_MicaStreams_5 : ∃ (s r : State) (id : Nat) (c : HostCmd) (d l : List Byte) (f : MicaFeed) (x : MStream), (s.micaAsks id 2 c d = true) ∧ (s.micaNames c d x = true) ∧ (leAt d 6 2 = 0 ∧ leAt d 16 112 = 0 ∧ leAt d 4 2 ≤ 256) ∧ ((s.starting id).feedList c.part d f = (r, 0, clean l)) ∧ (r.mica = s.mica ∧ r.host = (s.starting id).host ∧ r.regs = s.regs) ∧ (∀ k, k < leAt d 4 2 → leAt (feedEntry l k) 12 4 = 0 ∧ leAt (feedEntry l k) 24 8 = 0 ∧ 0 < leAt (feedEntry l k) 8 4 ∧ leAt (feedEntry l k) 8 4 ≤ 8388608) ∧ (oLive x.d = false ∧ x.lag = false ∧ x.frames = []) ∧ (x.queued = x.queue.length) ∧ (s.mica.cfgs = []) :=
  ⟨(mic 0x42 (some (mst0 openD))).setMemL 0x1000000000 (plain (leM 8 0x1000000100 ++ leM 4 64 ++ leM 20 0)), (((mic 0x42 (some (mst0 openD))).setMemL 0x1000000000 (plain (leM 8 0x1000000100 ++ leM 4 64 ++ leM 20 0))).starting 0).drawn, 0, cmdT 0x42 0 [], mcd 2 (leM 2 3 ++ leM 4 1 ++ leM 8 0x0103001000000000), plain (leM 8 0x1000000100 ++ leM 4 64 ++ leM 20 0), ⟨⟨0, []⟩, []⟩, mst0 openD, by decide +kernel⟩

/-- A state that meets the hypotheses of MicaStreams, clause 6. -/
theorem witness_MicaStreams_6 : ∃ (s : State) (id : Nat) (c : HostCmd) (d : List Byte) (x : MStream), (s.micaAsks id 3 c d = true) ∧ (s.micaNames c d x = true) ∧ (leAt d 8 120 = 0) ∧ (x.frames = [] ∧ x.queue = [] ∧ x.lag = false) ∧ (s.mica.cfgs = []) :=
  ⟨mic 0x43 (some (mst0 openD)), 0, cmdT 0x43 0 [], mcd 3 (leM 2 3 ++ leM 4 1), mst0 openD, by decide +kernel⟩

/-- A state that meets the hypotheses of MicaStreams, clause 7. -/
theorem witness_MicaStreams_7 : ∃ (s : State) (id : Nat) (c : HostCmd) (d : List Byte), (s.micaAsks id 4 c d = true) ∧ (leAt d 2 6 = 0 ∧ leAt d 28 100 = 0) :=
  ⟨{ mic 0x44 none with mica := { (State.reset).mica with cache := [(0, [⟨7, [], []⟩])], pins := [(2, ⟨some (1, 9), none, none⟩)] } }, 0, cmdT 0x44 0 [], mcd 4 [], by decide +kernel⟩

/-- A state that meets the hypotheses of MicaStreams, clause 8. -/
theorem witness_MicaStreams_8 : ∃ (s : State) (id : Nat) (c : HostCmd) (d : List Byte), (s.micaAsks id 5 c d = true) ∧ (leAt d 2 2 = 0 ∧ leAt d 6 2 = 0 ∧ leAt d 24 104 = 0) :=
  ⟨mic 0x45 none, 0, cmdT 0x45 0 [], mcd 5 (leM 2 0 ++ leM 2 3 ++ leM 2 0 ++ leM 8 5 ++ leM 8 9), by decide +kernel⟩

/-- A state that meets the hypotheses of MicaStreams, clause 9. -/
theorem witness_MicaStreams_9 : ∃ (s : State) (p : Part) (slot : Fin 8) (q : MPin), ((s.pinAt (8 * (p : Nat) + slot)).run = some q ∧ (s.pinAt (8 * (p : Nat) + slot)).pend = none) ∧ (s.mica.cfgs = []) ∧ (∀ k : Fin 8, k ≠ slot → (s.pinAt (8 * (p : Nat) + k)).range = none) :=
  ⟨{ mic 0x45 none with mica := { (State.reset).mica with pins := [(3, ⟨none, some ⟨false, 5, 9, .host 0⟩, none⟩)] } }, 0, 3, ⟨false, 5, 9, .host 0⟩, by decide +kernel⟩

/-- A state that meets the hypotheses of MicaStreams, clause 10. -/
theorem witness_MicaStreams_10 : ∃ (s u r : State) (isRef : Bool) (i : Nat) (x : MStream) (a n k sq : Nat) (cp : Option Nat) (b : Bool) (l : List MItem) (o : Nat) (bs : List Byte), (s.mica.streams = [(i, x)] ∧ s.mica.cfgs = [] ∧ s.mica.turn = i) ∧ (x.queue = .unit a n k sq cp b :: l ∧ x.frames = [] ∧ x.closing = none ∧ x.lag = false ∧ oLive x.d = false ∧ x.cost ≤ x.deficit) ∧ (s.flag F.FLT_ALONE_QUIESCED x.part = false ∧ s.islResetting 293 = false) ∧ (u = s.setMst i { x with deficit := x.deficit - x.cost }) ∧ (u.unitRead (fun _ _ => .mica i sq 0) x.part a n = (r, 0, clean bs, o)) ∧ (r.mica = u.mica) :=
  ⟨(mic 0 (some { mst0 openD with queue := [.unit 0x0103001000000100 4 9 5 none false] })).modMi (fun m => { m with turn := 3 }), ((mic 0 (some { mst0 openD with queue := [.unit 0x0103001000000100 4 9 5 none false] })).modMi (fun m => { m with turn := 3 })).setMst 3 { mst0 openD with deficit := 49, queue := [.unit 0x0103001000000100 4 9 5 none false] }, (((mic 0 (some { mst0 openD with queue := [.unit 0x0103001000000100 4 9 5 none false] })).modMi (fun m => { m with turn := 3 })).setMst 3 { mst0 openD with deficit := 49, queue := [.unit 0x0103001000000100 4 9 5 none false] }).drawn, false, 3, { mst0 openD with queue := [.unit 0x0103001000000100 4 9 5 none false] }, 0x0103001000000100, 4, 9, 5, none, false, [], 0, [0, 0, 0, 0], by decide +kernel⟩

/-- A state that meets the hypotheses of MicaStreams, clause 11. -/
theorem witness_MicaStreams_11 : ∃ (s : State) (i : Nat) (x : MStream) (a n k sq c : Nat) (b : Bool) (l : List MItem), (s.mica.streams = [(i, x)] ∧ s.mica.cfgs = []) ∧ (x.queue = .unit a n k sq (some c) b :: l ∧ x.frames = [] ∧ x.closing = none ∧ x.lag = true ∧ s.lags x = true ∧ oLive x.d = true ∧ l = []) ∧ (s.flag F.FLT_ALONE_QUIESCED x.part = false ∧ s.islResetting 293 = false) ∧ (c + oDeadline x.d < s.time.ft) :=
  ⟨let x := { mst0 openL with lag := true, queue := [.unit 0x0103001000000100 4 9 5 (some 7) false] }; { (mic 0 (some x)) with time := { TimeSt.init with ft := 41000000 } }, 3, { mst0 openL with lag := true, queue := [.unit 0x0103001000000100 4 9 5 (some 7) false] }, 0x0103001000000100, 4, 9, 5, 7, false, [], by decide +kernel⟩

/-- A state that meets the hypotheses of MicaStreams, clause 12. -/
theorem witness_MicaStreams_12 : ∃ (s : State) (st : Fin 1024) (pic : MicaPic) (x : MStream) (f : MFrame), (s.mst st = some x ∧ x.frames = [f] ∧ x.queue = [] ∧ x.closing = none ∧ x.lag = false ∧ s.mica.cfgs = []) ∧ (f.phase = .decode ∧ f.out = 0 ∧ f.refOnly = false) ∧ (pic.writes = [] ∧ pic.bump = []) :=
  ⟨mic 0 (some { mst0 openD with frames := [⟨9, 5, none, false, .decode, 0, 0, false, false, 0, 0, 0, 0, false, []⟩] }), 3, ⟨0, 16, 16, 8, true, [], [], [], 0, 0, true, false, [], [], [], [], []⟩, { mst0 openD with frames := [⟨9, 5, none, false, .decode, 0, 0, false, false, 0, 0, 0, 0, false, []⟩] }, ⟨9, 5, none, false, .decode, 0, 0, false, false, 0, 0, 0, 0, false, []⟩, by decide +kernel⟩

/-- A state that meets the hypotheses of MicaStreams, clause 13. -/
theorem witness_MicaStreams_13 : ∃ (s : State) (st : Fin 1024) (x : MStream), (s.mst st = some x ∧ x.lag = false) ∧ (s.lags x = true) :=
  ⟨let x := { mst0 openL with queue := [.unit 0x0103001000000100 4 9 5 (some 7) false] }; { (mic 0 (some x)) with time := { TimeSt.init with ft := 20000008 } }, 3, { mst0 openL with queue := [.unit 0x0103001000000100 4 9 5 (some 7) false] }, by decide +kernel⟩

/-- A state that meets the hypotheses of MicaStreams, clause 14. -/
theorem witness_MicaStreams_14 : ∃ (s : State) (x : MStream) (a n k sq c : Nat) (b : Bool), (oLive x.d = true ∧ x.queue = [.unit a n k sq (some c) b]) ∧ (s.rd F.MCA_CTRL_LAG_FRAC = 4) :=
  ⟨{ mic 0 none with time := { TimeSt.init with ft := 20000007 } }, { mst0 openL with queue := [.unit 0x0103001000000100 4 9 5 (some 7) false] }, 0x0103001000000100, 4, 9, 5, 7, false, by decide +kernel⟩

/-- A state that meets the hypotheses of MicaStreams, clause 15. -/
theorem witness_MicaStreams_15 : ∃ (s : State) (st : Fin 1024) (src : Src) (x : MStream), (s.mst st = some x) :=
  ⟨mic 0 (some (mst0 openD)), 3, .pf, mst0 openD, by decide +kernel⟩

/-- A state that meets the hypotheses of JasperBatches, clause 1. -/
theorem witness_JasperBatches_1 : ∃ (s : State) (x : Iss) (ra rb : Fin 64) (imm : BitVec 24) (f : FarRead), (s.issues { x with res := false } = true) ∧ (s.tnsIdle x.c = true) ∧ (s.jasperPres = false) :=
  ⟨{ progK (fun k => { k with g := [(1, 0x1000), (2, 0x2000)] }) with flint := { (State.reset).flint with variant := 3 } }, xl, 1, 2, 0, ⟨0, []⟩, by decide +kernel⟩

/-- A state that meets the hypotheses of JasperBatches, clause 2. -/
theorem witness_JasperBatches_2 : ∃ (s r : State) (x : Iss) (ra rb : Fin 64) (imm : BitVec 24) (f : FarRead) (d l : List Byte) (p mc : Nat), (s.issues x = true) ∧ (s.tnsIdle x.c = true) ∧ (s.jasperPres = true ∧ s.islFailed 294 = false) ∧ (x.long = true ∧ imm.toNat % 64 = 0 ∧ imm.toNat < 2 ^ 13) ∧ (s.unitDescCode x.c ((s.cl x.c).gr ra).toNat ((s.cl x.c).gr rb).toNat = (0, 0)) ∧ (d = s.memL (sramAt x.c ((s.cl x.c).gr ra).toNat) 128) ∧ (s.cluPart x.c = some p) ∧ (batchRes d = false ∧ batchBad d = false ∧ bCount d ≠ 0) ∧ ((s.pass x).modelGet p d f = (r, mc, l)) ∧ (r.batchCode p d mc l = 0) :=
  ⟨{ ((jas 0 ⟨none, [], 7⟩).wflag F.HST_PART_CTL_CLU 0 true 0 0).setMemL 0x1000 (stepD 1 0) with clu := [(0, { k0 with g := [(1, 0x1000), (2, 0x2000)] })] }, (({ ((jas 0 ⟨none, [], 7⟩).wflag F.HST_PART_CTL_CLU 0 true 0 0).setMemL 0x1000 (stepD 1 0) with clu := [(0, { k0 with g := [(1, 0x1000), (2, 0x2000)] })] }).pass xl).drawn.drawn, xl, 1, 2, 0x1000, ⟨0, []⟩, stepD 1 0, modelZ, 0, 0, by decide +kernel⟩

/-- A state that meets the hypotheses of JasperBatches, clause 3. -/
theorem witness_JasperBatches_3 : ∃ (s : State) (id : Nat) (c : HostCmd) (d : List Byte) (f : FarRead), (s.cmdReady id 0x60 = some c ∧ s.ringOpen c.ring = true ∧ s.islFailed 294 = false) :=
  ⟨jas 0x60 ⟨none, [], 7⟩, 0, cmdT 0x60 0 [], stepD 0 0, ⟨0, []⟩, by decide +kernel⟩

/-- A state that meets the hypotheses of JasperBatches, clause 4. -/
theorem witness_JasperBatches_4 : ∃ (s r : State) (id : Nat) (c : HostCmd) (d l : List Byte) (f : FarRead) (mc : Nat), (s.jasperAsks id c d = true ∧ bCount d ≠ 0) ∧ ((s.starting id).modelGet c.part d f = (r, mc, l)) ∧ (r.jasper = s.jasper ∧ r.host = (s.starting id).host ∧ r.regs = s.regs) :=
  ⟨jas 0x60 ⟨none, [], 7⟩, ((jas 0x60 ⟨none, [], 7⟩).starting 0).drawn.drawn, 0, cmdT 0x60 0 [], stepD 1 0, modelZ, ⟨0, []⟩, 0, by decide +kernel⟩

/-- A state that meets the hypotheses of JasperBatches, clause 5. -/
theorem witness_JasperBatches_5 : ∃ (s : State) (b : JBatch), (s.jasper.run = none ∧ s.islResetting 294 = false) ∧ (s.jasper.waiting.find? (fun b => !s.flag F.FLT_ALONE_QUIESCED b.part) = some b) ∧ (s.isFar (leAt b.d 16 8) = false) :=
  ⟨jas 0 ⟨none, [batch0 40 0, { batch0 1 0 with job := 8 }], 9⟩, batch0 40 0, by decide +kernel⟩

/-- A state that meets the hypotheses of JasperBatches, clause 6. -/
theorem witness_JasperBatches_6 : ∃ (s : State) (b : Fin 128) (r : JRun) (bl : JBlock) (t : Nat), (s.jasper.run = some r ∧ SMap.find r.blocks b = some bl ∧ bl.out = 0 ∧ bl.wrote = false) ∧ (r.code = 0 ∧ t ∈ r.b.trees b) ∧ (s.idCode (bIn r.b.d t / 2 ^ 48) ≠ 0 ∧ 0 < minIn (bOp r.b.d) (modelOf r.b.model).n (bNc r.b.d)) ∧ (∀ u, u ∈ r.b.trees b → s.idCode (bIn r.b.d u / 2 ^ 48) = s.idCode (bIn r.b.d t / 2 ^ 48)) :=
  ⟨let r : JRun := ⟨{ batch0 1 0 with d := (stepD 1 0).take 16 ++ List.replicate 8 255 ++ (stepD 1 0).drop 24 }, [(0, ⟨0, [], false⟩)], 1, [], 0⟩; jas 0 ⟨some r, [], 9⟩, 0, ⟨{ batch0 1 0 with d := (stepD 1 0).take 16 ++ List.replicate 8 255 ++ (stepD 1 0).drop 24 }, [(0, ⟨0, [], false⟩)], 1, [], 0⟩, ⟨0, [], false⟩, 0, by decide +kernel⟩

/-- A state that meets the hypotheses of JasperBatches, clause 7. -/
theorem witness_JasperBatches_7 : ∃ (s u : State) (b : Fin 128) (r q : JRun) (bl bm : JBlock) (inp : List MByte), (s.jasper.run = some r ∧ SMap.find r.blocks b = some bl ∧ bl.out = 0 ∧ bl.wrote = false) ∧ (r.b.trees b = [32 * (b : Nat)] ∧ s.treeIn r bl (32 * (b : Nat)) (minIn (bOp r.b.d) (modelOf r.b.model).n (bNc r.b.d)) = (0, inp)) ∧ (u = (s.modBlock b (fun z => { z with wrote := true })).doTree r b (32 * (b : Nat)) inp) ∧ (u.jasper.run = some q ∧ SMap.find q.blocks b = some bm ∧ bm.out = 0) ∧ (q.b.blocks ≤ q.next) :=
  ⟨(jas 0 ⟨some ⟨batch0 1 0, [(0, ⟨0, [], false⟩)], 1, [], 0⟩, [], 9⟩).setMemL 0x1000001000 stepIn, (((jas 0 ⟨some ⟨batch0 1 0, [(0, ⟨0, [], false⟩)], 1, [], 0⟩, [], 9⟩).setMemL 0x1000001000 stepIn).modBlock 0 (fun z => { z with wrote := true })).doTree ⟨batch0 1 0, [(0, ⟨0, [], false⟩)], 1, [], 0⟩ 0 0 (clean stepIn), 0, ⟨batch0 1 0, [(0, ⟨0, [], false⟩)], 1, [], 0⟩, ⟨batch0 1 0, [(0, ⟨0, [], true⟩)], 1, [], 0⟩, ⟨0, [], false⟩, ⟨0, [], true⟩, clean stepIn, by decide +kernel⟩

/-- A state that meets the hypotheses of JasperBatches, clause 8. -/
theorem witness_JasperBatches_8 : ∃ (s u : State) (r : JRun) (k t : Nat) (l : List MByte) (o a : Nat), (s.idCode (a / 2 ^ 48) = 0 ∧ s.answersFor (a / 2 ^ 48) = true) ∧ (s.jasper.run = some r ∧ r.code = 0) ∧ (s.writeSpan (reqPart r.b.part) false a l = (u, 0, t) ∧ u.jasper = s.jasper) :=
  ⟨jas 0 ⟨some ⟨batch0 1 0, [], 1, [], 0⟩, [], 9⟩, ((jas 0 ⟨some ⟨batch0 1 0, [], 1, [], 0⟩, [], 9⟩).writeSpan (some 0) false 0x0103001000003000 (leM 4 0x200)).1, ⟨batch0 1 0, [], 1, [], 0⟩, 0, 4, leM 4 0x200, 0, 0x0103001000003000, by decide +kernel⟩

/-- A state that meets the hypotheses of JasperBatches, clause 9. -/
theorem witness_JasperBatches_9 : ∃ (s : State) (r : JRun) (id : Nat) (c : HostCmd), (s.jasper.run = some r ∧ r.blocks = []) ∧ (r.b.blocks ≤ r.next ∨ r.code ≠ 0) ∧ (r.b.tell = .host id ∧ leAt r.b.d 48 8 = 0) ∧ (s.host.cmds.find? (fun e => decide (e.id = id)) = some c) ∧ (s.ringOpen c.ring = true) :=
  ⟨{ jas 0x60 ⟨some ⟨batch0 1 0, [], 1, [(0, true)], 0⟩, [], 9⟩ with host := { (jas 0x60 ⟨none, [], 9⟩).host with cmds := [cmdS 0x60 0 []] } }, ⟨batch0 1 0, [], 1, [(0, true)], 0⟩, 0, cmdS 0x60 0 [], by decide +kernel⟩

/-- A state that meets the hypotheses of JasperBatches, clause 10. -/
theorem witness_JasperBatches_10 : ∃ (d model inp : List Byte), (2 ≤ leAt d 0 1) :=
  ⟨stepD 1 0, modelZ, stepIn, by decide +kernel⟩

/-- A state that meets the hypotheses of LoopChannels, clause 1. -/
theorem witness_LoopChannels_1 : ∃ (s : State) (c : Fin 16) (fb chk : BitVec 32), (s.rd F.LP_CTL_MODE c = 1 ∨ s.rd F.LP_CTL_MODE c = 2) ∧ ((s.lp c).waits = [] ∧ (s.lp c).initLaw = false ∧ c ≠ 15) ∧ (s.rd F.LP_CTL_OUT c ≤ 6 ∧ s.rd F.LP_CTL_LAW c = 0 ∧ s.rd F.LP_CTL_DIR c = 0) ∧ (s.rd F.LP_SRC_SP_SRC c = 0 ∧ s.rd F.LP_SRC_FB_SRC c = 9 ∧ s.rd F.LP_SRC_CHK_SRC c = 0 ∧ s.flag F.FLT_LP_GLB_PLS_LOST 0 = false) :=
  ⟨lpS 1 (fun x => { x with initLaw := false }), 1, 0, 0, by decide +kernel⟩

/-- A state that meets the hypotheses of LoopChannels, clause 2. -/
theorem witness_LoopChannels_2 : ∃ (s : State) (k : Fin 8) (code : BitVec 12), (s.loops.adc = some k) ∧ (∀ c, c < 16 → (k : Nat) ∉ (s.lp c).waits) :=
  ⟨{ running with loops := { running.loops with adc := some 3, adcq := [5, 4] } }, 3, 77, by decide +kernel⟩

/-- A state that meets the hypotheses of LoopChannels, clause 3. -/
theorem witness_LoopChannels_3 : ∃ (s : State) (c : Fin 16) (src : Src) (v : BitVec 64), ([F.LP_CTL_LAW, F.LP_CTL_OUT, F.LP_CTL_PERIOD, F.LP_CTL_PHASE].all (fun f => decide (bitsAt v.toNat f.lo f.w = s.rd f c)) = true) ∧ (src.host = .pf) :=
  ⟨lpS 1 id, 1, .pf, lpV (lpS 1 id) 1 1, by decide +kernel⟩

/-- A state that meets the hypotheses of LoopChannels, clause 4. -/
theorem witness_LoopChannels_4 : ∃ (s : State) (c : Fin 16) (src : Src) (v : BitVec 64), ([F.LP_SRC_FB_SRC, F.LP_SRC_CHK_SRC, F.LP_SRC_PL_N].all (fun f => decide (bitsAt v.toNat f.lo f.w = s.rd f c)) = true) ∧ (src.host = .pf) :=
  ⟨lpS 2 (fun x => { x with xf := some 7 }), 1, .pf, BitVec.ofNat 64 (3 + 32 * 9 + 2 ^ 15 + 8 * 2 ^ 16), by decide +kernel⟩

/-- A state that meets the hypotheses of LoopChannels, clause 5. -/
theorem witness_LoopChannels_5 : ∃ (s : State) (c : Fin 16) (src : Src) (v : BitVec 64), (src.host = .pf) :=
  ⟨lpS 1 id, 1, .pf, 0x4000000040400000, by decide +kernel⟩

/-- A state that meets the hypotheses of LoopChannels, clause 6. -/
theorem witness_LoopChannels_6 : ∃ (s : State) (c : Fin 16) (m : Fin 13) (src : Src) (v : BitVec 64), (src.host = .pf ∧ (m : Nat) < 7) :=
  ⟨lpS 1 id, 1, 3, .pf, 0x4000000040400000, by decide +kernel⟩

/-- A state that meets the hypotheses of LoopChannels, clause 7. -/
theorem witness_LoopChannels_7 : ∃ (s : State) (c : Fin 16) (src : Src), (src.host = .pf) ∧ (s.bit F.LP_STAT_PL_FAULT c = true ∧ s.rd F.LP_CTL_MODE c = 4) :=
  ⟨(lpS 4 id).wb F.LP_STAT_PL_FAULT true 1, 1, .mg, by decide +kernel⟩

/-- A state that meets the hypotheses of StepperCommands, clause 1. -/
theorem witness_StepperCommands_1 : ∃ (s : State) (k : Fin 4) (tgt : Int), (tgt = (if s.bit F.MV_TGT_REL k then (s.smCh k).queueEnd + s.rdS F.MV_TGT_TGT k else s.rdS F.MV_TGT_TGT k)) :=
  ⟨smS (ch0 .idle), 1, 0, by decide +kernel⟩

/-- A state that meets the hypotheses of StepperCommands, clause 2. -/
theorem witness_StepperCommands_2 : ∃ (s : State) (k : Fin 4) (trips low : Bool), ((s.smCh k).st = .fault) :=
  ⟨smS { ch1 .fault 500 with fStall := true, uncertain := true }, 1, true, true, by decide +kernel⟩

/-- A state that meets the hypotheses of StepperCommands, clause 3. -/
theorem witness_StepperCommands_3 : ∃ (s w : State) (k : Fin 4) (v : BitVec 64), (w = (writeFields s .pf 8 (F.SM_CTL_EN.regAddr k 0) v.toNat).1) ∧ (w.sm = s.sm) :=
  ⟨smS (ch1 .moving 500), (writeFields (smS (ch1 .moving 500)) .pf 8 (F.SM_CTL_EN.regAddr 1 0) 0).1, 1, 0, by decide +kernel⟩

/-- A state that meets the hypotheses of StepperMotion, clause 1. -/
theorem witness_StepperMotion_1 : ∃ (s : State) (k : Fin 4) (m : SmMove) (v : Nat) (p : Int), ((s.smCh k).st = .moving ∧ (s.smCh k).loopTgt = none ∧ (s.smCh k).q = [m] ∧ (s.smCh k).ljerk = false ∧ (s.smCh k).neg = false) ∧ (v = (if 2 * (s.smCh k).ld * (m.tgt * 4294967296 - (s.smCh k).p).natAbs ≤ (s.smCh k).v * (s.smCh k).v then max ((s.smCh k).v - (s.smCh k).ld * 65536 / 100000) ((s.smCh k).lvmin * 65536) else min ((s.smCh k).v + (s.smCh k).la * 65536 / 100000) (min (if m.vmax = 0 then s.rd F.SM_VEL_VMAX k else m.vmax) (s.smCh k).vder * 65536))) ∧ (p = min ((s.smCh k).p + (v * 65536 / 100000 : Nat)) (m.tgt * 4294967296)) :=
  ⟨smS (ch1 .moving 500), 1, mv0 500 0, 13133414, 8607114, by decide +kernel⟩

/-- A state that meets the hypotheses of StepperMotion, clause 2. -/
theorem witness_StepperMotion_2 : ∃ (s : State) (k : Nat) (c : SmCh) (m n : SmMove) (l : List SmMove), (c.loopTgt = none ∧ c.q = m :: n :: l ∧ c.neg = false ∧ m.vmax ≠ 0 ∧ n.vmax ≠ 0) :=
  ⟨running, 1, { ch1 .moving 4800 with q := [{ mv0 4800 0 with vmax := 16000 }, { mv0 8000 0 with vmax := 8000 }] }, { mv0 4800 0 with vmax := 16000 }, { mv0 8000 0 with vmax := 8000 }, [], by decide +kernel⟩

/-- A state that meets the hypotheses of StepperMotion, clause 3. -/
theorem witness_StepperMotion_3 : ∃ (s : State) (k : Fin 4), ((s.smCh k).st ≠ .disabled) :=
  ⟨smS (ch1 .moving 500), 1, by decide +kernel⟩

/-- A state that meets the hypotheses of StepperMotion, clause 4. -/
theorem witness_StepperMotion_4 : ∃ (s : State) (k : Fin 4), (s.bit F.SM_CTL_DERATE_EN k = true) :=
  ⟨smS { ch1 .moving 500 with vder := 7000 }, 1, by decide +kernel⟩

/-- A state that meets the hypotheses of StepperMotion, clause 5. -/
theorem witness_StepperMotion_5 : ∃ (s : State) (k : Fin 4) (leg : Fin 8), ((s.smCh k).st ≠ .disabled) :=
  ⟨smS (ch1 .moving 500), 1, 3, by decide +kernel⟩

/-- A state that meets the hypotheses of StepperMotion, clause 6. -/
theorem witness_StepperMotion_6 : ∃ (s : State) (k : Fin 4), (s.bit F.SM_CTL_STALL_EN k = true ∧ s.rd F.SM_STALL_STALL_VMIN k * 65536 ≤ (s.smCh k).v) :=
  ⟨smS { ch1 .moving 500 with v := 200000000 }, 1, by decide +kernel⟩

/-- A state that meets the hypotheses of ErrorsAndSpares, clause 1. -/
theorem witness_ErrorsAndSpares_1 : ∃ (s : State) (snd rcv : Fin 305), (s.islPres snd = true ∧ s.islPres rcv = true ∧ s.islResetting rcv = false) ∧ (s.err.stalls.any (fun x => decide (x.1 = (snd : Nat) ∧ x.2.1 = (rcv : Nat))) = false) ∧ (s.err.escalated = []) :=
  ⟨running, 3, 275, by decide +kernel⟩

/-- A state that meets the hypotheses of ErrorsAndSpares, clause 2. -/
theorem witness_ErrorsAndSpares_2 : ∃ (s : State) (snd rcv : Fin 305) (x : Nat × Nat × Nat), (s.err.stalls.find? (fun x => decide (x.1 = (snd : Nat) ∧ x.2.1 = (rcv : Nat))) = some x) :=
  ⟨{ running with now := 5, err := { running.err with stalls := [(3, 275, 0)] } }, 3, 275, (3, 275, 0), by decide +kernel⟩

/-- A state that meets the hypotheses of ErrorsAndSpares, clause 3. -/
theorem witness_ErrorsAndSpares_3 : ∃ (s : State) (c : Clu), (s.islFailed (s.cluIsland c) = false ∧ s.clxWaiters = [] ∧ s.grps = []) :=
  ⟨progK id, 0, by decide +kernel⟩

/-- A state that meets the hypotheses of ErrorsAndSpares, clause 4. -/
theorem witness_ErrorsAndSpares_4 : ∃ (s : State) (ch : Fin 4) (c : Nat), (s.bit F.ERR_CFG_SPARE_AUTO = true ∧ SMap.find s.err.mapping ch = none) ∧ (s.nextMap ch = some c) :=
  ⟨{ running with err := { running.err with waitMap := [7, 3] } }, 0, 3, by decide +kernel⟩

/-- A state that meets the hypotheses of ErrorsAndSpares, clause 5. -/
theorem witness_ErrorsAndSpares_5 : ∃ (s : State) (ch p : Nat), (p ∈ s.freeSpares ch) :=
  ⟨running, 0, 64, by decide +kernel⟩

/-- A state that meets the hypotheses of ErrorsAndSpares, clause 6. -/
theorem witness_ErrorsAndSpares_6 : ∃ (s : State) (ch : Fin 4) (m : SpareMap), (SMap.find s.err.mapping ch = some m ∧ m.logical / 64 = (ch : Nat)) :=
  ⟨{ running with err := { running.err with mapping := [(0, ⟨3, 64⟩)] } }, 0, ⟨3, 64⟩, by decide +kernel⟩

/-- A state that meets the hypotheses of ErrorsAndSpares, clause 7. -/
theorem witness_ErrorsAndSpares_7 : ∃ (s : State) (ch : Fin 4) (u : Nat × Nat × Nat × Nat), (s.err.unflashed.find? (fun u => decide (u.1 / 64 = (ch : Nat))) = some u) :=
  ⟨{ running with err := { running.err with unflashed := [(3, 64, 3, 1)] } }, 0, (3, 64, 3, 1), by decide +kernel⟩

/-- A state that meets the hypotheses of ErrorsAndSpares, clause 8. -/
theorem witness_ErrorsAndSpares_8 : ∃ (s : State) (c : Fin 256) (ph : Fin 128) (p : Part) (code : Nat), (s.bit F.FLT_EXPERT_EN_EN = true) ∧ (code = s.spareCode c ph) :=
  ⟨running.wb F.FLT_EXPERT_EN_EN true, 5, 64, 3, 0, by decide +kernel⟩

/-- A state that meets the hypotheses of ErrorsAndSpares, clause 9. -/
theorem witness_ErrorsAndSpares_9 : ∃ (s : State) (isl : Fin 288) (bank : Fin 16) (row : BitVec 16) (unc : Bool), (272 ≤ (isl : Nat) ∧ s.islFailed isl = false) :=
  ⟨running, 275, 0, 77, false, by decide +kernel⟩

/-- A state that meets the hypotheses of ErrorsAndSpares, clause 10. -/
theorem witness_ErrorsAndSpares_10 : ∃ (s : State) (isl : Fin 288) (bank : Fin 16) (row : Nat), (272 ≤ (isl : Nat) ∧ (s.rowsOf isl).running = [(0, row)] ∧ (s.rowsOf isl).waiting = []) :=
  ⟨{ running with err := { running.err with rows := [(275, ⟨[], [(0, 77)], []⟩)] } }, 275, 0, 77, by decide +kernel⟩

/-- A state that meets the hypotheses of ErrorsAndSpares, clause 11. -/
theorem witness_ErrorsAndSpares_11 : ∃ (s : State) (isl : Fin 305), ((isl : Nat) = 293 ∨ (isl : Nat) = 294) ∧ (s.islPres isl = true ∧ s.islFailed isl = false) :=
  ⟨running, 293, by decide +kernel⟩

/-- A state that meets the hypotheses of ErrorsAndSpares, clause 12. -/
theorem witness_ErrorsAndSpares_12 : ∃ (s : State) (kind i source2 : Nat) (r : ErrRec), (s.err.ring.find? (fun r => decide (r.source = i ∧ r.cls = 2)) = some r ∧ s.islResetting i = true) :=
  ⟨(running.errRec 0x05 275 2).resetStart 275, 5, 275, 3, { kind := 5, source := 275, cls := 2, ovf := false, flashed := false, code := 0, seq := 1, count := 0, time := 0, addr := 0, syndrome := 0, source2 := 0xFFFF, part := 0xFFFF, data := [] }, by decide +kernel⟩

/-- A state that meets the hypotheses of RegisterAccess, clause 1. -/
theorem witness_RegisterAccess_1 : ∃ (s : State) (p : Part) (half vf : Bool) (a : BitVec 48) (v : BitVec 64), (a.toNat % (if half then 4 else 8) ≠ 0) :=
  ⟨running, 3, false, true, 4, 7, by decide +kernel⟩

/-- A state that meets the hypotheses of RegisterAccess, clause 2. -/
theorem witness_RegisterAccess_2 : ∃ (s : State) (src : Src) (half : Bool) (a : BitVec 48) (v : BitVec 64), (a.toNat % (if half then 4 else 8) = 0) ∧ (inRegBlock a.toNat = false) :=
  ⟨running, .pf, false, 0x40000000, 7, by decide +kernel⟩

/-- A state that meets the hypotheses of RegisterAccess, clause 3. -/
theorem witness_RegisterAccess_3 : ∃ (s : State) (v : BitVec 64), (s.bit F.FLT_EXPERT_EN_EN = true) :=
  ⟨running.wb F.FLT_EXPERT_EN_EN true, 0x810014, by decide +kernel⟩

/-- A state that meets the hypotheses of RegisterAccess, clause 4. -/
theorem witness_RegisterAccess_4 : ∃ (s : State) (v : BitVec 64), (s.bit F.FLT_EXPERT_EN_EN = false) ∧ (v.toNat % 2 = s.rd F.ERR_CFG_SPARE_AUTO ∧ v.toNat / 2 % 2 ^ 14 = s.rd F.ERR_CFG_CROSS_ESC ∧ v.toNat / 2 ^ 15 % 2 ^ 7 ≠ s.rd F.ERR_CFG_ROW_TH ∧ v.toNat / 2 ^ 22 % 2 = 0) :=
  ⟨running, 0x400C9, by decide +kernel⟩

/-- A state that meets the hypotheses of RegisterAccess, clause 5. -/
theorem witness_RegisterAccess_5 : ∃ (s : State) (b : Bool) (a : BitVec 48), (s.flint.on = true ∧ s.mbServed 3 = true) :=
  ⟨running, true, 0xFF0009000030, by decide +kernel⟩

/-- A state that meets the hypotheses of RegisterAccess, clause 6. -/
theorem witness_RegisterAccess_6 : ∃ (s : State) (b : Bool) (v : BitVec 64), (s.flint.on = true ∧ s.mbServed 4 = true) :=
  ⟨running, true, 1, by decide +kernel⟩

/-- A state that meets the hypotheses of StepRunsFront, clause 1. -/
theorem witness_StepRunsFront_1 : ∃ (s : State), (s.pending = []) :=
  ⟨State.reset, by decide +kernel⟩

/-- A state that meets the hypotheses of EncodeDecode, clause 1. -/
theorem witness_EncodeDecode_1 : ∃ (i : Instr) (p : Parts), (i.wf = true) ∧ (i.parts = some p) :=
  ⟨.addi ⟨3, 2, true, true, false⟩ 5 6 0xFFFFFE, ⟨⟨3, 2, true, true, false⟩, 0, 0x28, ⟨5, 6, 0, 0, 0xFFFFFE⟩⟩, by decide +kernel⟩

/-- A state that meets the hypotheses of EncodeDecode, clause 2. -/
theorem witness_EncodeDecode_2 : ∃ (c : Clu) (w : Nat) (f : MicaFeed) (m : FarRead), (w % 2 = 0) :=
  ⟨7, 0x40, ⟨⟨0, []⟩, []⟩, ⟨0, []⟩, by decide +kernel⟩

/-- A state that meets the hypotheses of MemoryForm, clause 1. -/
theorem witness_MemoryForm_1 : ∃ (s t : State), (s.memWf = true) :=
  ⟨running, running.tick, by decide +kernel⟩

end Sys2Proof.Tests
end

section
/-! PROOFS. Laws that the statements on register accesses and on steps rest on: fields after a write, what a write keeps, what an answer implies. -/

namespace Sys2Proof.Machine

/-! ### Fields after a write -/

/-- A saturated count fits its field. -/
theorem satAt_lt (w n : Nat) : satAt w n < 2 ^ w := by
  unfold satAt
  have : 0 < 2 ^ w := Nat.two_pow_pos w
  split <;> omega

/-- A count read after it is raised. -/
@[simp] theorem State.rd_bump_self (s : State) (f : Fld) (n i j : Nat) : (s.bump f n i j).rd f i j = satAt f.w (s.rd f i j + n) := by
  rw [State.bump, State.rd_wr_self, Nat.mod_eq_of_lt (satAt_lt f.w _)]

/-- Another field read after a bit is written. -/
theorem State.rd_wb_ne (s : State) (f g : Fld) (b : Bool) (i j k l : Nat) (h : g.key k l ≠ f.key i j) : (s.wb f b i j).rd g k l = s.rd g k l :=
  s.rd_wr_ne f g _ i j k l h

/-- A bit read after it is written. -/
@[simp] theorem State.bit_wb_self (s : State) (f : Fld) (b : Bool) (i j : Nat) (hw : f.w = 1) : (s.wb f b i j).bit f i j = b := by
  unfold State.bit State.wb
  rw [State.rd_wr_self, hw]
  cases b <;> rfl

/-! ### What a command keeps -/

theorem Keeps.refl (s : State) (ks : List Nat) : Keeps s s ks := ⟨fun _ _ _ _ => rfl, rfl, rfl, rfl, rfl⟩

/-- Writing a listed field keeps the rest. -/
theorem Keeps.wr {s t : State} {ks : List Nat} (h : Keeps s t ks) (f : Fld) (v i j : Nat) (hk : f.key i j ∈ ks) : Keeps s (t.wr f v i j) ks := by
  obtain ⟨hrd, hmem, hpsn, hclu, hpend⟩ := h
  exact ⟨fun g k l hg => (t.rd_wr_ne f g v i j k l (fun e => hg (e ▸ hk))).trans (hrd g k l hg), hmem, hpsn, hclu, hpend⟩

/-- A choice between two states that keep the rest. -/
theorem Keeps.ite {s t u : State} {ks : List Nat} (c : Prop) [Decidable c] (ht : Keeps s t ks) (hu : Keeps s u ks) : Keeps s (if c then t else u) ks :=
  ite_keeps (fun x => Keeps s x ks) c t u ht hu

/-! ### Answers -/

/-- What an answer's state satisfies, it satisfies of what follows from it. -/
theorem Answers.imp {c : Instr} {s : State} {p q : State → Prop} (h : Answers c s p) (hpq : ∀ t, p t → q t) : Answers c s q := by
  obtain ⟨t, he, ht⟩ := h
  exact ⟨t, he, hpq t ht⟩

end Sys2Proof.Machine
end

section
/-! PROOFS. Register accesses (O56): one field of a write, the registers that the statement names, the management buses, and the clauses. -/

namespace Sys2Proof.Machine

/-! ### One field of a write -/

/-- An RW field that the access covers, of a source that may write it: the value if it lies in the field's range, else the flag of the register. -/
theorem writeField_rw (size a v : Nat) (r : State × Nat) (f : Fld) (i j : Nat) (hc : covers size a f = true) (ha : f.acc = .rw)
    (hx : f.ex = 0 ∨ expertOn r.1 f i = true) :
    (writeField .pf size a v r (f, i, j)).1 = if inRange r.1 f i (newBits size a f (r.1.rd f i j) v) = true
      then r.1.wr f (newBits size a f (r.1.rd f i j) v) i j else fmtFlag r.1 f i := by
  have hn : (decide (f.ex ≠ 0) && !expertOn r.1 f i) = false := by
    rcases hx with h | h <;> simp [h]
  simp only [writeField, hc, ha, hn, Bool.not_true, Bool.false_and, Bool.false_eq_true, if_false, reduceCtorEq]
  split <;> rfl

/-- An RW field of the expert level without its enable: a write that would change it is counted, and the field keeps its value. -/
theorem writeField_rw_discarded (size a v : Nat) (r : State × Nat) (f : Fld) (i j : Nat) (hc : covers size a f = true) (ha : f.acc = .rw)
    (hx : f.ex ≠ 0) (he : expertOn r.1 f i = false) :
    (writeField .pf size a v r (f, i, j)).1 = if newBits size a f (r.1.rd f i j) v = r.1.rd f i j then r.1 else countReject r.1 f i := by
  by_cases hv : newBits size a f (r.1.rd f i j) v = r.1.rd f i j <;> simp [writeField, hc, ha, hx, he, hv]

/-- A W1C field that needs no enable: the bits written 1 are cleared. -/
theorem writeField_w1c (size a v : Nat) (r : State × Nat) (f : Fld) (i j : Nat) (hc : covers size a f = true) (ha : f.acc = .w1c) (hx : f.ex = 0) :
    (writeField .pf size a v r (f, i, j)).1 = r.1.wr f (r.1.rd f i j - (r.1.rd f i j &&& bitsAt v f.lo f.w)) i j := by
  simp [writeField, hc, ha, hx]

/-! ### The registers of the statement -/

theorem fieldsAt_errCfg : fieldsAt 0xFF000A000020
    = [(F.ERR_CFG_SPARE_AUTO, 0, 0), (F.ERR_CFG_CROSS_ESC, 0, 0), (F.ERR_CFG_ROW_TH, 0, 0), (F.ERR_CFG_FMT_REJ, 0, 0)] := by decide +kernel

theorem fieldsAt_errReserved : fieldsAt 0xFF000A0000F8 = [] := by decide +kernel

theorem fieldsAt_expertEn : fieldsAt 0xFF0009000030 = [(F.FLT_EXPERT_EN_EN, 0, 0)] := by decide +kernel

theorem fieldsAt_pwrCap : fieldsAt 0xFF0000100038 = [(F.ISL_PWR_CAP_CAP_W, 0, 0), (F.ISL_PWR_CAP_CAP_REJ, 0, 0)] := by decide +kernel

/-- ERR_CFG is no register whose write acts: the host physical function writes it field by field. -/
theorem State.homeWrite_errCfg_pf (s : State) (size v : Nat) :
    s.homeWrite .pf size 0xFF000A000020 v = writeFields s .pf size 0xFF000A000020 v := by
  unfold State.homeWrite
  rw [fieldsAt_errCfg]
  rfl

/-- A virtual function has no right to write ERR_CFG. -/
theorem State.homeWrite_errCfg_vf (s : State) (p : Part) (size v : Nat) :
    s.homeWrite (.vf p) size 0xFF000A000020 v = (s.bump F.FLT_WR_REJ_COUNT, 0) := by
  unfold State.homeWrite
  rw [fieldsAt_errCfg]
  rfl

/-- A reserved offset takes nothing. -/
theorem State.homeWrite_errReserved (s : State) (src : Src) (size v : Nat) : s.homeWrite src size 0xFF000A0000F8 v = (s, 0) := by
  unfold State.homeWrite
  rw [fieldsAt_errReserved]
  rfl

/-- A management bus that writes ISL_PWR_CAP, a register without an MB field, gets PERM. -/
theorem State.homeWrite_pwrCap_mb (s : State) (b : Bool) (size v : Nat) : s.homeWrite (.mb b) size 0xFF0000100038 v = (s, Code.perm 0) := by
  unfold State.homeWrite
  rw [fieldsAt_pwrCap]
  rfl

/-- A management bus writes FLT_EXPERT_EN as its own row does. -/
theorem State.homeWrite_expertEn_mb (s : State) (b : Bool) (v : Nat) :
    s.homeWrite (.mb b) 8 0xFF0009000030 v
      = s.coded F.FLT_HB_CFG_FMT_REJ 0 (fun t => outState t (execFltExpertEnWrite (.mb b) (bitAt (s.merged 8 0xFF0009000030 v) 0) t)) := by
  unfold State.homeWrite
  rw [fieldsAt_expertEn]
  rfl

/-- FLT_EXPERT_EN is the low bit of its register. -/
theorem State.merged_expertEn (s : State) (v : Nat) : s.merged 8 0xFF0009000030 v = v % 2 := by
  unfold State.merged
  rw [fieldsAt_expertEn]
  show 0 + v / 2 ^ 0 % 2 ^ 1 * 2 ^ 0 = v % 2
  omega

/-! ### Management buses -/

/-- The response that a command leaves is its bus's. -/
@[simp] theorem State.mbResp_respond (s : State) (bus : Bool) (status : Nat) (payload : List Nat) :
    (s.respond bus status payload).mbResp bus = some ⟨status, payload, false⟩ := by
  cases bus <;> rfl

@[simp] theorem State.regs_respond (s : State) (bus : Bool) (status : Nat) (payload : List Nat) : (s.respond bus status payload).regs = s.regs := by
  cases bus <;> rfl

@[simp] theorem State.mem_respond (s : State) (bus : Bool) (status : Nat) (payload : List Nat) : (s.respond bus status payload).mem = s.mem := by
  cases bus <;> rfl

@[simp] theorem State.clu_respond (s : State) (bus : Bool) (status : Nat) (payload : List Nat) : (s.respond bus status payload).clu = s.clu := by
  cases bus <;> rfl

@[simp] theorem State.rd_respond (s : State) (bus : Bool) (status : Nat) (payload : List Nat) (f : Fld) (i j : Nat) :
    (s.respond bus status payload).rd f i j = s.rd f i j := by
  cases bus <;> rfl

/-- A command that Aqgen serves runs. -/
theorem State.served_eq (s : State) (bus : Bool) (cmd : Nat) (r : State) (hon : s.flint.on = true) (hs : s.mbServed cmd = true) :
    s.served bus cmd r = r := by
  simp [State.served, hon, hs]

/-- A write that counts no discard and sets no flag gets code 0. -/
theorem State.coded_code_zero (s : State) (flag : Fld) (i : Nat) (f : State → State)
    (hn : (f ((s.wr F.FLT_WR_REJ_COUNT 0).wb flag false i)).rd F.FLT_WR_REJ_COUNT = 0)
    (hb : (f ((s.wr F.FLT_WR_REJ_COUNT 0).wb flag false i)).bit flag i = false) : (s.coded flag i f).2 = 0 := by
  simp [State.coded, hn, hb]

/-- Any other field after a coded write is as the write left it. -/
theorem State.rd_coded_ne (s : State) (flag : Fld) (i : Nat) (f : State → State) (g : Fld) (k l : Nat) (hn : g.key k l ≠ F.FLT_WR_REJ_COUNT.key 0 0)
    (hf : g.key k l ≠ flag.key i 0) : (s.coded flag i f).1.rd g k l = (f ((s.wr F.FLT_WR_REJ_COUNT 0).wb flag false i)).rd g k l := by
  unfold State.coded
  dsimp only
  split
  · rw [State.rd_wb_ne _ _ _ _ _ _ _ _ hf, State.rd_wr_ne _ _ _ _ _ _ _ _ hn]
  · rw [State.rd_wr_ne _ _ _ _ _ _ _ _ hn]

theorem State.mem_coded (s : State) (flag : Fld) (i : Nat) (f : State → State) :
    (s.coded flag i f).1.mem = (f ((s.wr F.FLT_WR_REJ_COUNT 0).wb flag false i)).mem := by
  unfold State.coded
  dsimp only
  split <;> rfl

theorem State.clu_coded (s : State) (flag : Fld) (i : Nat) (f : State → State) :
    (s.coded flag i f).1.clu = (f ((s.wr F.FLT_WR_REJ_COUNT 0).wb flag false i)).clu := by
  unfold State.coded
  dsimp only
  split <;> rfl

/-! ### Accesses -/

/-- An aligned write of a whole register goes to its home address. -/
theorem State.regWrite_whole (s : State) (src : Src) (a b v : Nat) (ha : a % 8 = 0) (hb : inRegBlock a = true) (hh : regHome a = some b) :
    s.regWrite src false a v = s.homeWrite src.host 8 b v := by
  simp [State.regWrite, ha, hb, hh]

/-- An aligned write of a register's low half. -/
theorem State.regWrite_low (s : State) (src : Src) (a b v : Nat) (ha : a % 8 = 0) (hb : inRegBlock a = true) (hh : regHome a = some b) :
    s.regWrite src true a v = s.homeWrite src.host 4 b (v % 2 ^ 32) := by
  have h4 : a % 4 = 0 := by omega
  simp [State.regWrite, ha, h4, hb, hh]

/-- A misaligned access of the host is counted, and nothing else happens. -/
theorem execRegisterWrite_misaligned (s : State) (src : Src) (half : Bool) (a : BitVec 48) (v : BitVec 64) (hs : src = .pf ∨ ∃ p, src = .vf p)
    (ha : a.toNat % (if half then 4 else 8) ≠ 0) : execRegisterWrite src half a v s = .next (s.bump F.HST_STAT_APER_REJ) := by
  rcases hs with rfl | ⟨p, rfl⟩ <;> simp [execRegisterWrite, ha]

/-- An aligned access is a write of the register. -/
theorem execRegisterWrite_aligned (s : State) (src : Src) (half : Bool) (a : BitVec 48) (v : BitVec 64) (ha : a.toNat % (if half then 4 else 8) = 0) :
    execRegisterWrite src half a v s = .next (s.regWrite src half a.toNat v.toNat).1 := by
  simp [execRegisterWrite, ha]

/-- An access outside every block takes nothing. -/
theorem State.regWrite_outside (s : State) (src : Src) (half : Bool) (a v : Nat) (hb : inRegBlock a = false) : (s.regWrite src half a v).1 = s := by
  simp only [State.regWrite, hb, if_true]
  exact ite_keeps (fun r : State × Nat => r.1 = s) _ _ _ rfl rfl

/-! ### ERR_CFG -/

/-- A field of ERR_CFG with a range takes a value of the range; else FMT_REJ is set and the field keeps its value. -/
def State.errCfgField (s : State) (f : Fld) (lo hi x : Nat) : State := if lo ≤ x ∧ x ≤ hi then s.wr f x else s.wb F.ERR_CFG_FMT_REJ true

theorem State.rd_errCfgField_self (s : State) (f : Fld) (lo hi x : Nat) (hf : f.key 0 0 ≠ F.ERR_CFG_FMT_REJ.key 0 0) (hx : x < 2 ^ f.w) :
    (s.errCfgField f lo hi x).rd f = if lo ≤ x ∧ x ≤ hi then x else s.rd f := by
  unfold State.errCfgField
  split
  · rw [State.rd_wr_self, Nat.mod_eq_of_lt hx]
  · rw [State.rd_wb_ne _ _ _ _ _ _ _ _ hf]

theorem State.rd_errCfgField_ne (s : State) (f g : Fld) (lo hi x k l : Nat) (hg : g.key k l ≠ f.key 0 0)
    (hf : g.key k l ≠ F.ERR_CFG_FMT_REJ.key 0 0) : (s.errCfgField f lo hi x).rd g k l = s.rd g k l := by
  unfold State.errCfgField
  split
  · exact State.rd_wr_ne _ _ _ _ _ _ _ _ hg
  · exact State.rd_wb_ne _ _ _ _ _ _ _ _ hf

theorem bitsAt_lt (v lo w : Nat) : bitsAt v lo w < 2 ^ w := Nat.mod_lt _ (Nat.two_pow_pos w)

theorem Keeps.errCfgField {s t : State} {ks : List Nat} (h : Keeps s t ks) (f : Fld) (lo hi x : Nat) (hf : f.key 0 0 ∈ ks)
    (hk : F.ERR_CFG_FMT_REJ.key 0 0 ∈ ks) : Keeps s (t.errCfgField f lo hi x) ks :=
  Keeps.ite _ (h.wr f x 0 0 hf) (h.wr F.ERR_CFG_FMT_REJ _ 0 0 hk)

/-- The bits of FMT_REJ that a write clears. -/
def State.errCfgClear (s : State) (x : Nat) : State := s.wr F.ERR_CFG_FMT_REJ (s.rd F.ERR_CFG_FMT_REJ - (s.rd F.ERR_CFG_FMT_REJ &&& x))

/-- A whole write of ERR_CFG with the expert enable, field by field. -/
def State.errCfgTaken (s : State) (v : Nat) : State :=
  (((s.wr F.ERR_CFG_SPARE_AUTO (bitsAt v 0 1)).errCfgField F.ERR_CFG_CROSS_ESC 10 10000 (bitsAt v 1 14)).errCfgField
    F.ERR_CFG_ROW_TH 1 64 (bitsAt v 15 7)).errCfgClear (bitsAt v 22 1)

/-- The keys of the fields of ERR_CFG. -/
def errCfgKeys : List Nat :=
  [F.ERR_CFG_SPARE_AUTO.key 0 0, F.ERR_CFG_CROSS_ESC.key 0 0, F.ERR_CFG_ROW_TH.key 0 0, F.ERR_CFG_FMT_REJ.key 0 0]

theorem Keeps.errCfgTaken (s : State) (v : Nat) : Keeps s (s.errCfgTaken v) errCfgKeys :=
  ((((Keeps.refl s _).wr _ _ 0 0 (by decide)).errCfgField _ _ _ _ (by decide) (by decide)).errCfgField _ _ _ _ (by decide) (by decide)).wr
    _ _ 0 0 (by decide)

/-- A field of ERR_CFG asks for the expert enable of the device. -/
theorem expertOn_errCfg (s : State) (f : Fld) (hx : f.ex = 1) : expertOn s f 0 = s.bit F.FLT_EXPERT_EN_EN := by
  simp [expertOn, hx]

theorem inRange_errCfg_spareAuto (s : State) (x : Nat) : inRange s F.ERR_CFG_SPARE_AUTO 0 x = true := by rfl

theorem inRange_errCfg_crossEsc (s : State) (x : Nat) : inRange s F.ERR_CFG_CROSS_ESC 0 x = (decide (10 ≤ x) && decide (x ≤ 10000)) := by rfl

theorem inRange_errCfg_rowTh (s : State) (x : Nat) : inRange s F.ERR_CFG_ROW_TH 0 x = (decide (1 ≤ x) && decide (x ≤ 64)) := by rfl

theorem writeFields_errCfg (s : State) (src : Src) (size v : Nat) : writeFields s src size 0xFF000A000020 v =
    [(F.ERR_CFG_SPARE_AUTO, 0, 0), (F.ERR_CFG_CROSS_ESC, 0, 0), (F.ERR_CFG_ROW_TH, 0, 0), (F.ERR_CFG_FMT_REJ, 0, 0)].foldl
      (writeField src size 0xFF000A000020 v) (s, 0) := by
  rw [← fieldsAt_errCfg]
  rfl

/-- A ranged field of ERR_CFG in a whole write with the expert enable. -/
theorem writeField_errCfg_ranged (v : Nat) (r : State × Nat) (f : Fld) (lo hi : Nat) (ha : f.acc = .rw) (hx : f.ex = 1)
    (hin : ∀ x, inRange r.1 f 0 x = (decide (lo ≤ x) && decide (x ≤ hi))) (hfl : fmtFlag r.1 f 0 = r.1.wb F.ERR_CFG_FMT_REJ true)
    (he : r.1.bit F.FLT_EXPERT_EN_EN = true) :
    (writeField .pf 8 0xFF000A000020 v r (f, 0, 0)).1 = r.1.errCfgField f lo hi (bitsAt v f.lo f.w) := by
  rw [writeField_rw 8 _ _ _ _ _ _ rfl ha (.inr ((expertOn_errCfg _ f hx).trans he)), hin, hfl]
  simp [State.errCfgField, newBits]

/-- A whole write of ERR_CFG by the host physical function with the expert enable. -/
theorem writeFields_errCfg_taken (s : State) (v : Nat) (he : s.bit F.FLT_EXPERT_EN_EN = true) :
    (writeFields s .pf 8 0xFF000A000020 v).1 = s.errCfgTaken v := by
  rw [writeFields_errCfg, List.foldl_cons, List.foldl_cons, List.foldl_cons, List.foldl_cons, List.foldl_nil]
  have h1 : (writeField .pf 8 0xFF000A000020 v (s, 0) (F.ERR_CFG_SPARE_AUTO, 0, 0)).1 = s.wr F.ERR_CFG_SPARE_AUTO (bitsAt v 0 1) := by
    rw [writeField_rw 8 _ _ _ _ _ _ rfl rfl (.inr ((expertOn_errCfg s F.ERR_CFG_SPARE_AUTO rfl).trans he)), inRange_errCfg_spareAuto]
    rfl
  generalize writeField .pf 8 0xFF000A000020 v (s, 0) (F.ERR_CFG_SPARE_AUTO, 0, 0) = r1 at h1 ⊢
  have e1 : r1.1.bit F.FLT_EXPERT_EN_EN = true := by rw [h1, State.bit, State.rd_wr_ne _ _ _ _ _ _ _ _ (by decide)]; exact he
  have h2 := writeField_errCfg_ranged v r1 F.ERR_CFG_CROSS_ESC 10 10000 rfl rfl (inRange_errCfg_crossEsc _) rfl e1
  generalize writeField .pf 8 0xFF000A000020 v r1 (F.ERR_CFG_CROSS_ESC, 0, 0) = r2 at h2 ⊢
  have e2 : r2.1.bit F.FLT_EXPERT_EN_EN = true := by rw [h2, State.bit, State.rd_errCfgField_ne _ _ _ _ _ _ _ _ (by decide) (by decide)]; exact e1
  have h3 := writeField_errCfg_ranged v r2 F.ERR_CFG_ROW_TH 1 64 rfl rfl (inRange_errCfg_rowTh _) rfl e2
  rw [writeField_w1c 8 _ _ _ _ _ _ rfl rfl rfl, h3, h2, h1]
  rfl

/-- A write of the low half of ERR_CFG without the expert enable that would change ROW_TH alone: it is counted, and no field changes but FMT_REJ. -/
theorem writeFields_errCfg_discarded (s : State) (v : Nat) (he : s.bit F.FLT_EXPERT_EN_EN = false) (ha : bitsAt v 0 1 = s.rd F.ERR_CFG_SPARE_AUTO)
    (hc : bitsAt v 1 14 = s.rd F.ERR_CFG_CROSS_ESC) (ht : bitsAt v 15 7 ≠ s.rd F.ERR_CFG_ROW_TH) :
    (writeFields s .pf 4 0xFF000A000020 v).1 = (s.bump F.FLT_WR_REJ_COUNT).errCfgClear (bitsAt v 22 1) := by
  rw [writeFields_errCfg, List.foldl_cons, List.foldl_cons, List.foldl_cons, List.foldl_cons, List.foldl_nil]
  have off (f : Fld) (hx : f.ex = 1) : expertOn s f 0 = false := (expertOn_errCfg s f hx).trans he
  have h1 : (writeField .pf 4 0xFF000A000020 v (s, 0) (F.ERR_CFG_SPARE_AUTO, 0, 0)).1 = s := by
    rw [writeField_rw_discarded 4 _ _ _ _ _ _ rfl rfl (by decide) (off _ rfl)]
    exact if_pos ha
  generalize writeField .pf 4 0xFF000A000020 v (s, 0) (F.ERR_CFG_SPARE_AUTO, 0, 0) = r1 at h1 ⊢
  have h2 : (writeField .pf 4 0xFF000A000020 v r1 (F.ERR_CFG_CROSS_ESC, 0, 0)).1 = s := by
    rw [writeField_rw_discarded 4 _ _ _ _ _ _ rfl rfl (by decide) (h1 ▸ off _ rfl), h1]
    exact if_pos hc
  generalize writeField .pf 4 0xFF000A000020 v r1 (F.ERR_CFG_CROSS_ESC, 0, 0) = r2 at h2 ⊢
  have h3 : (writeField .pf 4 0xFF000A000020 v r2 (F.ERR_CFG_ROW_TH, 0, 0)).1 = s.bump F.FLT_WR_REJ_COUNT := by
    rw [writeField_rw_discarded 4 _ _ _ _ _ _ rfl rfl (by decide) (h2 ▸ off _ rfl), h2]
    exact if_neg ht
  rw [writeField_w1c 4 _ _ _ _ _ _ rfl rfl rfl, h3]
  rfl

/-! ### FLT_EXPERT_EN over a management bus -/

/-- What FLT_EXPERT_EN_WRITE does: the bit is written and the source logged. -/
def State.expertEnBy (s : State) (src : Src) (en : Bool) : State :=
  (s.wb F.FLT_EXPERT_EN_EN en).logE 0x0240 (srcCode src) 1 [0x30, srcCode src, en.toNat]

/-- WRITE_REG of FLT_EXPERT_EN is its own write, with a code. -/
theorem State.regWrite_expertEn_mb (s : State) (b : Bool) (v : Nat) :
    s.regWrite (.mb b) false 0xFF0009000030 v = s.coded F.FLT_HB_CFG_FMT_REJ 0 (fun t => t.expertEnBy (.mb b) (bitAt (v % 2) 0)) := by
  rw [State.regWrite_whole _ _ _ _ _ (by decide) (by decide) rfl]
  show s.homeWrite (.mb b) 8 0xFF0009000030 v = _
  rw [State.homeWrite_expertEn_mb, State.merged_expertEn]
  rfl

/-- The write leaves every field that it does not name and that logging does not write. -/
theorem State.rd_expertEnBy_ne (s : State) (src : Src) (en : Bool) (g : Fld) (k l : Nat) (hg : g.key k l ≠ F.FLT_EXPERT_EN_EN.key 0 0)
    (hl : g.key k l ∉ logKeys) : (s.expertEnBy src en).rd g k l = s.rd g k l :=
  (State.rd_logE_ne _ _ _ _ _ _ _ _ hl).trans (s.rd_wb_ne _ _ _ _ _ _ _ hg)

theorem State.rd_expertEnBy_self (s : State) (src : Src) (n : Nat) : (s.expertEnBy src (bitAt (n % 2) 0)).rd F.FLT_EXPERT_EN_EN = n % 2 := by
  refine (State.rd_logE_ne _ _ _ _ _ _ _ _ (by decide)).trans ?_
  rw [State.wb, State.rd_wr_self]
  rcases Nat.mod_two_eq_zero_or_one n with h | h <;> rw [h] <;> rfl

/-- The write counts no discard and finds no value out of range: its code is 0. -/
theorem State.coded_expertEnBy (s : State) (src : Src) (en : Bool) : (s.coded F.FLT_HB_CFG_FMT_REJ 0 (fun t => t.expertEnBy src en)).2 = 0 := by
  apply State.coded_code_zero
  · rw [State.rd_expertEnBy_ne _ _ _ _ _ _ (by decide) (by decide), State.rd_wb_ne _ _ _ _ _ _ _ _ (by decide), State.rd_wr_self]
    rfl
  · rw [State.bit, State.rd_expertEnBy_ne _ _ _ _ _ _ (by decide) (by decide)]
    exact State.bit_wb_self _ _ _ _ _ rfl

/-! ### The clauses -/

/-- A register write answers the state that the write leaves. -/
theorem answers_registerWrite (s : State) (src : Src) (half : Bool) (a : BitVec 48) (v : BitVec 64) (post : State → Prop)
    (ha : a.toNat % (if half then 4 else 8) = 0) (h : post (s.regWrite src half a.toNat v.toNat).1) : Answers (.registerWrite src half a v) s post :=
  ⟨_, execRegisterWrite_aligned s src half a v ha, h⟩

theorem answers_registerWrite_misaligned (s : State) (p : Part) (half vf : Bool) (a : BitVec 48) (v : BitVec 64)
    (ha : a.toNat % (if half then 4 else 8) ≠ 0) :
    Answers (.registerWrite (if vf then .vf p else .pf) half a v) s (fun t =>
      t.rd F.HST_STAT_APER_REJ = satAt F.HST_STAT_APER_REJ.w (s.rd F.HST_STAT_APER_REJ + 1) ∧ Keeps s t [F.HST_STAT_APER_REJ.key 0 0]) := by
  refine ⟨_, execRegisterWrite_misaligned s _ half a v ?_ ha, s.rd_bump_self _ 1 0 0, (Keeps.refl s _).wr _ _ 0 0 (List.mem_singleton.2 rfl)⟩
  cases vf
  · exact .inl rfl
  · exact .inr ⟨p, rfl⟩

theorem answers_registerWrite_outside (s : State) (src : Src) (half : Bool) (a : BitVec 48) (v : BitVec 64)
    (ha : a.toNat % (if half then 4 else 8) = 0) (hb : inRegBlock a.toNat = false) : Answers (.registerWrite src half a v) s (fun t => t = s) :=
  answers_registerWrite s src half a v _ ha (s.regWrite_outside src half _ _ hb)

theorem answers_registerWrite_reserved (s : State) (v : BitVec 64) : Answers (.registerWrite .pf false 0xFF000A0000F8 v) s (fun t => t = s) := by
  refine answers_registerWrite s _ _ _ _ _ rfl ?_
  rw [State.regWrite_whole _ _ _ _ _ (by decide) (by decide) rfl]
  exact congrArg Prod.fst (s.homeWrite_errReserved ..)

theorem answers_registerWrite_errCfg_taken (s : State) (v : BitVec 64) (he : s.bit F.FLT_EXPERT_EN_EN = true) :
    Answers (.registerWrite .pf false 0xFF000A000020 v) s (fun t => t = s.errCfgTaken v.toNat) := by
  refine answers_registerWrite s _ _ _ _ _ rfl ?_
  rw [State.regWrite_whole _ _ _ _ _ (by decide) (by decide) rfl]
  exact (congrArg Prod.fst (s.homeWrite_errCfg_pf ..)).trans (writeFields_errCfg_taken s _ he)

theorem State.rd_errCfgTaken_spareAuto (s : State) (v : Nat) : (s.errCfgTaken v).rd F.ERR_CFG_SPARE_AUTO = bitsAt v 0 1 := by
  rw [State.errCfgTaken, State.errCfgClear, State.rd_wr_ne _ _ _ _ _ _ _ _ (by decide), State.rd_errCfgField_ne _ _ _ _ _ _ _ _ (by decide) (by decide),
    State.rd_errCfgField_ne _ _ _ _ _ _ _ _ (by decide) (by decide), State.rd_wr_self]
  exact Nat.mod_mod ..

theorem State.rd_errCfgTaken_crossEsc (s : State) (v : Nat) : (s.errCfgTaken v).rd F.ERR_CFG_CROSS_ESC
    = if 10 ≤ bitsAt v 1 14 ∧ bitsAt v 1 14 ≤ 10000 then bitsAt v 1 14 else s.rd F.ERR_CFG_CROSS_ESC := by
  rw [State.errCfgTaken, State.errCfgClear, State.rd_wr_ne _ _ _ _ _ _ _ _ (by decide), State.rd_errCfgField_ne _ _ _ _ _ _ _ _ (by decide) (by decide),
    State.rd_errCfgField_self _ _ _ _ _ (by decide) (bitsAt_lt v 1 14), State.rd_wr_ne _ _ _ _ _ _ _ _ (by decide)]

theorem State.rd_errCfgTaken_rowTh (s : State) (v : Nat) : (s.errCfgTaken v).rd F.ERR_CFG_ROW_TH
    = if 1 ≤ bitsAt v 15 7 ∧ bitsAt v 15 7 ≤ 64 then bitsAt v 15 7 else s.rd F.ERR_CFG_ROW_TH := by
  rw [State.errCfgTaken, State.errCfgClear, State.rd_wr_ne _ _ _ _ _ _ _ _ (by decide),
    State.rd_errCfgField_self _ _ _ _ _ (by decide) (bitsAt_lt v 15 7), State.rd_errCfgField_ne _ _ _ _ _ _ _ _ (by decide) (by decide),
    State.rd_wr_ne _ _ _ _ _ _ _ _ (by decide)]

theorem answers_registerWrite_errCfg_discarded (s : State) (v : BitVec 64) (he : s.bit F.FLT_EXPERT_EN_EN = false)
    (ha : v.toNat % 2 = s.rd F.ERR_CFG_SPARE_AUTO) (hc : v.toNat / 2 % 2 ^ 14 = s.rd F.ERR_CFG_CROSS_ESC)
    (ht : v.toNat / 2 ^ 15 % 2 ^ 7 ≠ s.rd F.ERR_CFG_ROW_TH) :
    Answers (.registerWrite .pf true 0xFF000A000020 v) s (fun t => ∃ x, t = (s.bump F.FLT_WR_REJ_COUNT).errCfgClear x) := by
  refine answers_registerWrite s _ _ _ _ _ rfl ⟨bitsAt (v.toNat % 2 ^ 32) 22 1, ?_⟩
  rw [State.regWrite_low _ _ _ _ _ (by decide) (by decide) rfl]
  refine (congrArg Prod.fst (s.homeWrite_errCfg_pf ..)).trans (writeFields_errCfg_discarded s _ he ?_ ?_ ?_)
  · rw [← ha, bitsAt]; omega
  · rw [← hc, bitsAt]; omega
  · have hb : bitsAt (v.toNat % 2 ^ 32) 15 7 = v.toNat / 2 ^ 15 % 2 ^ 7 := by rw [bitsAt]; omega
    rwa [hb]

theorem answers_registerWrite_errCfg_vf (s : State) (p : Part) (v : BitVec 64) :
    Answers (.registerWrite (.vf p) false 0xFF000A000020 v) s (fun t => t = s.bump F.FLT_WR_REJ_COUNT) := by
  refine answers_registerWrite s _ _ _ _ _ rfl ?_
  rw [State.regWrite_whole _ _ _ _ _ (by decide) (by decide) rfl]
  exact congrArg Prod.fst (s.homeWrite_errCfg_vf ..)

theorem answers_mbReadReg (s : State) (b : Bool) (a : BitVec 48) (hon : s.flint.on = true) (hs : s.mbServed 3 = true) (ha : a.toNat % 8 = 0)
    (hlo : 0xFF0009000000 ≤ a.toNat) (hhi : a.toNat < 0xFF000A000000) :
    Answers (.mbReadReg b a) s (fun t => t = s.respond b 0 (leBytes 8 (s.regRead a.toNat))) := by
  refine ⟨_, rfl, ?_⟩
  rw [State.served_eq _ _ _ _ hon hs, if_neg (by omega), if_neg (by omega)]

theorem answers_mbReadReg_misaligned (s : State) (b : Bool) (a : BitVec 48) (hon : s.flint.on = true) (hs : s.mbServed 3 = true)
    (ha : a.toNat % 8 ≠ 0) : Answers (.mbReadReg b a) s (fun t => t = s.respond b (Code.addr 2)) := by
  refine ⟨_, rfl, ?_⟩
  rw [State.served_eq _ _ _ _ hon hs, if_pos ha]

/-- WRITE_REG of a bus that Aqgen serves answers the write's state and code. -/
theorem answers_mbWriteReg (s : State) (b : Bool) (a : BitVec 48) (v : BitVec 64) (hon : s.flint.on = true) (hs : s.mbServed 4 = true) :
    Answers (.mbWriteReg b a v) s (fun t => t = (s.regWrite (.mb b) false a.toNat v.toNat).1.respond b (s.regWrite (.mb b) false a.toNat v.toNat).2) :=
  ⟨_, rfl, s.served_eq _ _ _ hon hs⟩

theorem State.regWrite_pwrCap_mb (s : State) (b : Bool) (v : Nat) : s.regWrite (.mb b) false 0xFF0000100038 v = (s, Code.perm 0) := by
  rw [State.regWrite_whole _ _ _ _ _ (by decide) (by decide) rfl]
  exact s.homeWrite_pwrCap_mb ..

/-- Settles O56: each access is the register's own write at its home address; ERR_CFG is written field by field, FLT_EXPERT_EN by its own row. -/
theorem registerAccess : Obligations.RegisterAccess := by
  refine ⟨answers_registerWrite_misaligned, answers_registerWrite_outside, answers_registerWrite_reserved, ?_, ?_, ?_, ?_, ?_⟩
  · intro s v he
    refine (answers_registerWrite_errCfg_taken s v he).imp ?_
    rintro t rfl
    exact ⟨(s.rd_errCfgTaken_spareAuto _).trans (congrArg (· % 2) (Nat.div_one _)), Keeps.errCfgTaken .., s.rd_errCfgTaken_crossEsc _, s.rd_errCfgTaken_rowTh _⟩
  · rintro s v he ⟨ha, hc, ht, -⟩
    refine (answers_registerWrite_errCfg_discarded s v he ha hc ht).imp ?_
    rintro t ⟨x, rfl⟩
    refine ⟨?_, fun f i j _ hn hf => (State.rd_wr_ne _ _ _ _ _ _ _ _ hf).trans (s.rd_bump_ne _ _ _ _ _ _ _ hn)⟩
    exact (State.rd_wr_ne _ _ _ _ _ _ _ _ (by decide)).trans (s.rd_bump_self _ 1 0 0)
  · intro s p v
    refine (answers_registerWrite_errCfg_vf s p v).imp ?_
    rintro t rfl
    exact ⟨s.rd_bump_self _ 1 0 0, (Keeps.refl s _).wr _ _ 0 0 (List.mem_singleton.2 rfl)⟩
  · rintro s b a ⟨hon, hs⟩
    refine ⟨fun ha hlo hhi => (answers_mbReadReg s b a hon hs ha hlo hhi).imp ?_, fun ha => (answers_mbReadReg_misaligned s b a hon hs ha).imp ?_⟩
    · rintro t rfl
      exact ⟨s.mbResp_respond .., s.regs_respond .., s.mem_respond ..⟩
    · rintro t rfl
      exact ⟨s.mbResp_respond .., s.regs_respond ..⟩
  · rintro s b v ⟨hon, hs⟩
    refine ⟨(answers_mbWriteReg s b _ v hon hs).imp ?_, (answers_mbWriteReg s b _ v hon hs).imp ?_⟩
    · rintro t rfl
      rw [show (0xFF0009000030 : BitVec 48).toNat = 0xFF0009000030 from rfl, State.regWrite_expertEn_mb, State.coded_expertEnBy]
      refine ⟨?_, State.mbResp_respond .., ?_, ?_⟩
      · rw [State.rd_respond, State.rd_coded_ne _ _ _ _ _ _ _ (by decide) (by decide), State.rd_expertEnBy_self]
      · rw [State.mem_respond, State.mem_coded, State.expertEnBy, State.mem_logE]
        rfl
      · rw [State.clu_respond, State.clu_coded, State.expertEnBy, State.clu_logE]
        rfl
    · rintro t rfl
      rw [show (0xFF0000100038 : BitVec 48).toNat = 0xFF0000100038 from rfl, State.regWrite_pwrCap_mb]
      exact ⟨s.mbResp_respond .., s.regs_respond .., s.mem_respond ..⟩

end Sys2Proof.Machine
end

section
/-! PROOFS. Alerts (O9). -/

namespace Sys2Proof.Machine

/-- Refutes O9 in its first clause: FLT_ALERT_STAT and FLT_ALERT_MASK are 11 bits wide, yet the clause speaks of every state and looks for the cause
below bit 64, while `State.alertLow` reads all of what the two fields hold. Where both hold 2 ^ 64, ALERT_N is low and no cause below bit 64 is set. No
write leaves such a value, as each is cut to its field's width (`State.rd_wr_self`). -/
theorem not_alertsAndTiming : ¬ Obligations.AlertsAndTiming := by
  rintro ⟨hAlert, -⟩
  have hLow := (hAlert { State.reset with
      flint := { State.reset.flint with on := true }
      regs := [(F.FLT_ALERT_STAT_CAUSE.key 0 0, 2 ^ 64), (F.FLT_ALERT_MASK_CAUSE.key 0 0, 2 ^ 64)] } rfl).1 (by decide +kernel)
  obtain ⟨k, hk, hCause, -⟩ := hLow
  have hNone : ∀ k < 64, bitAt (2 ^ 64) k = false := by decide
  exact Bool.false_ne_true ((hNone k hk).symm.trans hCause)

end Sys2Proof.Machine
end

section
/-! PROOFS. The time that a nanosecond takes (O57): what the operations that `State.tick` runs leave of Flint's clock, in the order of their definitions. -/

namespace Sys2Proof.Machine

@[simp] theorem State.now_ite (c : Prop) [Decidable c] (s t : State) : (if c then s else t).now = if c then s.now else t.now :=
  apply_ite State.now c s t

/-- A fold whose steps keep the time keeps it. -/
@[simp] theorem State.now_foldl {β : Type} (f : State → β → State) (h : ∀ t x, (f t x).now = t.now) (l : List β) (s : State) : (l.foldl f s).now = s.now :=
  foldl_keeps (fun t => t.now = s.now) f l s rfl (fun t x ht => (h t x).trans ht)

/-- A fold from the right whose steps keep the time keeps it. -/
@[simp] theorem State.now_foldr {β : Type} (f : β → State → State) (h : ∀ x t, (f x t).now = t.now) (l : List β) (s : State) :
    (l.foldr f s).now = s.now := by
  induction l with
  | nil => rfl
  | cons x l ih => rw [List.foldr_cons, h, ih]

variable (s : State)

/-! ### Setters of one component -/

@[simp] theorem State.now_setClk (i : Nat) (c : IslClk) : (s.setClk i c).now = s.now := rfl
@[simp] theorem State.now_dropLine (a : Nat) : (s.dropLine a).now = s.now := rfl
@[simp] theorem State.now_enqueue (n : Nat) (e : TxEnt) : (s.enqueue n e).now = s.now := rfl
@[simp] theorem State.now_setRing (r : Nat) (x : RingSt) : (s.setRing r x).now = s.now := rfl
@[simp] theorem State.now_done (x : Iss) (k : ClusterSt) : (s.done x k).now = s.now := rfl
@[simp] theorem State.now_hold (x : Iss) (w : Wait) : (s.hold x w).now = s.now := rfl
@[simp] theorem State.now_finish (c : Nat) : (s.finish c).now = s.now := rfl
@[simp] theorem State.now_signalSem (c n v : Nat) : (s.signalSem c n v).now = s.now := rfl
@[simp] theorem State.now_poisonSem (c n : Nat) : (s.poisonSem c n).now = s.now := rfl
@[simp] theorem State.now_setRec (r : Nat) (x : ClxRec) : (s.setRec r x).now = s.now := rfl
@[simp] theorem State.now_noteRecs : s.noteRecs.now = s.now := rfl
@[simp] theorem State.now_modSl (f : SlateSt → SlateSt) : (s.modSl f).now = s.now := rfl
@[simp] theorem State.now_setAsg (p : Nat) (x : AsgSt) : (s.setAsg p x).now = s.now := rfl
@[simp] theorem State.now_modMi (f : MicaSt → MicaSt) : (s.modMi f).now = s.now := rfl
@[simp] theorem State.now_setMst (i : Nat) (x : MStream) : (s.setMst i x).now = s.now := rfl
@[simp] theorem State.now_setMcache (p : Nat) (l : List MEntry) : (s.setMcache p l).now = s.now := rfl
@[simp] theorem State.now_setPin (n : Nat) (x : MPinSlot) : (s.setPin n x).now = s.now := rfl
@[simp] theorem State.now_modJ (f : JasperSt → JasperSt) : (s.modJ f).now = s.now := rfl
@[simp] theorem State.now_modTw (f : TwinSt → TwinSt) : (s.modTw f).now = s.now := rfl
@[simp] theorem State.now_clearRegs (sel : Fld → Nat → Nat → Bool) : (s.clearRegs sel).now = s.now := rfl
@[simp] theorem State.now_orphanPart (p : Nat) : (s.orphanPart p).now = s.now := rfl
@[simp] theorem State.now_jasperPartReset (p : Nat) : (s.jasperPartReset p).now = s.now := rfl
@[simp] theorem State.now_clxSend (port opc part w1 w2 w3 : Nat) (data : List Byte) : (s.clxSend port opc part w1 w2 w3 data).now = s.now := rfl
@[simp] theorem State.now_sendAbort (port part grp st node code : Nat) : (s.sendAbort port part grp st node code).now = s.now := rfl

@[simp] theorem State.now_jspBump (f : Fld) (n p : Nat) : (s.jspBump f n p).now = s.now := by fun_cases State.jspBump <;> rfl
@[simp] theorem State.now_modMst (i : Nat) (f : MStream → MStream) : (s.modMst i f).now = s.now := by fun_cases State.modMst <;> rfl
@[simp] theorem State.now_modRec (r : Nat) (f : ClxRec → ClxRec) : (s.modRec r f).now = s.now := by fun_cases State.modRec <;> rfl
@[simp] theorem State.now_setEp (p : Nat) (x : EpochSt) : (s.setEp p x).now = s.now := by fun_cases State.setEp <;> rfl

/-! ### Clocks and the log -/

@[simp] theorem State.now_request (i code : Nat) : (s.request i code).now = s.now := by fun_cases State.request <;> rfl
@[simp] theorem State.now_noteLimits : s.noteLimits.now = s.now := by unfold State.noteLimits; simp
@[simp] theorem State.now_requestAll : s.requestAll.now = s.now := by unfold State.requestAll; simp
@[simp] theorem State.now_logFull (e : LogEntry) : (s.logFull e).now = s.now := by unfold State.logFull; simp
@[simp] theorem State.now_sramWrite (a : Nat) (l : List MByte) : (s.sramWrite a l).now = s.now := by unfold State.sramWrite; simp
@[simp] theorem State.now_trap (code source : Nat) (data : List Nat) : (s.trap code source data).now = s.now := by fun_cases State.trap <;> rfl

/-! ### Completion entries and the end of a sequencer -/

@[simp] theorem State.now_ringSignal (r : Nat) : (s.ringSignal r).now = s.now := by unfold State.ringSignal; simp
@[simp] theorem State.now_cqWrite (r : Nat) (e : CqEnt) : (s.cqWrite r e).now = s.now := by unfold State.cqWrite; simp
@[simp] theorem State.now_cqPost (r : Nat) (e : CqEnt) : (s.cqPost r e).now = s.now := by unfold State.cqPost; simp
@[simp] theorem State.now_cmdDone (c : HostCmd) (code value : Nat) : (s.cmdDone c code value).now = s.now := by unfold State.cmdDone; simp
@[simp] theorem State.now_cmdDoneId (id code value : Nat) : (s.cmdDoneId id code value).now = s.now := by fun_cases State.cmdDoneId <;> simp
@[simp] theorem State.now_launchLeave (c : Nat) : (s.launchLeave c).now = s.now := by fun_cases State.launchLeave <;> rfl
@[simp] theorem State.now_postEnd (c code : Nat) : (s.postEnd c code).now = s.now := by unfold State.postEnd; simp
@[simp] theorem State.now_deliver (c : Nat) (long : Bool) (code addr info : Nat) : (s.deliver c long code addr info).now = s.now := by
  unfold State.deliver; simp
@[simp] theorem State.now_fault (x : Iss) (code addr : Nat) : (s.fault x code addr).now = s.now := s.now_deliver ..
@[simp] theorem State.now_tnsPush (x : Iss) (o : TnsOp) : (s.tnsPush x o).now = s.now := by unfold State.tnsPush; simp
@[simp] theorem State.now_tell (t : Tell) (code value : Nat) : (s.tell t code value).now = s.now := by
  unfold State.tell
  split
  · exact s.now_cmdDoneId ..
  · dsimp only
    split
    · rw [State.now_signalSem, State.now_sramWrite]
    · exact s.now_sramWrite ..
@[simp] theorem State.now_cluClear (c : Nat) : (s.cluClear c).now = s.now := by unfold State.cluClear; simp

/-! ### Routing -/

/-- The state that a routing attempt leaves. -/
def Routed.state : Routed → State
  | .done t => t
  | .noRoute t => t

@[simp] theorem State.now_rtErr (dst port : Nat) : (s.rtErr dst port).now = s.now := by unfold State.rtErr; simp
@[simp] theorem State.now_sendBulk (e : TxEnt) (c : Nat × Nat) (det : Nat) : (s.sendBulk e c det).now = s.now := by fun_cases State.sendBulk <;> simp
theorem State.now_routeBulk (e : TxEnt) (entry : Nat) : (s.routeBulk e entry).state.now = s.now := by
  fun_cases State.routeBulk <;> simp [Routed.state]
theorem State.now_routeOut (e : TxEnt) : (s.routeOut e).state.now = s.now := by
  fun_cases State.routeOut
  case case4 => exact s.now_routeBulk ..
  all_goals rfl
@[simp] theorem State.now_sendPlain (p : Pkt) : (s.sendPlain p).now = s.now := by
  have h := s.now_routeOut { pkt := p, src := 31, at_ := s.now }
  unfold State.sendPlain
  split <;> rename_i t ht <;> rw [ht] at h <;> exact h
@[simp] theorem State.now_mgHost (p : Pkt) : (s.mgHost p).now = s.now := by
  fun_cases State.mgHost
  · rfl
  · rfl
  · exact State.now_cqPost ..

/-! ### Collectives -/

@[simp] theorem State.now_grpTell (g : GrpWait) (code : Nat) : (s.grpTell g code).now = s.now := by
  unfold State.grpTell
  dsimp only
  split
  · rw [State.now_signalSem, State.now_sramWrite]
  · exact s.now_sramWrite ..
@[simp] theorem State.now_grpTellAll (r code : Nat) : (s.grpTellAll r code).now = s.now := by fun_cases State.grpTellAll <;> simp
@[simp] theorem State.now_breakRec (r code : Nat) : (s.breakRec r code).now = s.now := by fun_cases State.breakRec <;> simp
@[simp] theorem State.now_clxEnd (c slot code : Nat) : (s.clxEnd c slot code).now = s.now := by unfold State.clxEnd; simp
@[simp] theorem State.now_clxMembersAbort (x : ClxRec) (st code : Nat) : (s.clxMembersAbort x st code).now = s.now := by
  refine State.now_foldl _ (fun t i => ?_) _ _
  split <;> simp
@[simp] theorem State.now_clxResolve (r st code : Nat) (ports : List Nat) : (s.clxResolve r st code ports).now = s.now := by
  fun_cases State.clxResolve
  · rfl
  · exact (State.now_modRec ..).trans ((State.now_clxMembersAbort ..).trans (State.now_foldl _ (fun t p => t.now_sendAbort ..) ..))
@[simp] theorem State.now_clxAbortUp (r st code : Nat) : (s.clxAbortUp r st code).now = s.now := by fun_cases State.clxAbortUp <;> simp
@[simp] theorem State.now_clxAbortAll (r code : Nat) : (s.clxAbortAll r code).now = s.now := by fun_cases State.clxAbortAll <;> simp
@[simp] theorem State.now_clxDelete (r code tell : Nat) : (s.clxDelete r code tell).now = s.now := by unfold State.clxDelete; simp
@[simp] theorem State.now_clxMemberGone (c : Nat) : (s.clxMemberGone c).now = s.now := by unfold State.clxMemberGone; simp
@[simp] theorem State.now_clxPartGone (p : Nat) : (s.clxPartGone p).now = s.now := by unfold State.clxPartGone; simp
@[simp] theorem State.now_raiseClx (c n : Nat) (long : Bool) : (s.raiseClx c n long).now = s.now := by unfold State.raiseClx; simp
@[simp] theorem State.now_clxConsume (x : Iss) (r : Nat) (y : ClxRec) (q : ClxReq) : (s.clxConsume x r y q).now = s.now := by
  unfold State.clxConsume
  extract_lets _ st u e n sl d k' v
  have hu : u.now = s.now := s.now_modRec ..
  have hv : v.now = u.now := by
    subst v
    split
    · split
      · rfl
      · exact (State.now_tnsPush ..).trans (u.now_modCl ..)
    · split
      · rfl
      · exact (State.now_tnsPush ..).trans (u.now_modCl ..)
    · rfl
  split
  · rw [State.now_clxAbortUp, State.now_fault, hu]
  · split
    · rw [State.now_clxEnd, hv, hu]
    · rw [hv, hu]
@[simp] theorem State.now_clxStart (x : Iss) (q : ClxReq) (since : Nat) : (s.clxStart x q since).now = s.now := by
  fun_cases State.clxStart <;> simp
@[simp] theorem State.now_clxWake (c : Nat) : (s.clxWake c).now = s.now := by fun_cases State.clxWake <;> simp
@[simp] theorem State.now_clxSettle (n : Nat) : (State.clxSettle n s).now = s.now := by
  induction n generalizing s with
  | zero => rfl
  | succ n ih => simp [State.clxSettle, ih]
@[simp] theorem State.now_clxGo : s.clxGo.now = s.now := s.now_clxSettle 32

/-! ### Partition reset -/

@[simp] theorem State.now_cfgGo : s.cfgGo.now = s.now := by
  refine State.now_foldl _ (fun t c => ?_) ..
  dsimp only
  split
  · rfl
  · exact (State.now_tell ..).trans (State.now_foldl _ (fun u k => u.now_setPin ..) ..)
@[simp] theorem State.now_micaPartReset (p : Nat) : (s.micaPartReset p).now = s.now :=
  (State.now_cfgGo _).trans (State.now_foldl _ (fun t _ => t.now_setPin ..) ..)
@[simp] theorem State.now_partCmdsGone (p : Nat) : (s.partCmdsGone p).now = s.now := by unfold State.partCmdsGone; simp
@[simp] theorem State.now_partSlices (p : Nat) : (s.partSlices p).now = s.now := by unfold State.partSlices; simp
@[simp] theorem State.now_partRegion (p : Nat) : (s.partRegion p).now = s.now := by
  refine (State.now_foldl _ (fun t i => t.now_cmdDoneId ..) ..).trans ?_
  refine (State.now_foldl _ (fun t q => ?_) ..).trans (State.now_foldl _ (fun t k => t.now_wb ..) ..)
  split <;> rfl
@[simp] theorem State.now_partClear (p : Nat) : (s.partClear p).now = s.now := by
  unfold State.partClear
  extract_lets clus s1 s2 s3 s4 s5 s6 e s7
  have h1 : s1.now = s.now := s.now_clxPartGone p
  have h2 : s2.now = s1.now := State.now_foldl _ (fun t c => t.now_clxMemberGone c) ..
  have h3 : s3.now = s2.now := by rw [State.now_partCmdsGone, State.now_partSlices, State.now_partRegion]
  have h4 : s4.now = s3.now := by rw [State.now_jasperPartReset, State.now_micaPartReset, State.now_orphanPart]
  have h6 : s6.now = s5.now := State.now_foldl _ (fun t c => (State.now_zeroMem ..).trans (t.now_cluClear c)) ..
  have h7 : s7.now = s6.now := s6.now_setEp ..
  rw [State.now_clxGo, State.now_msi, State.now_requestAll, State.now_wflag, State.now_wr, State.now_modQ, h7, h6, State.now_clearRegs, h4, h3, h2, h1]
@[simp] theorem State.now_partReset (p : Nat) : (s.partReset p).now = s.now := by unfold State.partReset; simp

/-! ### The parts of a nanosecond -/

@[simp] theorem State.now_ceilTick : s.ceilTick.now = s.now := by unfold State.ceilTick; simp
@[simp] theorem State.now_stretchTick : s.stretchTick.now = s.now := by unfold State.stretchTick; simp
@[simp] theorem State.now_offTick : s.offTick.now = s.now := by unfold State.offTick; simp
@[simp] theorem State.now_micaTick : s.micaTick.now = s.now := by unfold State.micaTick; simp
@[simp] theorem State.now_jasperTick : s.jasperTick.now = s.now := by unfold State.jasperTick; simp
@[simp] theorem State.now_secondTick : s.secondTick.now = s.now := by unfold State.secondTick; simp
@[simp] theorem State.now_poisonResets : s.poisonResets.now = s.now := by unfold State.poisonResets; simp
@[simp] theorem State.now_trapTick : s.trapTick.now = s.now := by unfold State.trapTick; simp

/-- A nanosecond passes on Flint's clock, whatever else it brings about. -/
theorem State.now_tick : s.tick.now = s.now + 1 := by unfold State.tick; simp

end Sys2Proof.Machine
end

section
/-! PROOFS. Every command completes (O57): no branch of any meaning ends in a fault or a refusal. -/

namespace Sys2Proof.Machine

/-- An outcome that is a next state. -/
def IsNext (o : Host.Outcome State Fault Refusal) : Prop := ∃ t, o = .next t

theorem isNext_next (t : State) : IsNext (.next t) := ⟨t, rfl⟩

/-! ### The meanings with branches, each by the branches of its definition -/

section
variable (s : State)

/-! #### Supplies, clocks and sag -/

theorem execV48Sample_isNext (v : BitVec 16) : IsNext (execV48Sample v s) := by fun_cases execV48Sample <;> exact isNext_next _
theorem execSagLevelExit_isNext : IsNext (execSagLevelExit s) := by fun_cases execSagLevelExit <;> exact isNext_next _
theorem execClockTrim_isNext (i : Fin 305) (cycles : BitVec 16) : IsNext (execClockTrim i cycles s) := by fun_cases execClockTrim <;> exact isNext_next _
theorem execIslandSagDetect_isNext (i : Fin 305) (mv : BitVec 12) : IsNext (execIslandSagDetect i mv s) := by
  fun_cases execIslandSagDetect <;> exact isNext_next _
theorem execStretchStepDown_isNext (i : Fin 305) : IsNext (execStretchStepDown i s) := by fun_cases execStretchStepDown <;> exact isNext_next _
theorem execStretchRecover_isNext (i : Fin 305) : IsNext (execStretchRecover i s) := by fun_cases execStretchRecover <;> exact isNext_next _
theorem execFreqTransitionDone_isNext (i : Fin 305) : IsNext (execFreqTransitionDone i s) := by fun_cases execFreqTransitionDone <;> exact isNext_next _
theorem execSensorFault_isNext (i : Fin 305) : IsNext (execSensorFault i s) := by fun_cases execSensorFault <;> exact isNext_next _
theorem execPersistentSag_isNext (i : Fin 305) : IsNext (execPersistentSag i s) := by fun_cases execPersistentSag <;> exact isNext_next _
theorem execPersistentSagLower_isNext (i : Fin 305) : IsNext (execPersistentSagLower i s) := by fun_cases execPersistentSagLower <;> exact isNext_next _
theorem execPersistentSagClear_isNext (r : Fin 7) : IsNext (execPersistentSagClear r s) := by fun_cases execPersistentSagClear <;> exact isNext_next _
theorem execV12auxLoss_isNext : IsNext (execV12auxLoss s) := by fun_cases execV12auxLoss <;> exact isNext_next _
theorem execV12auxRestore_isNext : IsNext (execV12auxRestore s) := by fun_cases execV12auxRestore <;> exact isNext_next _
theorem execV48Qualified_isNext : IsNext (execV48Qualified s) := by fun_cases execV48Qualified <;> exact isNext_next _
theorem execRailPgTimeout_isNext (r : Fin 7) : IsNext (execRailPgTimeout r s) := by fun_cases execRailPgTimeout <;> exact isNext_next _
theorem execRailSeqRetry_isNext : IsNext (execRailSeqRetry s) := by fun_cases execRailSeqRetry <;> exact isNext_next _
theorem execV48Restart_isNext : IsNext (execV48Restart s) := by fun_cases execV48Restart <;> exact isNext_next _
theorem execIslPstateWrite_isNext (src : Src) (v : BitVec 64) : IsNext (execIslPstateWrite src v s) := by fun_cases execIslPstateWrite <;> exact isNext_next _
theorem execIslPwrCapWrite_isNext (src : Src) (v : BitVec 64) : IsNext (execIslPwrCapWrite src v s) := by fun_cases execIslPwrCapWrite <;> exact isNext_next _
theorem execIslFreqWrite_isNext (i : Fin 305) (src : Src) (v : BitVec 64) : IsNext (execIslFreqWrite i src v s) := by
  fun_cases execIslFreqWrite <;> exact isNext_next _
theorem execIslStrCfgWrite_isNext (i : Fin 305) (src : Src) (v : BitVec 64) : IsNext (execIslStrCfgWrite i src v s) := by
  fun_cases execIslStrCfgWrite <;> exact isNext_next _
theorem execV48MinClr_isNext (src : Src) : IsNext (execV48MinClr src s) := by fun_cases execV48MinClr <;> exact isNext_next _

/-! #### Start-up -/

theorem execRailPowerGood_isNext (r : Fin 7) : IsNext (execRailPowerGood r s) := by fun_cases execRailPowerGood <;> exact isNext_next _
theorem execV48Lockout_isNext (above : Bool) : IsNext (execV48Lockout above s) := by fun_cases execV48Lockout <;> exact isNext_next _
theorem execDieInitDone_isNext : IsNext (execDieInitDone s) := by fun_cases execDieInitDone <;> exact isNext_next _
theorem execLinkUpTimeout_isNext : IsNext (execLinkUpTimeout s) := by fun_cases execLinkUpTimeout <;> exact isNext_next _
theorem execFltStartWrite_isNext (src : Src) (v : BitVec 64) : IsNext (execFltStartWrite src v s) := by fun_cases execFltStartWrite <;> exact isNext_next _
theorem execDevStartSoloWrite_isNext (src : Src) (solo : Bool) : IsNext (execDevStartSoloWrite src solo s) := by
  fun_cases execDevStartSoloWrite <;> exact isNext_next _
theorem execModRstNAssert_isNext : IsNext (execModRstNAssert s) := by fun_cases execModRstNAssert <;> exact isNext_next _
theorem execModRstHeldLong_isNext : IsNext (execModRstHeldLong s) := by fun_cases execModRstHeldLong <;> exact isNext_next _
theorem execDevRstModule_isNext (src : Src) : IsNext (execDevRstModule src s) := by fun_cases execDevRstModule <;> exact isNext_next _

/-! #### Semaphores and waits -/

theorem execSignalArrive_isNext (c : Clu) (sem : Fin 64) : IsNext (execSignalArrive c sem s) := by fun_cases execSignalArrive <;> exact isNext_next _
theorem execSynWaitSatisfied_isNext (c : Clu) : IsNext (execSynWaitSatisfied c s) := by fun_cases execSynWaitSatisfied <;> exact isNext_next _
theorem execSynWaitTimeout_isNext (c : Clu) : IsNext (execSynWaitTimeout c s) := by fun_cases execSynWaitTimeout <;> exact isNext_next _
theorem execSynTwaitExpire_isNext (c : Clu) : IsNext (execSynTwaitExpire c s) := by fun_cases execSynTwaitExpire <;> exact isNext_next _
theorem execSynDrainDone_isNext (c : Clu) : IsNext (execSynDrainDone c s) := by fun_cases execSynDrainDone <;> exact isNext_next _
theorem execSynPostResume_isNext (c : Clu) : IsNext (execSynPostResume c s) := by fun_cases execSynPostResume <;> exact isNext_next _

/-! #### Tensor units -/

theorem execTnsQueueRoom_isNext (c : Clu) : IsNext (execTnsQueueRoom c s) := by fun_cases execTnsQueueRoom <;> exact isNext_next _
theorem execTensorUnitStart_isNext (c : Clu) (u : Fin 4) : IsNext (execTensorUnitStart c u s) := by fun_cases execTensorUnitStart <;> exact isNext_next _
theorem execTensorOpComplete_isNext (c : Clu) (u : Fin 4) : IsNext (execTensorOpComplete c u s) := by fun_cases execTensorOpComplete <;> exact isNext_next _

/-! #### Collectives -/

theorem execClxLoadingWaitTimeout_isNext (c : Clu) : IsNext (execClxLoadingWaitTimeout c s) := by fun_cases execClxLoadingWaitTimeout <;> exact isNext_next _
theorem execGrpMarkResend_isNext (r : Fin 1024) : IsNext (execGrpMarkResend r s) := by fun_cases execGrpMarkResend <;> exact isNext_next _
theorem execGrpActivateTimeout_isNext (r : Fin 1024) : IsNext (execGrpActivateTimeout r s) := by fun_cases execGrpActivateTimeout <;> exact isNext_next _
theorem execClxStepTimeout_isNext (r : Fin 1024) : IsNext (execClxStepTimeout r s) := by fun_cases execClxStepTimeout <;> exact isNext_next _
theorem execClxSlotTimeout_isNext (c : Clu) (slot : Fin 8) : IsNext (execClxSlotTimeout c slot s) := by fun_cases execClxSlotTimeout <;> exact isNext_next _

/-! #### DMA -/

theorem execDmaIssueResume_isNext (c : Clu) : IsNext (execDmaIssueResume c s) := by fun_cases execDmaIssueResume <;> exact isNext_next _
theorem execDmaWaitDone_isNext (c : Clu) : IsNext (execDmaWaitDone c s) := by fun_cases execDmaWaitDone <;> exact isNext_next _
theorem execDmaSlotComplete_isNext (c : Clu) (n : Fin 64) : IsNext (execDmaSlotComplete c n s) := by fun_cases execDmaSlotComplete <;> exact isNext_next _

/-! #### HBM -/

theorem execHbmRead_isNext (a : BitVec 48) (parity : Fin 6) (lane : BitVec 11) (sev : Fin 4) : IsNext (execHbmRead a parity lane sev s) := by
  fun_cases execHbmRead <;> exact isNext_next _
theorem execHbmWrite_isNext (a : BitVec 48) (data : List (Byte × Bool)) (parity : Fin 6) (lane : BitVec 11) : IsNext (execHbmWrite a data parity lane s) := by
  fun_cases execHbmWrite <;> exact isNext_next _
theorem execPatrolRead_isNext (n : Fin 8) (parity : Fin 6) (lane : BitVec 11) (sev : Fin 4) : IsNext (execPatrolRead n parity lane sev s) := by
  fun_cases execPatrolRead <;> exact isNext_next _
theorem execRowRepairStart_isNext (n : Fin 8) : IsNext (execRowRepairStart n s) := by fun_cases execRowRepairStart <;> exact isNext_next _
theorem execRowRepairDone_isNext (n : Fin 8) (unc : BitVec 32) : IsNext (execRowRepairDone n unc s) := by fun_cases execRowRepairDone <;> exact isNext_next _
theorem execRepairRecordFlashed_isNext : IsNext (execRepairRecordFlashed s) := by fun_cases execRepairRecordFlashed <;> exact isNext_next _
theorem execHbmModeStackDone_isNext : IsNext (execHbmModeStackDone s) := by fun_cases execHbmModeStackDone <;> exact isNext_next _
theorem execHbmScrubWrite_isNext (src : Src) (v : BitVec 64) : IsNext (execHbmScrubWrite src v s) := by fun_cases execHbmScrubWrite <;> exact isNext_next _

/-! #### Slate -/

theorem execSlateRead_isNext (r : Rq) (ro na : Bool) (a : BitVec 64) (n : Fin 129) : IsNext (execSlateRead r ro na a n s) := by
  fun_cases execSlateRead <;> exact isNext_next _
theorem execSlateWrite_isNext (r : Rq) (na : Bool) (a : BitVec 64) (data : List (Byte × Bool)) : IsNext (execSlateWrite r na a data s) := by
  fun_cases execSlateWrite <;> exact isNext_next _
theorem execSlateAtomic_isNext (r : Rq) (a : BitVec 64) (op : BitVec 4) (wide : Bool) (v cmp : BitVec 64) : IsNext (execSlateAtomic r a op wide v cmp s) := by
  fun_cases execSlateAtomic <;> exact isNext_next _
theorem execSlateFill_isNext (sl : Fin 16) (line : BitVec 64) (code : BitVec 16) (data : List Byte) (psn : BitVec 16) :
    IsNext (execSlateFill sl line code data psn s) := by
  fun_cases execSlateFill <;> exact isNext_next _
theorem execSlateFillEntryFree_isNext (sl : Fin 16) : IsNext (execSlateFillEntryFree sl s) := by fun_cases execSlateFillEntryFree <;> exact isNext_next _
theorem execSltAssignStart_isNext (p : Part) : IsNext (execSltAssignStart p s) := by fun_cases execSltAssignStart <;> exact isNext_next _
theorem execSltAssignDone_isNext (p : Part) : IsNext (execSltAssignDone p s) := by fun_cases execSltAssignDone <;> exact isNext_next _

/-! #### Region maintenance -/

theorem execRegionOpStart_isNext (p : Part) (r : Fin 8) : IsNext (execRegionOpStart p r s) := by fun_cases execRegionOpStart <;> exact isNext_next _
theorem execRegionWb_isNext (p : Part) (r : Fin 8) : IsNext (execRegionWb p r s) := by fun_cases execRegionWb <;> exact isNext_next _
theorem execRegionOpDone_isNext (p : Part) (r : Fin 8) : IsNext (execRegionOpDone p r s) := by fun_cases execRegionOpDone <;> exact isNext_next _

/-! #### DMA engines -/

theorem execDmaBlockSend_isNext (c : Clu) (n : Fin 64) : IsNext (execDmaBlockSend c n s) := by fun_cases execDmaBlockSend <;> exact isNext_next _

/-! #### Mica -/

theorem execPinScanDone_isNext (p : Part) (slot : Fin 8) : IsNext (execPinScanDone p slot s) := by fun_cases execPinScanDone <;> exact isNext_next _

/-! #### Mica's pipes -/

theorem execMicaDecodeStart_isNext (isRef : Bool) : IsNext (execMicaDecodeStart isRef s) := by fun_cases execMicaDecodeStart <;> exact isNext_next _
theorem execMicaDecodeDone_isNext (st : Fin 1024) (pic : MicaPic) : IsNext (execMicaDecodeDone st pic s) := by
  fun_cases execMicaDecodeDone <;> exact isNext_next _

/-! #### Jasper -/

theorem execJasperBatchStart_isNext : IsNext (execJasperBatchStart s) := by fun_cases execJasperBatchStart <;> exact isNext_next _
theorem execJasperBlockDone_isNext (b : Fin 128) : IsNext (execJasperBlockDone b s) := by fun_cases execJasperBlockDone <;> exact isNext_next _
theorem execJasperBatchDone_isNext : IsNext (execJasperBatchDone s) := by fun_cases execJasperBatchDone <;> exact isNext_next _

/-! #### Fabric time -/

theorem execPpsEdge_isNext : IsNext (execPpsEdge s) := by fun_cases execPpsEdge <;> exact isNext_next _
theorem execPpsSourceLost_isNext : IsNext (execPpsSourceLost s) := by fun_cases execPpsSourceLost <;> exact isNext_next _
theorem execFtSyncSend_isNext : IsNext (execFtSyncSend s) := by fun_cases execFtSyncSend <;> exact isNext_next _
theorem execSyncReq_isNext (n : Port) (p : Pkt) (rank hops src : BitVec 16) : IsNext (execSyncReq n p rank hops src s) := by
  fun_cases execSyncReq <;> exact isNext_next _
theorem execSyncRsp_isNext (n : Port) (p : Pkt) (rank hops src : BitVec 16) (t2 t3 : BitVec 64) : IsNext (execSyncRsp n p rank hops src t2 t3 s) := by
  fun_cases execSyncRsp <;> exact isNext_next _
theorem execElectSourceLost_isNext : IsNext (execElectSourceLost s) := by fun_cases execElectSourceLost <;> exact isNext_next _
theorem execHoldoverExpiry_isNext : IsNext (execHoldoverExpiry s) := by fun_cases execHoldoverExpiry <;> exact isNext_next _
theorem execFtNextArm_isNext (src : Src) : IsNext (execFtNextArm src s) := by fun_cases execFtNextArm <;> exact isNext_next _

/-! #### Stepper channels -/

theorem execSmGo_isNext (k : Fin 4) : IsNext (execSmGo k s) := by fun_cases execSmGo <;> exact isNext_next _
theorem execSmStop_isNext (k : Fin 4) : IsNext (execSmStop k s) := by fun_cases execSmStop <;> exact isNext_next _
theorem execSmResume_isNext (k : Fin 4) : IsNext (execSmResume k s) := by fun_cases execSmResume <;> exact isNext_next _
theorem execSmFlush_isNext (k : Fin 4) : IsNext (execSmFlush k s) := by fun_cases execSmFlush <;> exact isNext_next _
theorem execSmHome_isNext (k : Fin 4) : IsNext (execSmHome k s) := by fun_cases execSmHome <;> exact isNext_next _
theorem execSmClear_isNext (k : Fin 4) (trips low : Bool) : IsNext (execSmClear k trips low s) := by fun_cases execSmClear <;> exact isNext_next _
theorem execSmSetpos_isNext (k : Fin 4) : IsNext (execSmSetpos k s) := by fun_cases execSmSetpos <;> exact isNext_next _
theorem execSmCtlWrite_isNext (k : Fin 4) (src : Src) (v : BitVec 64) : IsNext (execSmCtlWrite k src v s) := by fun_cases execSmCtlWrite <;> exact isNext_next _
theorem execHoldDelayExpire_isNext (k : Fin 4) : IsNext (execHoldDelayExpire k s) := by fun_cases execHoldDelayExpire <;> exact isNext_next _
theorem execLowHeadroom_isNext (k : Fin 4) : IsNext (execLowHeadroom k s) := by fun_cases execLowHeadroom <;> exact isNext_next _
theorem execVderRecover_isNext (k : Fin 4) : IsNext (execVderRecover k s) := by fun_cases execVderRecover <;> exact isNext_next _
theorem execFaultShort_isNext (k : Fin 4) (leg : Fin 8) : IsNext (execFaultShort k leg s) := by fun_cases execFaultShort <;> exact isNext_next _
theorem execFaultStall_isNext (k : Fin 4) : IsNext (execFaultStall k s) := by fun_cases execFaultStall <;> exact isNext_next _

/-! #### Flint -/

theorem execMbRequest_isNext (bus : Bool) (cmd len : BitVec 8) (sent : Nat) (pecOk : Bool) : IsNext (execMbRequest bus cmd len sent pecOk s) := by
  fun_cases execMbRequest <;> exact isNext_next _
theorem execMbResponseReady_isNext (bus : Bool) : IsNext (execMbResponseReady bus s) := by fun_cases execMbResponseReady <;> exact isNext_next _
theorem execLogRead_isNext (bus : Bool) (seq : BitVec 32) (n : BitVec 8) : IsNext (execLogRead bus seq n s) := by fun_cases execLogRead <;> exact isNext_next _
theorem execFltLogAckWrite_isNext (src : Src) (seq : BitVec 32) : IsNext (execFltLogAckWrite src seq s) := by
  fun_cases execFltLogAckWrite <;> exact isNext_next _
theorem execPowerOn_isNext (bus : Bool) : IsNext (execPowerOn bus s) := by fun_cases execPowerOn <;> exact isNext_next _
theorem execFltAlertStatWrite_isNext (src : Src) (mask : BitVec 64) : IsNext (execFltAlertStatWrite src mask s) := by
  fun_cases execFltAlertStatWrite <;> exact isNext_next _
theorem execFltAlertMaskWrite_isNext (src : Src) (mask : BitVec 64) : IsNext (execFltAlertMaskWrite src mask s) := by
  fun_cases execFltAlertMaskWrite <;> exact isNext_next _
theorem execFltHbCfgWrite_isNext (src : Src) (v : BitVec 64) : IsNext (execFltHbCfgWrite src v s) := by fun_cases execFltHbCfgWrite <;> exact isNext_next _
theorem execFltExpertEnWrite_isNext (src : Src) (en : Bool) : IsNext (execFltExpertEnWrite src en s) := by
  fun_cases execFltExpertEnWrite <;> exact isNext_next _
theorem execFltScanWrite_isNext (src : Src) (en : Bool) : IsNext (execFltScanWrite src en s) := by fun_cases execFltScanWrite <;> exact isNext_next _
theorem execTapInstruction_isNext (dev : Fin 6) (ins : TapIns) : IsNext (execTapInstruction dev ins s) := by
  fun_cases execTapInstruction <;> exact isNext_next _
theorem execFlintBoot_isNext : IsNext (execFlintBoot s) := by fun_cases execFlintBoot <;> exact isNext_next _
theorem execFlintBootTimeout_isNext : IsNext (execFlintBootTimeout s) := by fun_cases execFlintBootTimeout <;> exact isNext_next _
theorem execFwStage_isNext (bus : Bool) (bank : BitVec 8) (off : BitVec 32) (data : List Byte) : IsNext (execFwStage bus bank off data s) := by
  fun_cases execFwStage <;> exact isNext_next _
theorem execFwCommit_isNext (bus : Bool) (bank : BitVec 8) (ok : Bool) (ver : BitVec 32) : IsNext (execFwCommit bus bank ok ver s) := by
  fun_cases execFwCommit <;> exact isNext_next _
theorem execFwAbort_isNext (bus : Bool) (bank : BitVec 8) : IsNext (execFwAbort bus bank s) := by fun_cases execFwAbort <;> exact isNext_next _
theorem execFwSwap_isNext (bus : Bool) : IsNext (execFwSwap bus s) := by fun_cases execFwSwap <;> exact isNext_next _
theorem execFwSwapReady_isNext : IsNext (execFwSwapReady s) := by fun_cases execFwSwapReady <;> exact isNext_next _
theorem execFwConfirm_isNext (bus : Bool) : IsNext (execFwConfirm bus s) := by fun_cases execFwConfirm <;> exact isNext_next _
theorem execFwRollback_isNext : IsNext (execFwRollback s) := by fun_cases execFwRollback <;> exact isNext_next _
theorem execDieHeartbeatToggle_isNext (d : Fin 5) : IsNext (execDieHeartbeatToggle d s) := by fun_cases execDieHeartbeatToggle <;> exact isNext_next _
theorem execTwinHbClassify_isNext (us : BitVec 16) (edge : Bool) : IsNext (execTwinHbClassify us edge s) := by
  fun_cases execTwinHbClassify <;> exact isNext_next _
theorem execTwinSuspect_isNext : IsNext (execTwinSuspect s) := by fun_cases execTwinSuspect <;> exact isNext_next _
theorem execFltHostHbWrite_isNext (src : Src) (w : BitVec 32) : IsNext (execFltHostHbWrite src w s) := by fun_cases execFltHostHbWrite <;> exact isNext_next _
theorem execHostWatchDisarm_isNext (src : Src) : IsNext (execHostWatchDisarm src s) := by fun_cases execHostWatchDisarm <;> exact isNext_next _
theorem execHostSample_isNext : IsNext (execHostSample s) := by fun_cases execHostSample <;> exact isNext_next _
theorem execFltAloneRelease_isNext (src : Src) : IsNext (execFltAloneRelease src s) := by fun_cases execFltAloneRelease <;> exact isNext_next _

/-! #### Twin pairing -/

theorem execTwBeatSend_isNext : IsNext (execTwBeatSend s) := by fun_cases execTwBeatSend <;> exact isNext_next _
theorem execTwBeat_isNext (p : Pkt) : IsNext (execTwBeat p s) := by fun_cases execTwBeat <;> exact isNext_next _
theorem execTwinLossConfirm_isNext : IsNext (execTwinLossConfirm s) := by fun_cases execTwinLossConfirm <;> exact isNext_next _
theorem execEpochStart_isNext (part : Part) : IsNext (execEpochStart part s) := by fun_cases execEpochStart <;> exact isNext_next _
theorem execTwBindSend_isNext : IsNext (execTwBindSend s) := by fun_cases execTwBindSend <;> exact isNext_next _
theorem execTwBind_isNext (p : Pkt) : IsNext (execTwBind p s) := by fun_cases execTwBind <;> exact isNext_next _
theorem execBindTimeout_isNext : IsNext (execBindTimeout s) := by fun_cases execBindTimeout <;> exact isNext_next _
theorem execAgtBind_isNext (src : Src) : IsNext (execAgtBind src s) := by fun_cases execAgtBind <;> exact isNext_next _
theorem execAgtUnbind_isNext (src : Src) : IsNext (execAgtUnbind src s) := by fun_cases execAgtUnbind <;> exact isNext_next _
theorem execReleasePeer_isNext (src : Src) : IsNext (execReleasePeer src s) := by fun_cases execReleasePeer <;> exact isNext_next _
theorem execAgtYield_isNext (src : Src) : IsNext (execAgtYield src s) := by fun_cases execAgtYield <;> exact isNext_next _
theorem execAgtHandback_isNext (src : Src) : IsNext (execAgtHandback src s) := by fun_cases execAgtHandback <;> exact isNext_next _
theorem execTwUnbind_isNext (p : Pkt) : IsNext (execTwUnbind p s) := by fun_cases execTwUnbind <;> exact isNext_next _
theorem execTwRelease_isNext (p : Pkt) : IsNext (execTwRelease p s) := by fun_cases execTwRelease <;> exact isNext_next _
theorem execTwEpoch_isNext (p : Pkt) : IsNext (execTwEpoch p s) := by fun_cases execTwEpoch <;> exact isNext_next _
theorem execMirWr_isNext (p : Pkt) : IsNext (execMirWr p s) := by fun_cases execMirWr <;> exact isNext_next _
theorem execTableImageWrite_isNext : IsNext (execTableImageWrite s) := by fun_cases execTableImageWrite <;> exact isNext_next _
theorem execTakeoverProbe_isNext : IsNext (execTakeoverProbe s) := by fun_cases execTakeoverProbe <;> exact isNext_next _
theorem execTakeoverAssume_isNext (img0 img1 : Bool) : IsNext (execTakeoverAssume img0 img1 s) := by fun_cases execTakeoverAssume <;> exact isNext_next _
theorem execAgtAdopt_isNext (src : Src) (part : Part) (rs : List MirRange) : IsNext (execAgtAdopt src part rs s) := by
  fun_cases execAgtAdopt <;> exact isNext_next _
theorem execTwRestore_isNext (p : Pkt) : IsNext (execTwRestore p s) := by fun_cases execTwRestore <;> exact isNext_next _
theorem execResilverPassEnd_isNext : IsNext (execResilverPassEnd s) := by fun_cases execResilverPassEnd <;> exact isNext_next _
theorem execHandbackDrainDone_isNext : IsNext (execHandbackDrainDone s) := by fun_cases execHandbackDrainDone <;> exact isNext_next _
theorem execTwHandback_isNext (p : Pkt) : IsNext (execTwHandback p s) := by fun_cases execTwHandback <;> exact isNext_next _

/-! #### Partition reset -/

theorem execFlrVf_isNext (p : Part) : IsNext (execFlrVf p s) := by fun_cases execFlrVf <;> exact isNext_next _
theorem execPartitionResetDone_isNext (p : Part) : IsNext (execPartitionResetDone p s) := by fun_cases execPartitionResetDone <;> exact isNext_next _
theorem execOrphanContextExpiry_isNext (i : Fin 131072) : IsNext (execOrphanContextExpiry i s) := by fun_cases execOrphanContextExpiry <;> exact isNext_next _
theorem execPartitionQuiesced_isNext (p : Part) : IsNext (execPartitionQuiesced p s) := by fun_cases execPartitionQuiesced <;> exact isNext_next _

/-! #### Host rings and apertures -/

theorem execSqDoorbell_isNext (src : Src) (r : Fin 256) (v : BitVec 32) : IsNext (execSqDoorbell src r v s) := by
  fun_cases execSqDoorbell <;> exact isNext_next _
theorem execCqDoorbell_isNext (src : Src) (r : Fin 256) (v : BitVec 32) : IsNext (execCqDoorbell src r v s) := by
  fun_cases execCqDoorbell <;> exact isNext_next _
theorem execMsixTimer_isNext (r : Fin 256) : IsNext (execMsixTimer r s) := by fun_cases execMsixTimer <;> exact isNext_next _
theorem execApertureRead_isNext (src : Src) (off n : Nat) : IsNext (execApertureRead src off n s) := by fun_cases execApertureRead <;> exact isNext_next _
theorem execApertureWrite_isNext (src : Src) (off : Nat) (d : List (Byte × Bool)) : IsNext (execApertureWrite src off d s) := by
  fun_cases execApertureWrite <;> exact isNext_next _
theorem execHostLinkDown_isNext : IsNext (execHostLinkDown s) := by fun_cases execHostLinkDown <;> exact isNext_next _
theorem execHostLinkUp_isNext (rate : Fin 4) (width : Fin 32) (flit : Bool) : IsNext (execHostLinkUp rate width flit s) := by
  fun_cases execHostLinkUp <;> exact isNext_next _
theorem execSqFetch_isNext (e : List Byte) (err : Bool) : IsNext (execSqFetch e err s) := by fun_cases execSqFetch <;> exact isNext_next _

/-! #### Host commands -/

theorem execLaunchClusterStart_isNext (c : Clu) (img : List (Byte × Bool)) : IsNext (execLaunchClusterStart c img s) := by
  fun_cases execLaunchClusterStart <;> exact isNext_next _
theorem execCopyDone_isNext (id : Nat) : IsNext (execCopyDone id s) := by fun_cases execCopyDone <;> exact isNext_next _
theorem execGrantFillDone_isNext (g : Fin 4096) : IsNext (execGrantFillDone g s) := by fun_cases execGrantFillDone <;> exact isNext_next _
theorem execRevokeDone_isNext (g : Fin 4096) : IsNext (execRevokeDone g s) := by fun_cases execRevokeDone <;> exact isNext_next _

/-! #### Transaction contexts -/

theorem execCtxTimeout_isNext (i : Fin 131072) : IsNext (execCtxTimeout i s) := by fun_cases execCtxTimeout <;> exact isNext_next _
theorem execQuotaContextGranted_isNext (part : Fin 18) : IsNext (execQuotaContextGranted part s) := by fun_cases execQuotaContextGranted <;> exact isNext_next _
theorem execQuotaWaitTimeout_isNext (part : Fin 18) : IsNext (execQuotaWaitTimeout part s) := by fun_cases execQuotaWaitTimeout <;> exact isNext_next _
theorem execBusyResend_isNext (i : Fin 131072) : IsNext (execBusyResend i s) := by fun_cases execBusyResend <;> exact isNext_next _

/-! #### Lanes of a port -/

theorem execLinkBlockTx_isNext (n : Port) : IsNext (execLinkBlockTx n s) := by fun_cases execLinkBlockTx <;> exact isNext_next _
theorem execLinkBlockRx_isNext (n : Port) (b : LinkBlk) (bad crc : Bool) : IsNext (execLinkBlockRx n b bad crc s) := by
  fun_cases execLinkBlockRx <;> exact isNext_next _
theorem execAlignBlock_isNext (n : Port) (time echo : BitVec 32) (hasEcho : Bool) (proc skew : BitVec 12) :
    IsNext (execAlignBlock n time echo hasEcho proc skew s) := by
  fun_cases execAlignBlock <;> exact isNext_next _
theorem execFcState_isNext (n : Port) (arg : BitVec 9) : IsNext (execFcState n arg s) := by fun_cases execFcState <;> exact isNext_next _
theorem execTrainingFrameRx_isNext (n : Port) (lane : Fin 9) (f : TrainFrame) : IsNext (execTrainingFrameRx n lane f s) := by
  fun_cases execTrainingFrameRx <;> exact isNext_next _
theorem execBringupStageDone_isNext (n : Port) : IsNext (execBringupStageDone n s) := by fun_cases execBringupStageDone <;> exact isNext_next _
theorem execBringupStageTimeout_isNext (n : Port) (cause : Fin 7) : IsNext (execBringupStageTimeout n cause s) := by
  fun_cases execBringupStageTimeout <;> exact isNext_next _
theorem execBringupRestart_isNext (n : Port) : IsNext (execBringupRestart n s) := by fun_cases execBringupRestart <;> exact isNext_next _
theorem execDownHoldEnd_isNext (n : Port) : IsNext (execDownHoldEnd n s) := by fun_cases execDownHoldEnd <;> exact isNext_next _
theorem execFomWindowEnd_isNext (n : Port) (lane : Fin 9) (errors : BitVec 28) (short : Bool) : IsNext (execFomWindowEnd n lane errors short s) := by
  fun_cases execFomWindowEnd <;> exact isNext_next _
theorem execSpareCheck_isNext (n : Port) : IsNext (execSpareCheck n s) := by fun_cases execSpareCheck <;> exact isNext_next _
theorem execSwapReq_isNext (n : Port) (k : Fin 8) : IsNext (execSwapReq n k s) := by fun_cases execSwapReq <;> exact isNext_next _
theorem execSwapRdy_isNext (n : Port) (k : Fin 8) : IsNext (execSwapRdy n k s) := by fun_cases execSwapRdy <;> exact isNext_next _
theorem execSwapDone_isNext (n : Port) (k : Fin 8) : IsNext (execSwapDone n k s) := by fun_cases execSwapDone <;> exact isNext_next _
theorem execSwapFail_isNext (n : Port) (k : Fin 8) : IsNext (execSwapFail n k s) := by fun_cases execSwapFail <;> exact isNext_next _
theorem execDozeEnter_isNext (n : Port) : IsNext (execDozeEnter n s) := by fun_cases execDozeEnter <;> exact isNext_next _
theorem execLinkDoze_isNext (n : Port) : IsNext (execLinkDoze n s) := by fun_cases execLinkDoze <;> exact isNext_next _
theorem execDozeWake_isNext (n : Port) : IsNext (execDozeWake n s) := by fun_cases execDozeWake <;> exact isNext_next _
theorem execRestEnter_isNext (n : Port) : IsNext (execRestEnter n s) := by fun_cases execRestEnter <;> exact isNext_next _
theorem execRestReq_isNext (n : Port) : IsNext (execRestReq n s) := by fun_cases execRestReq <;> exact isNext_next _
theorem execRestAck_isNext (n : Port) : IsNext (execRestAck n s) := by fun_cases execRestAck <;> exact isNext_next _
theorem execWakeBeacon_isNext (n : Port) : IsNext (execWakeBeacon n s) := by fun_cases execWakeBeacon <;> exact isNext_next _
theorem execLosDeclare_isNext (n : Port) (lane : Fin 9) : IsNext (execLosDeclare n lane s) := by fun_cases execLosDeclare <;> exact isNext_next _
theorem execQreqQuiesce_isNext (n : Port) (src : Src) : IsNext (execQreqQuiesce n src s) := by fun_cases execQreqQuiesce <;> exact isNext_next _
theorem execLinkQuiesce_isNext (n : Port) : IsNext (execLinkQuiesce n s) := by fun_cases execLinkQuiesce <;> exact isNext_next _
theorem execQuiesceAck_isNext (n : Port) : IsNext (execQuiesceAck n s) := by fun_cases execQuiesceAck <;> exact isNext_next _
theorem execQuiesceDrainEnd_isNext (n : Port) : IsNext (execQuiesceDrainEnd n s) := by fun_cases execQuiesceDrainEnd <;> exact isNext_next _
theorem execQreqResume_isNext (n : Port) (src : Src) : IsNext (execQreqResume n src s) := by fun_cases execQreqResume <;> exact isNext_next _
theorem execForceSwap_isNext (n : Port) (src : Src) (k : Fin 8) : IsNext (execForceSwap n src k s) := by fun_cases execForceSwap <;> exact isNext_next _
theorem execPortTestMode_isNext (n : Port) (src : Src) (test loop : Bool) : IsNext (execPortTestMode n src test loop s) := by
  fun_cases execPortTestMode <;> exact isNext_next _
theorem execFomMinClr_isNext (n : Port) (lane : Fin 9) (src : Src) : IsNext (execFomMinClr n lane src s) := by fun_cases execFomMinClr <;> exact isNext_next _
theorem execLinkReset_isNext (n : Port) (src : Src) : IsNext (execLinkReset n src s) := by fun_cases execLinkReset <;> exact isNext_next _
theorem execAgateLinkReset_isNext (src : Src) : IsNext (execAgateLinkReset src s) := by fun_cases execAgateLinkReset <;> exact isNext_next _
theorem execPacketTransmit_isNext (n : Port) : IsNext (execPacketTransmit n s) := by fun_cases execPacketTransmit <;> exact isNext_next _

/-! #### Island reset -/

theorem execIslandResetDrainEnd_isNext (i : Fin 305) : IsNext (execIslandResetDrainEnd i s) := by fun_cases execIslandResetDrainEnd <;> exact isNext_next _
theorem execIslandResetRelease_isNext (i : Fin 305) : IsNext (execIslandResetRelease i s) := by fun_cases execIslandResetRelease <;> exact isNext_next _

/-! #### Errors and spares -/

theorem execIslandResetTimeout_isNext (i : Fin 305) : IsNext (execIslandResetTimeout i s) := by fun_cases execIslandResetTimeout <;> exact isNext_next _
theorem execCrossingTransfer_isNext (snd rcv : Fin 305) (whole room : Bool) : IsNext (execCrossingTransfer snd rcv whole room s) := by
  fun_cases execCrossingTransfer <;> exact isNext_next _
theorem execCrossingStall_isNext (snd rcv : Fin 305) : IsNext (execCrossingStall snd rcv s) := by fun_cases execCrossingStall <;> exact isNext_next _
theorem execCrossingEscalate_isNext (snd rcv : Fin 305) : IsNext (execCrossingEscalate snd rcv s) := by fun_cases execCrossingEscalate <;> exact isNext_next _
theorem execSpareMapStart_isNext (ch : Fin 4) : IsNext (execSpareMapStart ch s) := by fun_cases execSpareMapStart <;> exact isNext_next _
theorem execSpareMapDone_isNext (ch : Fin 4) (bad : Bool) : IsNext (execSpareMapDone ch bad s) := by fun_cases execSpareMapDone <;> exact isNext_next _
theorem execSpareFlashDone_isNext (ch : Fin 4) : IsNext (execSpareFlashDone ch s) := by fun_cases execSpareFlashDone <;> exact isNext_next _
theorem execSramRowRepairStart_isNext (isl : Fin 288) (bank : Fin 16) (row : BitVec 16) (unc : Bool) : IsNext (execSramRowRepairStart isl bank row unc s) := by
  fun_cases execSramRowRepairStart <;> exact isNext_next _
theorem execSramRowRepairDone_isNext (isl : Fin 288) (bank : Fin 16) : IsNext (execSramRowRepairDone isl bank s) := by
  fun_cases execSramRowRepairDone <;> exact isNext_next _
theorem execDieHbLost_isNext (d : Fin 5) : IsNext (execDieHbLost d s) := by fun_cases execDieHbLost <;> exact isNext_next _
theorem execTrackingRailLoss_isNext (r : Fin 7) : IsNext (execTrackingRailLoss r s) := by fun_cases execTrackingRailLoss <;> exact isNext_next _
theorem execRailLossDiesFailed_isNext (r : Fin 7) : IsNext (execRailLossDiesFailed r s) := by fun_cases execRailLossDiesFailed <;> exact isNext_next _

/-! #### Loop channels -/

theorem execLoopTick_isNext (c : Fin 16) (fb chk : BitVec 32) : IsNext (execLoopTick c fb chk s) := by fun_cases execLoopTick <;> exact isNext_next _
theorem execAdcConversionDone_isNext (k : Fin 8) (code : BitVec 12) : IsNext (execAdcConversionDone k code s) := by
  fun_cases execAdcConversionDone <;> exact isNext_next _
theorem execPulsePeriod_isNext (k : Fin 2) (high per : BitVec 32) : IsNext (execPulsePeriod k high per s) := by
  fun_cases execPulsePeriod <;> exact isNext_next _
theorem execPulseInputLost_isNext (k : Fin 2) : IsNext (execPulseInputLost k s) := by fun_cases execPulseInputLost <;> exact isNext_next _

/-! #### Packets -/

theorem execReadAgentPush_isNext : IsNext (execReadAgentPush s) := by fun_cases execReadAgentPush <;> exact isNext_next _
theorem execLocalRepairReroute_isNext (n : Port) : IsNext (execLocalRepairReroute n s) := by fun_cases execLocalRepairReroute <;> exact isNext_next _
theorem execHelloSend_isNext (n : Port) : IsNext (execHelloSend n s) := by fun_cases execHelloSend <;> exact isNext_next _
theorem execHelloTimeout_isNext (n : Port) : IsNext (execHelloTimeout n s) := by fun_cases execHelloTimeout <;> exact isNext_next _
theorem execClxContrib_isNext (o : ClxSrc) : IsNext (execClxContrib o s) := by fun_cases execClxContrib <;> exact isNext_next _
theorem execTakeoverStart_isNext : IsNext (execTakeoverStart s) := by fun_cases execTakeoverStart <;> exact isNext_next _

/-! #### Resets -/

theorem execAqgenWatchdog_isNext : IsNext (execAqgenWatchdog s) := by fun_cases execAqgenWatchdog <;> exact isNext_next _
theorem execModuleResetEntry_isNext : IsNext (execModuleResetEntry s) := by fun_cases execModuleResetEntry <;> exact isNext_next _
theorem execModuleResetEnd_isNext : IsNext (execModuleResetEnd s) := by fun_cases execModuleResetEnd <;> exact isNext_next _
theorem execDieInitTimeout_isNext (d : Fin 5) : IsNext (execDieInitTimeout d s) := by fun_cases execDieInitTimeout <;> exact isNext_next _
theorem execMemInitDone_isNext : IsNext (execMemInitDone s) := by fun_cases execMemInitDone <;> exact isNext_next _
theorem execMemInitTimeout_isNext : IsNext (execMemInitTimeout s) := by fun_cases execMemInitTimeout <;> exact isNext_next _
theorem execRefclkLoss_isNext : IsNext (execRefclkLoss s) := by fun_cases execRefclkLoss <;> exact isNext_next _
theorem execRefclkReturn_isNext : IsNext (execRefclkReturn s) := by fun_cases execRefclkReturn <;> exact isNext_next _
theorem execQuiesceTimeout_isNext (p : Part) : IsNext (execQuiesceTimeout p s) := by fun_cases execQuiesceTimeout <;> exact isNext_next _

/-! #### Register writes -/

theorem execPartSnap_isNext (p : Part) (src : Src) : IsNext (execPartSnap p src s) := by fun_cases execPartSnap <;> exact isNext_next _
theorem execRegisterWrite_isNext (src : Src) (half : Bool) (a : BitVec 48) (v : BitVec 64) : IsNext (execRegisterWrite src half a v s) := by
  fun_cases execRegisterWrite <;> exact isNext_next _

/-! #### Management commands -/

theorem execMgExecute_isNext : IsNext (execMgExecute s) := by fun_cases execMgExecute <;> exact isNext_next _

/-! #### SYS instructions -/

theorem execSysHaltComplete_isNext (c : Clu) : IsNext (execSysHaltComplete c s) := by fun_cases execSysHaltComplete <;> exact isNext_next _
theorem execFetchOutsideCodeRange_isNext (x : Iss) : IsNext (execFetchOutsideCodeRange x s) := by fun_cases execFetchOutsideCodeRange <;> exact isNext_next _

end

/-- Every command answers a next state: those first have one outcome only, the others branch. -/
theorem exec_isNext (c : Instr) (s : State) : IsNext (exec c s) := by
  cases c with
  | aluAdd | aluSub | aluAnd | aluOr | aluXor | andn | aluShl | aluShr | aluSar | aluMin | aluMax | minu | maxu | aluMul | mulh | mulhu | aluDiv |
    divu | aluRem | remu | clz | ctz | popc | cmpEq | cmpNe | cmpLt | cmpLtu | cmpGe | cmpGeu | pAnd | pOr | pXor | pAndn | pTog | pFromg | addi |
    andi | ori | xori | shli | shri | sari | cmpiEq | cmpiLt | cmpiLtu | aluLi | lis | aluSel | brJr | brJalr | brBc | brJ | brJal | ldB | ldBu | ldH
    | ldHu | ldW | ldWu | ldD | stB | stH | stW | stD | ldV | stV | amoW | amoD | dmaCp | dmaCp2 | dmaCpx | dmaWait | dmaWaitall | dmaStat | synSigl |
    synSig | synWait | synTry | synTwait | synDrain | synPost | synRdsem | sysHalt | sysFret | sysCtlr | sysCtlw | sysNop | vecAddI | vecSubI |
    vecMulI | vecMinI | vecMaxI | vecMinU | vecMaxU | vecAnd | vecOr | vecXor | vecShl | vecShr | vecSar | vecAddF | vecSubF | vecMulF | vecFmaF |
    vecMinF | vecMaxF | vecDivF | vecSqrtF | vecRcpF | vecRsqF | vecExp2F | vecLog2F | vecCmp | vecSel | vecBc | vecExt | vecIns | vecIdx | vecPerm |
    vecCvt | vecMxq | vecMxd | vecRsumF | vecRsumI | vecRmaxF | vecRminF | vecMsk | vecGth | vecSct | vecFlg | tmmCfg | tmmMm | tmmSt | tmmLd |
    tmmZero | tmmTov | tmmFrv | untCpro | untCp2ro | untRgn | untNcinv | sysGrpDef | sysGrpDel | sysGrpStat | sysCwait | tmmAr | tmmRs | vecAr | vecAg
    | untMcmd | untJcmd | undefinedInstruction | coldReset | v3p3sbLoss | dieError | dieOvertemp | getId | getStatus | mbReadReg | mbWriteReg | logAck
    | pwrCapSet | powerOff | moduleReset | alertClear | hostReadyEntry | ftCfgWrite | partGo | flrPf | islandReset | perstNAssert | perstNRelease |
    ncFill | regionFlush | regionInv | regionPrefetch | regionZero | regionNcinv | regionRinv | sltAssignGo | sltSliceGo | hbmModeReq | hbmMirrorWrite
    | hbmRprReqGo | hbmStackFail | qtzPortPwrWrite | packetForward | bulkRouteRetry | pktWr | pktRd | pktPush | pktAmo | pktSig | pktRsp | linkHello |
    mgReq | mgPreq | mgRsp | mgPrsp | readReg | writeReg | getNbr | setId | rtWrite | rtCommit | setMoved | mgTrap | idMoved | idReturn |
    qtzPartCfgWrite | grpActivationMark | clxResult | clxAbort | agtMrWrite | agtEpochGo | hostEpoch | hstRingCfgWrite | hstPartCtlWrite | hostNop |
    hostLaunch | hostCopy | partCreate | partDestroy | grant | grantMod | revoke | mgSend | mgRecv | micaOpen | micaClose | micaFeed | micaCredit |
    cacheCfg | micaPin | micaLagBegin | micaSnap | jasperRun | tachTimeout | lpCtlWrite | lpSrcWrite | lpParWrite | lpCoefWrite | plFaultClear |
    profileUpdate | faultSupply | clusterFail | spareReqGo | builtInTestFault => exact isNext_next _
  | v48Sample => exact execV48Sample_isNext ..
  | sagLevelExit => exact execSagLevelExit_isNext ..
  | clockTrim => exact execClockTrim_isNext ..
  | islandSagDetect => exact execIslandSagDetect_isNext ..
  | stretchStepDown => exact execStretchStepDown_isNext ..
  | stretchRecover => exact execStretchRecover_isNext ..
  | freqTransitionDone => exact execFreqTransitionDone_isNext ..
  | sensorFault => exact execSensorFault_isNext ..
  | persistentSag => exact execPersistentSag_isNext ..
  | persistentSagLower => exact execPersistentSagLower_isNext ..
  | persistentSagClear => exact execPersistentSagClear_isNext ..
  | v12auxLoss => exact execV12auxLoss_isNext ..
  | v12auxRestore => exact execV12auxRestore_isNext ..
  | v48Qualified => exact execV48Qualified_isNext ..
  | railPgTimeout => exact execRailPgTimeout_isNext ..
  | railSeqRetry => exact execRailSeqRetry_isNext ..
  | v48Restart => exact execV48Restart_isNext ..
  | islPstateWrite => exact execIslPstateWrite_isNext ..
  | islPwrCapWrite => exact execIslPwrCapWrite_isNext ..
  | islFreqWrite => exact execIslFreqWrite_isNext ..
  | islStrCfgWrite => exact execIslStrCfgWrite_isNext ..
  | v48MinClr => exact execV48MinClr_isNext ..
  | railPowerGood => exact execRailPowerGood_isNext ..
  | v48Lockout => exact execV48Lockout_isNext ..
  | dieInitDone => exact execDieInitDone_isNext ..
  | linkUpTimeout => exact execLinkUpTimeout_isNext ..
  | fltStartWrite => exact execFltStartWrite_isNext ..
  | devStartSoloWrite => exact execDevStartSoloWrite_isNext ..
  | modRstNAssert => exact execModRstNAssert_isNext ..
  | modRstHeldLong => exact execModRstHeldLong_isNext ..
  | devRstModule => exact execDevRstModule_isNext ..
  | signalArrive => exact execSignalArrive_isNext ..
  | synWaitSatisfied => exact execSynWaitSatisfied_isNext ..
  | synWaitTimeout => exact execSynWaitTimeout_isNext ..
  | synTwaitExpire => exact execSynTwaitExpire_isNext ..
  | synDrainDone => exact execSynDrainDone_isNext ..
  | synPostResume => exact execSynPostResume_isNext ..
  | tnsQueueRoom => exact execTnsQueueRoom_isNext ..
  | tensorUnitStart => exact execTensorUnitStart_isNext ..
  | tensorOpComplete => exact execTensorOpComplete_isNext ..
  | clxLoadingWaitTimeout => exact execClxLoadingWaitTimeout_isNext ..
  | grpMarkResend => exact execGrpMarkResend_isNext ..
  | grpActivateTimeout => exact execGrpActivateTimeout_isNext ..
  | clxStepTimeout => exact execClxStepTimeout_isNext ..
  | clxSlotTimeout => exact execClxSlotTimeout_isNext ..
  | dmaIssueResume => exact execDmaIssueResume_isNext ..
  | dmaWaitDone => exact execDmaWaitDone_isNext ..
  | dmaSlotComplete => exact execDmaSlotComplete_isNext ..
  | hbmRead => exact execHbmRead_isNext ..
  | hbmWrite => exact execHbmWrite_isNext ..
  | patrolRead => exact execPatrolRead_isNext ..
  | rowRepairStart => exact execRowRepairStart_isNext ..
  | rowRepairDone => exact execRowRepairDone_isNext ..
  | repairRecordFlashed => exact execRepairRecordFlashed_isNext ..
  | hbmModeStackDone => exact execHbmModeStackDone_isNext ..
  | hbmScrubWrite => exact execHbmScrubWrite_isNext ..
  | slateRead => exact execSlateRead_isNext ..
  | slateWrite => exact execSlateWrite_isNext ..
  | slateAtomic => exact execSlateAtomic_isNext ..
  | slateFill => exact execSlateFill_isNext ..
  | slateFillEntryFree => exact execSlateFillEntryFree_isNext ..
  | sltAssignStart => exact execSltAssignStart_isNext ..
  | sltAssignDone => exact execSltAssignDone_isNext ..
  | regionOpStart => exact execRegionOpStart_isNext ..
  | regionWb => exact execRegionWb_isNext ..
  | regionOpDone => exact execRegionOpDone_isNext ..
  | dmaBlockSend => exact execDmaBlockSend_isNext ..
  | pinScanDone => exact execPinScanDone_isNext ..
  | micaDecodeStart => exact execMicaDecodeStart_isNext ..
  | micaDecodeDone => exact execMicaDecodeDone_isNext ..
  | jasperBatchStart => exact execJasperBatchStart_isNext ..
  | jasperBlockDone => exact execJasperBlockDone_isNext ..
  | jasperBatchDone => exact execJasperBatchDone_isNext ..
  | ppsEdge => exact execPpsEdge_isNext ..
  | ppsSourceLost => exact execPpsSourceLost_isNext ..
  | ftSyncSend => exact execFtSyncSend_isNext ..
  | syncReq => exact execSyncReq_isNext ..
  | syncRsp => exact execSyncRsp_isNext ..
  | electSourceLost => exact execElectSourceLost_isNext ..
  | holdoverExpiry => exact execHoldoverExpiry_isNext ..
  | ftNextArm => exact execFtNextArm_isNext ..
  | smGo => exact execSmGo_isNext ..
  | smStop => exact execSmStop_isNext ..
  | smResume => exact execSmResume_isNext ..
  | smFlush => exact execSmFlush_isNext ..
  | smHome => exact execSmHome_isNext ..
  | smClear => exact execSmClear_isNext ..
  | smSetpos => exact execSmSetpos_isNext ..
  | smCtlWrite => exact execSmCtlWrite_isNext ..
  | holdDelayExpire => exact execHoldDelayExpire_isNext ..
  | lowHeadroom => exact execLowHeadroom_isNext ..
  | vderRecover => exact execVderRecover_isNext ..
  | faultShort => exact execFaultShort_isNext ..
  | faultStall => exact execFaultStall_isNext ..
  | mbRequest => exact execMbRequest_isNext ..
  | mbResponseReady => exact execMbResponseReady_isNext ..
  | logRead => exact execLogRead_isNext ..
  | fltLogAckWrite => exact execFltLogAckWrite_isNext ..
  | powerOn => exact execPowerOn_isNext ..
  | fltAlertStatWrite => exact execFltAlertStatWrite_isNext ..
  | fltAlertMaskWrite => exact execFltAlertMaskWrite_isNext ..
  | fltHbCfgWrite => exact execFltHbCfgWrite_isNext ..
  | fltExpertEnWrite => exact execFltExpertEnWrite_isNext ..
  | fltScanWrite => exact execFltScanWrite_isNext ..
  | tapInstruction => exact execTapInstruction_isNext ..
  | flintBoot => exact execFlintBoot_isNext ..
  | flintBootTimeout => exact execFlintBootTimeout_isNext ..
  | fwStage => exact execFwStage_isNext ..
  | fwCommit => exact execFwCommit_isNext ..
  | fwAbort => exact execFwAbort_isNext ..
  | fwSwap => exact execFwSwap_isNext ..
  | fwSwapReady => exact execFwSwapReady_isNext ..
  | fwConfirm => exact execFwConfirm_isNext ..
  | fwRollback => exact execFwRollback_isNext ..
  | dieHeartbeatToggle => exact execDieHeartbeatToggle_isNext ..
  | twinHbClassify => exact execTwinHbClassify_isNext ..
  | twinSuspect => exact execTwinSuspect_isNext ..
  | fltHostHbWrite => exact execFltHostHbWrite_isNext ..
  | hostWatchDisarm => exact execHostWatchDisarm_isNext ..
  | hostSample => exact execHostSample_isNext ..
  | fltAloneRelease => exact execFltAloneRelease_isNext ..
  | twBeatSend => exact execTwBeatSend_isNext ..
  | twBeat => exact execTwBeat_isNext ..
  | twinLossConfirm => exact execTwinLossConfirm_isNext ..
  | epochStart => exact execEpochStart_isNext ..
  | twBindSend => exact execTwBindSend_isNext ..
  | twBind => exact execTwBind_isNext ..
  | bindTimeout => exact execBindTimeout_isNext ..
  | agtBind => exact execAgtBind_isNext ..
  | agtUnbind => exact execAgtUnbind_isNext ..
  | releasePeer => exact execReleasePeer_isNext ..
  | agtYield => exact execAgtYield_isNext ..
  | agtHandback => exact execAgtHandback_isNext ..
  | twUnbind => exact execTwUnbind_isNext ..
  | twRelease => exact execTwRelease_isNext ..
  | twEpoch => exact execTwEpoch_isNext ..
  | mirWr => exact execMirWr_isNext ..
  | tableImageWrite => exact execTableImageWrite_isNext ..
  | takeoverProbe => exact execTakeoverProbe_isNext ..
  | takeoverAssume => exact execTakeoverAssume_isNext ..
  | agtAdopt => exact execAgtAdopt_isNext ..
  | twRestore => exact execTwRestore_isNext ..
  | resilverPassEnd => exact execResilverPassEnd_isNext ..
  | handbackDrainDone => exact execHandbackDrainDone_isNext ..
  | twHandback => exact execTwHandback_isNext ..
  | flrVf => exact execFlrVf_isNext ..
  | partitionResetDone => exact execPartitionResetDone_isNext ..
  | orphanContextExpiry => exact execOrphanContextExpiry_isNext ..
  | partitionQuiesced => exact execPartitionQuiesced_isNext ..
  | sqDoorbell => exact execSqDoorbell_isNext ..
  | cqDoorbell => exact execCqDoorbell_isNext ..
  | msixTimer => exact execMsixTimer_isNext ..
  | apertureRead => exact execApertureRead_isNext ..
  | apertureWrite => exact execApertureWrite_isNext ..
  | hostLinkDown => exact execHostLinkDown_isNext ..
  | hostLinkUp => exact execHostLinkUp_isNext ..
  | sqFetch => exact execSqFetch_isNext ..
  | launchClusterStart => exact execLaunchClusterStart_isNext ..
  | copyDone => exact execCopyDone_isNext ..
  | grantFillDone => exact execGrantFillDone_isNext ..
  | revokeDone => exact execRevokeDone_isNext ..
  | ctxTimeout => exact execCtxTimeout_isNext ..
  | quotaContextGranted => exact execQuotaContextGranted_isNext ..
  | quotaWaitTimeout => exact execQuotaWaitTimeout_isNext ..
  | busyResend => exact execBusyResend_isNext ..
  | linkBlockTx => exact execLinkBlockTx_isNext ..
  | linkBlockRx => exact execLinkBlockRx_isNext ..
  | alignBlock => exact execAlignBlock_isNext ..
  | fcState => exact execFcState_isNext ..
  | trainingFrameRx => exact execTrainingFrameRx_isNext ..
  | bringupStageDone => exact execBringupStageDone_isNext ..
  | bringupStageTimeout => exact execBringupStageTimeout_isNext ..
  | bringupRestart => exact execBringupRestart_isNext ..
  | downHoldEnd => exact execDownHoldEnd_isNext ..
  | fomWindowEnd => exact execFomWindowEnd_isNext ..
  | spareCheck => exact execSpareCheck_isNext ..
  | swapReq => exact execSwapReq_isNext ..
  | swapRdy => exact execSwapRdy_isNext ..
  | swapDone => exact execSwapDone_isNext ..
  | swapFail => exact execSwapFail_isNext ..
  | dozeEnter => exact execDozeEnter_isNext ..
  | linkDoze => exact execLinkDoze_isNext ..
  | dozeWake => exact execDozeWake_isNext ..
  | restEnter => exact execRestEnter_isNext ..
  | restReq => exact execRestReq_isNext ..
  | restAck => exact execRestAck_isNext ..
  | wakeBeacon => exact execWakeBeacon_isNext ..
  | losDeclare => exact execLosDeclare_isNext ..
  | qreqQuiesce => exact execQreqQuiesce_isNext ..
  | linkQuiesce => exact execLinkQuiesce_isNext ..
  | quiesceAck => exact execQuiesceAck_isNext ..
  | quiesceDrainEnd => exact execQuiesceDrainEnd_isNext ..
  | qreqResume => exact execQreqResume_isNext ..
  | forceSwap => exact execForceSwap_isNext ..
  | portTestMode => exact execPortTestMode_isNext ..
  | fomMinClr => exact execFomMinClr_isNext ..
  | linkReset => exact execLinkReset_isNext ..
  | agateLinkReset => exact execAgateLinkReset_isNext ..
  | packetTransmit => exact execPacketTransmit_isNext ..
  | islandResetDrainEnd => exact execIslandResetDrainEnd_isNext ..
  | islandResetRelease => exact execIslandResetRelease_isNext ..
  | islandResetTimeout => exact execIslandResetTimeout_isNext ..
  | crossingTransfer => exact execCrossingTransfer_isNext ..
  | crossingStall => exact execCrossingStall_isNext ..
  | crossingEscalate => exact execCrossingEscalate_isNext ..
  | spareMapStart => exact execSpareMapStart_isNext ..
  | spareMapDone => exact execSpareMapDone_isNext ..
  | spareFlashDone => exact execSpareFlashDone_isNext ..
  | sramRowRepairStart => exact execSramRowRepairStart_isNext ..
  | sramRowRepairDone => exact execSramRowRepairDone_isNext ..
  | dieHbLost => exact execDieHbLost_isNext ..
  | trackingRailLoss => exact execTrackingRailLoss_isNext ..
  | railLossDiesFailed => exact execRailLossDiesFailed_isNext ..
  | loopTick => exact execLoopTick_isNext ..
  | adcConversionDone => exact execAdcConversionDone_isNext ..
  | pulsePeriod => exact execPulsePeriod_isNext ..
  | pulseInputLost => exact execPulseInputLost_isNext ..
  | readAgentPush => exact execReadAgentPush_isNext ..
  | localRepairReroute => exact execLocalRepairReroute_isNext ..
  | helloSend => exact execHelloSend_isNext ..
  | helloTimeout => exact execHelloTimeout_isNext ..
  | clxContrib => exact execClxContrib_isNext ..
  | takeoverStart => exact execTakeoverStart_isNext ..
  | aqgenWatchdog => exact execAqgenWatchdog_isNext ..
  | moduleResetEntry => exact execModuleResetEntry_isNext ..
  | moduleResetEnd => exact execModuleResetEnd_isNext ..
  | dieInitTimeout => exact execDieInitTimeout_isNext ..
  | memInitDone => exact execMemInitDone_isNext ..
  | memInitTimeout => exact execMemInitTimeout_isNext ..
  | refclkLoss => exact execRefclkLoss_isNext ..
  | refclkReturn => exact execRefclkReturn_isNext ..
  | quiesceTimeout => exact execQuiesceTimeout_isNext ..
  | partSnap => exact execPartSnap_isNext ..
  | registerWrite => exact execRegisterWrite_isNext ..
  | mgExecute => exact execMgExecute_isNext ..
  | sysHaltComplete => exact execSysHaltComplete_isNext ..
  | fetchOutsideCodeRange => exact execFetchOutsideCodeRange_isNext ..

/-- Settles O57: a step takes the front of the queue by definition, an empty queue lets a nanosecond pass, and `exec_isNext` says that commands
complete. -/
theorem stepRunsFront : Obligations.StepRunsFront := by
  refine ⟨fun c s q => rfl, fun s hq => ⟨?_, s.now_tick⟩, exec_isNext⟩
  rw [step, hq]

end Sys2Proof.Machine
end

section
/-! PROOFS. The set-point of a tracking rail (O2): the segments between the points of R45, each rounded up to 5 mV. -/

namespace Sys2Proof.Machine

/-- The line from code c0 at m0 mV to code c1 at m1 mV, rounded up to the next 5 mV (R45). -/
def railLine (c0 m0 c1 m1 c : Nat) : Nat :=
  (m0 * (c1 - c0) * 5 + (c - c0) * (m1 - m0) * 5 + (c1 - c0) * 25 - 1) / ((c1 - c0) * 25) * 5

theorem railLine_mod_five (c0 m0 c1 m1 c : Nat) : railLine c0 m0 c1 m1 c % 5 = 0 := Nat.mul_mod_left _ 5

theorem railLine_mono (c0 m0 c1 m1 : Nat) {c d : Nat} (h : c ≤ d) : railLine c0 m0 c1 m1 c ≤ railLine c0 m0 c1 m1 d := by
  have hRise : (c - c0) * (m1 - m0) ≤ (d - c0) * (m1 - m0) := Nat.mul_le_mul_right _ (Nat.sub_le_sub_right h c0)
  exact Nat.mul_le_mul_right 5 (Nat.div_le_div_right (by omega))

/-- Rounding up adds less than 5 mV: the quotient's product with the divisor lies within one divisor above the dividend. -/
theorem railLine_bounds (c0 m0 c1 m1 c : Nat) (h : c0 < c1) :
    m0 * (c1 - c0) + (c - c0) * (m1 - m0) ≤ railLine c0 m0 c1 m1 c * (c1 - c0)
      ∧ railLine c0 m0 c1 m1 c * (c1 - c0) < m0 * (c1 - c0) + (c - c0) * (m1 - m0) + 5 * (c1 - c0) := by
  unfold railLine
  have hd : 0 < c1 - c0 := by omega
  generalize c1 - c0 = d at hd ⊢
  generalize hx : m0 * d * 5 + (c - c0) * (m1 - m0) * 5 + d * 25 - 1 = x
  have hq := Nat.div_add_mod x (d * 25)
  have hr := Nat.mod_lt x (show 0 < d * 25 by omega)
  have hFive : x / (d * 25) * 5 * d = x / (d * 25) * d * 5 := Nat.mul_right_comm ..
  have hDiv : d * 25 * (x / (d * 25)) = x / (d * 25) * d * 25 := by rw [Nat.mul_comm, Nat.mul_assoc]
  omega

/-- Between its points the rounded line lies at or above the line, and less than 5 mV above it. -/
theorem railLine_near (c0 m0 c1 m1 c : Nat) (h : c0 < c1) :
    (railLine c0 m0 c1 m1 c - m0) * (c1 - c0) ≥ (c - c0) * (m1 - m0) ∧ m0 ≤ railLine c0 m0 c1 m1 c
      ∧ (railLine c0 m0 c1 m1 c - m0) * (c1 - c0) < (c - c0) * (m1 - m0) + 5 * (c1 - c0) := by
  obtain ⟨hlo, hhi⟩ := railLine_bounds c0 m0 c1 m1 c h
  have hm : m0 ≤ railLine c0 m0 c1 m1 c := Nat.le_of_mul_le_mul_right (Nat.le_trans (Nat.le_add_right ..) hlo) (Nat.sub_pos_of_lt h)
  rw [Nat.sub_mul]
  omega

/-! ### The segments of R45 -/

theorem setPoint_from_16 {c : Nat} (h0 : 16 ≤ c) (h1 : c ≤ 64) : setPoint c = railLine 16 600 64 660 c := by
  rcases Nat.eq_or_lt_of_le h0 with rfl | h0
  · rfl
  · simp [setPoint, railLine, h1, show ¬ c ≤ 16 by omega]

theorem setPoint_from_64 {c : Nat} (h0 : 64 ≤ c) (h1 : c ≤ 80) : setPoint c = railLine 64 660 80 700 c := by
  rcases Nat.eq_or_lt_of_le h0 with rfl | h0
  · rfl
  · simp [setPoint, railLine, h1, show ¬ c ≤ 16 by omega, show ¬ c ≤ 64 by omega]

theorem setPoint_from_80 {c : Nat} (h0 : 80 ≤ c) (h1 : c ≤ 108) : setPoint c = railLine 80 700 108 750 c := by
  rcases Nat.eq_or_lt_of_le h0 with rfl | h0
  · rfl
  · simp [setPoint, railLine, h1, show ¬ c ≤ 16 by omega, show ¬ c ≤ 64 by omega, show ¬ c ≤ 80 by omega]

theorem setPoint_from_108 {c : Nat} (h0 : 108 ≤ c) : setPoint c = railLine 108 750 128 850 c := by
  rcases Nat.eq_or_lt_of_le h0 with rfl | h0
  · rfl
  · simp [setPoint, railLine, show ¬ c ≤ 16 by omega, show ¬ c ≤ 64 by omega,
      show ¬ c ≤ 80 by omega, show ¬ c ≤ 108 by omega]

/-- Every legal code lies on one of the segments, and so does the next code. -/
theorem setPoint_segment {c : Nat} (h0 : 16 ≤ c) :
    ∃ c0 m0 c1 m1, setPoint c = railLine c0 m0 c1 m1 c ∧ setPoint (c + 1) = railLine c0 m0 c1 m1 (c + 1) := by
  by_cases h64 : c < 64
  · exact ⟨_, _, _, _, setPoint_from_16 h0 (by omega), setPoint_from_16 (by omega) (by omega)⟩
  by_cases h80 : c < 80
  · exact ⟨_, _, _, _, setPoint_from_64 (by omega) (by omega), setPoint_from_64 (by omega) (by omega)⟩
  by_cases h108 : c < 108
  · exact ⟨_, _, _, _, setPoint_from_80 (by omega) (by omega), setPoint_from_80 (by omega) (by omega)⟩
  · exact ⟨_, _, _, _, setPoint_from_108 (by omega), setPoint_from_108 (by omega)⟩

theorem setPoint_mod_five {c : Nat} (h0 : 16 ≤ c) : setPoint c % 5 = 0 := by
  obtain ⟨_, _, _, _, hc, -⟩ := setPoint_segment h0
  rw [hc, railLine_mod_five]

theorem setPoint_mono {c d : Nat} (h0 : 16 ≤ c) (h : c ≤ d) : setPoint c ≤ setPoint d := by
  induction h with
  | refl => exact Nat.le_refl _
  | @step d hd ih =>
    obtain ⟨c0, m0, c1, m1, e0, e1⟩ := setPoint_segment (Nat.le_trans h0 hd)
    refine Nat.le_trans ih ?_
    rw [e0, e1]
    exact railLine_mono c0 m0 c1 m1 (Nat.le_succ d)

/-- Settles O2: on each segment of R45 the set-point is the line rounded up to 5 mV. -/
theorem railSetPoint : Obligations.RailSetPoint := by
  refine ⟨fun c h0 _ => ⟨setPoint_mod_five h0, fun d hd _ => setPoint_mono h0 hd, ?_⟩, rfl, rfl, rfl, rfl, rfl⟩
  simp only [List.mem_cons, List.not_mem_nil, or_false, forall_eq_or_imp, forall_eq]
  refine ⟨fun l r => ?_, fun l r => ?_, fun l r => ?_, fun l _ => ?_⟩
  · exact setPoint_from_16 l r ▸ railLine_near 16 600 64 660 c (by decide)
  · exact setPoint_from_64 l r ▸ railLine_near 64 660 80 700 c (by decide)
  · exact setPoint_from_80 l r ▸ railLine_near 80 700 108 750 c (by decide)
  · exact setPoint_from_108 l ▸ railLine_near 108 750 128 850 c (by decide)

end Sys2Proof.Machine
end

section
/-! PROOFS. Rules for the shared operations on supplies, clocks, ceilings and error records (chapter 2), in the order of their definitions: what each leaves
of the registers and of the state's other components, and what it does to those it changes. -/

namespace Sys2Proof.Machine

/-! ### Keys of the registers of an island -/

/-- A field of the block of 0x400 bytes that each island has in ISL from 0xFF0000110000 on (R67). -/
def Fld.ofIsl (f : Fld) : Bool :=
  decide (0xFF0000110000 ≤ f.addr ∧ f.addr < 0xFF0000110400 ∧ f.s1 = 0x400 ∧ f.lo < 64)

/-- No key of a list lies in the islands' blocks. -/
def outsideIsl (ks : List Nat) : Bool := ks.all (fun k => decide (k < 64 * 0xFF0000110000 ∨ 64 * 0xFF000015C400 ≤ k))

theorem Fld.key_ofIsl_bounds {f : Fld} (hf : f.ofIsl = true) {i : Nat} (hi : i < 305) :
    64 * 0xFF0000110000 ≤ f.key i 0 ∧ f.key i 0 < 64 * 0xFF000015C400 := by
  simp only [Fld.ofIsl, decide_eq_true_eq] at hf
  obtain ⟨ha, hb, hs, hl⟩ := hf
  unfold Fld.key Fld.regAddr
  rw [hs]
  omega

theorem Fld.key_ofIsl_not_mem {f : Fld} (hf : f.ofIsl = true) {i : Nat} (hi : i < 305) {ks : List Nat} (hk : outsideIsl ks = true) : f.key i 0 ∉ ks := by
  intro hm
  have hb := Fld.key_ofIsl_bounds hf hi
  have ho := List.all_eq_true.1 hk _ hm
  rw [decide_eq_true_eq] at ho
  omega

/-- Two fields of one island's block. -/
theorem Fld.key_ofIsl_ne {f g : Fld} (hf : f.ofIsl = true) (hg : g.ofIsl = true) (h : f.addr ≠ g.addr ∨ f.lo ≠ g.lo) (i : Nat) :
    f.key i 0 ≠ g.key i 0 := by
  simp only [Fld.ofIsl, decide_eq_true_eq] at hf hg
  obtain ⟨_, _, hs, hl⟩ := hf
  obtain ⟨_, _, hs', hl'⟩ := hg
  unfold Fld.key Fld.regAddr
  rw [hs, hs']
  omega

/-- A field of a block above the islands', whatever its indices. -/
theorem Fld.key_above_isl {f g : Fld} (hf : f.ofIsl = true) {i : Nat} (hi : i < 305) (hg : 0xFF000015C400 ≤ g.addr) (k l : Nat) :
    g.key k l ≠ f.key i 0 := by
  have hb := Fld.key_ofIsl_bounds hf hi
  have hk : 64 * g.addr ≤ g.key k l := by unfold Fld.key Fld.regAddr; omega
  omega

/-! ### Bits -/

theorem bitAt_eq_testBit (v b : Nat) : bitAt v b = v.testBit b := Nat.testBit_eq_decide_div_mod_eq.symm

/-- A bit of a number with that bit replaced. -/
theorem bitAt_putBits_self (v b x : Nat) : bitAt (putBits v b 1 x) b = decide (x % 2 = 1) := by
  have hp : 0 < 2 ^ b := Nat.two_pow_pos b
  have hle : v / 2 ^ b % 2 * 2 ^ b ≤ v := Nat.le_trans (Nat.mul_le_mul_right _ (Nat.mod_le _ 2)) (Nat.div_mul_le_self v _)
  have hq : (v - v / 2 ^ b % 2 * 2 ^ b) / 2 ^ b = v / 2 ^ b - v / 2 ^ b % 2 := by
    rw [Nat.mul_comm] at hle ⊢
    exact Nat.sub_mul_div_of_le v _ _ hle
  simp only [bitAt, putBits, bitsAt, Nat.pow_one]
  rw [Nat.add_mul_div_right _ _ hp]
  simp only [decide_eq_decide]
  omega

theorem bitAt_or_two_pow (v b : Nat) : bitAt (v ||| 2 ^ b) b = true := by
  rw [bitAt_eq_testBit, Nat.testBit_or, Nat.testBit_two_pow_self, Bool.or_true]

/-- A set bit taken away. -/
theorem bitAt_sub_two_pow {v b : Nat} (h : bitAt v b = true) : bitAt (v - 2 ^ b) b = false := by
  have hb : bitsAt v b 1 = 1 := by simpa [bitAt, bitsAt] using h
  have hput : putBits v b 1 0 = v - 2 ^ b := by simp [putBits, hb]
  rw [← hput, bitAt_putBits_self]
  rfl

/-! ### Registers under updates of other components -/

@[simp] theorem State.rd_setClk (s : State) (n : Nat) (c : IslClk) (f : Fld) (i j : Nat) : (s.setClk n c).rd f i j = s.rd f i j := rfl

/-- A field read after it is written with a value that fits. -/
theorem State.rd_wr_fits (s : State) (f : Fld) {v : Nat} (i j : Nat) (hv : v < 2 ^ f.w) : (s.wr f v i j).rd f i j = v := by
  rw [State.rd_wr_self, Nat.mod_eq_of_lt hv]

/-- A flag just set in a field of flags that holds it. -/
theorem State.flag_wflag_self (s : State) (f : Fld) (b i j : Nat) (x : Bool) (hb : b < f.w) : (s.wflag f b x i j).flag f b i j = x := by
  unfold State.flag State.wflag
  rw [State.rd_wr_self, bitAt_eq_testBit, Nat.testBit_mod_two_pow, ← bitAt_eq_testBit, bitAt_putBits_self]
  cases x <;> simp [hb]

/-- An alert raised stands in FLT_ALERT_STAT (R89). -/
theorem State.flag_alert_self (s : State) (a : Alert) : (s.alert a).flag F.FLT_ALERT_STAT_CAUSE a.num = true := by
  unfold State.alert
  split
  · assumption
  · unfold State.flag
    rw [State.rd_msi]
    exact s.flag_wflag_self _ _ _ _ _ (by cases a <;> decide)

/-! ### Error records -/

/-- The keys of the fields that an error record, or the report it brings, may write (R636, R637). -/
def errKeys : List Nat := [F.ERR_CNT_CLASS.key 0 0, F.ERR_HEAD_LOST.key 0 0, F.ERR_HEAD_SEQ.key 0 0, F.ERR_SUMMARY_SEEN.key 0 0] ++ logKeys

/-- An error is counted, and then raises the COUNT of the newest record, or is written and reported. -/
theorem State.errRec_cases (s : State) (k x c v a p y : Nat) (d : List Nat) :
    (∃ e, s.errRec k x c v a p y d = { s.errCount c with err := e })
      ∨ ∃ r, s.errRec k x c v a p y d = ((s.errCount c).errPut r).errReport k x c a p := by
  unfold State.errRec
  dsimp only
  split
  · split
    · exact .inl ⟨_, rfl⟩
    · exact .inr ⟨_, rfl⟩
  · exact .inr ⟨_, rfl⟩

@[simp] theorem State.pwr_trap (s : State) (code source : Nat) (d : List Nat) : (s.trap code source d).pwr = s.pwr := by fun_cases State.trap <;> rfl
@[simp] theorem State.start_trap (s : State) (code source : Nat) (d : List Nat) : (s.trap code source d).start = s.start := by
  fun_cases State.trap <;> rfl
@[simp] theorem State.flint_trap (s : State) (code source : Nat) (d : List Nat) : (s.trap code source d).flint = s.flint := by
  fun_cases State.trap <;> rfl
@[simp] theorem State.rd_trap (s : State) (code source : Nat) (d : List Nat) (f : Fld) (i j : Nat) : (s.trap code source d).rd f i j = s.rd f i j := by
  fun_cases State.trap <;> rfl

@[simp] theorem State.pwr_errPut (s : State) (r : ErrRec) : (s.errPut r).pwr = s.pwr := by
  unfold State.errPut
  simp only [State.pwr_msi, State.pwr_wflag, State.pwr_wr]
  exact ite_keeps (fun t : State => t.pwr = s.pwr) _ _ _ rfl rfl
@[simp] theorem State.start_errPut (s : State) (r : ErrRec) : (s.errPut r).start = s.start := by
  unfold State.errPut
  simp only [State.start_msi, State.start_wflag, State.start_wr]
  exact ite_keeps (fun t : State => t.start = s.start) _ _ _ rfl rfl
@[simp] theorem State.flint_errPut (s : State) (r : ErrRec) : (s.errPut r).flint = s.flint := by
  unfold State.errPut
  simp only [State.flint_msi, State.flint_wflag, State.flint_wr]
  exact ite_keeps (fun t : State => t.flint = s.flint) _ _ _ rfl rfl

/-- Writing a record writes ERR_HEAD and SEEN only. -/
theorem State.rd_errPut_ne (s : State) (r : ErrRec) (g : Fld) (k l : Nat) (h : g.key k l ∉ errKeys) : (s.errPut r).rd g k l = s.rd g k l := by
  simp only [errKeys, List.cons_append, List.mem_cons, not_or] at h
  obtain ⟨-, hLost, hSeq, hSeen, -⟩ := h
  unfold State.errPut
  dsimp only
  rw [State.rd_msi, State.rd_wflag_ne _ _ _ _ _ _ _ _ _ hSeen, State.rd_wr_ne _ _ _ _ _ _ _ _ hSeq]
  exact ite_keeps (fun t : State => t.rd g k l = s.rd g k l) _ _ _ (State.rd_bump_ne _ _ _ _ _ _ _ _ hLost) rfl

@[simp] theorem State.pwr_errReport (s : State) (k x c a p : Nat) : (s.errReport k x c a p).pwr = s.pwr := by fun_cases State.errReport <;> simp
@[simp] theorem State.start_errReport (s : State) (k x c a p : Nat) : (s.errReport k x c a p).start = s.start := by
  fun_cases State.errReport <;> simp
@[simp] theorem State.flint_errReport (s : State) (k x c a p : Nat) : (s.errReport k x c a p).flint = s.flint := by
  fun_cases State.errReport <;> simp

/-- The report of an error writes what logging writes. -/
theorem State.rd_errReport_ne (s : State) (x y c a p : Nat) (g : Fld) (k l : Nat) (h : g.key k l ∉ logKeys) :
    (s.errReport x y c a p).rd g k l = s.rd g k l := by
  fun_cases State.errReport <;> simp [State.rd_logE_ne _ _ _ _ _ g k l h]

@[simp] theorem State.pwr_errRec (s : State) (k x c v a p y : Nat) (d : List Nat) : (s.errRec k x c v a p y d).pwr = s.pwr := by
  rcases s.errRec_cases k x c v a p y d with ⟨e, he⟩ | ⟨r, he⟩ <;> rw [he]
  · rfl
  · rw [State.pwr_errReport, State.pwr_errPut]; rfl
@[simp] theorem State.start_errRec (s : State) (k x c v a p y : Nat) (d : List Nat) : (s.errRec k x c v a p y d).start = s.start := by
  rcases s.errRec_cases k x c v a p y d with ⟨e, he⟩ | ⟨r, he⟩ <;> rw [he]
  · rfl
  · rw [State.start_errReport, State.start_errPut]; rfl
@[simp] theorem State.flint_errRec (s : State) (k x c v a p y : Nat) (d : List Nat) : (s.errRec k x c v a p y d).flint = s.flint := by
  rcases s.errRec_cases k x c v a p y d with ⟨e, he⟩ | ⟨r, he⟩ <;> rw [he]
  · rfl
  · rw [State.flint_errReport, State.flint_errPut]; rfl

/-- Recording an error writes the error registers and what logging writes only. -/
theorem State.rd_errRec_ne (s : State) (x y c v a p z : Nat) (d : List Nat) (g : Fld) (k l : Nat) (h : g.key k l ∉ errKeys) :
    (s.errRec x y c v a p z d).rd g k l = s.rd g k l := by
  have hCnt : (s.errCount c).rd g k l = s.rd g k l := State.rd_wr_ne _ _ _ _ _ _ _ _ (fun e => h (e ▸ List.mem_cons_self))
  rcases s.errRec_cases x y c v a p z d with ⟨e, he⟩ | ⟨r, he⟩ <;> rw [he]
  · exact hCnt
  · rw [State.rd_errReport_ne _ _ _ _ _ _ _ _ _ (fun e => h (List.mem_append_right _ e)), State.rd_errPut_ne _ _ _ _ _ h, hCnt]

/-! ### Clocks and requests -/

@[simp] theorem State.islClk_setClk_self (s : State) (i : Nat) (c : IslClk) : (s.setClk i c).islClk i = c := by
  simp [State.islClk, State.setClk, SMap.get, SMap.find_put_self]

theorem State.islClk_setClk_ne (s : State) {i j : Nat} (c : IslClk) (h : j ≠ i) : (s.setClk i c).islClk j = s.islClk j := by
  simp [State.islClk, State.setClk, SMap.get, SMap.find_put_ne _ _ h]

/-- The clocks are part of the supplies. -/
theorem State.islClk_congr {s t : State} (h : t.pwr = s.pwr) (i : Nat) : t.islClk i = s.islClk i := by rw [State.islClk, State.islClk, h]

/-- Which islands are present depends on the variant alone. -/
theorem State.islPres_congr {s t : State} (h : t.flint = s.flint) (i : Nat) : t.islPres i = s.islPres i := by
  have hv : t.variant = s.variant := congrArg FlintSt.variant h
  unfold State.islPres State.micaPres State.jasperPres
  rw [hv]

@[simp] theorem State.rd_request (s : State) (n code : Nat) (f : Fld) (i j : Nat) : (s.request n code).rd f i j = s.rd f i j := by
  fun_cases State.request <;> rfl
/-- A request changes of the supplies the clocks alone. -/
@[simp] theorem State.lowered_request (s : State) (n code : Nat) : (s.request n code).pwr.lowered = s.pwr.lowered := by
  fun_cases State.request <;> rfl

/-! ### Limits -/

/-- The keys of the marks of a limited request. -/
def limitKeys : List Nat := [F.ISL_SUMMARY_SAG.key 0 0, F.ISL_SUMMARY_ENV.key 0 0, F.ISL_SUMMARY_FLT.key 0 0]

@[simp] theorem State.pwr_noteLimits (s : State) : s.noteLimits.pwr = s.pwr := by
  unfold State.noteLimits
  dsimp only
  repeat' split
  all_goals rfl
@[simp] theorem State.start_noteLimits (s : State) : s.noteLimits.start = s.start := by
  unfold State.noteLimits
  dsimp only
  repeat' split
  all_goals rfl

/-- Marking the limits writes ISL_SUMMARY only. -/
theorem State.rd_noteLimits_ne (s : State) (g : Fld) (k l : Nat) (h : g.key k l ∉ limitKeys) : s.noteLimits.rd g k l = s.rd g k l := by
  simp only [limitKeys, List.mem_cons, List.not_mem_nil, or_false, not_or] at h
  obtain ⟨hSag, hEnv, hFlt⟩ := h
  have mark (c : Prop) [Decidable c] (t : State) (f : Fld) (hf : g.key k l ≠ f.key 0 0) (ht : t.rd g k l = s.rd g k l) :
      (if c then t.wb f true else t).rd g k l = s.rd g k l :=
    ite_keeps (fun u : State => u.rd g k l = s.rd g k l) c _ _ ((t.rd_wb_ne f g true 0 0 k l hf).trans ht) ht
  unfold State.noteLimits
  dsimp only
  split
  · rfl
  · exact mark _ _ _ hFlt (mark _ _ _ hEnv (mark _ _ _ hSag rfl))

/-- Requesting again writes of the registers ISL_SUMMARY only. -/
theorem State.rd_requestAll_ne (s : State) (g : Fld) (k l : Nat) (h : g.key k l ∉ limitKeys) : s.requestAll.rd g k l = s.rd g k l := by
  unfold State.requestAll
  rw [State.rd_noteLimits_ne _ _ _ _ h]
  exact foldl_keeps (fun t : State => t.rd g k l = s.rd g k l) _ _ _ rfl
    (fun t i ht => ite_keeps (fun u : State => u.rd g k l = s.rd g k l) _ _ _ ((t.rd_request ..).trans ht) ht)

@[simp] theorem State.lowered_requestAll (s : State) : s.requestAll.pwr.lowered = s.pwr.lowered := by
  unfold State.requestAll
  rw [State.pwr_noteLimits]
  exact foldl_keeps (fun t : State => t.pwr.lowered = s.pwr.lowered) _ _ _ rfl
    (fun t i ht => ite_keeps (fun u : State => u.pwr.lowered = s.pwr.lowered) _ _ _ ((t.lowered_request ..).trans ht) ht)

/-! ### Ceilings -/

/-- The keys of the fields that setting a cause's ceiling may write besides that ceiling. -/
def ceilKeys : List Nat := [F.ISL_CEIL_CEIL_EFF.key 0 0, F.ISL_CEIL_LAST.key 0 0, F.ISL_CEIL_LAST_CAUSE.key 0 0] ++ limitKeys

/-- The lowest of the three causes' ceilings (R64). -/
def State.lowestCeil (s : State) : Nat := min (s.rd F.ISL_CEIL_CEIL_SAG) (min (s.rd F.ISL_CEIL_CEIL_ENV) (s.rd F.ISL_CEIL_CEIL_FLT))

/-- A ceiling's write either leaves the effective ceiling, which it equals, or writes it with the fabric time and the cause. -/
theorem State.setCeil_cases (s : State) (f : Fld) (cause code : Nat) :
    ((s.wr f code).rd F.ISL_CEIL_CEIL_EFF = (s.wr f code).lowestCeil ∧ s.setCeil f cause code = (s.wr f code).noteLimits)
      ∨ s.setCeil f cause code = ((((s.wr f code).wr F.ISL_CEIL_CEIL_EFF (s.wr f code).lowestCeil).wr F.ISL_CEIL_LAST s.time.ft).wr
          F.ISL_CEIL_LAST_CAUSE cause).noteLimits := by
  unfold State.setCeil
  dsimp only
  split
  · rename_i h
    exact .inl ⟨h.symm, rfl⟩
  · exact .inr rfl

@[simp] theorem State.pwr_setCeil (s : State) (f : Fld) (cause code : Nat) : (s.setCeil f cause code).pwr = s.pwr := by
  rcases s.setCeil_cases f cause code with ⟨-, h⟩ | h <;> rw [h, State.pwr_noteLimits] <;> rfl
@[simp] theorem State.start_setCeil (s : State) (f : Fld) (cause code : Nat) : (s.setCeil f cause code).start = s.start := by
  rcases s.setCeil_cases f cause code with ⟨-, h⟩ | h <;> rw [h, State.start_noteLimits] <;> rfl

/-- Any field but the effective ceiling's own and the marks reads as the write of the cause's ceiling leaves it. -/
theorem State.rd_setCeil (s : State) (f : Fld) (cause code : Nat) (g : Fld) (k l : Nat) (h : g.key k l ∉ ceilKeys) :
    (s.setCeil f cause code).rd g k l = (s.wr f code).rd g k l := by
  have hLimit : g.key k l ∉ limitKeys := fun e => h (List.mem_append_right _ e)
  simp only [ceilKeys, List.cons_append, List.mem_cons, not_or] at h
  obtain ⟨hEff, hLast, hCause, -⟩ := h
  rcases s.setCeil_cases f cause code with ⟨-, e⟩ | e
  · rw [e, State.rd_noteLimits_ne _ _ _ _ hLimit]
  · rw [e, State.rd_noteLimits_ne _ _ _ _ hLimit, State.rd_wr_ne _ _ _ _ _ _ _ _ hCause, State.rd_wr_ne _ _ _ _ _ _ _ _ hLast,
      State.rd_wr_ne _ _ _ _ _ _ _ _ hEff]

theorem State.rd_setCeil_self (s : State) (f : Fld) (cause : Nat) {code : Nat} (h : f.key 0 0 ∉ ceilKeys) (hc : code < 2 ^ f.w) :
    (s.setCeil f cause code).rd f = code := by
  rw [State.rd_setCeil _ _ _ _ _ _ _ h, State.rd_wr_fits _ _ _ _ hc]

theorem State.rd_setCeil_ne (s : State) (f : Fld) (cause code : Nat) (g : Fld) (k l : Nat) (h : g.key k l ∉ f.key 0 0 :: ceilKeys) :
    (s.setCeil f cause code).rd g k l = s.rd g k l := by
  rw [List.mem_cons, not_or] at h
  rw [State.rd_setCeil _ _ _ _ _ _ _ h.2, State.rd_wr_ne _ _ _ _ _ _ _ _ h.1]

/-- The effective ceiling after a cause's ceiling is set. -/
theorem State.rd_setCeil_eff (s : State) (f : Fld) (cause code : Nat) (h : (s.wr f code).lowestCeil < 256) :
    (s.setCeil f cause code).rd F.ISL_CEIL_CEIL_EFF = (s.wr f code).lowestCeil := by
  rcases s.setCeil_cases f cause code with ⟨hEff, e⟩ | e
  · rw [e, State.rd_noteLimits_ne _ _ _ _ (by decide), hEff]
  · rw [e, State.rd_noteLimits_ne _ _ _ _ (by decide), State.rd_wr_ne _ _ _ _ _ _ _ _ (by decide), State.rd_wr_ne _ _ _ _ _ _ _ _ (by decide)]
    exact State.rd_wr_fits _ F.ISL_CEIL_CEIL_EFF 0 0 h

/-! ### Sag levels and CEIL_FLT -/

/-- The ceiling of a sag level (R65). -/
def sagCeil (lvl : Nat) : Nat := if lvl = 0 then 128 else if lvl = 1 then 80 else 16

/-- The keys of the fields that a change of the sag level may write. -/
def sagKeys : List Nat := F.ISL_CEIL_V48_LVL.key 0 0 :: (F.ISL_CEIL_CEIL_SAG.key 0 0 :: ceilKeys) ++ logKeys

@[simp] theorem State.pwr_setSag (s : State) (lvl : Nat) : (s.setSag lvl).pwr = s.pwr := by
  unfold State.setSag
  rw [State.pwr_logE, State.pwr_setCeil, State.pwr_wr]

theorem State.rd_setSag_lvl (s : State) {lvl : Nat} (h : lvl < 4) : (s.setSag lvl).rd F.ISL_CEIL_V48_LVL = lvl := by
  unfold State.setSag
  dsimp only
  rw [State.rd_logE_ne _ _ _ _ _ _ _ _ (by decide), State.rd_setCeil_ne _ _ _ _ _ _ _ (by decide)]
  exact State.rd_wr_fits _ F.ISL_CEIL_V48_LVL 0 0 h

theorem State.rd_setSag_ceil (s : State) (lvl : Nat) : (s.setSag lvl).rd F.ISL_CEIL_CEIL_SAG = sagCeil lvl := by
  have hc : sagCeil lvl < 2 ^ 8 :=
    ite_keeps (· < 2 ^ 8) _ _ _ (by decide) (ite_keeps (· < 2 ^ 8) _ _ _ (by decide) (by decide))
  exact (State.rd_logE_ne _ _ _ _ _ _ _ _ (by decide)).trans (State.rd_setCeil_self _ F.ISL_CEIL_CEIL_SAG _ (by decide) hc)

theorem State.rd_setSag_ne (s : State) (lvl : Nat) (g : Fld) (k l : Nat) (h : g.key k l ∉ sagKeys) : (s.setSag lvl).rd g k l = s.rd g k l := by
  simp only [sagKeys, List.cons_append, List.mem_cons, List.mem_append, not_or] at h
  obtain ⟨hLvl, hSag, hCeil, hLog⟩ := h
  unfold State.setSag
  dsimp only
  rw [State.rd_logE_ne _ _ _ _ _ _ _ _ hLog, State.rd_setCeil_ne _ _ _ _ _ _ _ (by rw [List.mem_cons, not_or]; exact ⟨hSag, hCeil⟩),
    State.rd_wr_ne _ _ _ _ _ _ _ _ hLvl]

/-- CEIL_FLT for what holds now: code 16 while Flint acts alone or V12AUX is lost (R78, R92). -/
def State.fltCeil (s : State) : Nat := if s.bit F.FLT_ALONE_ACTIVE || s.pwr.v12lost then 16 else 128

theorem State.setFltCeil_eq (s : State) : s.setFltCeil
    = if s.fltCeil = s.rd F.ISL_CEIL_CEIL_FLT then s else (s.setCeil F.ISL_CEIL_CEIL_FLT 2 s.fltCeil).logE 0x0111 304 1 [s.fltCeil] := rfl

@[simp] theorem State.pwr_setFltCeil (s : State) : s.setFltCeil.pwr = s.pwr := by
  rw [State.setFltCeil_eq]
  split
  · rfl
  · rw [State.pwr_logE, State.pwr_setCeil]

theorem State.rd_setFltCeil (s : State) : s.setFltCeil.rd F.ISL_CEIL_CEIL_FLT = s.fltCeil := by
  have hc : s.fltCeil < 2 ^ 8 := by unfold State.fltCeil; split <;> decide
  rw [State.setFltCeil_eq]
  split
  · rename_i h
    exact h.symm
  · exact (State.rd_logE_ne _ _ _ _ _ _ _ _ (by decide)).trans (State.rd_setCeil_self _ F.ISL_CEIL_CEIL_FLT _ (by decide) hc)

/-! ### Rails -/

/-- The supplies with the package rails off (R47, R48). -/
theorem State.pwr_railsOff (s : State) : s.railsOff.pwr = { s.pwr with en := 0, good := 0, step := 0, isl := [], lowered := 0 } := State.pwr_setCeil ..

theorem State.start_railsOff (s : State) : s.railsOff.start = s.start := State.start_setCeil ..

/-- Of the registers the rails' going off writes those of CEIL_ENV and what follows from it. -/
theorem State.rd_railsOff_ne (s : State) (g : Fld) (k l : Nat) (h : g.key k l ∉ F.ISL_CEIL_CEIL_ENV.key 0 0 :: ceilKeys) :
    s.railsOff.rd g k l = s.rd g k l := State.rd_setCeil_ne _ _ _ _ _ _ _ h

end Sys2Proof.Machine
end

section
/-! PROOFS. Ceilings (O3): a cause's ceiling, V48 samples and sag levels, V12AUX. -/

namespace Sys2Proof.Machine

/-! ### One cause's ceiling -/

/-- A cause's ceiling takes the code, and the effective one is the lowest of the three (R64). -/
theorem State.setCeil_lowest (s : State) (c code : Nat) (f : Fld) (hc : code < 256)
    (hf : f ∈ [F.ISL_CEIL_CEIL_SAG, F.ISL_CEIL_CEIL_ENV, F.ISL_CEIL_CEIL_FLT]) :
    (s.setCeil f c code).rd f = code ∧ (s.setCeil f c code).rd F.ISL_CEIL_CEIL_EFF = (s.setCeil f c code).lowestCeil := by
  have hOwn : ∀ g ∈ [F.ISL_CEIL_CEIL_SAG, F.ISL_CEIL_CEIL_ENV, F.ISL_CEIL_CEIL_FLT], g.key 0 0 ∉ ceilKeys ∧ g.w = 8 := by decide
  obtain ⟨hk, hw⟩ := hOwn f hf
  have hfit : code < 2 ^ f.w := by rw [hw]; exact hc
  have hLow : (s.setCeil f c code).lowestCeil = (s.wr f code).lowestCeil := by
    unfold State.lowestCeil
    rw [State.rd_setCeil _ _ _ _ F.ISL_CEIL_CEIL_SAG _ _ (by decide), State.rd_setCeil _ _ _ _ F.ISL_CEIL_CEIL_ENV _ _ (by decide),
      State.rd_setCeil _ _ _ _ F.ISL_CEIL_CEIL_FLT _ _ (by decide)]
  have hLt : (s.wr f code).lowestCeil < 256 := by
    have hself : (s.wr f code).rd f < 256 := (s.rd_wr_fits f 0 0 hfit).symm ▸ hc
    simp only [List.mem_cons, List.not_mem_nil, or_false] at hf
    unfold State.lowestCeil
    rcases hf with rfl | rfl | rfl
    all_goals omega
  exact ⟨State.rd_setCeil_self _ _ _ hk hfit, hLow ▸ State.rd_setCeil_eff _ _ _ _ hLt⟩

/-! ### V48 -/

/-- A V48 sample recorded, with the lowest so far (R65, R67). -/
def State.v48Taken (s : State) (v : Nat) : State :=
  let t := (s.wr F.ISL_V48_V48_NOW v).wr F.ISL_V48_V48_MIN (min v (s.rd F.ISL_V48_V48_MIN))
  { t with pwr := { t.pwr with v48 := some v } }

/-- Two samples in a row below a threshold enter its level. -/
theorem execV48Sample_eq (s : State) (v : BitVec 16) : execV48Sample v s
    = if v.toNat < 4050 ∧ s.pwr.v48.getD 65535 < 4050 ∧ s.rd F.ISL_CEIL_V48_LVL < 2 then .next ((s.v48Taken v.toNat).setSag 2)
      else if v.toNat < 4200 ∧ s.pwr.v48.getD 65535 < 4200 ∧ s.rd F.ISL_CEIL_V48_LVL < 1 then .next ((s.v48Taken v.toNat).setSag 1)
      else .next (s.v48Taken v.toNat) := by
  have hLvl : (s.v48Taken v.toNat).rd F.ISL_CEIL_V48_LVL = s.rd F.ISL_CEIL_V48_LVL :=
    (State.rd_wr_ne _ _ _ _ _ _ _ _ (by decide)).trans (State.rd_wr_ne _ _ _ _ _ _ _ _ (by decide))
  rw [← hLvl]
  rfl

/-- What a sample leaves of itself, whatever level is entered. -/
theorem State.v48Taken_reads (s : State) (v : BitVec 16) (t : State) (h : t = s.v48Taken v.toNat ∨ ∃ n, t = (s.v48Taken v.toNat).setSag n) :
    t.pwr.v48 = some v.toNat ∧ t.rd F.ISL_V48_V48_NOW = v.toNat ∧ t.rd F.ISL_V48_V48_MIN = (min v.toNat (s.rd F.ISL_V48_V48_MIN)) % 65536 := by
  have hNow : (s.v48Taken v.toNat).rd F.ISL_V48_V48_NOW = v.toNat :=
    (State.rd_wr_ne _ _ _ _ _ _ _ _ (by decide)).trans (State.rd_wr_fits _ F.ISL_V48_V48_NOW 0 0 v.isLt)
  have hMin : (s.v48Taken v.toNat).rd F.ISL_V48_V48_MIN = (min v.toNat (s.rd F.ISL_V48_V48_MIN)) % 65536 := State.rd_wr_self ..
  rcases h with rfl | ⟨n, rfl⟩
  · exact ⟨rfl, hNow, hMin⟩
  · rw [State.pwr_setSag, State.rd_setSag_ne _ _ _ _ _ (by decide), State.rd_setSag_ne _ _ _ _ _ (by decide)]
    exact ⟨rfl, hNow, hMin⟩

theorem answers_v48Sample (s : State) (v : BitVec 16) :
    Answers (.v48Sample v) s (fun t => t.pwr.v48 = some v.toNat ∧ t.rd F.ISL_V48_V48_NOW = v.toNat
      ∧ t.rd F.ISL_V48_V48_MIN = (min v.toNat (s.rd F.ISL_V48_V48_MIN)) % 65536
      ∧ (∀ p, s.pwr.v48 = some p → v.toNat < 4050 → p < 4050 → s.rd F.ISL_CEIL_V48_LVL < 2 →
        t.rd F.ISL_CEIL_V48_LVL = 2 ∧ t.rd F.ISL_CEIL_CEIL_SAG = 16)
      ∧ (∀ p, s.pwr.v48 = some p → v.toNat < 4200 → p < 4200 → ¬ (v.toNat < 4050 ∧ p < 4050) → s.rd F.ISL_CEIL_V48_LVL = 0 →
        t.rd F.ISL_CEIL_V48_LVL = 1 ∧ t.rd F.ISL_CEIL_CEIL_SAG = 80)
      ∧ (∀ p, s.pwr.v48 = some p → 4200 ≤ v.toNat ∨ 4200 ≤ p → t.rd F.ISL_CEIL_V48_LVL = s.rd F.ISL_CEIL_V48_LVL)) := by
  have hKept : (s.v48Taken v.toNat).rd F.ISL_CEIL_V48_LVL = s.rd F.ISL_CEIL_V48_LVL :=
    (State.rd_wr_ne _ _ _ _ _ _ _ _ (by decide)).trans (State.rd_wr_ne _ _ _ _ _ _ _ _ (by decide))
  have hEq : exec (.v48Sample v) s = execV48Sample v s := rfl
  rw [execV48Sample_eq] at hEq
  split at hEq
  · rename_i h2
    obtain ⟨hV48, hNow, hMin⟩ := s.v48Taken_reads v _ (.inr ⟨2, rfl⟩)
    refine ⟨_, hEq, hV48, hNow, hMin, fun p hp _ _ _ => ⟨State.rd_setSag_lvl _ (by decide), State.rd_setSag_ceil _ 2⟩, fun p hp => ?_, fun p hp => ?_⟩
    all_goals rw [hp, Option.getD_some] at h2; omega
  · rename_i h2
    split at hEq
    · rename_i h1
      obtain ⟨hV48, hNow, hMin⟩ := s.v48Taken_reads v _ (.inr ⟨1, rfl⟩)
      refine ⟨_, hEq, hV48, hNow, hMin, fun p hp => ?_, fun p hp _ _ _ _ => ⟨State.rd_setSag_lvl _ (by decide), State.rd_setSag_ceil _ 1⟩,
        fun p hp => ?_⟩
      all_goals rw [hp, Option.getD_some] at h1 h2; omega
    · rename_i h1
      obtain ⟨hV48, hNow, hMin⟩ := s.v48Taken_reads v _ (.inl rfl)
      refine ⟨_, hEq, hV48, hNow, hMin, fun p hp => ?_, fun p hp => ?_, fun p hp _ => hKept⟩
      all_goals rw [hp, Option.getD_some] at h1 h2; omega

/-- V48 a volt above the threshold of the level leaves it for the one below (R65). -/
theorem answers_sagLevelExit (s : State) (lvl : Nat) (hl : s.rd F.ISL_CEIL_V48_LVL = lvl + 1) (hlt : lvl < 4)
    (hv : (if lvl + 1 = 2 then 4150 else 4300) ≤ s.pwr.v48.getD 0) :
    Answers .sagLevelExit s (fun t => t.rd F.ISL_CEIL_V48_LVL = lvl ∧ t.rd F.ISL_CEIL_CEIL_SAG = sagCeil lvl) := by
  refine ⟨s.setSag lvl, ?_, s.rd_setSag_lvl hlt, s.rd_setSag_ceil lvl⟩
  show execSagLevelExit s = _
  unfold execSagLevelExit
  dsimp only
  rw [hl, if_neg (not_or.2 ⟨lvl.succ_ne_zero, Nat.not_lt.2 hv⟩)]
  rfl

theorem answers_v48MinClr (s : State) :
    Answers (.v48MinClr .pf) s (fun t => t.rd F.ISL_V48_V48_MIN = 0xFFFF ∧ Keeps s t [F.ISL_V48_V48_MIN.key 0 0]) :=
  ⟨_, rfl, State.rd_wr_fits _ F.ISL_V48_V48_MIN 0 0 (by decide), (Keeps.refl s _).wr _ _ 0 0 (List.mem_singleton.2 rfl)⟩

/-! ### V12AUX -/

theorem answers_v12auxLoss (s : State) (h : s.pwr.v12lost = false) :
    Answers .v12auxLoss s (fun t => t.pwr.v12lost = true ∧ t.rd F.ISL_CEIL_CEIL_FLT = 16 ∧ t.flag F.FLT_ALERT_STAT_CAUSE 1 = true) := by
  have hEq : exec .v12auxLoss s
      = .next ((({ s with pwr := { s.pwr with v12lost := true } } : State).setFltCeil.logE 0x0112 0xF001 3 [0]).alert .aux) := by
    show execV12auxLoss s = _
    simp [execV12auxLoss, h]
  refine ⟨_, hEq, ?_, ?_, State.flag_alert_self _ .aux⟩
  · rw [State.pwr_alert, State.pwr_logE, State.pwr_setFltCeil]
  · rw [State.rd_alert_ne _ _ _ _ _ (by decide), State.rd_logE_ne _ _ _ _ _ _ _ _ (by decide), State.rd_setFltCeil]
    simp [State.fltCeil]

theorem answers_v12auxRestore (s : State) (h : s.pwr.v12lost = true) :
    Answers .v12auxRestore s (fun t => t.pwr.v12lost = false ∧ t.rd F.ISL_CEIL_CEIL_FLT = if s.bit F.FLT_ALONE_ACTIVE then 16 else 128) := by
  have hEq : exec .v12auxRestore s = .next (({ s with pwr := { s.pwr with v12lost := false } } : State).setFltCeil.logE 0x0112 0xF001 3 [1]) := by
    show execV12auxRestore s = _
    simp [execV12auxRestore, h]
  refine ⟨_, hEq, ?_, ?_⟩
  · rw [State.pwr_logE, State.pwr_setFltCeil]
  · rw [State.rd_logE_ne _ _ _ _ _ _ _ _ (by decide), State.rd_setFltCeil]
    unfold State.fltCeil
    rw [Bool.or_false]
    rfl

/-- Settles O3: a cause's ceiling, the levels by the samples in a row, and V12AUX by CEIL_FLT. -/
theorem ceilings : Obligations.Ceilings := by
  refine ⟨fun s c code f hc hf => s.setCeil_lowest c code f hc hf, answers_v48Sample, fun s hl hv => answers_sagLevelExit s 1 hl (by decide) hv,
    fun s hl hv => answers_sagLevelExit s 0 hl (by decide) hv, answers_v12auxLoss, answers_v12auxRestore, answers_v48MinClr⟩

end Sys2Proof.Machine
end

section
/-! PROOFS. Frequency transitions (O4) and an island's response to sag (O5). -/

namespace Sys2Proof.Machine

/-! ### Frequency transitions -/

/-- A request behind a running transition becomes the pending one, if it is another (R54). -/
theorem State.request_running (s : State) (i r code : Nat) (h : (s.islClk i).run = some r) :
    s.request i code = s.setClk i { s.islClk i with pend := if code = r then none else some code } := by
  unfold State.request
  dsimp only
  rw [h]
  dsimp only
  split <;> rfl

theorem answers_freqTransitionDone (s : State) (i : Fin 305) (r : Nat) (h : (s.islClk i).run = some r) :
    Answers (.freqTransitionDone i) s (fun t => (t.islClk i).cur = r ∧ (t.islClk i).pend = none
      ∧ (t.islClk i).run = if (s.islClk i).pend = some r then none else (s.islClk i).pend) := by
  have hEq : exec (.freqTransitionDone i) s = .next ((s.setClk i { s.islClk i with
      cur := r, run := if (s.islClk i).pend = some r then none else (s.islClk i).pend, pend := none }).noteLimits) := by
    show execFreqTransitionDone i s = _
    unfold execFreqTransitionDone
    dsimp only
    rw [h]
  refine ⟨_, hEq, ?_⟩
  dsimp only
  rw [State.islClk_congr (State.pwr_noteLimits _), State.islClk_setClk_self]
  exact ⟨rfl, rfl, rfl⟩

/-- Settles O4: a request changes only the pending code of an island whose transition runs, and the end of a transition starts the pending one. -/
theorem frequencyTransitions : Obligations.FrequencyTransitions := by
  refine ⟨fun s i r code h => ?_, answers_freqTransitionDone⟩
  rw [s.request_running i r code h, State.islClk_setClk_self]
  exact ⟨h, rfl, fun j hj => s.islClk_setClk_ne _ hj⟩

/-! ### Stretch levels -/

/-- The count that a step down from a level raises (R67). -/
def stretchCount (l : Nat) : Fld := if l = 0 then F.ISL_STR_CNT_N875 else if l = 1 then F.ISL_STR_CNT_N75 else F.ISL_STR_CNT_N50

/-- A step down, write by write. -/
theorem State.stretchDown_eq (s : State) (i : Nat) : s.stretchDown i
    = if 3 ≤ s.rd F.ISL_FREQ_STR_LVL i then s
      else (((((s.wr F.ISL_FREQ_STR_LVL (s.rd F.ISL_FREQ_STR_LVL i + 1) i).wr F.ISL_FREQ_LAST_LVL (s.rd F.ISL_FREQ_STR_LVL i + 1) i).wr
        F.ISL_STR_LAST s.time.ft i).bump (stretchCount (s.rd F.ISL_FREQ_STR_LVL i)) 1 i).wb F.ISL_SUMMARY_STRETCH true) := by
  unfold State.stretchDown stretchCount
  dsimp only
  repeat' split
  all_goals rfl

@[simp] theorem State.pwr_stretchDown (s : State) (i : Nat) : (s.stretchDown i).pwr = s.pwr := by
  rw [State.stretchDown_eq]
  split <;> rfl
@[simp] theorem State.mem_stretchDown (s : State) (i : Nat) : (s.stretchDown i).mem = s.mem := by
  rw [State.stretchDown_eq]
  split <;> rfl
@[simp] theorem State.clu_stretchDown (s : State) (i : Nat) : (s.stretchDown i).clu = s.clu := by
  rw [State.stretchDown_eq]
  split <;> rfl

theorem stretchCount_ofIsl (l : Nat) : (stretchCount l).ofIsl = true := by
  unfold stretchCount
  exact ite_keeps (fun f : Fld => f.ofIsl = true) _ _ _ (by decide) (ite_keeps (fun f : Fld => f.ofIsl = true) _ _ _ (by decide) (by decide))

theorem stretchCount_addr (l : Nat) : (stretchCount l).addr = F.ISL_STR_CNT_N875.addr := by
  unfold stretchCount
  exact ite_keeps (fun f : Fld => f.addr = _) _ _ _ rfl (ite_keeps (fun f : Fld => f.addr = _) _ _ _ rfl rfl)

/-- A field of the island that a step down writes reads, after its count and ISL_SUMMARY, as before them. -/
theorem State.rd_stretchCounted (s : State) (g : Fld) (l i : Nat) (hg : g.ofIsl = true) (ha : g.addr ≠ F.ISL_STR_CNT_N875.addr) (hi : i < 305) :
    ((s.bump (stretchCount l) 1 i).wb F.ISL_SUMMARY_STRETCH true).rd g i = s.rd g i := by
  have hSum : g.key i 0 ∉ [F.ISL_SUMMARY_STRETCH.key 0 0] := Fld.key_ofIsl_not_mem hg hi (by decide)
  have hCnt : g.key i 0 ≠ (stretchCount l).key i 0 := Fld.key_ofIsl_ne hg (stretchCount_ofIsl l) (.inl (stretchCount_addr l ▸ ha)) i
  rw [State.rd_wb_ne _ _ _ _ _ _ _ _ (fun e => hSum (List.mem_singleton.2 e)), State.rd_bump_ne _ _ _ _ _ _ _ _ hCnt]

/-- A step down of an island not yet at 50 %: the level, the level entered, the fabric time, and the sticky summary bit (R61, R67, R69). -/
theorem State.stretchDown_reads (s : State) (i : Nat) (hi : i < 305) (h : s.rd F.ISL_FREQ_STR_LVL i < 3) :
    (s.stretchDown i).rd F.ISL_FREQ_STR_LVL i = s.rd F.ISL_FREQ_STR_LVL i + 1
      ∧ (s.stretchDown i).rd F.ISL_FREQ_LAST_LVL i = s.rd F.ISL_FREQ_STR_LVL i + 1
      ∧ (s.stretchDown i).rd F.ISL_STR_LAST i = s.time.ft % 2 ^ 64 ∧ (s.stretchDown i).bit F.ISL_SUMMARY_STRETCH = true := by
  have ne {f g : Fld} (hf : f.ofIsl = true) (hg : g.ofIsl = true) (hn : f.addr ≠ g.addr ∨ f.lo ≠ g.lo) := Fld.key_ofIsl_ne hf hg hn i
  rw [State.stretchDown_eq, if_neg (by omega)]
  refine ⟨?_, ?_, ?_, State.bit_wb_self _ _ _ _ _ rfl⟩
  · rw [State.rd_stretchCounted _ _ _ _ (by decide) (by decide) hi, State.rd_wr_ne _ _ _ _ _ _ _ _ (ne (by decide) (by decide) (by decide)),
      State.rd_wr_ne _ _ _ _ _ _ _ _ (ne (by decide) (by decide) (by decide))]
    exact State.rd_wr_fits _ F.ISL_FREQ_STR_LVL i 0 (show _ < 4 by omega)
  · rw [State.rd_stretchCounted _ _ _ _ (by decide) (by decide) hi, State.rd_wr_ne _ _ _ _ _ _ _ _ (ne (by decide) (by decide) (by decide))]
    exact State.rd_wr_fits _ F.ISL_FREQ_LAST_LVL i 0 (show _ < 4 by omega)
  · rw [State.rd_stretchCounted _ _ _ _ (by decide) (by decide) hi]
    exact State.rd_wr_self ..

/-- At 50 % a step down changes nothing. -/
theorem State.stretchDown_lowest (s : State) (i : Nat) (h : 3 ≤ s.rd F.ISL_FREQ_STR_LVL i) : s.stretchDown i = s := by
  rw [State.stretchDown_eq, if_pos h]

/-! ### The commands of an island's sensor -/

/-- A reading recorded, and the island noted as low. -/
def State.sagNoted (s : State) (i mv : Nat) : State := (s.wr F.ISL_SENSE_RAIL_MV mv i).setClk i { s.islClk i with low := true }

theorem answers_islandSagDetect (s : State) (i : Fin 305) (mv : BitVec 12) (hs : s.senses i = true) (hl : s.rd F.ISL_FREQ_STR_LVL i < 3) :
    Answers (.islandSagDetect i mv) s (fun t => t.rd F.ISL_SENSE_RAIL_MV i = mv.toNat ∧ t.rd F.ISL_FREQ_STR_LVL i = s.rd F.ISL_FREQ_STR_LVL i + 1
      ∧ t.rd F.ISL_FREQ_LAST_LVL i = s.rd F.ISL_FREQ_STR_LVL i + 1 ∧ t.bit F.ISL_SUMMARY_STRETCH = true ∧ (t.islClk i).low = true
      ∧ t.rd F.ISL_STR_LAST i = s.time.ft % 2 ^ 64 ∧ t.mem = s.mem ∧ t.clu = s.clu) := by
  have ne {f g : Fld} (hf : f.ofIsl = true) (hg : g.ofIsl = true) (hn : f.addr ≠ g.addr ∨ f.lo ≠ g.lo) := Fld.key_ofIsl_ne hf hg hn i
  have hEq : exec (.islandSagDetect i mv) s = .next ((s.sagNoted i mv.toNat).stretchDown i) := by
    show execIslandSagDetect i mv s = _
    unfold execIslandSagDetect
    exact if_pos hs
  have hLvl : (s.sagNoted i mv.toNat).rd F.ISL_FREQ_STR_LVL i = s.rd F.ISL_FREQ_STR_LVL i :=
    (State.rd_setClk ..).trans (State.rd_wr_ne _ _ _ _ _ _ _ _ (ne (by decide) (by decide) (by decide)))
  have hMv : (s.sagNoted i mv.toNat).rd F.ISL_SENSE_RAIL_MV i = mv.toNat := State.rd_wr_fits _ F.ISL_SENSE_RAIL_MV i 0 mv.isLt
  obtain ⟨hNew, hLast, hTime, hSum⟩ := (s.sagNoted i mv.toNat).stretchDown_reads i i.isLt (hLvl ▸ hl)
  refine ⟨_, hEq, ?_, hLvl ▸ hNew, hLvl ▸ hLast, hSum, ?_, hTime, State.mem_stretchDown .., State.clu_stretchDown ..⟩
  · rw [State.stretchDown_eq, if_neg (by omega), State.rd_stretchCounted _ _ _ _ (by decide) (by decide) i.isLt,
      State.rd_wr_ne _ _ _ _ _ _ _ _ (ne (by decide) (by decide) (by decide)), State.rd_wr_ne _ _ _ _ _ _ _ _ (ne (by decide) (by decide) (by decide)),
      State.rd_wr_ne _ _ _ _ _ _ _ _ (ne (by decide) (by decide) (by decide)), hMv]
  · rw [State.islClk_congr (State.pwr_stretchDown ..), State.sagNoted, State.islClk_setClk_self]

theorem answers_stretchStepDown (s : State) (i : Fin 305) (hs : s.senses i = true) (hLow : (s.islClk i).low = true)
    (hl : s.rd F.ISL_FREQ_STR_LVL i ≤ 3) :
    Answers (.stretchStepDown i) s (fun t => t.rd F.ISL_FREQ_STR_LVL i = min 3 (s.rd F.ISL_FREQ_STR_LVL i + 1) ∧ t.pwr = s.pwr) := by
  have hEq : exec (.stretchStepDown i) s = .next (s.stretchDown i) := by
    show execStretchStepDown i s = _
    simp [execStretchStepDown, hs, hLow]
  refine ⟨_, hEq, ?_, State.pwr_stretchDown ..⟩
  rcases Nat.lt_or_eq_of_le hl with h | h
  · rw [(s.stretchDown_reads i i.isLt h).1]
    omega
  · rw [s.stretchDown_lowest i (Nat.le_of_eq h.symm), h]
    rfl

theorem answers_stretchRecover (s : State) (i : Fin 305) (hs : s.senses i = true) (hl : s.rd F.ISL_FREQ_STR_LVL i ≤ 3) :
    Answers (.stretchRecover i) s (fun t => t.rd F.ISL_FREQ_STR_LVL i = s.rd F.ISL_FREQ_STR_LVL i - 1 ∧ (t.islClk i).low = false) := by
  have hEq : exec (.stretchRecover i) s = execStretchRecover i s := rfl
  unfold execStretchRecover at hEq
  dsimp only at hEq
  by_cases h : s.rd F.ISL_FREQ_STR_LVL i = 0
  · rw [if_neg (by simp [h]), if_pos hs] at hEq
    refine ⟨_, hEq, by rw [State.rd_setClk, h], by rw [State.islClk_setClk_self]⟩
  · rw [if_pos (by simp [hs, h])] at hEq
    refine ⟨_, hEq, State.rd_wr_fits _ F.ISL_FREQ_STR_LVL i 0 (show _ < 4 by omega), ?_⟩
    rw [State.islClk_congr (State.pwr_wr ..), State.islClk_setClk_self]

theorem answers_sensorFault (s : State) (i : Fin 305) (hs : s.senses i = true) :
    Answers (.sensorFault i) s (fun t => (t.islClk i).pinned = true ∧ t.rd F.ISL_FREQ_STR_LVL i = 2 ∧ t.bit F.ISL_SENSE_SENSOR_FLT i = true
      ∧ t.senses i = false) := by
  have hEq : exec (.sensorFault i) s = .next (((((s.setClk i { s.islClk i with pinned := true }).wr F.ISL_FREQ_STR_LVL 2 i).wb
      F.ISL_SENSE_SENSOR_FLT true i).errRec 0x06 i 0).logE 0x0120 i 3 [(i : Nat)]) := by
    show execSensorFault i s = _
    unfold execSensorFault
    exact if_pos hs
  have hKept (t : State) (g : Fld) (hg : g.ofIsl = true) : ((t.errRec 0x06 i 0).logE 0x0120 i 3 [(i : Nat)]).rd g i = t.rd g i := by
    rw [State.rd_logE_ne _ _ _ _ _ _ _ _ (Fld.key_ofIsl_not_mem hg i.isLt (by decide)),
      State.rd_errRec_ne _ _ _ _ _ _ _ _ _ _ _ _ (Fld.key_ofIsl_not_mem hg i.isLt (by decide))]
  have hPin : ((((((s.setClk i { s.islClk i with pinned := true }).wr F.ISL_FREQ_STR_LVL 2 i).wb
      F.ISL_SENSE_SENSOR_FLT true i).errRec 0x06 i 0).logE 0x0120 i 3 [(i : Nat)]).islClk i).pinned = true := by
    rw [State.islClk_congr (State.pwr_logE ..), State.islClk_congr (State.pwr_errRec ..), State.islClk_congr (State.pwr_wb ..),
      State.islClk_congr (State.pwr_wr ..), State.islClk_setClk_self]
  refine ⟨_, hEq, hPin, ?_, ?_, ?_⟩
  · rw [hKept _ _ (by decide), State.rd_wb_ne _ _ _ _ _ _ _ _ (Fld.key_ofIsl_ne (by decide) (by decide) (by decide) i)]
    exact State.rd_wr_fits _ F.ISL_FREQ_STR_LVL i 0 (by decide)
  · rw [State.bit, hKept _ _ (by decide)]
    exact State.bit_wb_self _ F.ISL_SENSE_SENSOR_FLT true i 0 rfl
  · rw [State.senses, hPin, Bool.not_true, Bool.and_false]

theorem answers_persistentSag (s : State) (i : Fin 305) (hl : s.rd F.ISL_FREQ_STR_LVL i = 3) (hp : (s.islClk i).persist = false) :
    Answers (.persistentSag i) s (fun t => (t.islClk i).persist = true) := by
  have hEq : exec (.persistentSag i) s
      = .next (((s.setClk i { s.islClk i with persist := true }).errRec 0x06 i 0).logE 0x0121 i 3 [(i : Nat)]) := by
    show execPersistentSag i s = _
    unfold execPersistentSag
    exact if_pos ⟨hl, hp⟩
  refine ⟨_, hEq, ?_⟩
  dsimp only
  rw [State.islClk_congr (State.pwr_logE ..), State.islClk_congr (State.pwr_errRec ..), State.islClk_setClk_self]

/-! ### A lowered rail -/

/-- An island of a lowered rail requests 80 at most (R76). -/
theorem State.reqCode_lowered (s : State) (j : Nat) (h : bitAt s.pwr.lowered (islRail j) = true) : s.reqCode j ≤ 80 := by
  unfold State.reqCode
  split
  · exact Nat.le_refl _
  · split
    · decide
    · exact Nat.min_le_right _ _

theorem answers_persistentSagLower (s : State) (i : Fin 305) (hp : (s.islClk i).persist = true) :
    Answers (.persistentSagLower i) s (fun t => ∀ j, islRail j = islRail i → t.reqCode j ≤ 80) := by
  have hEq : exec (.persistentSagLower i) s
      = .next ({ s with pwr := { s.pwr with lowered := s.pwr.lowered ||| 2 ^ islRail i } } : State).requestAll := by
    show execPersistentSagLower i s = _
    unfold execPersistentSagLower
    exact if_pos hp
  refine ⟨_, hEq, fun j hj => State.reqCode_lowered _ j ?_⟩
  rw [State.lowered_requestAll, hj]
  exact bitAt_or_two_pow ..

theorem answers_persistentSagClear (s : State) (r : Fin 7) (h : bitAt s.pwr.lowered r = true) :
    Answers (.persistentSagClear r) s (fun t => bitAt t.pwr.lowered r = false) := by
  have hEq : exec (.persistentSagClear r) s
      = .next ({ s with pwr := { s.pwr with lowered := s.pwr.lowered - 2 ^ (r : Nat) } } : State).requestAll := by
    show execPersistentSagClear r s = _
    unfold execPersistentSagClear
    exact if_pos h
  refine ⟨_, hEq, ?_⟩
  dsimp only
  rw [State.lowered_requestAll]
  exact bitAt_sub_two_pow h

theorem answers_clockTrim (s : State) (i : Fin 305) (n : BitVec 16) (hr : s.pwr.refclk = true) (hi : s.islPres i = true) :
    Answers (.clockTrim i n) s (fun t => (t.islClk i).cycles = n.toNat ∧ t.regs = s.regs ∧ t.mem = s.mem) := by
  have hEq : exec (.clockTrim i n) s = .next (s.setClk i { s.islClk i with cycles := n.toNat }) := by
    show execClockTrim i n s = _
    simp [execClockTrim, hr, hi]
  exact ⟨_, hEq, by rw [State.islClk_setClk_self], rfl, rfl⟩

/-- Settles O5: each command of the sensor writes its island's own registers and clock, and a persistent sag marks the rail. -/
theorem stretchAndSensors : Obligations.StretchAndSensors :=
  ⟨answers_islandSagDetect, answers_stretchStepDown, answers_stretchRecover, answers_sensorFault, answers_persistentSag, answers_persistentSagLower,
    answers_persistentSagClear, answers_clockTrim⟩

end Sys2Proof.Machine
end

section
/-! PROOFS. The supply sequence (O1). -/

namespace Sys2Proof.Machine

/-! ### Start-up and module resets -/

@[simp] theorem State.pwr_enterStage (s : State) (n : Nat) : (s.enterStage n).pwr = s.pwr := by fun_cases State.enterStage <;> rfl

@[simp] theorem State.pwr_startUp (s : State) : s.startUp.pwr = s.pwr := by
  have hAdvance (k : Nat) : ∀ t : State, (State.advance k t).pwr = t.pwr := by
    induction k with
    | zero => exact fun t => rfl
    | succ k ih =>
      intro t
      unfold State.advance
      dsimp only
      split
      · rfl
      · split
        · rfl
        · rw [ih, State.pwr_enterStage]
  exact hAdvance 6 s

@[simp] theorem State.rd_moduleReset (s : State) (c : Nat) (f : Fld) (i j : Nat) : (s.moduleReset c).rd f i j = s.rd f i j := by
  fun_cases State.moduleReset <;> rfl
@[simp] theorem State.pwr_moduleReset (s : State) (c : Nat) : (s.moduleReset c).pwr = s.pwr := by fun_cases State.moduleReset <;> rfl

/-- A module reset that nothing absorbs waits with its cause (R152, R153). -/
theorem State.rstPend_moduleReset (s : State) (c : Nat) (hs : 3 ≤ s.rd F.FLT_START_STAGE) (hp : s.start.rstPend = none) (ho : s.start.rstOn = false) :
    (s.moduleReset c).start.rstPend = some c := by
  have hs' : ¬ s.stage < 3 := Nat.not_lt.2 hs
  simp [State.moduleReset, hs', hp, ho]

/-! ### The rail groups -/

/-- Steps 3 to 5 of R46 after STAGE is written. -/
theorem State.reads_stage_enableStep (s : State) {stage : Nat} (n : Nat) (h : stage < 16) :
    ((s.wr F.FLT_START_STAGE stage).enableStep n).rd F.FLT_START_STAGE = stage := State.rd_wr_fits _ F.FLT_START_STAGE 0 0 h

theorem answers_v48Qualified (s : State) (hs : s.rd F.FLT_START_STAGE = 2) (hOff : s.pwr.off = false) (hLock : s.pwr.lockout = 0)
    (hRec : s.fw.recovery = false) (hFails : s.pwr.fails < 2) (hRetry : s.pwr.retry = false) :
    Answers .v48Qualified s (fun t => t.rd F.FLT_START_STAGE = 3 ∧ t.pwr.step = 3 ∧ t.pwr.en = s.pwr.en ||| 3) := by
  have hEq : exec .v48Qualified s = .next ((s.wr F.FLT_START_STAGE 3).enableStep 3) := by
    show execV48Qualified s = _
    unfold execV48Qualified
    exact if_pos ⟨hs, hOff, hLock, hRec, hFails, hRetry⟩
  exact ⟨_, hEq, State.reads_stage_enableStep _ _ (by decide), rfl, rfl⟩

/-- A rail's power-good recorded. -/
def State.railGood (s : State) (r : Nat) : State := { s with pwr := { s.pwr with good := s.pwr.good ||| 2 ^ r } }

/-- Step 6 of R46: every island runs on code 16. -/
def State.railsUp (s : State) : State := { s with pwr := { s.pwr with step := 6, isl := [], fails := 0 } }

/-- A power-good lets the next rail group go as soon as its whole group reports (R46). -/
theorem execRailPowerGood_eq (s : State) (r : Fin 7) (h : bitAt s.pwr.en r = true) : execRailPowerGood r s
    = if s.pwr.step = 3 ∧ bitAt (s.railGood r).pwr.good 0 = true ∧ bitAt (s.railGood r).pwr.good 1 = true then .next ((s.railGood r).enableStep 4)
      else if s.pwr.step = 4 ∧ bitAt (s.railGood r).pwr.good 2 = true then .next ((s.railGood r).enableStep 5)
      else if s.pwr.step = 5 ∧ bitsAt (s.railGood r).pwr.good 3 4 = 15 then .next (((s.railGood r).railsUp.lpEnter 15 1).startUp)
      else .next (s.railGood r) := by
  unfold execRailPowerGood
  rw [if_neg (by rw [h]; decide)]
  rfl

theorem answers_railPowerGood (s : State) (r : Fin 7) (h : bitAt s.pwr.en r = true) :
    Answers (.railPowerGood r) s (fun t => t.pwr.good = s.pwr.good ||| 2 ^ (r : Nat)
      ∧ (s.pwr.step = 3 → bitAt t.pwr.good 0 = true → bitAt t.pwr.good 1 = true → t.pwr.step = 4 ∧ t.pwr.en = s.pwr.en ||| 4)
      ∧ (s.pwr.step = 4 → bitAt t.pwr.good 2 = true → t.pwr.step = 5 ∧ t.pwr.en = s.pwr.en ||| 0x78)
      ∧ (s.pwr.step = 5 → bitsAt t.pwr.good 3 4 = 15 → t.pwr.step = 6 ∧ ∀ i, (t.islClk i).cur = 16)) := by
  have hEq : exec (.railPowerGood r) s = execRailPowerGood r s := rfl
  rw [execRailPowerGood_eq s r h] at hEq
  split at hEq
  · rename_i h3
    exact ⟨_, hEq, rfl, fun _ _ _ => ⟨rfl, rfl⟩, fun h4 => by omega, fun h5 => by omega⟩
  rename_i h3
  split at hEq
  · rename_i h4
    exact ⟨_, hEq, rfl, fun h3 => by omega, fun _ _ => ⟨rfl, rfl⟩, fun h5 => by omega⟩
  rename_i h4
  split at hEq
  · rename_i h5
    have hPwr : (((s.railGood r).railsUp.lpEnter 15 1).startUp).pwr = (s.railGood r).railsUp.pwr := State.pwr_startUp _
    refine ⟨_, hEq, congrArg PowerSt.good hPwr, fun h3 => by omega, fun h4 => by omega, fun _ _ => ⟨congrArg PowerSt.step hPwr, fun i => ?_⟩⟩
    rw [State.islClk_congr hPwr]
    rfl
  · rename_i h5
    exact ⟨_, hEq, rfl, fun e g0 g1 => (h3 ⟨e, g0, g1⟩).elim, fun e g => (h4 ⟨e, g⟩).elim, fun e g => (h5 ⟨e, g⟩).elim⟩

theorem answers_railPgTimeout (s : State) (r : Fin 7) (hStep : 3 ≤ s.pwr.step ∧ s.pwr.step ≤ 5) (hEn : bitAt s.pwr.en r = true)
    (hGood : bitAt s.pwr.good r = false) :
    Answers (.railPgTimeout r) s (fun t => t.pwr.en = 0 ∧ t.pwr.good = 0 ∧ t.pwr.step = 0 ∧ t.pwr.fails = s.pwr.fails + 1
      ∧ (t.pwr.retry = true ↔ s.pwr.fails = 0) ∧ t.rd F.FLT_START_STAGE = 2 ∧ t.flag F.FLT_ALERT_STAT_CAUSE 0 = true) := by
  have hEq : exec (.railPgTimeout r) s = .next (((({ s.railsOff with pwr := { s.railsOff.pwr with
      fails := s.railsOff.pwr.fails + 1, retry := decide (s.railsOff.pwr.fails = 0) } } : State).wr F.FLT_START_STAGE 2).logE
        0x0101 (railSource r) 4 [(r : Nat)]).alert .supply) := by
    show execRailPgTimeout r s = _
    unfold execRailPgTimeout
    exact if_pos ⟨by omega, hEn, hGood⟩
  refine ⟨_, hEq, ?_⟩
  dsimp only
  rw [State.pwr_alert, State.pwr_logE, State.pwr_wr, State.pwr_railsOff]
  refine ⟨rfl, rfl, rfl, rfl, decide_eq_true_iff, ?_, State.flag_alert_self _ .supply⟩
  rw [State.rd_alert_ne _ _ _ _ _ (by decide), State.rd_logE_ne _ _ _ _ _ _ _ _ (by decide)]
  exact State.rd_wr_fits _ F.FLT_START_STAGE 0 0 (by decide)

theorem answers_railSeqRetry (s : State) (hRetry : s.pwr.retry = true) (hOff : s.pwr.off = false) (hLock : s.pwr.lockout = 0) :
    Answers .railSeqRetry s (fun t => t.pwr.retry = false ∧ t.pwr.step = 3 ∧ t.pwr.en = s.pwr.en ||| 3 ∧ t.rd F.FLT_START_STAGE = 3) := by
  have hEq : exec .railSeqRetry s
      = .next ((({ s with pwr := { s.pwr with retry := false } } : State).wr F.FLT_START_STAGE 3).enableStep 3) := by
    show execRailSeqRetry s = _
    unfold execRailSeqRetry
    exact if_pos ⟨hRetry, hOff, hLock⟩
  exact ⟨_, hEq, rfl, rfl, rfl, State.reads_stage_enableStep _ _ (by decide)⟩

/-! ### Lockout and restart -/

/-- What V48_LOCKOUT does before the rails go off: the entry is logged and SUPPLY raised. -/
def State.lockedOut (s : State) (above : Bool) : State :=
  (({ s with pwr := { s.pwr with lockout := if above then 2 else 1 } } : State).logE (if above then 0x0103 else 0x0102) 0xF000 3 [1]).alert .supply

theorem answers_v48Lockout (s : State) (above : Bool) (hOn : s.flint.on = true) (hLock : s.pwr.lockout = 0) (hStep : s.pwr.step ≠ 0)
    (hStage : 3 ≤ s.rd F.FLT_START_STAGE) (hPend : s.start.rstPend = none) (hRst : s.start.rstOn = false) :
    Answers (.v48Lockout above) s (fun t => t.pwr.en = 0 ∧ t.pwr.good = 0 ∧ t.pwr.step = 0 ∧ t.pwr.lockout = (if above then 2 else 1)
      ∧ t.start.rstPend = some 5 ∧ t.flag F.FLT_ALERT_STAT_CAUSE 0 = true) := by
  have hEq : exec (.v48Lockout above) s = .next ((s.lockedOut above).railsOff.moduleReset 5) := by
    show execV48Lockout above s = _
    unfold execV48Lockout
    rw [if_neg (by simp [hOn, hLock])]
    dsimp only
    rw [if_pos (decide_eq_true hStep)]
    rfl
  have hPwr : (s.lockedOut above).pwr = { s.pwr with lockout := if above then 2 else 1 } := by
    rw [State.lockedOut, State.pwr_alert, State.pwr_logE]
  have hStart : (s.lockedOut above).railsOff.start = s.start := by
    rw [State.start_railsOff, State.lockedOut, State.start_alert, State.start_logE]
  have hStage' : (s.lockedOut above).railsOff.rd F.FLT_START_STAGE = s.rd F.FLT_START_STAGE := by
    rw [State.rd_railsOff_ne _ _ _ _ (by decide), State.lockedOut, State.rd_alert_ne _ _ _ _ _ (by decide), State.rd_logE_ne _ _ _ _ _ _ _ _ (by decide)]
    rfl
  refine ⟨_, hEq, ?_⟩
  dsimp only
  rw [State.pwr_moduleReset, State.pwr_railsOff, hPwr]
  refine ⟨rfl, rfl, rfl, rfl, ?_, ?_⟩
  · exact State.rstPend_moduleReset _ _ (hStage' ▸ hStage) (hStart ▸ hPend) (hStart ▸ hRst)
  · rw [State.flag, State.rd_moduleReset, State.rd_railsOff_ne _ _ _ _ (by decide)]
    exact State.flag_alert_self _ .supply

/-- The end of a lockout, logged. -/
def State.unlocked (s : State) : State :=
  ({ s with pwr := { s.pwr with lockout := 0 } } : State).logE (if s.pwr.lockout = 1 then 0x0102 else 0x0103) 0xF000 3 [0]

theorem answers_v48Restart (s : State) (hLock : s.pwr.lockout ≠ 0) (hOff : s.pwr.off = false) (hFails : s.pwr.fails < 2) (hRetry : s.pwr.retry = false)
    (hRec : s.fw.recovery = false) (hStage : 2 ≤ s.rd F.FLT_START_STAGE) :
    Answers .v48Restart s (fun t => t.pwr.lockout = 0 ∧ t.pwr.step = 3 ∧ t.pwr.en = s.pwr.en ||| 3 ∧ t.rd F.FLT_START_STAGE = 3) := by
  have hPwr : s.unlocked.pwr = { s.pwr with lockout := 0 } := State.pwr_logE ..
  have hFw : s.unlocked.fw = s.fw := State.fw_logE ..
  have hStage' : s.unlocked.rd F.FLT_START_STAGE = s.rd F.FLT_START_STAGE := State.rd_logE_ne _ _ _ _ _ _ _ _ (by decide)
  have hRun : ¬ (s.unlocked.pwr.off = true ∨ 2 ≤ s.unlocked.pwr.fails ∨ s.unlocked.pwr.retry = true ∨ s.unlocked.fw.recovery = true
      ∨ s.unlocked.rd F.FLT_START_STAGE < 2) := by
    rw [hPwr, hFw, hStage']
    simp only [hOff, hRetry, hRec, Bool.false_eq_true, false_or, not_or, Nat.not_le, Nat.not_lt]
    exact ⟨hFails, hStage⟩
  have hEq : exec .v48Restart s
      = .next ((({ s.unlocked with pwr := { s.unlocked.pwr with fails := 0 } } : State).wr F.FLT_START_STAGE 3).enableStep 3) := by
    show execV48Restart s = _
    unfold execV48Restart
    rw [if_neg hLock]
    exact if_neg hRun
  refine ⟨_, hEq, ?_, rfl, ?_, State.reads_stage_enableStep _ _ (by decide)⟩
  · exact congrArg PowerSt.lockout hPwr
  · have hEn : s.unlocked.pwr.en = s.pwr.en := by rw [hPwr]
    exact congrArg (· ||| 3) hEn

/-! ### Loss of a tracking rail -/

@[simp] theorem State.flint_resetStart (s : State) (i : Nat) : (s.resetStart i).flint = s.flint := by fun_cases State.resetStart <;> rfl
@[simp] theorem State.pwr_resetStart (s : State) (i : Nat) : (s.resetStart i).pwr = s.pwr := by fun_cases State.resetStart <;> rfl
@[simp] theorem State.rstOn_resetStart (s : State) (i : Nat) : (s.resetStart i).start.rstOn = s.start.rstOn := by fun_cases State.resetStart <;> rfl
@[simp] theorem State.rstPend_resetStart (s : State) (i : Nat) : (s.resetStart i).start.rstPend = s.start.rstPend := by
  fun_cases State.resetStart <;> rfl

/-- An island under reset stays so when another's reset starts. -/
theorem State.islResetting_resetStart (s : State) (i j : Nat) (h : s.islResetting j = true) : (s.resetStart i).islResetting j = true := by
  fun_cases State.resetStart
  · exact h
  · show (SMap.find (SMap.put s.start.isl i 1) j).isSome = true
    by_cases e : j = i
    · rw [e, SMap.find_put_self]; rfl
    · rw [SMap.find_put_ne _ _ e]; exact h

/-- A present island's reset starts, or has started, while no module reset is due (R136, R152). -/
theorem State.islResetting_resetStart_self (s : State) (i : Nat) (hi : i < 304) (hp : s.islPres i = true) (ho : s.start.rstOn = false)
    (hn : s.start.rstPend = none) : (s.resetStart i).islResetting i = true := by
  fun_cases State.resetStart
  · rename_i h
    simp only [hp, ho, hn, Option.isSome_none, Bool.true_eq_false, Bool.false_eq_true, or_false, false_or] at h
    exact h.resolve_left (by omega)
  · show (SMap.find (SMap.put s.start.isl i 1) i).isSome = true
    rw [SMap.find_put_self]
    rfl

/-- What one element of a list brings about and every other keeps, holds after the fold; p is what the steps keep meanwhile. -/
theorem foldl_brings {α β : Type} (p q : α → Prop) (f : α → β → α) (l : List β) (a : α) (x : β) (hx : x ∈ l) (hp : p a)
    (hpf : ∀ b y, p b → p (f b y)) (hq : ∀ b y, q b → q (f b y)) (hfx : ∀ b, p b → q (f b x)) : q (l.foldl f a) := by
  induction l generalizing a with
  | nil => simp at hx
  | cons y l ih =>
    rw [List.foldl_cons]
    rcases List.mem_cons.1 hx with rfl | hx
    · exact foldl_keeps q f l _ (hfx a hp) hq
    · exact ih (f a y) hx (hpf a y hp)

/-- The reset of every island of a list that a rail feeds. -/
def State.resetRail (s : State) (r : Nat) (l : List Nat) : State := l.foldl (fun (s : State) i => if islRail i = r then s.resetStart i else s) s

theorem State.pwr_resetRail (s : State) (r : Nat) (l : List Nat) : (s.resetRail r l).pwr = s.pwr :=
  foldl_keeps (fun t : State => t.pwr = s.pwr) _ _ _ rfl
    (fun t i ht => ite_keeps (fun u : State => u.pwr = s.pwr) _ _ _ ((t.pwr_resetStart i).trans ht) ht)

theorem State.islResetting_resetRail (s : State) (r : Nat) (l : List Nat) (i : Nat) (hl : i ∈ l) (hr : islRail i = r) (hi : i < 304)
    (hp : s.islPres i = true) (ho : s.start.rstOn = false) (hn : s.start.rstPend = none) : (s.resetRail r l).islResetting i = true := by
  refine foldl_brings (fun t : State => t.flint = s.flint ∧ t.start.rstOn = false ∧ t.start.rstPend = none) (fun t => t.islResetting i = true)
    _ l s i hl ⟨rfl, ho, hn⟩ (fun t j ht => ?_) (fun t j ht => ?_) (fun t ht => ?_)
  · refine ite_keeps (fun u : State => u.flint = s.flint ∧ u.start.rstOn = false ∧ u.start.rstPend = none) _ _ _ ?_ ht
    rwa [State.flint_resetStart, State.rstOn_resetStart, State.rstPend_resetStart]
  · exact ite_keeps (fun u : State => u.islResetting i = true) _ _ _ (t.islResetting_resetStart j i ht) ht
  · obtain ⟨hFlint, ho, hn⟩ := ht
    rw [if_pos hr]
    exact t.islResetting_resetStart_self i hi ((State.islPres_congr hFlint i).trans hp) ho hn

/-- A tracking rail recorded as lost, with its error record (R79). -/
def State.railLost (s : State) (r : Nat) : State :=
  ({ s with pwr := { s.pwr with good := putBits s.pwr.good r 1 0 } } : State).errRec 0x07 (railSource r) (if r = 2 then 4 else 2)

theorem answers_trackingRailLoss (s : State) (r : Fin 7) (hr : 2 ≤ (r : Nat)) (hStep : s.pwr.step = 6) (hGood : bitAt s.pwr.good r = true)
    (hRst : s.start.rstOn = false) (hPend : s.start.rstPend = none) :
    Answers (.trackingRailLoss r) s (fun t => bitAt t.pwr.good r = false
      ∧ ∀ i, i < 304 → islRail i = (r : Nat) → s.islPres i = true → t.islResetting i = true) := by
  have hEq : exec (.trackingRailLoss r) s = .next ((s.railLost r).resetRail r (List.range 304)) := by
    show execTrackingRailLoss r s = _
    unfold execTrackingRailLoss
    rw [if_neg (by simp [hStep, hGood, show ¬ (r : Nat) < 2 by omega])]
    rfl
  have hStart : (s.railLost r).start = s.start := State.start_errRec ..
  have hFlint : (s.railLost r).flint = s.flint := State.flint_errRec ..
  refine ⟨_, hEq, ?_, fun i hi hRail hPres => ?_⟩
  · rw [State.pwr_resetRail, State.railLost, State.pwr_errRec]
    exact bitAt_putBits_self ..
  · exact State.islResetting_resetRail _ _ _ i (List.mem_range.2 hi) hRail hi ((State.islPres_congr hFlint i).trans hPres) (hStart ▸ hRst) (hStart ▸ hPend)

theorem answers_railLossDiesFailed_vbd (s : State) (hStep : s.pwr.step = 6) (hGood : bitAt s.pwr.good 2 = false) (hStage : 3 ≤ s.rd F.FLT_START_STAGE)
    (hPend : s.start.rstPend = none) (hRst : s.start.rstOn = false) :
    Answers (.railLossDiesFailed 2) s (fun t => t.bit F.FLT_STAT_PKG_FAIL = true ∧ t.flag F.FLT_ALERT_STAT_CAUSE 3 = true ∧ t.start.rstPend = some 6) := by
  have hEq : exec (.railLossDiesFailed 2) s = .next ((s.alert .die).packageFail) := by
    show execRailLossDiesFailed 2 s = _
    simp [execRailLossDiesFailed, hStep, hGood]
  refine ⟨_, hEq, ?_⟩
  unfold State.packageFail
  refine ⟨?_, ?_, ?_⟩
  · rw [State.bit, State.rd_moduleReset, State.rd_alert_ne _ _ _ _ _ (by decide)]
    exact State.bit_wb_self _ F.FLT_STAT_PKG_FAIL true 0 0 rfl
  · rw [State.flag, State.rd_moduleReset]
    exact State.flag_alert_self _ .lost
  · apply State.rstPend_moduleReset
    · rwa [State.rd_alert_ne _ _ _ _ _ (by decide), State.rd_wb_ne _ _ _ _ _ _ _ _ (by decide), State.rd_alert_ne _ _ _ _ _ (by decide)]
    · rwa [State.start_alert, State.start_wb, State.start_alert]
    · rwa [State.start_alert, State.start_wb, State.start_alert]

/-- Settles O1: each command of the supply sequence, by what it does to the supplies and to STAGE. -/
theorem supplySequence : Obligations.SupplySequence :=
  ⟨answers_v48Qualified, answers_railPowerGood, answers_railPgTimeout, answers_railSeqRetry, answers_v48Lockout, answers_v48Restart,
    answers_trackingRailLoss, answers_railLossDiesFailed_vbd⟩

end Sys2Proof.Machine
end

section
/-! PROOFS. Performance states, the power cap and the expert settings (O6), and what cold reset leaves (O58). -/

namespace Sys2Proof.Machine

/-! ### Performance states -/

theorem fieldsAt_pstate : fieldsAt 0xFF0000100040 = [(F.ISL_PSTATE_DEV, 0, 0), (F.ISL_PSTATE_PART, 0, 0)] := by decide +kernel

/-- A whole write of an RW field without a range or an enable. -/
theorem writeField_plain (a v : Nat) (r : State × Nat) (f : Fld) (ha : f.acc = .rw) (hx : f.ex = 0) (hr : ∀ x, inRange r.1 f 0 x = true) :
    (writeField .pf 8 a v r (f, 0, 0)).1 = r.1.wr f (bitsAt v f.lo f.w) := by
  rw [writeField_rw 8 a v r f 0 0 rfl ha (.inl hx), if_pos (hr _)]
  rfl

/-- A write of ISL_PSTATE by the host physical function writes both fields. -/
theorem writeFields_pstate (s : State) (v : Nat) : (writeFields s .pf 8 F.ISL_PSTATE_DEV.addr v).1
    = (s.wr F.ISL_PSTATE_DEV (bitsAt v 0 2)).wr F.ISL_PSTATE_PART (bitsAt v 2 32) := by
  show ((fieldsAt 0xFF0000100040).foldl (writeField .pf 8 0xFF0000100040 v) (s, 0)).1 = _
  rw [fieldsAt_pstate, List.foldl_cons, List.foldl_cons, List.foldl_nil, writeField_plain _ _ _ _ rfl rfl (fun _ => rfl),
    writeField_plain _ _ _ _ rfl rfl (fun _ => rfl)]
  rfl

theorem answers_islPstateWrite_pf (s : State) (v : BitVec 64) :
    Answers (.islPstateWrite .pf v) s (fun t => t.rd F.ISL_PSTATE_DEV = bitsAt v.toNat 0 2 ∧ t.rd F.ISL_PSTATE_PART = bitsAt v.toNat 2 32) := by
  have hEq : exec (.islPstateWrite .pf v) s = .next (writeFields s .pf 8 F.ISL_PSTATE_DEV.addr v.toNat).1.requestAll := rfl
  rw [writeFields_pstate] at hEq
  refine ⟨_, hEq, ?_, ?_⟩
  · rw [State.rd_requestAll_ne _ _ _ _ (by decide), State.rd_wr_ne _ _ _ _ _ _ _ _ (by decide)]
    exact State.rd_wr_fits _ F.ISL_PSTATE_DEV 0 0 (bitsAt_lt ..)
  · rw [State.rd_requestAll_ne _ _ _ _ (by decide)]
    exact State.rd_wr_fits _ F.ISL_PSTATE_PART 0 0 (bitsAt_lt ..)

theorem answers_islPstateWrite_vf (s : State) (v : BitVec 64) (p : Part) :
    Answers (.islPstateWrite (.vf p) v) s (fun t =>
      t.rd F.ISL_WR_REJ_COUNT = satAt 32 (s.rd F.ISL_WR_REJ_COUNT + 1) ∧ Keeps s t [F.ISL_WR_REJ_COUNT.key 0 0]) :=
  ⟨_, rfl, s.rd_bump_self F.ISL_WR_REJ_COUNT 1 0 0, (Keeps.refl s _).wr _ _ 0 0 (List.mem_singleton.2 rfl)⟩

/-! ### The power cap -/

/-- CAP_REJ after the W1C bit of a write of the cap. -/
def State.capCleared (s : State) (v : BitVec 64) : State := if v.getLsbD 10 then s.wb F.ISL_PWR_CAP_CAP_REJ false else s

theorem State.rd_capCleared (s : State) (v : BitVec 64) : (s.capCleared v).rd F.ISL_PWR_CAP_CAP_W = s.rd F.ISL_PWR_CAP_CAP_W :=
  ite_keeps (fun t : State => t.rd F.ISL_PWR_CAP_CAP_W = s.rd F.ISL_PWR_CAP_CAP_W) _ _ _ (State.rd_wb_ne _ _ _ _ _ _ _ _ (by decide)) rfl

theorem State.writeCap_taken (s : State) (src : Src) (w : Nat) (h0 : 250 ≤ w) (h1 : w ≤ 600) : (s.writeCap src w).rd F.ISL_PWR_CAP_CAP_W = w := by
  unfold State.writeCap
  dsimp only
  rw [if_pos ⟨h0, h1⟩]
  exact State.rd_wr_fits _ F.ISL_PWR_CAP_CAP_W 0 0 (show w < 1024 by omega)

theorem State.writeCap_discarded (s : State) (src : Src) (w : Nat) (h : w < 250 ∨ 600 < w) :
    (s.writeCap src w).rd F.ISL_PWR_CAP_CAP_W = s.rd F.ISL_PWR_CAP_CAP_W ∧ (s.writeCap src w).bit F.ISL_PWR_CAP_CAP_REJ = true := by
  unfold State.writeCap
  dsimp only
  rw [if_neg (by omega)]
  refine ⟨?_, State.bit_wb_self _ _ _ _ _ rfl⟩
  rw [State.rd_wb_ne _ _ _ _ _ _ _ _ (by decide), State.rd_logE_ne _ _ _ _ _ _ _ _ (by decide)]

/-- The cap's write by the host physical function: the W1C bit first, then the cap. -/
theorem exec_islPwrCapWrite_pf (s : State) (v : BitVec 64) :
    exec (.islPwrCapWrite .pf v) s = .next ((s.capCleared v).writeCap .pf (bitsAt v.toNat 0 10)) := rfl

/-! ### Expert settings of an island -/

/-- The expert enable of an island is read from the spare map, the slices' and the partitions' registers, none of which lies in an island's block. -/
theorem State.islExpert_wr_isl (s : State) (f : Fld) (v i n : Nat) (hf : f.ofIsl = true) (hi : i < 305) : (s.wr f v i).islExpert n = s.islExpert n := by
  have hAbove (g : Fld) (hg : 0xFF000015C400 ≤ g.addr) (k l : Nat) : (s.wr f v i).rd g k l = s.rd g k l :=
    State.rd_wr_ne _ _ _ _ _ _ _ _ (Fld.key_above_isl hf hi hg k l)
  have hPos := hAbove F.ERR_MAP_POS (by decide)
  have hClu := hAbove F.HST_PART_CTL_CLU (by decide)
  have hEn := hAbove F.HST_PART_CTL_EXPERT_EN (by decide)
  have hMode := hAbove F.SLT_SLICE_MODE (by decide)
  have hOwner := hAbove F.SLT_SLICE_OWNER (by decide)
  have hCluPart : (s.wr f v i).cluPart = s.cluPart := by
    funext c
    simp only [State.cluPart, State.flag, hClu]
  have hCluIsland : (s.wr f v i).cluIsland = s.cluIsland := by
    funext c
    simp only [State.cluIsland, hPos]
  have hPart : (s.wr f v i).islPart n = s.islPart n := by
    unfold State.islPart State.islandClu
    rw [hCluIsland, hCluPart, hMode, hOwner]
  unfold State.islExpert State.bit
  rw [hPart]
  simp only [hEn]

/-- The flags of ISL_FREQ after the W1C bits of a write (R694). -/
def State.freqCleared (s : State) (i : Nat) (v : BitVec 64) : State :=
  let t := if v.getLsbD 20 then s.wb F.ISL_FREQ_FMT_REJ false i else s
  if v.getLsbD 21 then t.wb F.ISL_FREQ_PERM_REJ false i else t

/-- What a write of either flag keeps, clearing them keeps. -/
theorem State.freqCleared_keeps (p : State → Prop) (s : State) (i : Nat) (v : BitVec 64) (h : p s)
    (hFmt : ∀ t, p t → p (t.wb F.ISL_FREQ_FMT_REJ false i)) (hPerm : ∀ t, p t → p (t.wb F.ISL_FREQ_PERM_REJ false i)) : p (s.freqCleared i v) := by
  have ht := ite_keeps p (v.getLsbD 20 = true) _ _ (hFmt s h) h
  exact ite_keeps p _ _ _ (hPerm _ ht) ht

theorem State.rd_freqCleared (s : State) (i : Nat) (v : BitVec 64) : (s.freqCleared i v).rd F.ISL_FREQ_REQ_CODE i = s.rd F.ISL_FREQ_REQ_CODE i :=
  s.freqCleared_keeps (fun t => t.rd F.ISL_FREQ_REQ_CODE i = s.rd F.ISL_FREQ_REQ_CODE i) i v rfl
    (fun t h => (State.rd_wb_ne _ _ _ _ _ _ _ _ (Fld.key_ofIsl_ne (by decide) (by decide) (by decide) i)).trans h)
    (fun t h => (State.rd_wb_ne _ _ _ _ _ _ _ _ (Fld.key_ofIsl_ne (by decide) (by decide) (by decide) i)).trans h)

theorem State.islExpert_freqCleared (s : State) (i n : Nat) (v : BitVec 64) (hi : i < 305) : (s.freqCleared i v).islExpert n = s.islExpert n :=
  s.freqCleared_keeps (fun t => t.islExpert n = s.islExpert n) i v rfl (fun t h => (t.islExpert_wr_isl _ _ i n (by decide) hi).trans h)
    (fun t h => (t.islExpert_wr_isl _ _ i n (by decide) hi).trans h)

/-- A REQ_CODE taken: code 0 ends the expert RECOV_HOLD too, and the island requests again (R58, R60). -/
def State.reqTaken (s : State) (i x : Nat) : State :=
  let t := if x = 0 then (s.wr F.ISL_FREQ_REQ_CODE x i).wr F.ISL_STR_CFG_RECOV_HOLD 2 i else s.wr F.ISL_FREQ_REQ_CODE x i
  (t.request i (t.reqCode i)).noteLimits

/-- The write of ISL_FREQ of a present island by the host physical function. -/
theorem exec_islFreqWrite_pf (s : State) (i : Fin 305) (v : BitVec 64) (hp : s.islPres i = true) : exec (.islFreqWrite i .pf v) s
    = if bitsAt v.toNat 0 8 = s.rd F.ISL_FREQ_REQ_CODE i then .next (s.freqCleared i v)
      else if s.islExpert i = false then .next ((s.freqCleared i v).wb F.ISL_FREQ_PERM_REJ true i)
      else if bitsAt v.toNat 0 8 ≠ 0 ∧ (bitsAt v.toNat 0 8 < 16 ∨ 128 < bitsAt v.toNat 0 8) then .next ((s.freqCleared i v).wb F.ISL_FREQ_FMT_REJ true i)
      else .next ((s.freqCleared i v).reqTaken i (bitsAt v.toNat 0 8)) := by
  show execIslFreqWrite i .pf v s = _
  rw [← s.rd_freqCleared i v, ← s.islExpert_freqCleared i i v i.isLt]
  unfold execIslFreqWrite
  show (if s.islPres i = false then _ else _) = _
  rw [if_neg (by rw [hp]; decide)]
  rfl

theorem State.rd_reqTaken (s : State) (i x : Nat) (hi : i < 305) (hx : x < 256) : (s.reqTaken i x).rd F.ISL_FREQ_REQ_CODE i = x := by
  have hReq : (s.wr F.ISL_FREQ_REQ_CODE x i).rd F.ISL_FREQ_REQ_CODE i = x := State.rd_wr_fits _ F.ISL_FREQ_REQ_CODE i 0 hx
  unfold State.reqTaken
  dsimp only
  rw [State.rd_noteLimits_ne _ _ _ _ (Fld.key_ofIsl_not_mem (by decide) hi (by decide)), State.rd_request]
  refine ite_keeps (fun t : State => t.rd F.ISL_FREQ_REQ_CODE i = x) _ _ _ ?_ hReq
  rw [State.rd_wr_ne _ _ _ _ _ _ _ _ (Fld.key_ofIsl_ne (by decide) (by decide) (by decide) i), hReq]

theorem answers_islFreqWrite_taken (s : State) (i : Fin 305) (v : BitVec 64) (hp : s.islPres i = true) (he : s.islExpert i = true)
    (hv : bitsAt v.toNat 0 8 = 0 ∨ (16 ≤ bitsAt v.toNat 0 8 ∧ bitsAt v.toNat 0 8 ≤ 128)) :
    Answers (.islFreqWrite i .pf v) s (fun t => t.rd F.ISL_FREQ_REQ_CODE i = bitsAt v.toNat 0 8) := by
  have hEq := exec_islFreqWrite_pf s i v hp
  by_cases h : bitsAt v.toNat 0 8 = s.rd F.ISL_FREQ_REQ_CODE i
  · rw [if_pos h] at hEq
    exact ⟨_, hEq, (s.rd_freqCleared i v).trans h.symm⟩
  · rw [if_neg h, if_neg (by rw [he]; decide), if_neg (by omega)] at hEq
    exact ⟨_, hEq, State.rd_reqTaken _ i _ i.isLt (bitsAt_lt v.toNat 0 8)⟩

/-- A discarded write of REQ_CODE keeps the field and sets a flag of ISL_FREQ. -/
theorem State.freqDiscarded_reads (s : State) (i : Nat) (v : BitVec 64) (f : Fld) (hf : f ∈ [F.ISL_FREQ_PERM_REJ, F.ISL_FREQ_FMT_REJ]) :
    ((s.freqCleared i v).wb f true i).rd F.ISL_FREQ_REQ_CODE i = s.rd F.ISL_FREQ_REQ_CODE i ∧ ((s.freqCleared i v).wb f true i).bit f i = true := by
  have hFlag : ∀ g ∈ [F.ISL_FREQ_PERM_REJ, F.ISL_FREQ_FMT_REJ], g.ofIsl = true ∧ F.ISL_FREQ_REQ_CODE.lo ≠ g.lo ∧ g.w = 1 := by decide
  obtain ⟨hIsl, hLo, hw⟩ := hFlag f hf
  refine ⟨?_, State.bit_wb_self _ f true i 0 hw⟩
  rw [State.rd_wb_ne _ _ _ _ _ _ _ _ (Fld.key_ofIsl_ne (by decide) hIsl (.inr hLo) i), State.rd_freqCleared]

theorem answers_islFreqWrite_noEnable (s : State) (i : Fin 305) (v : BitVec 64) (hp : s.islPres i = true) (he : s.islExpert i = false)
    (hv : bitsAt v.toNat 0 8 ≠ s.rd F.ISL_FREQ_REQ_CODE i) :
    Answers (.islFreqWrite i .pf v) s (fun t => t.rd F.ISL_FREQ_REQ_CODE i = s.rd F.ISL_FREQ_REQ_CODE i ∧ t.bit F.ISL_FREQ_PERM_REJ i = true) := by
  have hEq := exec_islFreqWrite_pf s i v hp
  rw [if_neg hv, if_pos he] at hEq
  exact ⟨_, hEq, s.freqDiscarded_reads i v _ (by decide)⟩

theorem answers_islFreqWrite_illegal (s : State) (i : Fin 305) (v : BitVec 64) (hp : s.islPres i = true) (he : s.islExpert i = true)
    (hv : bitsAt v.toNat 0 8 ≠ s.rd F.ISL_FREQ_REQ_CODE i) (hx : (1 ≤ bitsAt v.toNat 0 8 ∧ bitsAt v.toNat 0 8 ≤ 15) ∨ 128 < bitsAt v.toNat 0 8) :
    Answers (.islFreqWrite i .pf v) s (fun t => t.rd F.ISL_FREQ_REQ_CODE i = s.rd F.ISL_FREQ_REQ_CODE i ∧ t.bit F.ISL_FREQ_FMT_REJ i = true) := by
  have hEq := exec_islFreqWrite_pf s i v hp
  rw [if_neg hv, if_neg (by rw [he]; decide), if_pos (by omega)] at hEq
  exact ⟨_, hEq, s.freqDiscarded_reads i v _ (by decide)⟩

theorem answers_islStrCfgWrite (s : State) (i : Fin 305) (v : BitVec 64) (hp : s.islPres i = true) (he : s.islExpert i = true)
    (h0 : 2 ≤ bitsAt v.toNat 0 6) (h1 : bitsAt v.toNat 0 6 ≤ 32) :
    Answers (.islStrCfgWrite i .pf v) s (fun t => t.rd F.ISL_STR_CFG_RECOV_HOLD i = bitsAt v.toNat 0 6) := by
  have hEq : exec (.islStrCfgWrite i .pf v) s
      = if s.islPres i = false ∨ bitsAt v.toNat 0 6 = s.rd F.ISL_STR_CFG_RECOV_HOLD i then .next s
        else if s.islExpert i = false then .next (s.wb F.ISL_FREQ_PERM_REJ true i)
        else if bitsAt v.toNat 0 6 < 2 ∨ 32 < bitsAt v.toNat 0 6 then .next (s.wb F.ISL_FREQ_FMT_REJ true i)
        else .next (s.wr F.ISL_STR_CFG_RECOV_HOLD (bitsAt v.toNat 0 6) i) := rfl
  by_cases h : bitsAt v.toNat 0 6 = s.rd F.ISL_STR_CFG_RECOV_HOLD i
  · rw [if_pos (.inr h)] at hEq
    exact ⟨_, hEq, h.symm⟩
  · rw [if_neg (by simp [hp, h]), if_neg (by rw [he]; decide), if_neg (by omega)] at hEq
    exact ⟨_, hEq, State.rd_wr_fits _ F.ISL_STR_CFG_RECOV_HOLD i 0 (bitsAt_lt v.toNat 0 6)⟩

/-- Settles O6: each write by its source and its value. -/
theorem powerSettings : Obligations.PowerSettings := by
  refine ⟨answers_islPstateWrite_pf, answers_islPstateWrite_vf, fun s v h0 h1 => ?_, fun s v h => ?_, answers_islFreqWrite_taken,
    answers_islFreqWrite_noEnable, answers_islFreqWrite_illegal, answers_islStrCfgWrite⟩
  · exact ⟨_, exec_islPwrCapWrite_pf s v, State.writeCap_taken _ _ _ h0 h1⟩
  · obtain ⟨hCap, hRej⟩ := (s.capCleared v).writeCap_discarded .pf _ h
    exact ⟨_, exec_islPwrCapWrite_pf s v, hCap.trans (s.rd_capCleared v), hRej⟩

/-! ### Cold reset -/

/-- No register is listed at cold reset: a field holds the reset value of its table. -/
theorem State.rd_reset (f : Fld) (i j : Nat) : State.reset.rd f i j = f.dflt i j := rfl

/-- Settles O58: every register holds the reset value of its table, and every other component is as the reset state lists it. -/
theorem resetValues : Obligations.ResetValues := by
  unfold Obligations.ResetValues
  simp only [State.bit, State.rd_reset]
  exact ⟨⟨rfl, rfl, rfl⟩, by decide, fun _ _ => ⟨rfl, rfl, rfl⟩, fun _ _ => ⟨rfl, rfl, rfl⟩, fun _ _ => ⟨rfl, rfl⟩, fun _ => rfl, rfl, rfl,
    rfl, rfl⟩

end Sys2Proof.Machine
end

section
/-! PROOFS. Rules for the shared operations of Flint (chapter 3): the causes that stand, what setting a ceiling leaves, entry to and exit from acting alone. -/

namespace Sys2Proof.Machine

/-! ### Causes stay raised -/

/-- A bit of a number apart from the one replaced. -/
theorem bitAt_putBits_ne (v x : Nat) {b k : Nat} (h : k ≠ b) : bitAt (putBits v b 1 x) k = bitAt v k := by
  have hv : v % 2 ^ b < 2 ^ b := Nat.mod_lt _ (Nat.two_pow_pos b)
  have hput : putBits v b 1 x = 2 ^ b * (v / 2 ^ b - v / 2 ^ b % 2 + x % 2) + v % 2 ^ b := by
    have hq : 2 ^ b * (v / 2 ^ b) = 2 ^ b * (v / 2 ^ b - v / 2 ^ b % 2) + 2 ^ b * (v / 2 ^ b % 2) := by
      rw [← Nat.mul_add, Nat.sub_add_cancel (Nat.mod_le _ _)]
    have hsum := Nat.div_add_mod v (2 ^ b)
    simp only [putBits, bitsAt, Nat.pow_one]
    rw [Nat.mul_add, Nat.mul_comm (v / 2 ^ b % 2), Nat.mul_comm (x % 2)]
    omega
  rw [bitAt_eq_testBit, bitAt_eq_testBit]
  rcases Nat.lt_or_gt_of_ne h with hlt | hgt
  · have hmod : putBits v b 1 x % 2 ^ b = v % 2 ^ b := by rw [hput, Nat.mul_add_mod, Nat.mod_mod]
    have hbit := congrArg (Nat.testBit · k) hmod
    simpa [Nat.testBit_mod_two_pow, hlt] using hbit
  · have hdiv : putBits v b 1 x / 2 ^ (b + 1) = v / 2 ^ (b + 1) := by
      rw [Nat.pow_succ, ← Nat.div_div_eq_div_mul, ← Nat.div_div_eq_div_mul, hput, Nat.mul_add_div (Nat.two_pow_pos b), Nat.div_eq_of_lt hv]
      generalize v / 2 ^ b = q
      omega
    have hbit := congrArg (Nat.testBit · (k - (b + 1))) hdiv
    simpa [Nat.testBit_div_two_pow, Nat.sub_add_cancel hgt] using hbit

/-- Another flag of a field after one is written. -/
theorem State.flag_wflag_ne (s : State) (f : Fld) {b k : Nat} (x : Bool) (i j : Nat) (h : k ≠ b) (hk : k < f.w) :
    (s.wflag f b x i j).flag f k i j = s.flag f k i j := by
  unfold State.flag State.wflag
  rw [State.rd_wr_self, bitAt_eq_testBit, Nat.testBit_mod_two_pow, ← bitAt_eq_testBit, bitAt_putBits_ne _ _ h]
  simp [hk]

/-- Flags depend on their field alone. -/
theorem State.flag_congr {s t : State} {f : Fld} {i j : Nat} (h : t.rd f i j = s.rd f i j) (k : Nat) : t.flag f k i j = s.flag f k i j := by
  rw [State.flag, State.flag, h]

/-- A bit depends on its field alone. -/
theorem State.bit_congr {s t : State} {f : Fld} {i j : Nat} (h : t.rd f i j = s.rd f i j) : t.bit f i j = s.bit f i j := by
  rw [State.bit, State.bit, h]

/-- A cause of FLT_ALERT_STAT stands (R89). -/
def State.raised (s : State) (k : Nat) : Prop := s.flag F.FLT_ALERT_STAT_CAUSE k = true

theorem State.raised_of_rd {s t : State} {k : Nat} (h : s.raised k) (e : t.rd F.FLT_ALERT_STAT_CAUSE = s.rd F.FLT_ALERT_STAT_CAUSE) : t.raised k :=
  (State.flag_congr e k).trans h

/-- Raising a cause leaves those that stand. -/
theorem State.raised_alert {s : State} {k : Nat} (a : Alert) (hk : k < 11) (h : s.raised k) : (s.alert a).raised k := by
  by_cases e : k = a.num
  · exact e ▸ s.flag_alert_self a
  · unfold State.alert
    split
    · exact h
    · refine State.raised_of_rd ?_ (State.rd_msi ..)
      exact (s.flag_wflag_ne F.FLT_ALERT_STAT_CAUSE true 0 0 e hk).trans h

theorem State.raised_logRing {s : State} {k : Nat} (e : LogEntry) (b : Bool) (h : s.raised k) : (s.logRing e b).raised k :=
  State.raised_of_rd h (State.rd_logRing_ne _ _ _ _ _ _ (by decide))

theorem State.raised_lost {s : State} {k : Nat} (h : s.raised k) : (s.bump F.FLT_LOG_HEAD_LOG_LOST).raised k :=
  State.raised_of_rd h (State.rd_bump_ne _ _ _ _ _ _ _ _ (by decide))

theorem State.raised_logFull {s : State} {k : Nat} (e : LogEntry) (hk : k < 11) (h : s.raised k) : (s.logFull e).raised k := by
  have hLost := State.raised_lost (State.raised_logRing e false h)
  unfold State.logFull
  dsimp only
  split
  · exact hLost
  · exact State.raised_lost (State.raised_logRing _ _ (State.raised_alert .log hk hLost))

theorem State.raised_logPut {s : State} {k : Nat} (e : LogEntry) (hk : k < 11) (h : s.raised k) : (s.logPut e).raised k :=
  ite_keeps (State.raised · k) _ _ _ (State.raised_logRing e false h)
    (ite_keeps (State.raised · k) _ _ _ (State.raised_logRing e true h) (State.raised_logFull e hk h))

/-- Logging clears no cause. -/
theorem State.raised_logE {s : State} {k : Nat} (code source sev : Nat) (data : List Nat) (hk : k < 11) (h : s.raised k) :
    (s.logE code source sev data).raised k := by
  unfold State.logE
  split
  · exact h
  · split
    · exact ite_keeps (State.raised · k) _ _ _ h h
    · split
      · exact ite_keeps (State.raised · k) _ _ _ h (State.raised_logPut _ hk h)
      · exact State.raised_logPut _ hk h

/-! ### Ceilings change registers alone -/

/-- A state that differs from another in its registers alone. -/
def RegsOnly (s t : State) : Prop := ∃ r, t = { s with regs := r }

theorem RegsOnly.refl (s : State) : RegsOnly s s := ⟨_, rfl⟩

theorem RegsOnly.wr {s t : State} (h : RegsOnly s t) (f : Fld) (v i j : Nat) : RegsOnly s (t.wr f v i j) := by
  obtain ⟨r, rfl⟩ := h
  exact ⟨_, rfl⟩

theorem RegsOnly.noteLimits {s t : State} (h : RegsOnly s t) : RegsOnly s t.noteLimits := by
  have mark (c : Prop) [Decidable c] (u : State) (f : Fld) (hu : RegsOnly s u) : RegsOnly s (if c then u.wb f true else u) :=
    ite_keeps (RegsOnly s) c _ _ (hu.wr f _ 0 0) hu
  unfold State.noteLimits
  dsimp only
  split
  · exact h
  · exact mark _ _ _ (mark _ _ _ (mark _ _ _ h))

theorem State.setCeil_regs (s : State) (f : Fld) (cause code : Nat) : RegsOnly s (s.setCeil f cause code) := by
  have hCode := (RegsOnly.refl s).wr f code 0 0
  rcases s.setCeil_cases f cause code with ⟨-, h⟩ | h <;> rw [h]
  · exact hCode.noteLimits
  · exact (((hCode.wr _ _ 0 0).wr _ _ 0 0).wr _ _ 0 0).noteLimits

@[simp] theorem State.flint_setCeil (s : State) (f : Fld) (cause code : Nat) : (s.setCeil f cause code).flint = s.flint := by
  obtain ⟨r, h⟩ := s.setCeil_regs f cause code
  rw [h]

@[simp] theorem State.now_setCeil (s : State) (f : Fld) (cause code : Nat) : (s.setCeil f cause code).now = s.now := by
  obtain ⟨r, h⟩ := s.setCeil_regs f cause code
  rw [h]

@[simp] theorem State.flint_setFltCeil (s : State) : s.setFltCeil.flint = s.flint := by
  rw [State.setFltCeil_eq]
  split
  · rfl
  · rw [State.flint_logE, State.flint_setCeil]

@[simp] theorem State.now_setFltCeil (s : State) : s.setFltCeil.now = s.now := by
  rw [State.setFltCeil_eq]
  split
  · rfl
  · rw [State.now_logE, State.now_setCeil]

/-- The keys of the fields that CEIL_FLT's setting may write. -/
def fltCeilKeys : List Nat := F.ISL_CEIL_CEIL_FLT.key 0 0 :: ceilKeys ++ logKeys

theorem State.rd_setFltCeil_ne (s : State) (g : Fld) (k l : Nat) (h : g.key k l ∉ fltCeilKeys) : s.setFltCeil.rd g k l = s.rd g k l := by
  rw [fltCeilKeys, List.mem_append, not_or] at h
  rw [State.setFltCeil_eq]
  split
  · rfl
  · rw [State.rd_logE_ne _ _ _ _ _ _ _ _ h.2, State.rd_setCeil_ne _ _ _ _ _ _ _ h.1]

theorem State.raised_setFltCeil {s : State} {k : Nat} (hk : k < 11) (h : s.raised k) : s.setFltCeil.raised k := by
  rw [State.setFltCeil_eq]
  split
  · exact h
  · exact State.raised_logE _ _ _ _ hk (State.raised_of_rd h (State.rd_setCeil_ne _ _ _ _ _ _ _ (by decide)))

/-! ### Acting alone -/

/-- The keys of the fields that entry to acting alone, and exit from it, may write (R90, R92). -/
def aloneKeys : List Nat := F.FLT_ALONE_ACTIVE.key 0 0 :: F.FLT_ALONE_LAST_BY.key 0 0 :: fltCeilKeys

/-- Leaving it before the log entry: the flag, the party and the ceiling (R92). -/
def State.aloneLeft (s : State) (party : Nat) : State := ((s.wb F.FLT_ALONE_ACTIVE false).wr F.FLT_ALONE_LAST_BY party).setFltCeil

theorem State.aloneExit_eq (s : State) (party : Nat) : s.aloneExit party = (s.aloneLeft party).logE 0x0231 304 2 [party] := rfl

@[simp] theorem State.flint_aloneExit (s : State) (party : Nat) : (s.aloneExit party).flint = s.flint := by
  rw [State.aloneExit_eq, State.flint_logE, State.aloneLeft, State.flint_setFltCeil]
  rfl

theorem State.rd_aloneExit_ne (s : State) (party : Nat) (g : Fld) (k l : Nat) (h : g.key k l ∉ aloneKeys) :
    (s.aloneExit party).rd g k l = s.rd g k l := by
  simp only [aloneKeys, List.mem_cons, not_or] at h
  obtain ⟨hActive, hBy, hCeil⟩ := h
  rw [State.aloneExit_eq, State.rd_logE_ne _ _ _ _ _ _ _ _ (fun e => hCeil (List.mem_append_right _ e)), State.aloneLeft,
    State.rd_setFltCeil_ne _ _ _ _ hCeil, State.rd_wr_ne _ _ _ _ _ _ _ _ hBy, State.rd_wb_ne _ _ _ _ _ _ _ _ hActive]

theorem State.raised_aloneExit {s : State} {k : Nat} (party : Nat) (hk : k < 11) (h : s.raised k) : (s.aloneExit party).raised k := by
  refine State.raised_logE _ _ _ _ hk (State.raised_setFltCeil hk (State.raised_of_rd h ?_))
  rw [State.rd_wr_ne _ _ _ _ _ _ _ _ (by decide), State.rd_wb_ne _ _ _ _ _ _ _ _ (by decide)]

/-- After the exit Flint does not act alone, the party is recorded, and CEIL_FLT is what V12AUX alone asks for. -/
theorem State.reads_aloneExit (s : State) {party : Nat} (hp : party < 4) :
    (s.aloneExit party).bit F.FLT_ALONE_ACTIVE = false ∧ (s.aloneExit party).rd F.FLT_ALONE_LAST_BY = party
      ∧ (s.aloneExit party).rd F.ISL_CEIL_CEIL_FLT = if s.pwr.v12lost then 16 else 128 := by
  have hActive : ((s.wb F.FLT_ALONE_ACTIVE false).wr F.FLT_ALONE_LAST_BY party).bit F.FLT_ALONE_ACTIVE = false := by
    rw [State.bit, State.rd_wr_ne _ _ _ _ _ _ _ _ (by decide)]
    exact s.bit_wb_self F.FLT_ALONE_ACTIVE false 0 0 rfl
  rw [State.aloneExit_eq, State.bit, State.rd_logE_ne _ _ _ _ _ _ _ _ (by decide), State.rd_logE_ne _ _ _ _ _ _ _ _ (by decide),
    State.rd_logE_ne _ _ _ _ _ _ _ _ (by decide), State.aloneLeft, State.rd_setFltCeil, State.rd_setFltCeil_ne _ _ _ _ (by decide),
    State.rd_setFltCeil_ne _ _ _ _ (by decide)]
  refine ⟨hActive, State.rd_wr_fits _ F.FLT_ALONE_LAST_BY 0 0 hp, ?_⟩
  rw [State.fltCeil, hActive, Bool.false_or]
  rfl

/-- Entering it before the partitions are quiesced: the flag and the ceiling (R90). -/
def State.aloneOn (s : State) : State := (s.wb F.FLT_ALONE_ACTIVE true).setFltCeil

@[simp] theorem State.rd_quiesceAll (s : State) (f : Fld) (i j : Nat) : s.quiesceAll.rd f i j = s.rd f i j := rfl

@[simp] theorem State.flint_quiesceAll (s : State) : s.quiesceAll.flint = { s.flint with quiesceReq := s.partMask, quiesceAt := s.now } := rfl

theorem State.aloneEnter_eq (s : State) :
    s.aloneEnter = ((if s.aloneOn.takingOver then s.aloneOn else s.aloneOn.quiesceAll).alert .alone).logE 0x0230 304 4 [] := rfl

theorem State.rd_aloneOn_ne (s : State) (g : Fld) (k l : Nat) (h : g.key k l ∉ aloneKeys) : s.aloneOn.rd g k l = s.rd g k l := by
  simp only [aloneKeys, List.mem_cons, not_or] at h
  obtain ⟨hActive, -, hCeil⟩ := h
  rw [State.aloneOn, State.rd_setFltCeil_ne _ _ _ _ hCeil, State.rd_wb_ne _ _ _ _ _ _ _ _ hActive]

/-- What the entry leaves in a field that neither the alert nor the log writes. -/
theorem State.rd_aloneEnter (s : State) (g : Fld) (k l : Nat) (h : g.key k l ∉ logKeys) : s.aloneEnter.rd g k l = s.aloneOn.rd g k l := by
  have hCause : g.key k l ≠ F.FLT_ALERT_STAT_CAUSE.key 0 0 := fun e => h (by rw [e]; decide)
  rw [State.aloneEnter_eq, State.rd_logE_ne _ _ _ _ _ _ _ _ h, State.rd_alert_ne _ _ _ _ _ hCause]
  exact ite_keeps (fun t : State => t.rd g k l = s.aloneOn.rd g k l) _ _ _ rfl (State.rd_quiesceAll ..)

theorem State.rd_aloneEnter_ne (s : State) (g : Fld) (k l : Nat) (h : g.key k l ∉ aloneKeys) : s.aloneEnter.rd g k l = s.rd g k l := by
  rw [State.rd_aloneEnter _ _ _ _ (fun e => h (by simp [aloneKeys, fltCeilKeys, e])), State.rd_aloneOn_ne _ _ _ _ h]

theorem State.raised_aloneEnter {s : State} {k : Nat} (hk : k < 11) (h : s.raised k) : s.aloneEnter.raised k := by
  have hOn : s.aloneOn.raised k := State.raised_setFltCeil hk (State.raised_of_rd h (State.rd_wb_ne _ _ _ _ _ _ _ _ (by decide)))
  exact State.raised_logE _ _ _ _ hk (State.raised_alert .alone hk (ite_keeps (State.raised · k) _ _ _ hOn (State.raised_of_rd hOn (State.rd_quiesceAll ..))))

/-- The entry raises ALONE. -/
theorem State.raised_aloneEnter_alone (s : State) : s.aloneEnter.raised 6 := State.raised_logE _ _ _ _ (by decide) (State.flag_alert_self _ .alone)

/-- After the entry Flint acts alone under code 16. -/
theorem State.reads_aloneEnter (s : State) : s.aloneEnter.bit F.FLT_ALONE_ACTIVE = true ∧ s.aloneEnter.rd F.ISL_CEIL_CEIL_FLT = 16 := by
  have hActive : (s.wb F.FLT_ALONE_ACTIVE true).bit F.FLT_ALONE_ACTIVE = true := s.bit_wb_self F.FLT_ALONE_ACTIVE true 0 0 rfl
  rw [State.bit, State.rd_aloneEnter _ _ _ _ (by decide), State.rd_aloneEnter _ _ _ _ (by decide), State.aloneOn, State.rd_setFltCeil,
    State.rd_setFltCeil_ne _ _ _ _ (by decide)]
  refine ⟨hActive, ?_⟩
  rw [State.fltCeil, hActive, Bool.true_or]
  rfl

/-- The mask of the partitions depends on their EXISTS bits alone. -/
theorem State.partMask_congr {s t : State} (h : ∀ p < 16, t.rd F.HST_PART_CTL_EXISTS p = s.rd F.HST_PART_CTL_EXISTS p) : t.partMask = s.partMask := by
  unfold State.partMask
  refine List.foldl_rel (r := Eq) rfl (fun p hp m m' hm => ?_)
  rw [hm, State.bit_congr (h p (List.mem_range.1 hp))]

/-- Outside a takeover the entry asks every partition that exists to quiesce (R90, R91). -/
theorem State.quiesce_aloneEnter (s : State) (h : s.rd F.AGT_STAT_STATE ≠ 4) :
    s.aloneEnter.flint.quiesceReq = s.partMask ∧ s.aloneEnter.flint.quiesceAt = s.now := by
  have hPair : s.aloneOn.takingOver = false := by
    rw [State.takingOver, State.rd_aloneOn_ne _ _ _ _ (by decide)]
    exact decide_eq_false h
  have hKeys : ∀ p < 16, F.HST_PART_CTL_EXISTS.key p 0 ∉ aloneKeys := by decide
  rw [State.aloneEnter_eq, hPair, State.flint_logE, State.flint_alert, if_neg Bool.false_ne_true, State.flint_quiesceAll]
  exact ⟨State.partMask_congr (fun p hp => State.rd_aloneOn_ne _ _ _ _ (hKeys p hp)), State.now_setFltCeil _⟩

/-- At a sample Flint stays as it is, leaves acting alone, or enters it. -/
theorem State.aloneJudge_cases (s : State) (back : Bool) :
    s.aloneJudge back = s ∨ (∃ party, s.aloneJudge back = s.aloneExit party) ∨ s.aloneJudge back = s.aloneEnter := by
  unfold State.aloneJudge
  split
  · split
    · exact .inr (.inl ⟨1, rfl⟩)
    · split
      · exact .inr (.inl ⟨2, rfl⟩)
      · exact .inl rfl
  · split
    · split
      · exact .inr (.inr rfl)
      · exact .inl rfl
    · exact .inl rfl

theorem State.rd_aloneJudge_ne (s : State) (back : Bool) (g : Fld) (k l : Nat) (h : g.key k l ∉ aloneKeys) :
    (s.aloneJudge back).rd g k l = s.rd g k l := by
  rcases s.aloneJudge_cases back with e | ⟨party, e⟩ | e <;> rw [e]
  · exact s.rd_aloneExit_ne party g k l h
  · exact s.rd_aloneEnter_ne g k l h

theorem State.raised_aloneJudge {s : State} {k : Nat} (back : Bool) (hk : k < 11) (h : s.raised k) : (s.aloneJudge back).raised k := by
  rcases s.aloneJudge_cases back with e | ⟨party, e⟩ | e <;> rw [e]
  · exact h
  · exact State.raised_aloneExit party hk h
  · exact State.raised_aloneEnter hk h

end Sys2Proof.Machine
end

section
/-! PROOFS. The host watch and acting alone (O8). -/

namespace Sys2Proof.Machine

/-! ### Writes of the watch -/

theorem answers_fltHostHbWrite_pf (s : State) (w : BitVec 32) :
    Answers (.fltHostHbWrite .pf w) s (fun t => t.rd F.FLT_HOST_HB_WORD = w.toNat ∧ t.bit F.FLT_HOST_HB_ARMED = true
      ∧ Keeps s t [F.FLT_HOST_HB_WORD.key 0 0, F.FLT_HOST_HB_ARMED.key 0 0]) := by
  have hWord : ((s.wr F.FLT_HOST_HB_WORD w.toNat).wb F.FLT_HOST_HB_ARMED true).rd F.FLT_HOST_HB_WORD = w.toNat :=
    (State.rd_wb_ne _ _ _ _ _ _ _ _ (by decide)).trans (State.rd_wr_fits _ F.FLT_HOST_HB_WORD 0 0 w.isLt)
  have hArmed : ((s.wr F.FLT_HOST_HB_WORD w.toNat).wb F.FLT_HOST_HB_ARMED true).bit F.FLT_HOST_HB_ARMED = true :=
    State.bit_wb_self _ F.FLT_HOST_HB_ARMED true 0 0 rfl
  have hKeeps : Keeps s ((s.wr F.FLT_HOST_HB_WORD w.toNat).wb F.FLT_HOST_HB_ARMED true)
      [F.FLT_HOST_HB_WORD.key 0 0, F.FLT_HOST_HB_ARMED.key 0 0] :=
    ((Keeps.refl s _).wr _ _ 0 0 (by simp)).wr _ _ 0 0 (by simp)
  refine ⟨_, rfl, ?_⟩
  split
  · exact ⟨hWord, hArmed, hKeeps⟩
  · exact ⟨hWord, hArmed, hKeeps⟩

theorem answers_fltHostHbWrite_vf (s : State) (w : BitVec 32) (p : Part) :
    Answers (.fltHostHbWrite (.vf p) w) s (fun t =>
      t.rd F.FLT_WR_REJ_COUNT = satAt 32 (s.rd F.FLT_WR_REJ_COUNT + 1) ∧ Keeps s t [F.FLT_WR_REJ_COUNT.key 0 0]) :=
  ⟨_, rfl, s.rd_bump_self F.FLT_WR_REJ_COUNT 1 0 0, (Keeps.refl s _).wr _ _ 0 0 (List.mem_singleton.2 rfl)⟩

theorem answers_hostWatchDisarm_pf (s : State) :
    Answers (.hostWatchDisarm .pf) s (fun t => t.bit F.FLT_HOST_HB_ARMED = false ∧ t.bit F.FLT_STAT_HOST_SIL = false
      ∧ Keeps s t [F.FLT_HOST_HB_ARMED.key 0 0, F.FLT_STAT_HOST_SIL.key 0 0]) := by
  have hArmed : ((s.wb F.FLT_HOST_HB_ARMED false).wb F.FLT_STAT_HOST_SIL false).bit F.FLT_HOST_HB_ARMED = false := by
    rw [State.bit, State.rd_wb_ne _ _ _ _ _ _ _ _ (by decide)]
    exact s.bit_wb_self F.FLT_HOST_HB_ARMED false 0 0 rfl
  have hKeeps : Keeps s ((s.wb F.FLT_HOST_HB_ARMED false).wb F.FLT_STAT_HOST_SIL false)
      [F.FLT_HOST_HB_ARMED.key 0 0, F.FLT_STAT_HOST_SIL.key 0 0] :=
    ((Keeps.refl s _).wr _ _ 0 0 (by simp)).wr _ _ 0 0 (by simp)
  exact ⟨_, rfl, hArmed, State.bit_wb_self _ F.FLT_STAT_HOST_SIL false 0 0 rfl, hKeeps⟩

/-! ### The judgement of the host at a sample -/

/-- The host falls silent: since now, marked, HOST raised, logged (R86). -/
def State.hostFalls (s : State) : State :=
  ((({ s with flint := { s.flint with hostSince := some s.now } } : State).wb F.FLT_STAT_HOST_SIL true).alert .host).logE 0x0220 0xF010 3 []

/-- The sample takes the word that has changed (R86). -/
def State.hostSeen (s : State) : State := { s with flint := { s.flint with hostWord := s.rd F.FLT_HOST_HB_WORD, hostAt := s.now } }

/-- The host is back: no longer silent, logged (R86). -/
def State.hostReturns (s : State) : State :=
  (({ s with flint := { s.flint with hostSince := none } } : State).wb F.FLT_STAT_HOST_SIL false).logE 0x0221 0xF010 1 []

theorem State.judgeHost_falls (s : State) (hArmed : s.bit F.FLT_HOST_HB_ARMED = true) (hSil : s.bit F.FLT_STAT_HOST_SIL = false)
    (hWord : s.rd F.FLT_HOST_HB_WORD = s.flint.hostWord)
    (h : s.bit F.HST_STAT_LINK_UP = false ∨ s.rd F.FLT_HB_CFG_HOST_T * 10000000 ≤ s.now - s.flint.hostAt) :
    s.judgeHost = (s.hostFalls, false) := by
  have hSilent : (!s.bit F.HST_STAT_LINK_UP || decide (s.rd F.FLT_HB_CFG_HOST_T * 10000000 ≤ s.now - s.flint.hostAt)) = true := by
    rcases h with h | h <;> simp [h]
  simp [State.judgeHost, hWord, hArmed, hSil, hSilent, State.hostFalls]

theorem State.judgeHost_back (s : State) (hSil : s.bit F.FLT_STAT_HOST_SIL = true) (hWord : s.rd F.FLT_HOST_HB_WORD ≠ s.flint.hostWord)
    (hLink : s.bit F.HST_STAT_LINK_UP = true) : s.judgeHost = (s.hostSeen.hostReturns, true) := by
  have hLink' : s.hostSeen.bit F.HST_STAT_LINK_UP = true := hLink
  have hSil' : s.hostSeen.bit F.FLT_STAT_HOST_SIL = true := hSil
  unfold State.hostSeen at hLink' hSil'
  simp [State.judgeHost, hWord, hLink', hSil', State.hostReturns, State.hostSeen]

/-- A host that is silent with its word unchanged stays so. -/
theorem State.judgeHost_stays (s : State) (hSil : s.bit F.FLT_STAT_HOST_SIL = true) (hWord : s.rd F.FLT_HOST_HB_WORD = s.flint.hostWord) :
    s.judgeHost = (s, false) := by
  simp [State.judgeHost, hWord, hSil]

@[simp] theorem State.rd_noteTwin (s : State) (f : Fld) (i j : Nat) : s.noteTwin.rd f i j = s.rd f i j := rfl

/-- A sample is the judgement of the host and of the twin, and then of acting alone. -/
theorem exec_hostSample {s : State} {r : State × Bool} (hOn : s.flint.on = true) (hr : s.judgeHost = r) :
    exec .hostSample s = .next (r.1.noteTwin.aloneJudge r.2) := by
  show execHostSample s = _
  simp [execHostSample, hOn, hr]

/-! ### Samples -/

theorem answers_hostSample_silent (s : State) (hOn : s.flint.on = true) (hArmed : s.bit F.FLT_HOST_HB_ARMED = true)
    (hSil : s.bit F.FLT_STAT_HOST_SIL = false) (hWord : s.rd F.FLT_HOST_HB_WORD = s.flint.hostWord)
    (h : s.bit F.HST_STAT_LINK_UP = false ∨ s.rd F.FLT_HB_CFG_HOST_T * 10000000 ≤ s.now - s.flint.hostAt) :
    Answers .hostSample s (fun t => t.bit F.FLT_STAT_HOST_SIL = true ∧ t.flag F.FLT_ALERT_STAT_CAUSE 5 = true) := by
  refine ⟨_, exec_hostSample hOn (s.judgeHost_falls hArmed hSil hWord h), ?_, State.raised_aloneJudge _ (by decide) ?_⟩
  · rw [State.bit, State.rd_aloneJudge_ne _ _ _ _ _ (by decide), State.rd_noteTwin, State.hostFalls, State.rd_logE_ne _ _ _ _ _ _ _ _ (by decide),
      State.rd_alert_ne _ _ _ _ _ (by decide)]
    exact State.bit_wb_self _ F.FLT_STAT_HOST_SIL true 0 0 rfl
  · exact State.raised_of_rd (State.raised_logE _ _ _ _ (by decide) (State.flag_alert_self _ .host)) (State.rd_noteTwin ..)

/-- Flint, acting alone, leaves that state when the host is back; else it stays as it is, as the host is no longer silent. -/
theorem State.aloneJudge_back (s : State) (h : s.flint.hostSince = none) :
    s.aloneJudge true = if s.bit F.FLT_ALONE_ACTIVE then s.aloneExit 1 else s := by
  unfold State.aloneJudge
  split
  · rfl
  · rw [h]

/-- The host back at a sample, before Flint judges acting alone: the word is taken, and neither silence nor its start is left. -/
def State.hostBack (s : State) : State := s.hostSeen.hostReturns.noteTwin

theorem State.watch_hostBack (s : State) : s.hostBack.flint.hostSince = none ∧ s.hostBack.flint.hostWord = s.rd F.FLT_HOST_HB_WORD := by
  have hFlint : s.hostSeen.hostReturns.flint = { s.hostSeen.flint with hostSince := none } := State.flint_logE ..
  exact ⟨congrArg FlintSt.hostSince hFlint, congrArg FlintSt.hostWord hFlint⟩

theorem State.silent_hostBack (s : State) : s.hostBack.bit F.FLT_STAT_HOST_SIL = false := by
  rw [State.bit, State.hostBack, State.rd_noteTwin, State.hostReturns, State.rd_logE_ne _ _ _ _ _ _ _ _ (by decide)]
  exact State.bit_wb_self _ F.FLT_STAT_HOST_SIL false 0 0 rfl

theorem State.rd_hostBack_ne (s : State) (g : Fld) (k l : Nat) (h : g.key k l ∉ F.FLT_STAT_HOST_SIL.key 0 0 :: logKeys) :
    s.hostBack.rd g k l = s.rd g k l := by
  rw [List.mem_cons, not_or] at h
  rw [State.hostBack, State.rd_noteTwin, State.hostReturns, State.rd_logE_ne _ _ _ _ _ _ _ _ h.2, State.rd_wb_ne _ _ _ _ _ _ _ _ h.1]
  rfl

theorem answers_hostSample_back (s : State) (hOn : s.flint.on = true) (hSil : s.bit F.FLT_STAT_HOST_SIL = true)
    (hWord : s.rd F.FLT_HOST_HB_WORD ≠ s.flint.hostWord) (hLink : s.bit F.HST_STAT_LINK_UP = true) :
    Answers .hostSample s (fun t => t.bit F.FLT_STAT_HOST_SIL = false ∧ t.flint.hostSince = none ∧ t.flint.hostWord = s.rd F.FLT_HOST_HB_WORD
      ∧ (s.bit F.FLT_ALONE_ACTIVE = true → t.bit F.FLT_ALONE_ACTIVE = false ∧ t.rd F.FLT_ALONE_LAST_BY = 1
      ∧ t.rd F.FLT_ALONE_QUIESCED = s.rd F.FLT_ALONE_QUIESCED)) := by
  obtain ⟨hSince, hTaken⟩ := s.watch_hostBack
  have hActive : s.hostBack.bit F.FLT_ALONE_ACTIVE = s.bit F.FLT_ALONE_ACTIVE := State.bit_congr (s.rd_hostBack_ne _ _ _ (by decide))
  have hEq : exec .hostSample s = .next (s.hostBack.aloneJudge true) := exec_hostSample hOn (s.judgeHost_back hSil hWord hLink)
  rw [s.hostBack.aloneJudge_back hSince, hActive] at hEq
  split at hEq
  · obtain ⟨hOff, hBy, -⟩ := s.hostBack.reads_aloneExit (party := 1) (by decide)
    refine ⟨_, hEq, ?_, ?_, ?_, fun _ => ⟨hOff, hBy, ?_⟩⟩
    · exact (State.bit_congr (State.rd_aloneExit_ne _ _ _ _ _ (by decide))).trans s.silent_hostBack
    · rw [State.flint_aloneExit, hSince]
    · rw [State.flint_aloneExit, hTaken]
    · rw [State.rd_aloneExit_ne _ _ _ _ _ (by decide), s.rd_hostBack_ne _ _ _ (by decide)]
  · rename_i hOff
    exact ⟨_, hEq, s.silent_hostBack, hSince, hTaken, fun h => absurd h hOff⟩

/-- Host and twin silent together for longer than FLT_SILENCE_T (R90). -/
theorem State.aloneJudge_enter (s : State) (back : Bool) {h w : Nat} (hActive : s.bit F.FLT_ALONE_ACTIVE = false)
    (hHost : s.flint.hostSince = some h) (hTwin : s.flint.twinSince = some w) (hLong : s.rd F.FLT_HB_CFG_SILENCE_T * 10000000 < s.now - max h w) :
    s.aloneJudge back = s.aloneEnter := by
  simp [State.aloneJudge, hActive, hHost, hTwin, hLong]

/-- A twin that is silent has been so since it fell silent. -/
theorem State.noteTwin_silent (s : State) {w : Nat} (hTwin : s.flint.twinSince = some w) (h : s.twinContact = false) : s.noteTwin = s := by
  simp only [State.noteTwin, h, hTwin, Bool.false_eq_true, if_false]
  rw [← hTwin]

theorem answers_hostSample_alone (s : State) (h w : Nat) (hOn : s.flint.on = true) (hActive : s.bit F.FLT_ALONE_ACTIVE = false)
    (hSil : s.bit F.FLT_STAT_HOST_SIL = true) (hWord : s.rd F.FLT_HOST_HB_WORD = s.flint.hostWord) (hHost : s.flint.hostSince = some h)
    (hTwin : s.flint.twinSince = some w) (hContact : s.twinContact = false) (hLong : s.rd F.FLT_HB_CFG_SILENCE_T * 10000000 < s.now - max h w) :
    Answers .hostSample s (fun t => t.bit F.FLT_ALONE_ACTIVE = true ∧ t.rd F.ISL_CEIL_CEIL_FLT = 16 ∧ t.flag F.FLT_ALERT_STAT_CAUSE 6 = true
      ∧ (s.rd F.AGT_STAT_STATE ≠ 4 → t.flint.quiesceReq = s.partMask ∧ t.flint.quiesceAt = s.now)) := by
  have hEq := exec_hostSample hOn (s.judgeHost_stays hSil hWord)
  rw [s.noteTwin_silent hTwin hContact, s.aloneJudge_enter false hActive hHost hTwin hLong] at hEq
  obtain ⟨hOn', hCeil⟩ := s.reads_aloneEnter
  exact ⟨_, hEq, hOn', hCeil, s.raised_aloneEnter_alone, s.quiesce_aloneEnter⟩

/-- Flint, acting alone with the host silent, leaves that state when the twin is in contact (R92). -/
theorem State.aloneJudge_twin (s : State) (hActive : s.bit F.FLT_ALONE_ACTIVE = true) (hSil : s.bit F.FLT_STAT_HOST_SIL = true)
    (hContact : s.twinContact = true) : s.aloneJudge false = s.aloneExit 2 := by
  simp [State.aloneJudge, hActive, hSil, hContact]

theorem answers_hostSample_twin (s : State) (hOn : s.flint.on = true) (hActive : s.bit F.FLT_ALONE_ACTIVE = true)
    (hSil : s.bit F.FLT_STAT_HOST_SIL = true) (hWord : s.rd F.FLT_HOST_HB_WORD = s.flint.hostWord) (hContact : s.twinContact = true) :
    Answers .hostSample s (fun t => t.bit F.FLT_ALONE_ACTIVE = false ∧ t.rd F.FLT_ALONE_LAST_BY = 2
      ∧ t.rd F.ISL_CEIL_CEIL_FLT = (if s.pwr.v12lost then 16 else 128) ∧ t.rd F.FLT_ALONE_QUIESCED = s.rd F.FLT_ALONE_QUIESCED) := by
  have hEq := exec_hostSample hOn (s.judgeHost_stays hSil hWord)
  rw [s.noteTwin.aloneJudge_twin hActive hSil hContact] at hEq
  obtain ⟨hOff, hBy, hCeil⟩ := s.noteTwin.reads_aloneExit (party := 2) (by decide)
  exact ⟨_, hEq, hOff, hBy, hCeil, State.rd_aloneExit_ne _ _ _ _ _ (by decide)⟩

/-! ### Quiescence and release -/

/-- A partition that Flint holds (R91). -/
theorem State.reads_quiesced (s : State) (p : Part) : (s.wflag F.FLT_ALONE_QUIESCED p true).flag F.FLT_ALONE_QUIESCED p = true
    ∧ Keeps s (s.wflag F.FLT_ALONE_QUIESCED p true) [F.FLT_ALONE_QUIESCED.key 0 0] :=
  ⟨s.flag_wflag_self F.FLT_ALONE_QUIESCED p 0 0 true p.isLt, (Keeps.refl s _).wr _ _ 0 0 (List.mem_singleton.2 rfl)⟩

theorem answers_partitionQuiesced (s : State) (p : Part) (hReq : bitAt s.flint.quiesceReq p = true) (hHeld : s.flag F.FLT_ALONE_QUIESCED p = false)
    (hQuiet : s.partQuiet p = true) :
    Answers (.partitionQuiesced p) s (fun t => t.flag F.FLT_ALONE_QUIESCED p = true ∧ Keeps s t [F.FLT_ALONE_QUIESCED.key 0 0]) := by
  refine ⟨_, ?_, s.reads_quiesced p⟩
  show execPartitionQuiesced p s = _
  exact if_pos ⟨hReq, hHeld, .inr hQuiet⟩

theorem answers_quiesceTimeout (s : State) (p : Part) (hReq : bitAt s.flint.quiesceReq p = true) (hHeld : s.flag F.FLT_ALONE_QUIESCED p = false)
    (hLate : s.flint.quiesceAt + s.rd F.FLT_HB_CFG_QUIESCE_T * 1000000000 ≤ s.now) (hCtx : s.quartz.ctx = []) (hRun : s.jasper.run = none) :
    Answers (.quiesceTimeout p) s (fun t => t.flag F.FLT_ALONE_QUIESCED p = true ∧ Keeps s t [F.FLT_ALONE_QUIESCED.key 0 0]) := by
  refine ⟨_, ?_, s.reads_quiesced p⟩
  show execQuiesceTimeout p s = _
  unfold execQuiesceTimeout
  rw [if_neg (by simp [hReq, hHeld, hLate])]
  simp [hCtx, State.jasperStop, hRun]

theorem answers_fltAloneRelease_pf (s : State) :
    Answers (.fltAloneRelease .pf) s (fun t => t.rd F.FLT_ALONE_QUIESCED = 0 ∧ t.flint.quiesceReq = 0
      ∧ (s.bit F.FLT_ALONE_ACTIVE = true → t.rd F.FLT_ALONE_LAST_BY = 1)) := by
  have hHeld : (s.aloneRelease 1).rd F.FLT_ALONE_QUIESCED = 0 := State.rd_wr_self _ F.FLT_ALONE_QUIESCED 0 0 0
  refine ⟨s.aloneRelease 1, rfl, hHeld, rfl, fun hActive => ?_⟩
  obtain ⟨-, hBy, -⟩ := s.reads_aloneExit (party := 1) (by decide)
  have hWr : (s.aloneRelease 1).rd F.FLT_ALONE_LAST_BY = ((s.aloneExit 1).wr F.FLT_ALONE_QUIESCED 0).rd F.FLT_ALONE_LAST_BY := by
    unfold State.aloneRelease
    rw [if_pos hActive]
    rfl
  rw [hWr, State.rd_wr_ne _ _ _ _ _ _ _ _ (by decide), hBy]

/-- Settles O8: the host's writes, the samples by the judgement of the host and then of acting alone, and the release. -/
theorem hostWatchAndActingAlone : Obligations.HostWatchAndActingAlone :=
  ⟨answers_fltHostHbWrite_pf, answers_fltHostHbWrite_vf, answers_hostWatchDisarm_pf, answers_hostSample_silent, answers_hostSample_back,
    answers_hostSample_alone, answers_hostSample_twin, answers_partitionQuiesced, answers_quiesceTimeout, answers_fltAloneRelease_pf,
    fun s b => ⟨_, rfl, s.mbResp_respond b _ [], s.regs_respond b _ []⟩⟩

end Sys2Proof.Machine
end

section
/-! PROOFS. The event log (O10). -/

namespace Sys2Proof.Machine

/-! ### What is logged -/

/-- A repeat of the newest entry within 1 ms raises its COUNT (R108). -/
theorem State.logE_repeat (s : State) {e : LogEntry} {r : List LogEntry} {code src : Nat} (sev : Nat) (d : List Nat) (hOn : s.flint.on = true)
    (hEx : s.fw.exchanging = false) (hRing : s.log.ring = e :: r) (hSame : e.code = code ∧ e.source = src) (hSoon : s.now ≤ s.log.lastAt + 1000000) :
    s.logE code src sev d = { s with log := { s.log with ring := { e with count := satAt 16 (e.count + 1) } :: r } } := by
  simp [State.logE, hOn, hEx, hRing, hSame, hSoon]

/-- Any other event is written as a new entry (R107). -/
theorem State.logE_new (s : State) {code src : Nat} (sev : Nat) (d : List Nat) (hOn : s.flint.on = true) (hEx : s.fw.exchanging = false)
    (h : ∀ e r, s.log.ring = e :: r → ¬ (e.code = code ∧ e.source = src ∧ s.now ≤ s.log.lastAt + 1000000)) :
    s.logE code src sev d = s.logPut (s.newEntry code src sev d) := by
  unfold State.logE
  rw [hOn, hEx, Bool.not_true, if_neg Bool.false_ne_true, if_neg Bool.false_ne_true]
  split
  · rename_i e r hRing
    rw [if_neg (h e r hRing)]
  · rfl

/-! ### Entries in the ring -/

/-- The entry overwritten was not acknowledged (R107). -/
def State.overruns (s : State) : Bool :=
  decide (4096 ≤ s.log.ring.length) && (match s.log.ring.getLast? with | some o => decide (s.rd F.FLT_LOG_ACK_SEQ < o.seq) | none => false)

theorem State.overruns_iff (s : State) :
    s.overruns = true ↔ 4096 ≤ s.log.ring.length ∧ ∃ o, s.log.ring.getLast? = some o ∧ s.rd F.FLT_LOG_ACK_SEQ < o.seq := by
  unfold State.overruns
  rw [Bool.and_eq_true, decide_eq_true_iff]
  cases s.log.ring.getLast? <;> simp

/-- An entry as the ring takes it: with its SEQ, whether the persistent area keeps it, and whether it overwrites one not acknowledged (R107). -/
def State.inRing (s : State) (e : LogEntry) (keep : Bool) : LogEntry :=
  { e with seq := s.rd F.FLT_LOG_HEAD_SEQ + 1, persist := keep, ovf := s.overruns }

theorem State.ring_logRing (s : State) (e : LogEntry) (keep : Bool) :
    (s.logRing e keep).log.ring = s.inRing e keep :: (if 4096 ≤ s.log.ring.length then s.log.ring.dropLast else s.log.ring) := by
  simp only [State.logRing, decide_eq_true_eq]
  rfl

theorem State.flash_logRing_kept (s : State) (e : LogEntry) : (s.logRing e true).log.flash.head? = some (s.inRing e true) := rfl

theorem State.seq_logRing (s : State) (e : LogEntry) (keep : Bool) :
    (s.logRing e keep).rd F.FLT_LOG_HEAD_SEQ = (s.rd F.FLT_LOG_HEAD_SEQ + 1) % 2 ^ 32 := State.rd_wr_self s F.FLT_LOG_HEAD_SEQ _ 0 0

/-- An entry of severity 3 or more is kept in the persistent area when there is room. -/
theorem State.logPut_room (s : State) (e : LogEntry) (h : e.sev < 3 ∨ s.logRoom = true) : s.logPut e = s.logRing e (decide (3 ≤ e.sev)) := by
  unfold State.logPut
  by_cases hs : e.sev < 3
  · rw [if_pos hs, decide_eq_false (Nat.not_le.2 hs)]
  · rw [if_neg hs, if_pos (h.resolve_left hs), decide_eq_true (Nat.not_lt.1 hs)]

theorem State.logPut_full (s : State) (e : LogEntry) (hs : 3 ≤ e.sev) (hr : s.logRoom = false) : s.logPut e = s.logFull e := by
  rw [State.logPut, if_neg (Nat.not_lt.2 hs), hr, if_neg Bool.false_ne_true]

/-! ### No room -/

/-- LOG_LOST counts up, saturating. -/
theorem State.lost_bump (s : State) : (s.bump F.FLT_LOG_HEAD_LOG_LOST).rd F.FLT_LOG_HEAD_LOG_LOST = min 65535 (s.rd F.FLT_LOG_HEAD_LOG_LOST + 1) := by
  rw [State.rd_bump_self]
  show satAt 16 _ = _
  unfold satAt
  split <;> omega

/-- The first part of a persistent entry with no room: in the ring alone, and counted (R107). -/
def State.unkept (s : State) (e : LogEntry) : State := (s.logRing e false).bump F.FLT_LOG_HEAD_LOG_LOST

theorem State.lost_unkept (s : State) (e : LogEntry) :
    (s.unkept e).rd F.FLT_LOG_HEAD_LOG_LOST = min 65535 (s.rd F.FLT_LOG_HEAD_LOG_LOST + 1) := by
  rw [State.unkept, State.lost_bump, State.rd_logRing_ne _ _ _ _ _ _ (by decide)]

theorem State.flash_unkept (s : State) (e : LogEntry) : (s.unkept e).log.flash = s.log.flash := rfl

theorem State.logFull_eq (s : State) (e : LogEntry) : s.logFull e
    = if (s.unkept e).flag F.FLT_ALERT_STAT_CAUSE 10 then s.unkept e
      else ((s.unkept e).alert .log).unkept ((s.unkept e).newEntry 0x0401 304 3 []) := rfl

/-- Without room nothing is kept, LOG is raised and LOG_LOST counts (R107). -/
theorem State.reads_logFull (s : State) (e : LogEntry) : (s.logFull e).log.flash = s.log.flash ∧ (s.logFull e).flag F.FLT_ALERT_STAT_CAUSE 10 = true
    ∧ min 65535 (s.rd F.FLT_LOG_HEAD_LOG_LOST + 1) ≤ (s.logFull e).rd F.FLT_LOG_HEAD_LOG_LOST := by
  rw [State.logFull_eq]
  split
  · rename_i hLog
    exact ⟨rfl, hLog, Nat.le_of_eq (s.lost_unkept e).symm⟩
  · refine ⟨?_, ?_, ?_⟩
    · rw [State.flash_unkept, State.log_alert, State.flash_unkept]
    · exact State.raised_lost (State.raised_logRing _ _ (State.flag_alert_self _ .log))
    · rw [State.lost_unkept, State.rd_alert_ne _ _ _ _ _ (by decide), State.lost_unkept]
      omega

/-- Settles O10: a repeat, a new entry, and one of severity 3 or more without room. -/
theorem eventLogEntries : Obligations.EventLogEntries := by
  refine ⟨fun s e r code src sev d hOn hEx hRing hSame hSoon => ?_, fun s e r code src sev d hOn hEx hRing hNew hRoom => ?_,
    fun s code src sev d hOn hEx hRing hSev hRoom => ?_⟩
  · rw [s.logE_repeat sev d hOn hEx hRing hSame hSoon]
    have hCount : satAt 16 (e.count + 1) = min 65535 (e.count + 1) := by unfold satAt; split <;> omega
    exact ⟨by rw [hCount], rfl⟩
  · have hOther : ∀ e' r', s.log.ring = e' :: r' → ¬ (e'.code = code ∧ e'.source = src ∧ s.now ≤ s.log.lastAt + 1000000) := by
      rintro e' r' hRing' ⟨hCode, hSrc, hSoon⟩
      obtain ⟨rfl, -⟩ := List.cons.inj (hRing.symm.trans hRing')
      exact hNew.elim (fun h => h ⟨hCode, hSrc⟩) (fun h => Nat.not_lt.2 hSoon h)
    rw [s.logE_new sev d hOn hEx hOther, s.logPut_room _ hRoom]
    refine ⟨s.inRing (s.newEntry code src sev d) (decide (3 ≤ sev)), s.ring_logRing _ _, rfl, rfl, rfl, rfl, rfl, rfl, rfl, s.overruns_iff,
      s.seq_logRing _ _, fun hSev => ?_⟩
    have hKeep : decide (3 ≤ (s.newEntry code src sev d).sev) = true := decide_eq_true hSev
    rw [hKeep, decide_eq_true hSev]
    exact ⟨s.flash_logRing_kept _, rfl⟩
  · rw [s.logE_new sev d hOn hEx (fun e r h => by simp [hRing] at h), s.logPut_full _ hSev hRoom]
    exact s.reads_logFull _

end Sys2Proof.Machine
end

section
/-! PROOFS. Rules for the package's loss of its rails and its clearing (chapters 3 and 4): what each leaves. -/

namespace Sys2Proof.Machine

/-! ### Rails off -/

theorem State.railsOff_eq (s : State) : ∃ r, s.railsOff = { s with
    regs := r
    pwr := { s.pwr with en := 0, good := 0, step := 0, isl := [], lowered := 0 }
    flint := { s.flint with hbArmed := [false, false, false, false, false], errArmed := [false, false, false, false, false] }
    time := { s.time with run := false } } := by
  unfold State.railsOff
  exact State.setCeil_regs _ _ _ _

@[simp] theorem State.fw_railsOff (s : State) : s.railsOff.fw = s.fw := by
  obtain ⟨r, h⟩ := s.railsOff_eq
  rw [h]

/-! ### The package cleared -/

@[simp] theorem State.mem_packageClear (s : State) (flint : Bool) : (s.packageClear flint).mem = s.mem := rfl
@[simp] theorem State.clu_packageClear (s : State) (flint : Bool) : (s.packageClear flint).clu = [] := rfl
@[simp] theorem State.grps_packageClear (s : State) (flint : Bool) : (s.packageClear flint).grps = [] := rfl
@[simp] theorem State.quartz_packageClear (s : State) (flint : Bool) : (s.packageClear flint).quartz = QuartzSt.init := rfl
@[simp] theorem State.fw_packageClear (s : State) (flint : Bool) : (s.packageClear flint).fw = s.fw := rfl
@[simp] theorem State.sm_packageClear (s : State) (flint : Bool) : (s.packageClear flint).sm = s.sm := rfl
@[simp] theorem State.loops_packageClear (s : State) (flint : Bool) : (s.packageClear flint).loops = s.loops := rfl
theorem State.pwr_packageClear (s : State) (flint : Bool) : (s.packageClear flint).pwr = { s.pwr with isl := [], lowered := 0 } := rfl

/-- The dies without their supply: the rails are off and no sequencer is left (R47, R97). -/
theorem State.reads_packageDark (s : State) : s.packageDark.pwr = { s.pwr with en := 0, good := 0, step := 0, isl := [], lowered := 0 }
    ∧ s.packageDark.clu = [] := by
  have hPwr : s.packageDark.pwr = (s.railsOff.packageClear false).pwr := rfl
  rw [hPwr, State.pwr_packageClear, State.pwr_railsOff]
  exact ⟨rfl, rfl⟩

end Sys2Proof.Machine
end

section
/-! PROOFS. The management buses (O11). -/

namespace Sys2Proof.Machine

/-! ### Requests and responses -/

theorem answers_mbRequest_bad (s : State) (b : Bool) (cmd len : BitVec 8) (n : Nat) (ok : Bool) (hOn : s.flint.on = true)
    (h : ok = false ∨ len.toNat ≠ n ∨ 250 < len.toNat) :
    Answers (.mbRequest b cmd len n ok) s (fun t => t.rd F.FLT_MB_ERR_COUNT = satAt 32 (s.rd F.FLT_MB_ERR_COUNT + 1) ∧ t.flint = s.flint
      ∧ Keeps s t [F.FLT_MB_ERR_COUNT.key 0 0]) := by
  refine ⟨s.bump F.FLT_MB_ERR_COUNT, ?_, s.rd_bump_self F.FLT_MB_ERR_COUNT 1 0 0, rfl, (Keeps.refl s _).wr _ _ 0 0 (List.mem_singleton.2 rfl)⟩
  show execMbRequest b cmd len n ok s = _
  unfold execMbRequest
  rw [if_neg (by simp [hOn]), if_pos h]

/-- A good request on a bus is answered by what waits there: BUSY while a command is in progress, else what R97 and R103 answer at once. -/
theorem exec_mbRequest_good (s : State) (b : Bool) (cmd len : BitVec 8) {n : Nat} (hOn : s.flint.on = true) (hLen : len.toNat = n) (hn : n ≤ 250) :
    exec (.mbRequest b cmd len n true) s
      = .next (s.respond b (if (s.mbResp b).any (fun r => !r.ready) then Code.busy 0 else s.mbFirst cmd.toNat len.toNat)) := by
  show execMbRequest b cmd len n true s = _
  unfold execMbRequest
  rw [if_neg (by simp [hOn]), if_neg (by simp [hLen, hn])]
  cases s.mbResp b with
  | none => rfl
  | some r => cases hr : r.ready <;> simp [hr]

theorem answers_mbRequest_busy (s : State) (b : Bool) (cmd len : BitVec 8) (n : Nat) (r : MbResp) (hOn : s.flint.on = true) (hLen : len.toNat = n)
    (hn : n ≤ 250) (hResp : s.mbResp b = some r) (hReady : r.ready = false) :
    Answers (.mbRequest b cmd len n true) s (fun t => t.mbResp b = some ⟨Code.busy 0, [], false⟩ ∧ t.regs = s.regs) := by
  refine ⟨_, exec_mbRequest_good s b cmd len hOn hLen hn, ?_, State.regs_respond ..⟩
  rw [State.mbResp_respond, hResp]
  simp [hReady]

theorem answers_mbRequest_taken (s : State) (b : Bool) (cmd len : BitVec 8) (n : Nat) (hOn : s.flint.on = true) (hLen : len.toNat = n) (hn : n ≤ 250)
    (hResp : s.mbResp b = none) (hKnown : mbKnown cmd.toNat = true) (hOk : mbLenOk cmd.toNat n = true) (hServed : s.mbServed cmd.toNat = true) :
    Answers (.mbRequest b cmd len n true) s (fun t => t.mbResp b = some ⟨0, [], false⟩ ∧ t.regs = s.regs) := by
  refine ⟨_, exec_mbRequest_good s b cmd len hOn hLen hn, ?_, State.regs_respond ..⟩
  rw [State.mbResp_respond, hResp]
  simp [State.mbFirst, hKnown, hLen, hOk, hServed]

theorem answers_mbResponseReady (s : State) (b : Bool) (r : MbResp) (h : s.mbResp b = some r) :
    Answers (.mbResponseReady b) s (fun t => t.mbResp b = some { r with ready := true } ∧ (b = false → t.flint.ibi = true) ∧ t.regs = s.regs) := by
  have hEq : exec (.mbResponseReady b) s = execMbResponseReady b s := rfl
  unfold execMbResponseReady at hEq
  rw [h] at hEq
  cases b with
  | false => exact ⟨_, hEq, rfl, fun _ => rfl, rfl⟩
  | true => exact ⟨_, hEq, rfl, fun e => absurd e.symm Bool.false_ne_true, rfl⟩

/-! ### What Aqgen serves -/

/-- A command that Aqgen serves answers as it runs. -/
theorem answers_served {c : Instr} {s : State} {b : Bool} {cmd : Nat} {r : State} {post : State → Prop} (hOn : s.flint.on = true)
    (hServed : s.mbServed cmd = true) (hEq : exec c s = .next (s.served b cmd r)) (h : post r) : Answers c s post :=
  ⟨r, by rw [hEq, s.served_eq b cmd r hOn hServed], h⟩

theorem length_leBytes (n v : Nat) : (leBytes n v).length = n := by
  induction n generalizing v with
  | zero => rfl
  | succ n ih => rw [leBytes, List.length_cons, ih]

theorem LogEntry.length_dataBytes (e : LogEntry) : e.dataBytes.length = 12 := by
  unfold LogEntry.dataBytes
  split
  · simp
  · rw [List.length_map, List.length_range]

theorem LogEntry.length_bytes (e : LogEntry) : e.bytes.length = 32 := by
  simp only [LogEntry.bytes, List.length_append, length_leBytes, LogEntry.length_dataBytes, List.length_cons, List.length_nil]

theorem answers_getId (s : State) (b : Bool) (hOn : s.flint.on = true) (hServed : s.mbServed 1 = true) :
    Answers (.getId b) s (fun t => ∃ p, t.mbResp b = some ⟨0, leBytes 8 s.cap0 ++ p, false⟩ ∧ p.length = 16 ∧ t.regs = s.regs) := by
  refine answers_served hOn hServed rfl ⟨leBytes 8 s.flint.serial ++ leBytes 4 s.fw.a.version ++ leBytes 4 s.fw.b.version, ?_, ?_, s.regs_respond b _ _⟩
  · rw [State.mbResp_respond, List.append_assoc, List.append_assoc, List.append_assoc]
  · simp only [List.length_append, length_leBytes]

theorem answers_logRead (s : State) (b : Bool) (seq : BitVec 32) (e : LogEntry) (r : List LogEntry) (hOn : s.flint.on = true)
    (hServed : s.mbServed 5 = true) (hRing : s.log.ring = e :: r) (hSeq : e.seq = seq.toNat) :
    Answers (.logRead b seq 1) s (fun t => t.mbResp b = some ⟨0, e.bytes, false⟩ ∧ e.bytes.length = 32 ∧ t.log = s.log) := by
  have hEq : exec (.logRead b seq 1) s = .next (s.served b 5 (s.respond b 0 e.bytes)) := by
    show execLogRead b seq 1 s = _
    simp [execLogRead, hRing, hSeq]
  refine answers_served hOn hServed hEq ⟨s.mbResp_respond b 0 _, e.length_bytes, ?_⟩
  cases b <;> rfl

theorem answers_pwrCapSet (s : State) (b : Bool) (w : BitVec 16) (hOn : s.flint.on = true) (hServed : s.mbServed 7 = true) (h0 : 250 ≤ w.toNat)
    (h1 : w.toNat ≤ 600) :
    Answers (.pwrCapSet b w) s (fun t => t.rd F.ISL_PWR_CAP_CAP_W = w.toNat ∧ t.mbResp b = some ⟨0, [], false⟩) := by
  refine answers_served hOn hServed rfl ⟨?_, State.mbResp_respond _ b 0 _⟩
  rw [State.rd_respond, State.writeCap_taken _ _ _ h0 h1]

@[simp] theorem State.pwr_respond (s : State) (bus : Bool) (status : Nat) (payload : List Nat) : (s.respond bus status payload).pwr = s.pwr := by
  cases bus <;> rfl

theorem answers_powerOn (s : State) (b : Bool) (hOn : s.flint.on = true) (hServed : s.mbServed 8 = true) (hStep : s.pwr.step = 0) :
    Answers (.powerOn b) s (fun t => t.pwr.off = false ∧ t.pwr.fails = 0 ∧ t.pwr.retry = false ∧ t.mbResp b = some ⟨0, [], false⟩) := by
  have hEq : exec (.powerOn b) s
      = .next (s.served b 8 (({ s with pwr := { s.pwr with off := false, fails := 0, retry := false } } : State).respond b 0)) := by
    show execPowerOn b s = _
    simp [execPowerOn, hStep]
  refine answers_served hOn hServed hEq ?_
  rw [State.pwr_respond]
  exact ⟨rfl, rfl, rfl, State.mbResp_respond _ b 0 _⟩

/-- POWER_OFF in force (R97). -/
def State.heldOff (s : State) : State := { s with pwr := { s.pwr with off := true } }

@[simp] theorem State.pwr_heldOff (s : State) : s.heldOff.pwr = { s.pwr with off := true } := rfl
@[simp] theorem State.clu_heldOff (s : State) : s.heldOff.clu = s.clu := rfl
@[simp] theorem State.rd_heldOff (s : State) (f : Fld) (i j : Nat) : s.heldOff.rd f i j = s.rd f i j := rfl

theorem answers_powerOff (s : State) (b : Bool) (hOn : s.flint.on = true) (hServed : s.mbServed 9 = true) (hStep : s.pwr.step ≠ 0) :
    Answers (.powerOff b) s (fun t => t.pwr.off = true ∧ t.pwr.en = 0 ∧ t.pwr.step = 0 ∧ t.rd F.FLT_START_STAGE = 2 ∧ t.clu = []
      ∧ t.mbResp b = some ⟨0, [], false⟩) := by
  have hEq : exec (.powerOff b) s = .next (s.served b 9 ((s.packageDark.wr F.FLT_START_STAGE 2).heldOff.respond b 0)) := by
    show execPowerOff b s = _
    unfold execPowerOff
    rw [if_neg hStep]
    rfl
  obtain ⟨hPwr, hClu⟩ := s.reads_packageDark
  refine answers_served hOn hServed hEq ?_
  rw [State.pwr_respond, State.rd_respond, State.clu_respond, State.mbResp_respond, State.pwr_heldOff, State.rd_heldOff, State.clu_heldOff,
    State.pwr_wr, State.clu_wr, hPwr]
  exact ⟨rfl, rfl, rfl, State.rd_wr_self _ F.FLT_START_STAGE 2 0 0, hClu, rfl⟩

/-! ### Requests for a module reset -/

@[simp] theorem State.regs_moduleReset (s : State) (c : Nat) : (s.moduleReset c).regs = s.regs := by fun_cases State.moduleReset <;> rfl

/-- A module reset that nothing absorbs waits with its cause, whatever a source's own mark, and no register changes. -/
theorem State.reads_moduleReset {s u : State} (c : Nat) (hRegs : u.regs = s.regs) (hPend : u.start.rstPend = s.start.rstPend)
    (hRst : u.start.rstOn = s.start.rstOn) (h3 : 3 ≤ s.rd F.FLT_START_STAGE) (hp : s.start.rstPend = none) (ho : s.start.rstOn = false) :
    (u.moduleReset c).start.rstPend = some c ∧ (u.moduleReset c).regs = s.regs := by
  refine ⟨u.rstPend_moduleReset c ?_ (hPend.trans hp) (hRst.trans ho), (u.regs_moduleReset c).trans hRegs⟩
  rwa [State.rd, hRegs]

theorem answers_moduleReset (s : State) (b : Bool) (h3 : 3 ≤ s.rd F.FLT_START_STAGE) (hp : s.start.rstPend = none) (ho : s.start.rstOn = false) :
    Answers (.moduleReset b) s (fun t => t.start.rstPend = some 2 ∧ t.regs = s.regs) := by
  have hEq : exec (.moduleReset b) s = .next ((s.respond b 0).moduleReset 2) := rfl
  have hStart : (s.respond b 0).start = s.start := by cases b <;> rfl
  exact ⟨_, hEq, State.reads_moduleReset 2 (s.regs_respond b 0 _) (by rw [hStart]) (by rw [hStart]) h3 hp ho⟩

/-- Settles O11: requests and responses, and each command as Aqgen serves it. -/
theorem managementBusCommands : Obligations.ManagementBusCommands :=
  ⟨answers_mbRequest_bad, answers_mbRequest_busy, answers_mbRequest_taken, answers_mbResponseReady, answers_getId,
    fun s b hOn hServed => answers_served hOn hServed rfl ⟨s.mbResp_respond b 0 _, s.regs_respond b 0 _⟩, answers_logRead, answers_pwrCapSet,
    answers_powerOn, answers_powerOff, answers_moduleReset⟩

end Sys2Proof.Machine
end

section
/-! PROOFS. The firmware banks (O12). -/

namespace Sys2Proof.Machine

/-! ### Staging -/

/-- Bank 1 may be written by a bus while it is inactive and no other source's session is open (R104). -/
theorem State.fwCheck_free (s : State) (b : Bool) (hBank : s.bankInactive 1 = true) (hSession : s.fw.session = none ∨ s.fw.session = some (1, .mb b)) :
    s.fwCheck b 1 = 0 := by
  rcases hSession with h | h <;> simp [State.fwCheck, hBank, h]

/-- A bank that is not inactive is refused (R104). -/
theorem State.fwCheck_active (s : State) (b : Bool) {bank : Nat} (h : bank ≤ 1) (hBank : s.bankInactive bank = false) :
    s.fwCheck b bank = Code.perm 0x0D := by
  rw [State.fwCheck, if_neg (Nat.not_lt.2 h), if_pos hBank]

@[simp] theorem State.fw_respond (s : State) (bus : Bool) (status : Nat) (payload : List Nat) : (s.respond bus status payload).fw = s.fw := by
  cases bus <;> rfl

/-- The banks with another bank 1 and session. -/
def State.withBank1 (s : State) (x : FwBank) (session : Option (Nat × Src)) : State := { s with fw := { s.fw with b := x, session := session } }

theorem answers_fwStage (s : State) (b : Bool) (off : BitVec 32) (data : List Byte) (hOn : s.flint.on = true) (hServed : s.mbServed 0x10 = true)
    (hBank : s.bankInactive 1 = true) (hSession : s.fw.session = none) :
    Answers (.fwStage b 1 off data) s (fun t => t.fw.b.staged = [(off.toNat, data.map BitVec.toNat)] ∧ t.fw.b.valid = false
      ∧ t.fw.session = some (1, .mb b) ∧ t.fw.a = s.fw.a ∧ t.mbResp b = some ⟨0, [], false⟩) := by
  have hEq : exec (.fwStage b 1 off data) s = .next (s.served b 0x10 ((s.withBank1
      { valid := false, version := s.fw.b.version, staged := [(off.toNat, data.map BitVec.toNat)] } (some (1, .mb b))).respond b 0)) := by
    show execFwStage b 1 off data s = _
    simp [execFwStage, s.fwCheck_free b hBank (.inl hSession), hSession, FwSt.bank, FwSt.setBank, State.withBank1]
  refine answers_served hOn hServed hEq ?_
  rw [State.fw_respond, State.mbResp_respond]
  exact ⟨rfl, rfl, rfl, rfl, rfl⟩

theorem answers_fwStage_active (s : State) (b : Bool) (bank : BitVec 8) (off : BitVec 32) (data : List Byte) (hOn : s.flint.on = true)
    (hServed : s.mbServed 0x10 = true) (h : bank.toNat ≤ 1) (hBank : s.bankInactive bank.toNat = false) :
    Answers (.fwStage b bank off data) s (fun t => t.fw = s.fw ∧ t.mbResp b = some ⟨Code.perm 0x0D, [], false⟩) := by
  have hEq : exec (.fwStage b bank off data) s = .next (s.served b 0x10 (s.respond b (Code.perm 0x0D))) := by
    show execFwStage b bank off data s = _
    unfold execFwStage
    dsimp only
    rw [s.fwCheck_active b h hBank, if_pos (by decide)]
  exact answers_served hOn hServed hEq ⟨s.fw_respond b _ _, s.mbResp_respond b _ _⟩

theorem answers_fwCommit (s : State) (b : Bool) (ver : BitVec 32) (hOn : s.flint.on = true) (hServed : s.mbServed 0x11 = true)
    (hBank : s.bankInactive 1 = true) (hSession : s.fw.session = none ∨ s.fw.session = some (1, .mb b)) :
    Answers (.fwCommit b 1 true ver) s (fun t =>
      t.fw.b.valid = true ∧ t.fw.b.version = ver.toNat ∧ t.fw.session = none ∧ t.mbResp b = some ⟨0, [], false⟩) := by
  have hEq : exec (.fwCommit b 1 true ver) s = .next (s.served b 0x11 (((s.withBank1
      { valid := true, version := ver.toNat, staged := s.fw.b.staged } none).logE 0x0301 304 1 [1]).respond b 0)) := by
    show execFwCommit b 1 true ver s = _
    simp [execFwCommit, s.fwCheck_free b hBank hSession, FwSt.bank, FwSt.setBank, State.withBank1]
  refine answers_served hOn hServed hEq ?_
  rw [State.fw_respond, State.mbResp_respond, State.fw_logE]
  exact ⟨rfl, rfl, rfl, rfl⟩

theorem answers_fwCommit_invalid (s : State) (b : Bool) (ver : BitVec 32) (hOn : s.flint.on = true) (hServed : s.mbServed 0x11 = true)
    (hBank : s.bankInactive 1 = true) (hSession : s.fw.session = none ∨ s.fw.session = some (1, .mb b)) :
    Answers (.fwCommit b 1 false ver) s (fun t => t.fw.b = s.fw.b ∧ t.fw.session = none ∧ t.mbResp b = some ⟨Code.format 0, [], false⟩) := by
  have hEq : exec (.fwCommit b 1 false ver) s = .next (s.served b 0x11 ((s.withBank1 s.fw.b none).respond b (Code.format 0))) := by
    show execFwCommit b 1 false ver s = _
    simp [execFwCommit, s.fwCheck_free b hBank hSession, State.withBank1]
  refine answers_served hOn hServed hEq ?_
  rw [State.fw_respond, State.mbResp_respond]
  exact ⟨rfl, rfl, rfl⟩

theorem answers_fwAbort (s : State) (b : Bool) (hOn : s.flint.on = true) (hServed : s.mbServed 0x14 = true) (hBank : s.bankInactive 1 = true)
    (hSession : s.fw.session = some (1, .mb b)) :
    Answers (.fwAbort b 1) s (fun t => t.fw.b.staged = [] ∧ t.fw.session = none ∧ t.fw.a = s.fw.a) := by
  have hEq : exec (.fwAbort b 1) s = .next (s.served b 0x14 ((s.withBank1 { s.fw.b with staged := [] } none).respond b 0)) := by
    show execFwAbort b 1 s = _
    simp [execFwAbort, s.fwCheck_free b hBank (.inr hSession), FwSt.bank, FwSt.setBank, State.withBank1]
  refine answers_served hOn hServed hEq ?_
  rw [State.fw_respond]
  exact ⟨rfl, rfl, rfl⟩

/-! ### Live exchange -/

theorem answers_fwSwap (s : State) (b : Bool) (hOn : s.flint.on = true) (hServed : s.mbServed 0x12 = true) (hBusy : s.swapBusy = false)
    (hValid : (s.fw.bank (1 - s.fw.run)).valid = true) :
    Answers (.fwSwap b) s (fun t => t.fw.exchanging = true ∧ t.fw.run = s.fw.run ∧ t.mbResp b = some ⟨0, [], false⟩) := by
  have hEq : exec (.fwSwap b) s = .next (s.served b 0x12 (({ s with fw := { s.fw with exchanging := true } } : State).respond b 0)) := by
    show execFwSwap b s = _
    simp [execFwSwap, hBusy, hValid]
  refine answers_served hOn hServed hEq ?_
  rw [State.fw_respond, State.mbResp_respond]
  exact ⟨rfl, rfl, rfl⟩

theorem State.fifo_unkept (s : State) (e : LogEntry) : (s.unkept e).log.fifo = s.log.fifo := rfl

@[simp] theorem State.fifo_logPut (s : State) (e : LogEntry) : (s.logPut e).log.fifo = s.log.fifo := by
  unfold State.logPut
  split
  · rfl
  · split
    · rfl
    · rw [State.logFull_eq]
      split
      · rfl
      · rw [State.fifo_unkept, State.log_alert, State.fifo_unkept]

/-- The FIFO's entries move into the log and leave the FIFO empty (R105). -/
theorem State.fifo_drainFifo (s : State) : s.drainFifo.log.fifo = [] :=
  foldl_keeps (fun t : State => t.log.fifo = []) _ _ _ rfl (fun t e ht => (t.fifo_logPut e).trans ht)

@[simp] theorem State.fw_drainFifo (s : State) : s.drainFifo.fw = s.fw :=
  foldl_keeps (fun t : State => t.fw = s.fw) _ _ _ rfl (fun t e ht => (t.fw_logPut e).trans ht)

/-- Outside a live exchange no entry enters the FIFO (R105). -/
theorem State.fifo_logE (s : State) (code src sev : Nat) (d : List Nat) (h : s.fw.exchanging = false) :
    (s.logE code src sev d).log.fifo = s.log.fifo := by
  unfold State.logE
  rw [h, if_neg (c := false = true) Bool.false_ne_true]
  split
  · rfl
  · split
    · split
      · rfl
      · exact State.fifo_logPut ..
    · exact State.fifo_logPut ..

/-- The other bank runs in trial (R105). -/
def State.inTrial (s : State) : State := { s with fw := { s.fw with exchanging := false, run := 1 - s.fw.run, trial := true } }

theorem answers_fwSwapReady (s : State) (h : s.fw.exchanging = true) :
    Answers .fwSwapReady s (fun t =>
      t.fw.exchanging = false ∧ t.fw.trial = true ∧ t.fw.run = 1 - s.fw.run ∧ t.fw.act = s.fw.act ∧ t.log.fifo = []) := by
  have hEq : exec .fwSwapReady s = .next (s.inTrial.drainFifo.logE 0x0302 304 1 [s.inTrial.fw.run]) := by
    show execFwSwapReady s = _
    simp [execFwSwapReady, h, State.inTrial]
  refine ⟨_, hEq, ?_⟩
  dsimp only
  rw [State.fw_logE, State.fifo_logE _ _ _ _ _ (congrArg FwSt.exchanging s.inTrial.fw_drainFifo), State.fw_drainFifo, State.fifo_drainFifo]
  exact ⟨rfl, rfl, rfl, rfl, rfl⟩

theorem answers_fwConfirm (s : State) (b : Bool) (hOn : s.flint.on = true) (hServed : s.mbServed 0x13 = true) (hTrial : s.fw.trial = true) :
    Answers (.fwConfirm b) s (fun t => t.fw.trial = false ∧ t.fw.act = s.fw.run ∧ t.fw.run = s.fw.run ∧ t.mbResp b = some ⟨0, [], false⟩) := by
  have hEq : exec (.fwConfirm b) s
      = .next (s.served b 0x13 (({ s with fw := { s.fw with trial := false, act := s.fw.run } } : State).respond b 0)) := by
    show execFwConfirm b s = _
    simp [execFwConfirm, hTrial]
  refine answers_served hOn hServed hEq ?_
  rw [State.fw_respond, State.mbResp_respond]
  exact ⟨rfl, rfl, rfl, rfl⟩

/-- A rollback from a trial runs the bank that ran before it (R106). -/
theorem State.fw_rollback (s : State) (h : s.fw.trial = true) :
    s.rollback.fw = { s.fw with exchanging := false, trial := false, run := 1 - s.fw.run } := by
  unfold State.rollback
  dsimp only
  rw [State.fw_alert, State.fw_logE, State.fw_drainFifo, if_pos h]

theorem answers_fwRollback (s : State) (h : s.fw.trial = true) :
    Answers .fwRollback s (fun t => t.fw.trial = false ∧ t.fw.run = 1 - s.fw.run ∧ t.fw.act = s.fw.act ∧ t.flag F.FLT_ALERT_STAT_CAUSE 9 = true) := by
  have hEq : exec .fwRollback s = .next s.rollback := if_pos (.inr h)
  refine ⟨_, hEq, ?_⟩
  dsimp only
  rw [s.fw_rollback h]
  exact ⟨rfl, rfl, rfl, State.flag_alert_self _ .fw⟩

/-! ### Watchdog, boot and recovery -/

theorem answers_aqgenWatchdog (s : State) (hOn : s.flint.on = true) (hStage : 2 ≤ s.rd F.FLT_START_STAGE) (hFirst : s.fw.restarts = []) :
    Answers .aqgenWatchdog s (fun t => t.fw = { s.fw with restarts := [s.now] } ∧ t.pwr = s.pwr) := by
  have hStage' : ¬ s.stage < 2 := Nat.not_lt.2 hStage
  have hEq : exec .aqgenWatchdog s = .next (({ s with fw := { s.fw with restarts := [s.now] } } : State).logE 0x0303 304 3 [s.fw.run]) := by
    show execAqgenWatchdog s = _
    simp [execAqgenWatchdog, hOn, hStage', hFirst]
  exact ⟨_, hEq, State.fw_logE .., State.pwr_logE ..⟩

@[simp] theorem State.fw_lpEnter (s : State) (c mode : Nat) : (s.lpEnter c mode).fw = s.fw := rfl
@[simp] theorem State.pwr_lpEnter (s : State) (c mode : Nat) : (s.lpEnter c mode).pwr = s.pwr := rfl

/-- The mode of recovery, with the stepper bridges at high impedance (R103, R602). -/
def State.recoveryMode (s : State) : State :=
  { s with fw := { s.fw with recovery := true, trial := false, exchanging := false }
           sm := s.sm.map (fun (kc : Nat × SmCh) => (kc.1, { kc.2.release with st := .disabled })) }

@[simp] theorem State.fw_recoveryMode (s : State) : s.recoveryMode.fw = { s.fw with recovery := true, trial := false, exchanging := false } := rfl
@[simp] theorem State.pwr_recoveryMode (s : State) : s.recoveryMode.pwr = s.pwr := rfl

/-- The loop channels unconfigured and the stepper channels disabled (R103). -/
def State.loopsFreed (s : State) : State :=
  (List.range 4).foldl (fun s k => s.wb F.SM_CTL_EN false k) ((List.range 16).foldl (fun (s : State) c => s.lpEnter c 0) s)

theorem State.reads_loopsFreed (s : State) : s.loopsFreed.fw = s.fw ∧ s.loopsFreed.pwr = s.pwr := by
  refine foldl_keeps (fun t : State => t.fw = s.fw ∧ t.pwr = s.pwr) _ _ _ ?_ (fun t k ht => ht)
  refine foldl_keeps (fun t : State => t.fw = s.fw ∧ t.pwr = s.pwr) _ _ _ ⟨rfl, rfl⟩ (fun t c ht => ?_)
  rwa [State.fw_lpEnter, State.pwr_lpEnter]

theorem State.recovery_eq (s : State) : s.recovery = s.railsOff.recoveryMode.loopsFreed.alert .fw := rfl

/-- Recovery mode: of the banks the mode alone changes, the rails are off and FW is raised (R103). -/
theorem State.reads_recovery (s : State) : s.recovery.fw = { s.fw with recovery := true, trial := false, exchanging := false }
    ∧ s.recovery.pwr = s.railsOff.pwr ∧ s.recovery.raised 9 := by
  obtain ⟨hFw, hPwr⟩ := s.railsOff.recoveryMode.reads_loopsFreed
  rw [State.recovery_eq, State.fw_alert, State.pwr_alert, hFw, hPwr, State.fw_recoveryMode, State.pwr_recoveryMode, State.fw_railsOff]
  exact ⟨rfl, rfl, State.flag_alert_self _ .fw⟩

theorem answers_flintBoot (s : State) (hStage : s.rd F.FLT_START_STAGE = 1) (hValid : (s.fw.bank s.fw.act).valid = true) :
    Answers .flintBoot s (fun t => t.rd F.FLT_START_STAGE = 2 ∧ t.fw.run = s.fw.act ∧ t.fw.recovery = false) := by
  have hStage' : s.stage = 1 := hStage
  have hEq : exec .flintBoot s = .next ((s.bootBank s.fw.act).wr F.FLT_START_STAGE 2) := by
    show execFlintBoot s = _
    simp [execFlintBoot, hStage', hValid]
  exact ⟨_, hEq, State.rd_wr_fits _ F.FLT_START_STAGE 0 0 (by decide), rfl, rfl⟩

theorem answers_flintBoot_recovery (s : State) (hStage : s.rd F.FLT_START_STAGE = 1) (hAct : (s.fw.bank s.fw.act).valid = false)
    (hOther : (s.fw.bank (1 - s.fw.act)).valid = false) :
    Answers .flintBoot s (fun t => t.fw.recovery = true ∧ t.pwr.en = 0 ∧ t.flag F.FLT_ALERT_STAT_CAUSE 9 = true) := by
  have hStage' : s.stage = 1 := hStage
  have hEq : exec .flintBoot s = .next s.recovery := by
    show execFlintBoot s = _
    simp [execFlintBoot, hStage', hAct, hOther]
  obtain ⟨hFw, hPwr, hAlert⟩ := s.reads_recovery
  refine ⟨_, hEq, ?_, ?_, hAlert⟩
  · rw [hFw]
  · rw [hPwr, State.pwr_railsOff]

/-- The boot of the other bank, after its failure's entry and alert, takes Flint to STANDBY (R118). -/
theorem answers_flintBootTimeout (s : State) (hStage : s.rd F.FLT_START_STAGE = 1) (hValid : (s.fw.bank (1 - s.fw.act)).valid = true) :
    Answers .flintBootTimeout s (fun t => t.rd F.FLT_START_STAGE = 2 ∧ t.fw.run = 1 - s.fw.act ∧ t.flag F.FLT_ALERT_STAT_CAUSE 9 = true) := by
  have hStage' : s.stage = 1 := hStage
  have hEq : exec .flintBootTimeout s
      = .next ((((s.logE 0x0303 304 3 [s.fw.act]).bootBank (1 - s.fw.act)).alert .fw).wr F.FLT_START_STAGE 2) := by
    show execFlintBootTimeout s = _
    simp [execFlintBootTimeout, hStage', hValid]
  refine ⟨_, hEq, State.rd_wr_fits _ F.FLT_START_STAGE 0 0 (by decide), ?_, ?_⟩
  · rw [State.fw_wr, State.fw_alert]
    rfl
  · exact State.raised_of_rd (State.flag_alert_self _ .fw) (State.rd_wr_ne _ _ _ _ _ _ _ _ (by decide))

/-- V3P3SB's loss stops Flint and leaves the dies dark (R117). -/
theorem answers_v3p3sbLoss (s : State) :
    Answers .v3p3sbLoss s (fun t => t.flint.on = false ∧ t.rd F.FLT_START_STAGE = 0 ∧ t.pwr.en = 0 ∧ t.pwr.step = 0) := by
  obtain ⟨hPwr, -⟩ := s.reads_packageDark
  exact ⟨_, rfl, rfl, State.rd_wr_self s.packageDark F.FLT_START_STAGE 0 0 0, congrArg PowerSt.en hPwr, congrArg PowerSt.step hPwr⟩

/-- Settles O12: each command of the banks by what it does to them, and the boot. -/
theorem firmwareBanks : Obligations.FirmwareBanks :=
  ⟨answers_fwStage, answers_fwStage_active, answers_fwCommit, answers_fwCommit_invalid, answers_fwAbort, answers_fwSwap, answers_fwSwapReady,
    answers_fwConfirm, answers_fwRollback, answers_aqgenWatchdog, answers_flintBoot, answers_flintBoot_recovery, answers_flintBootTimeout,
    answers_v3p3sbLoss⟩

end Sys2Proof.Machine
end

section
/-! PROOFS. Module and cold resets (O14). -/

namespace Sys2Proof.Machine

/-! ### Sources -/

theorem answers_modRstNAssert (s : State) (h3 : 3 ≤ s.rd F.FLT_START_STAGE) (hp : s.start.rstPend = none) (ho : s.start.rstOn = false) :
    Answers .modRstNAssert s (fun t => t.start.rstPend = some 1 ∧ t.start.modLow = true ∧ t.regs = s.regs) := by
  have hStage : ¬ s.stage < 2 := Nat.not_lt.2 (Nat.le_of_lt h3)
  have hEq : exec .modRstNAssert s = .next (({ s with start := { s.start with modLow := true, modLong := false } } : State).moduleReset 1) := by
    show execModRstNAssert s = _
    exact if_neg hStage
  obtain ⟨hPend, hRegs⟩ := State.reads_moduleReset (s := s)
    (u := { s with start := { s.start with modLow := true, modLong := false } }) 1 rfl rfl rfl h3 hp ho
  refine ⟨_, hEq, hPend, ?_, hRegs⟩
  fun_cases State.moduleReset <;> rfl

theorem answers_devRstModule_vf (s : State) (p : Part) :
    Answers (.devRstModule (.vf p)) s (fun t =>
      t.start = s.start ∧ t.bit F.DEV_RST_REJ = true ∧ t.rd F.FLT_WR_REJ_COUNT = satAt 32 (s.rd F.FLT_WR_REJ_COUNT + 1)) := by
  refine ⟨s.rstReject, rfl, rfl, ?_, ?_⟩
  · rw [State.bit, State.rstReject, State.rd_bump_ne _ _ _ _ _ _ _ _ (by decide)]
    exact s.bit_wb_self F.DEV_RST_REJ true 0 0 rfl
  · rw [State.rstReject, State.rd_bump_self, State.rd_wb_ne _ _ _ _ _ _ _ _ (by decide)]
    rfl

/-! ### Module reset -/

/-- The registers of a module reset: the package is cleared, the cause shown and counted, the pair UNBOUND or YIELDED, STAGE as R134 says (R133). -/
def State.resetShown (s : State) (cause : Nat) : State :=
  let t := ((s.packageClear true).wr F.DEV_RST_CAUSE_CAUSE cause).bump F.DEV_RST_CAUSE_COUNT
  let t := (t.wr F.AGT_STAT_OWN_INC (t.rd F.AGT_STAT_OWN_INC + 1)).wr F.AGT_STAT_STATE (if decide (s.rd F.AGT_STAT_STATE = 9) then 9 else 0)
  t.wr F.FLT_START_STAGE (if cause = 5 then 3 else 4)

/-- The start-up state replaced. -/
def State.withStart (s : State) (x : StartSt) : State := { s with start := x }

@[simp] theorem State.rd_withStart (s : State) (x : StartSt) (f : Fld) (i j : Nat) : (s.withStart x).rd f i j = s.rd f i j := rfl

/-- A module reset in effect, before its log entry. -/
def State.resetEntered (s : State) (cause : Nat) : State :=
  (s.resetShown cause).withStart
    { (s.resetShown cause).start with rstPend := none, rstOn := true, fromLockout := decide (cause = 5), keepMirror := true }

theorem exec_moduleResetEntry {s : State} {c : Nat} (h : s.start.rstPend = some c) :
    exec .moduleResetEntry s = .next ((s.resetEntered c).logE 0x0502 0xF044 2 [c]) := by
  show execModuleResetEntry s = _
  unfold execModuleResetEntry
  rw [h]
  rfl

theorem State.cause_resetEntered (s : State) {c : Nat} (h : c < 16) : (s.resetEntered c).rd F.DEV_RST_CAUSE_CAUSE = c := by
  rw [State.resetEntered, State.rd_withStart, State.resetShown, State.rd_wr_ne _ _ _ _ _ _ _ _ (by decide),
    State.rd_wr_ne _ _ _ _ _ _ _ _ (by decide), State.rd_wr_ne _ _ _ _ _ _ _ _ (by decide), State.rd_bump_ne _ _ _ _ _ _ _ _ (by decide)]
  exact State.rd_wr_fits _ F.DEV_RST_CAUSE_CAUSE 0 0 h

theorem State.stage_resetEntered (s : State) (c : Nat) : (s.resetEntered c).rd F.FLT_START_STAGE = if c = 5 then 3 else 4 := by
  rw [State.resetEntered, State.rd_withStart, State.resetShown]
  refine State.rd_wr_fits _ F.FLT_START_STAGE 0 0 ?_
  split <;> decide

/-- The sequencers, groups, contexts and queues are cleared; memory waits to be zeroed; the banks, steppers and loops go on (R133, R134). -/
theorem State.units_resetEntered (s : State) (c : Nat) : (s.resetEntered c).clu = [] ∧ (s.resetEntered c).grps = []
    ∧ (s.resetEntered c).quartz = QuartzSt.init ∧ (s.resetEntered c).mem = s.mem ∧ (s.resetEntered c).fw = s.fw ∧ (s.resetEntered c).sm = s.sm
    ∧ (s.resetEntered c).loops = s.loops := by
  simp [State.resetEntered, State.withStart, State.resetShown]

theorem answers_moduleResetEntry (s : State) (c : Nat) (hPend : s.start.rstPend = some c) (hc : c < 16) :
    Answers .moduleResetEntry s (fun t => t.start.rstOn = true ∧ t.start.rstPend = none ∧ t.rd F.DEV_RST_CAUSE_CAUSE = c
      ∧ t.rd F.FLT_START_STAGE = (if c = 5 then 3 else 4) ∧ t.clu = [] ∧ t.grps = [] ∧ t.quartz = QuartzSt.init ∧ t.mem = s.mem
      ∧ t.fw = s.fw ∧ t.sm = s.sm ∧ t.loops = s.loops) := by
  refine ⟨_, exec_moduleResetEntry hPend, ?_⟩
  dsimp only
  rw [State.start_logE, State.rd_logE_ne _ _ _ _ _ _ _ _ (by decide), State.rd_logE_ne _ _ _ _ _ _ _ _ (by decide), State.clu_logE, State.grps_logE,
    State.quartz_logE, State.mem_logE, State.fw_logE, State.sm_logE, State.loops_logE]
  exact ⟨rfl, rfl, s.cause_resetEntered hc, s.stage_resetEntered c, s.units_resetEntered c⟩

/-- No source holds the module reset any more: SCAN_EN is cleared (R101, R134). -/
def State.resetReleased (s : State) : State :=
  { s.wb F.FLT_SCAN_SCAN_EN false with
    start := { s.start with rstOn := false, fromLockout := false, modLow := false, modLong := false } }

theorem answers_moduleResetEnd (s : State) (hOn : s.start.rstOn = true) (hLock : s.pwr.lockout = 0) (hPkg : s.bit F.FLT_STAT_PKG_FAIL = false)
    (hPair : s.rd F.AGT_STAT_STATE ≠ 9) (hStep : s.pwr.step = 6) (hHold : s.rd F.FLT_START_HOLD_AT ≠ 4) :
    Answers .moduleResetEnd s (fun t => t.start.rstOn = false ∧ t.rd F.FLT_START_STAGE = 4 ∧ t.time.ft = 0 ∧ t.time.run = s.pwr.refclk
      ∧ t.bit F.FLT_SCAN_SCAN_EN = false ∧ t.mem = s.mem) := by
  have hHold' : s.resetReleased.rd F.FLT_START_HOLD_AT ≠ 4 := by
    have hKept : s.resetReleased.rd F.FLT_START_HOLD_AT = s.rd F.FLT_START_HOLD_AT :=
      s.rd_wb_ne F.FLT_SCAN_SCAN_EN F.FLT_START_HOLD_AT false 0 0 0 0 (by decide)
    rwa [hKept]
  have hEq : exec .moduleResetEnd s = .next (s.resetReleased.enterStage 4) := by
    show execModuleResetEnd s = _
    unfold execModuleResetEnd
    rw [if_neg (by simp [hOn, hLock, hPkg, hPair])]
    dsimp only
    rw [State.pwr_wb, if_pos hStep]
    exact congrArg _ (if_neg hHold')
  have hScan : (s.resetReleased.wr F.FLT_START_STAGE 4).bit F.FLT_SCAN_SCAN_EN = false := by
    rw [State.bit, State.rd_wr_ne _ _ _ _ _ _ _ _ (by decide)]
    exact s.bit_wb_self F.FLT_SCAN_SCAN_EN false 0 0 rfl
  exact ⟨_, hEq, rfl, State.rd_wr_self s.resetReleased F.FLT_START_STAGE 4 0 0, rfl, rfl, hScan, rfl⟩

theorem answers_modRstHeldLong (s : State) (hLow : s.start.modLow = true) (hLong : s.start.modLong = false) :
    Answers .modRstHeldLong s (fun t => t.start.modLong = true ∧ t.start.rstOn = s.start.rstOn ∧ t.sm = s.sm ∧ t.loops = s.loops) := by
  have hEq : exec .modRstHeldLong s = .next (({ s with start := { s.start with modLong := true } } : State).logE 0x0513 0xF042 3 []) := by
    show execModRstHeldLong s = _
    exact if_pos ⟨hLow, hLong⟩
  refine ⟨_, hEq, ?_⟩
  dsimp only
  rw [State.start_logE, State.sm_logE, State.loops_logE]
  exact ⟨rfl, rfl, rfl, rfl⟩

/-! ### Cold reset -/

/-- Cold reset is the reset state but for what flash and fuses keep, and three counts that go on: OWN_INC, the log's SEQ and its acknowledgement (R133). -/
theorem exec_coldReset (s : State) : ∃ r : State, ∃ inc seq : Nat,
    exec .coldReset s = .next (((r.wr F.AGT_STAT_OWN_INC inc).wr F.FLT_LOG_HEAD_SEQ seq).wr F.FLT_LOG_ACK_SEQ (s.rd F.FLT_LOG_ACK_SEQ))
      ∧ r.regs = [] ∧ r.mem = [] ∧ r.clu = [] ∧ r.grps = [] ∧ r.now = 0 ∧ r.pwr.step = 0 ∧ r.log.flash = s.log.flash ∧ r.log.ring = []
      ∧ r.fw.act = s.fw.act :=
  ⟨_, _, _, rfl, rfl, rfl, rfl, rfl, rfl, rfl, rfl, rfl, rfl⟩

/-- With no register listed, a field that none of the counts is reads its table's reset value. -/
theorem State.rd_counted {r : State} (hr : r.regs = []) (inc seq ack : Nat) (f : Fld)
    (h : f.key 0 0 ∉ [F.AGT_STAT_OWN_INC.key 0 0, F.FLT_LOG_HEAD_SEQ.key 0 0, F.FLT_LOG_ACK_SEQ.key 0 0]) :
    (((r.wr F.AGT_STAT_OWN_INC inc).wr F.FLT_LOG_HEAD_SEQ seq).wr F.FLT_LOG_ACK_SEQ ack).rd f = f.dflt 0 0 := by
  simp only [List.mem_cons, List.not_mem_nil, or_false, not_or] at h
  obtain ⟨hInc, hSeq, hAck⟩ := h
  rw [State.rd_wr_ne _ _ _ _ _ _ _ _ hAck, State.rd_wr_ne _ _ _ _ _ _ _ _ hSeq, State.rd_wr_ne _ _ _ _ _ _ _ _ hInc, State.rd, hr]
  rfl

theorem answers_coldReset (s : State) :
    Answers .coldReset s (fun t => t.mem = [] ∧ t.clu = [] ∧ t.grps = [] ∧ t.now = 0 ∧ t.pwr.step = 0 ∧ t.rd F.FLT_START_STAGE = 1
      ∧ t.rd F.ISL_PWR_CAP_CAP_W = 600 ∧ t.log.flash = s.log.flash ∧ t.log.ring = [] ∧ t.rd F.FLT_LOG_ACK_SEQ = s.rd F.FLT_LOG_ACK_SEQ % 2 ^ 32
      ∧ t.fw.act = s.fw.act) := by
  obtain ⟨r, inc, seq, hEq, hRegs, hMem, hClu, hGrps, hNow, hStep, hFlash, hRing, hAct⟩ := exec_coldReset s
  exact ⟨_, hEq, hMem, hClu, hGrps, hNow, hStep, State.rd_counted hRegs inc seq _ F.FLT_START_STAGE (by decide),
    State.rd_counted hRegs inc seq _ F.ISL_PWR_CAP_CAP_W (by decide), hFlash, hRing, State.rd_wr_self _ F.FLT_LOG_ACK_SEQ _ 0 0, hAct⟩

/-- Settles O14: the sources of a module reset, its entry and end, and cold reset. -/
theorem moduleAndColdReset : Obligations.ModuleAndColdReset :=
  ⟨fun s h3 hp ho => ⟨answers_modRstNAssert s h3 hp ho, ⟨_, rfl, s.reads_moduleReset 3 rfl rfl rfl h3 hp ho⟩,
    ⟨_, rfl, s.reads_moduleReset 4 rfl rfl rfl h3 hp ho⟩⟩, answers_devRstModule_vf, answers_moduleResetEntry, answers_moduleResetEnd,
    answers_modRstHeldLong, answers_coldReset⟩

end Sys2Proof.Machine
end

section
/-! PROOFS. Rules for the issue of instructions that name vector registers, and for what they write (chapter 6). -/

namespace Sys2Proof.Machine

/-! ### Issue -/

theorem State.reaches_of_issues {s : State} {x : Iss} (h : s.issues x = true) : s.reaches x = true := by
  simp only [State.issues, Bool.and_eq_true] at h
  exact h.1.1

/-- A fault of the encoding comes before the guard and the reserved fields. -/
theorem State.issue_encoding (s : State) (x : Iss) {enc : Nat} (f : State → State) (h : s.reaches x = true) (he : enc ≠ 0) :
    s.issue x enc f = s.fault x enc := by
  unfold State.reaches at h
  simp only [Bool.and_eq_true, Bool.not_eq_true'] at h
  obtain ⟨⟨⟨⟨hReady, hHeld⟩, hCode⟩, hPsn⟩, hPsnLong⟩ := h
  simp [State.issue, hReady, hHeld, hCode, hPsn, hPsnLong, he]

theorem State.drainTns_idle {s : State} {c : Nat} (h : s.tnsIdle c = true) : s.drainTns c = s := if_pos h

theorem State.issueAfter_eq {s : State} {x : Iss} (f : State → State) (hi : s.issues x = true) (ht : s.tnsIdle x.c = true) :
    s.issueAfter x 0 f = f s := by
  rw [State.issueAfter, State.issue_eq _ _ _ hi, State.drainTns_idle ht]

/-- While no collective has a v register to write, the scoreboard holds nothing back. -/
theorem State.issueV_eq {s : State} {x : Iss} (vs : Nat) (f : State → State) (hi : s.issues x = true) (ht : s.tnsIdle x.c = true)
    (hv : (s.cl x.c).vBusy = 0) : s.issueV x 0 vs f = f s := by
  rw [State.issueV, State.issueAfter_eq _ hi ht, hv, Nat.zero_and, if_pos rfl]

theorem State.issueV_encoding (s : State) (x : Iss) {enc : Nat} (vs : Nat) (f : State → State) (h : s.reaches x = true) (he : enc ≠ 0) :
    s.issueV x enc vs f = s.fault x enc := by
  rw [State.issueV, State.issueAfter, s.issue_encoding x _ h he]

theorem State.issueV_reserved (s : State) (x : Iss) (vs : Nat) (f : State → State) (h : s.reaches x = true) (hr : x.res = true) :
    s.issueV x 0 vs f = s.fault x (Code.format 2) := by
  rw [State.issueV, State.issueAfter, s.issue_reserved x _ h hr]

/-- A command whose meaning is the issue of a vector instruction answers the instruction's own effect. -/
theorem answers_issueV {i : Instr} {s : State} {x : Iss} {vs : Nat} {f : State → State} {post : State → Prop}
    (he : exec i s = .next (s.issueV x 0 vs f)) (hi : s.issues x = true) (ht : s.tnsIdle x.c = true) (hv : (s.cl x.c).vBusy = 0) (h : post (f s)) :
    Answers i s post :=
  ⟨f s, by rw [he, State.issueV_eq vs f hi ht hv], h⟩

/-- An instruction whose reserved field is the top bit of a six-bit MOD: below 32 the field is zero. -/
theorem Iss.reserved_mod (x : Iss) {n : Nat} (h : n < 32) : { x with res := x.res || decide (32 ≤ n) } = x := by
  rw [decide_eq_false (by omega), Bool.or_false]

/-! ### Vector registers and their marks -/

@[simp] theorem ClusterSt.vr_setV_self (k : ClusterSt) (n : Nat) (v : List Lane) (p : Bool) : (k.setV n v p).vr n = v := SMap.get_set_self ..

theorem ClusterSt.vr_setV_ne (k : ClusterSt) {n m : Nat} (v : List Lane) (p : Bool) (h : m ≠ n) : (k.setV n v p).vr m = k.vr m :=
  SMap.get_set_ne _ _ _ _ h

@[simp] theorem ClusterSt.mark_setV_self (k : ClusterSt) (n : Nat) (v : List Lane) (p : Bool) : bitAt (k.setV n v p).vpsn n = p := by
  rw [ClusterSt.setV, bitAt_putBits_self]
  cases p <;> rfl

theorem ClusterSt.mark_setV_ne (k : ClusterSt) {n m : Nat} (v : List Lane) (p : Bool) (h : m ≠ n) :
    bitAt (k.setV n v p).vpsn m = bitAt k.vpsn m := bitAt_putBits_ne _ _ h

theorem ClusterSt.raise_zero (k : ClusterSt) : k.raise 0 = k := by rw [ClusterSt.raise, Nat.or_zero]

@[simp] theorem ClusterSt.v_setG (k : ClusterSt) (r : Nat) (w : Word) : (k.setG r w).v = k.v := by
  unfold ClusterSt.setG
  split <;> rfl

@[simp] theorem ClusterSt.pc_setG (k : ClusterSt) (r : Nat) (w : Word) : (k.setG r w).pc = k.pc := by
  unfold ClusterSt.setG
  split <;> rfl

/-! ### Flags -/

/-- Flags raised one result after another are those of all the results, raised at once. -/
theorem foldl_or_flags (f : Nat → Lane × NumFlags) (l : List Nat) (n : NumFlags) :
    l.foldl (fun a k => a ||| (f k).2) n = n ||| flagsOf (l.map f) := by
  have hFold (m : NumFlags) : l.foldl (fun a k => a ||| (f k).2) m = m ||| l.foldl (fun a k => a ||| (f k).2) 0 := by
    induction l generalizing m with
    | nil => exact (Nat.or_zero m).symm
    | cons k l ih => rw [List.foldl_cons, List.foldl_cons, ih, ih (0 ||| _), Nat.zero_or, Nat.or_assoc]
  rw [hFold, flagsOf, List.foldl_map]

theorem flagsOf_map_zero (g : Nat → Lane) (l : List Nat) : flagsOf (l.map fun k => (g k, (0 : NumFlags))) = 0 := by
  rw [flagsOf, List.foldl_map]
  induction l with
  | nil => rfl
  | cons k l ih =>
    show l.foldl _ (0 ||| 0) = 0
    rw [Nat.or_zero]
    exact ih

/-! ### Results of vector instructions -/

/-- An instruction that ends with 64 lanes in a v register, their mark and their flags sets these and nothing else. -/
theorem State.done_setsV_raise (s : State) (x : Iss) (vd : Nat) (f : Nat → Lane × NumFlags) (p : Bool) :
    SetsV x vd f p s
      (s.done x (((s.cl x.c).setV vd ((List.range 64).map fun k => (f k).1) p).raise (flagsOf ((List.range 64).map f)))) := by
  unfold SetsV
  rw [State.cl_done, foldl_or_flags]
  generalize (List.range 64).map (fun k => (f k).1) = v
  exact ⟨(s.cl x.c).vr_setV_self vd v p, (s.cl x.c).mark_setV_self vd v p,
    fun r hr => ⟨(s.cl x.c).vr_setV_ne v p hr, (s.cl x.c).mark_setV_ne v p hr⟩, rfl, rfl, rfl, s.done_else x _⟩

/-- The same for an instruction that raises no flag. -/
theorem State.done_setsV (s : State) (x : Iss) (vd : Nat) (g : Nat → Lane) (p : Bool) :
    SetsV x vd (fun k => (g k, 0)) p s (s.done x ((s.cl x.c).setV vd ((List.range 64).map g) p)) := by
  have h := s.done_setsV_raise x vd (fun k => (g k, 0)) p
  rwa [flagsOf_map_zero, ClusterSt.raise_zero] at h

section
variable {s : State} {x : Iss} (hi : s.issues x = true) (ht : s.tnsIdle x.c = true) (hv : (s.cl x.c).vBusy = 0)
include hi ht hv

/-- An operation lane by lane on two registers and the old destination. -/
theorem State.vec3_setsV (vd va vb : Nat) (rdVd : Bool) (f : Lane → Lane → Lane → Lane × NumFlags) :
    SetsV x vd (fun k => f (lane ((s.cl x.c).vr va) k) (lane ((s.cl x.c).vr vb) k) (lane ((s.cl x.c).vr vd) k))
      (bitAt (s.cl x.c).vpsn va || bitAt (s.cl x.c).vpsn vb || (rdVd && bitAt (s.cl x.c).vpsn vd)) s (s.vec3 x vd va vb rdVd f) := by
  rw [State.vec3, State.issueV_eq _ _ hi ht hv]
  dsimp only
  rw [List.map_map]
  exact s.done_setsV_raise x vd _ _

/-- A command whose meaning is an operation lane by lane without flags on two registers. -/
theorem answers_vecI {i : Instr} {vd va vb : Nat} {f : Lane → Lane → Lane} {g : Nat → Lane} (he : exec i s = .next (s.vecI x vd va vb f))
    (hg : ∀ k, f (lane ((s.cl x.c).vr va) k) (lane ((s.cl x.c).vr vb) k) = g k) :
    Answers i s (SetsV x vd (fun k => (g k, 0)) (bitAt (s.cl x.c).vpsn va || bitAt (s.cl x.c).vpsn vb) s) := by
  obtain rfl := funext hg
  refine ⟨_, he, ?_⟩
  have h := State.vec3_setsV hi ht hv vd va vb false (fun a b _ => (f a b, 0))
  rwa [Bool.false_and, Bool.or_false] at h

end

end Sys2Proof.Machine
end

section
/-! PROOFS. Vector instructions on integers and lanes (O24). -/

namespace Sys2Proof.Machine

/-! ### Lanes -/

theorem minS_eq (a b : Lane) : minS a b = BitVec.ofInt 32 (min a.toInt b.toInt) := by
  unfold minS
  split
  · rw [Int.min_eq_right (by omega), BitVec.ofInt_toInt]
  · rw [Int.min_eq_left (by omega), BitVec.ofInt_toInt]

theorem maxS_eq (a b : Lane) : maxS a b = BitVec.ofInt 32 (max a.toInt b.toInt) := by
  unfold maxS
  split
  · rw [Int.max_eq_right (by omega), BitVec.ofInt_toInt]
  · rw [Int.max_eq_left (by omega), BitVec.ofInt_toInt]

theorem minU_eq (a b : Lane) : minU a b = BitVec.ofNat 32 (min a.toNat b.toNat) := by
  unfold minU
  split
  · rw [Nat.min_eq_right (by omega), BitVec.ofNat_toNat, BitVec.setWidth_eq]
  · rw [Nat.min_eq_left (by omega), BitVec.ofNat_toNat, BitVec.setWidth_eq]

theorem maxU_eq (a b : Lane) : maxU a b = BitVec.ofNat 32 (max a.toNat b.toNat) := by
  unfold maxU
  split
  · rw [Nat.max_eq_right (by omega), BitVec.ofNat_toNat, BitVec.setWidth_eq]
  · rw [Nat.max_eq_left (by omega), BitVec.ofNat_toNat, BitVec.setWidth_eq]

/-- A register with one lane replaced, lane by lane. -/
theorem set_eq_map_lane {v : List Lane} (h : v.length = 64) (n : Nat) (w : Lane) :
    v.set n w = (List.range 64).map (fun k => if k = n then w else lane v k) := by
  refine List.ext_getElem (by simp [h]) fun k hk _ => ?_
  rw [List.length_set] at hk
  rw [List.getElem_set, List.getElem_map, List.getElem_range, lane, List.getElem?_eq_getElem hk, Option.getD_some]
  by_cases hkn : k = n
  · rw [if_pos hkn, if_pos hkn.symm]
  · rw [if_neg hkn, if_neg (Ne.symm hkn)]

/-- Bit k of the mask says whether lane k is not zero. -/
theorem testBit_maskLanes (v : List Lane) (k : Nat) : (maskLanes v).testBit k = decide (lane v k ≠ 0) := by
  induction v generalizing k with
  | nil => simp [maskLanes, lane]
  | cons a v ih =>
    rw [maskLanes]
    cases k with
    | zero =>
      rw [Nat.testBit_zero, Nat.add_mul_mod_self_left]
      show _ = decide (a ≠ 0)
      cases decide (a ≠ 0) <;> rfl
    | succ k =>
      have hHalf : ((decide (a ≠ 0)).toNat + 2 * maskLanes v) / 2 = maskLanes v := by
        have := Bool.toNat_le (decide (a ≠ 0))
        omega
      rw [Nat.testBit_succ, hHalf, ih]
      rfl

/-! ### The conditions of a comparison -/

/-- What a comparison writes for a condition's value. -/
def cmpOut (md : Nat) (a b : Lane) : Lane := if cmpLane md a b then BitVec.allOnes 32 else 0

theorem cmpOut_eq (a b : Lane) : cmpOut 0x00 a b = if a = b then -1 else 0 := by
  simp [cmpOut, cmpLane, BitVec.neg_one_eq_allOnes]

theorem cmpOut_ne (a b : Lane) : cmpOut 0x01 a b = if a = b then 0 else -1 := by
  simp [cmpOut, cmpLane, BitVec.neg_one_eq_allOnes]

theorem cmpOut_ltS (a b : Lane) : cmpOut 0x02 a b = if a.toInt < b.toInt then -1 else 0 := by
  simp [cmpOut, cmpLane, BitVec.neg_one_eq_allOnes]

theorem cmpOut_leU (a b : Lane) : cmpOut 0x0B a b = if a.toNat ≤ b.toNat then -1 else 0 := by
  simp [cmpOut, cmpLane, BitVec.neg_one_eq_allOnes, Nat.le_iff_lt_or_eq, BitVec.toNat_inj]

theorem cmpOut_neF (a b : Lane) : cmpOut 0x11 a b = if eqF a b then 0 else -1 := by
  cases h : eqF a b <;> simp [cmpOut, cmpLane, h, BitVec.neg_one_eq_allOnes]

theorem cmpOut_ltF (a b : Lane) : cmpOut 0x12 a b = if ltF a b then -1 else 0 := by
  simp [cmpOut, cmpLane, BitVec.neg_one_eq_allOnes]

/-! ### Comparison and selection -/

section
variable {s : State} {x : Iss} (hi : s.issues x = true) (ht : s.tnsIdle x.c = true) (hv : (s.cl x.c).vBusy = 0)

include hi ht hv in
/-- A comparison with a defined MOD writes all ones or zero. -/
theorem answers_vecCmp (vd va vb : Fin 32) (md : BitVec 6) (hRes : md.toNat < 32) (hDef : ¬(4 ≤ md.toNat % 8 ∨ md.toNat / 8 % 4 = 3))
    {g : Nat → Lane} (hg : ∀ k, cmpOut md.toNat (lane ((s.cl x.c).vr va) k) (lane ((s.cl x.c).vr vb) k) = g k) :
    Answers (.vecCmp x vd va vb md) s (SetsV x vd (fun k => (g k, 0)) (bitAt (s.cl x.c).vpsn va || bitAt (s.cl x.c).vpsn vb) s) := by
  obtain rfl := funext hg
  refine answers_issueV (vs := ?_) (f := ?_) ?exec hi ht hv ?_
  case exec =>
    show execVecCmp x vd va vb md s = _
    rw [execVecCmp, Iss.reserved_mod x hRes, decide_eq_false hDef]
    rfl
  exact s.done_setsV x vd _ _

include hi in
/-- An undefined MOD faults with FORMAT 0x01. -/
theorem answers_vecCmp_undefined (vd va vb : Fin 32) (md : BitVec 6) (hUndef : 4 ≤ md.toNat % 8 ∨ md.toNat / 8 % 4 = 3) :
    Answers (.vecCmp x vd va vb md) s (Faults x 0x0103 0 s) := by
  refine ⟨s.fault x (Code.format 1), ?_, s.fault_faults x _ _⟩
  show execVecCmp x vd va vb md s = _
  rw [execVecCmp, decide_eq_true hUndef]
  have hReach := State.reaches_of_issues hi
  exact congrArg Host.Outcome.next (s.issueV_encoding (enc := Code.format 1) { x with res := x.res || decide (32 ≤ md.toNat) } _ _ hReach (by decide))

include hi in
/-- MOD[5] is reserved: FORMAT 0x02. -/
theorem answers_vecCmp_reserved (vd va vb : Fin 32) (md : BitVec 6) (hRes : 32 ≤ md.toNat) (hDef : ¬(4 ≤ md.toNat % 8 ∨ md.toNat / 8 % 4 = 3)) :
    Answers (.vecCmp x vd va vb md) s (Faults x 0x0203 0 s) := by
  refine ⟨s.fault x (Code.format 2), ?_, s.fault_faults x _ _⟩
  show execVecCmp x vd va vb md s = _
  rw [execVecCmp, decide_eq_false hDef, decide_eq_true hRes, Bool.or_true]
  have hReach := State.reaches_of_issues hi
  exact congrArg Host.Outcome.next (s.issueV_reserved { x with res := true } _ _ hReach rfl)

include hi ht hv

theorem answers_vecSel (vd va vb vm : Fin 32) :
    Answers (.vecSel x vd va vb (BitVec.ofNat 6 vm)) s
      (SetsV x vd (fun k => (if lane ((s.cl x.c).vr vm) k ≠ 0 then lane ((s.cl x.c).vr va) k else lane ((s.cl x.c).vr vb) k, 0))
        (bitAt (s.cl x.c).vpsn va || bitAt (s.cl x.c).vpsn vb || bitAt (s.cl x.c).vpsn vm) s) := by
  have hm : (BitVec.ofNat 6 vm).toNat = vm := by rw [BitVec.toNat_ofNat]; omega
  simp only [ne_eq, ite_not]
  refine answers_issueV (vs := ?_) (f := ?_) ?exec hi ht hv ?_
  case exec =>
    show execVecSel x vd va vb _ s = _
    rw [execVecSel, hm, Iss.reserved_mod x vm.isLt, Nat.mod_eq_of_lt vm.isLt]
  exact s.done_setsV x vd _ _

/-! ### Lanes moved -/

theorem answers_vecPerm (vd va vb : Fin 32) :
    Answers (.vecPerm x vd va vb) s (SetsV x vd (fun k => (lane ((s.cl x.c).vr va) ((lane ((s.cl x.c).vr vb) k).toNat % 64), 0))
      (bitAt (s.cl x.c).vpsn va || bitAt (s.cl x.c).vpsn vb) s) :=
  answers_issueV rfl hi ht hv (s.done_setsV x vd _ _)

theorem answers_vecBc (vd : Fin 32) (ra : Fin 64) :
    Answers (.vecBc x vd ra) s (SetsV x vd (fun _ => (((s.cl x.c).gr ra).setWidth 32, 0)) false s) :=
  answers_issueV rfl hi ht hv (s.done_setsV x vd (fun _ => ((s.cl x.c).gr ra).setWidth 32) false)

theorem answers_vecIdx (vd : Fin 32) : Answers (.vecIdx x vd) s (SetsV x vd (fun k => (BitVec.ofNat 32 k, 0)) false s) :=
  answers_issueV rfl hi ht hv (s.done_setsV x vd _ _)

theorem answers_vecIns (vd : Fin 32) (ra : Fin 64) (imm : BitVec 24) (hLen : ((s.cl x.c).vr vd).length = 64) (hImm : imm.toNat < 64) :
    Answers (.vecIns x vd ra imm) s
      (SetsV x vd (fun k => (if k = imm.toNat then ((s.cl x.c).gr ra).setWidth 32 else lane ((s.cl x.c).vr vd) k, 0)) (bitAt (s.cl x.c).vpsn vd) s) := by
  refine answers_issueV rfl hi ht hv ?_
  dsimp only
  rw [if_neg (by omega), set_eq_map_lane hLen]
  exact s.done_setsV x vd _ _

theorem answers_vecIns_beyond (vd : Fin 32) (ra : Fin 64) (imm : BitVec 24) (hImm : 64 ≤ imm.toNat) :
    Answers (.vecIns x vd ra imm) s (Faults x 0x0803 0 s) := by
  refine answers_issueV rfl hi ht hv ?_
  dsimp only
  rw [if_pos (by omega)]
  exact s.fault_faults x _ _

/-! ### Results in g registers -/

theorem answers_vecExt_beyond (rd : Fin 64) (va : Fin 32) (imm : BitVec 24) (hImm : 64 ≤ imm.toNat) :
    Answers (.vecExt x rd va imm) s (Faults x 0x0803 0 s) := by
  refine answers_issueV rfl hi ht hv ?_
  dsimp only
  rw [if_pos (by omega)]
  exact s.fault_faults x _ _

theorem answers_vecExt (rd : Fin 64) (va : Fin 32) (imm : BitVec 24) (hImm : imm.toNat < 64) (hMark : bitAt (s.cl x.c).vpsn va = false) :
    Answers (.vecExt x rd va imm) s (SetsG x rd ((lane ((s.cl x.c).vr va) imm.toNat).setWidth 64) s) := by
  refine answers_issueV rfl hi ht hv ?_
  dsimp only
  rw [if_neg (by omega), hMark, if_neg Bool.false_ne_true]
  exact s.done_setsG x rd _

theorem answers_vecExt_marked (rd : Fin 64) (va : Fin 32) (imm : BitVec 24) (hImm : imm.toNat < 64) (hMark : bitAt (s.cl x.c).vpsn va = true) :
    Answers (.vecExt x rd va imm) s (Faults x 0x010C 0 s) := by
  refine answers_issueV rfl hi ht hv ?_
  dsimp only
  rw [if_neg (by omega), if_pos hMark]
  exact s.fault_faults x _ _

theorem answers_vecMsk_marked (rd : Fin 64) (va : Fin 32) (hMark : bitAt (s.cl x.c).vpsn va = true) :
    Answers (.vecMsk x rd va) s (Faults x 0x010C 0 s) := by
  refine answers_issueV rfl hi ht hv ?_
  dsimp only
  rw [if_pos hMark]
  exact s.fault_faults x _ _

theorem answers_vecMsk (rd : Fin 64) (va : Fin 32) (hMark : bitAt (s.cl x.c).vpsn va = false) (hRd : (rd : Nat) ≠ 0) :
    Answers (.vecMsk x rd va) s (fun t => (∀ k, k < 64 → ((t.cl x.c).gr rd).getLsbD k = decide (lane ((s.cl x.c).vr va) k ≠ 0))
      ∧ SetsG x rd ((t.cl x.c).gr rd) s t) := by
  refine answers_issueV rfl hi ht hv ?_
  dsimp only
  rw [hMark, if_neg Bool.false_ne_true]
  have hSets := s.done_setsG x rd (BitVec.ofNat 64 (maskLanes ((s.cl x.c).vr va)))
  have hGr := hSets.1
  rw [if_neg hRd] at hGr
  rw [hGr]
  refine ⟨fun k hk => ?_, hSets⟩
  rw [BitVec.getLsbD_ofNat, decide_eq_true hk, Bool.true_and, testBit_maskLanes]

omit hv in
/-- The flags are read as they were and cleared. -/
theorem answers_vecFlg (rd : Fin 64) (hRd : (rd : Nat) ≠ 0) :
    Answers (.vecFlg x rd) s (fun t => (t.cl x.c).gr rd = BitVec.ofNat 64 (s.cl x.c).numflg ∧ (t.cl x.c).numflg = 0 ∧ (t.cl x.c).v = (s.cl x.c).v
      ∧ (t.cl x.c).pc = (s.cl x.c).pc + ilen x.long ∧ (∀ r, r ≠ (rd : Nat) → (t.cl x.c).gr r = (s.cl x.c).gr r) ∧ ElseKept x.c s t) := by
  refine ⟨_, congrArg Host.Outcome.next (State.issueAfter_eq _ hi ht), ?_⟩
  dsimp only
  rw [State.cl_done]
  exact ⟨((s.cl x.c).gr_setG_self rd _).trans (if_neg hRd), rfl, ClusterSt.v_setG .., by rw [ClusterSt.pc_setG],
    fun _ hr => (s.cl x.c).gr_setG_ne _ hr, State.done_else s x _⟩

end

/-- Settles O24: the lanes, the mark and the frame of each instruction, by the rule for operations lane by lane and the rules above. -/
theorem vectorIntegerAndLanes : Obligations.VectorIntegerAndLanes := by
  refine ⟨?_, ?_, ?_, ?_⟩
  · rintro s x vd va vb _ _ _ hi ht hv rfl rfl rfl
    have hI {i : Instr} {f : Lane → Lane → Lane} {g : Nat → Lane} := @answers_vecI s x hi ht hv i vd va vb f g
    exact ⟨hI rfl fun _ => rfl, hI rfl fun _ => rfl, hI rfl fun _ => rfl, hI rfl fun _ => minS_eq .., hI rfl fun _ => maxS_eq .., hI rfl fun _ => minU_eq .., hI rfl fun _ => maxU_eq ..,
      hI rfl fun _ => rfl, hI rfl fun _ => rfl, hI rfl fun _ => rfl, hI rfl fun _ => rfl, hI rfl fun _ => rfl, hI rfl fun _ => rfl,
      answers_vecPerm hi ht hv vd va vb⟩
  · rintro s x vd va vb vm ra _ _ _ hi ht hv rfl rfl rfl
    exact ⟨answers_vecCmp hi ht hv vd va vb 0x00 (by decide) (by decide) fun _ => cmpOut_eq ..,
      answers_vecCmp hi ht hv vd va vb 0x01 (by decide) (by decide) fun _ => cmpOut_ne ..,
      answers_vecCmp hi ht hv vd va vb 0x02 (by decide) (by decide) fun _ => cmpOut_ltS ..,
      answers_vecCmp hi ht hv vd va vb 0x0B (by decide) (by decide) fun _ => cmpOut_leU ..,
      answers_vecCmp hi ht hv vd va vb 0x11 (by decide) (by decide) fun _ => cmpOut_neF ..,
      answers_vecCmp hi ht hv vd va vb 0x12 (by decide) (by decide) fun _ => cmpOut_ltF ..,
      answers_vecCmp_undefined hi vd va vb 0x04 (by decide), answers_vecCmp_undefined hi vd va vb 0x18 (by decide),
      answers_vecCmp_reserved hi vd va vb 0x20 (by decide) (by decide), answers_vecSel hi ht hv vd va vb vm, answers_vecBc hi ht hv vd ra,
      answers_vecIdx hi ht hv vd⟩
  · intro s x vd va rd ra imm hi ht hv hLen
    exact ⟨answers_vecIns hi ht hv vd ra imm hLen, fun h => ⟨answers_vecIns_beyond hi ht hv vd ra imm h, answers_vecExt_beyond hi ht hv rd va imm h⟩,
      answers_vecExt hi ht hv rd va imm, answers_vecExt_marked hi ht hv rd va imm, answers_vecMsk_marked hi ht hv rd va⟩
  · intro s x va rd hi ht hv hMark hRd _
    exact ⟨answers_vecMsk hi ht hv rd va hMark hRd, answers_vecFlg hi ht rd hRd⟩

end Sys2Proof.Machine
end
